-- ==== Sys2Proof/Word.lean ====
section
/-! DEFINITION. The word types of the block and their plainest arithmetic. -/

namespace Sys2Proof

/-- One octet: of a frame, of the flash, of a structure in host memory. -/
abbrev Byte := BitVec 8

/-- One 32-bit word of BAR0, and one general register of a parser engine. -/
abbrev Word := BitVec 32

end Sys2Proof
end

