-- ==== Sys2Proof/Syntax.lean ====
section
/-! DEFINITION. The commands of the HL9128: one constructor of `Instr` per row of the table of operations and
events, with the structures that their operands use. Instants are in 2^-16 ns of the primary time counter
unless a docstring says otherwise. -/

namespace Sys2Proof

/-! ### Operands -/

/-- A host command's header (Table 14-4): its command ring, CMD_ID, completion ring, FENCE, phase and, for
commands of an epoch, EPOCH. -/
structure CmdHdr where
  ring  : Nat
  cmdId : Nat
  compl : Nat
  fence : Bool
  phase : Bool
  epoch : Nat
  deriving DecidableEq, Repr

/-- One allocation handed to a burst engine (R88). -/
structure Grant where
  /-- Upstream channel that it names where one map serves both. -/
  u     : Nat
  alloc : Nat
  start : Nat
  size  : Nat
  ploam : Bool
  dbru  : Bool
  prof  : Nat
  /-- 0 data, 1 serial-number grant, 2 ranging grant, 3 neither (R58). -/
  kind  : Nat
  /-- It continues the allocation before it (the standard's continuation StartTime). -/
  cont  : Bool
  /-- Instant at which it was handed over. -/
  handed : Int
  deriving DecidableEq, Repr

/-- What a frame boundary and the header extractor deliver of one frame (R48, R55, R57): the instant at which
the first bit of PSync crossed the fibre ball, the superframe count, the PON-ID, whether the FS header HEC holds, how
many allocation structures have an uncorrectable HEC, and the others in order. -/
structure FrameIn where
  t         : Int
  sfc       : Nat
  ponId     : Nat
  fsOk      : Bool
  badAllocs : Nat
  map       : List Grant
  deriving DecidableEq, Repr

/-- A received delay request (R176 to R178): receive timestamp, core cycles since the instance's previous delay
request, domainNumber, versionPTP, majorSdoId, whether its messageLength lies within the frame and is reached,
correctionField, source port identity, sequenceId, whether it came to a unicast address, and its source MAC
address, network address (0 on L2) and UDP port. -/
structure PtpIn where
  t    : Int
  cyc  : Nat
  dom  : Nat
  ver  : Nat
  sdo  : Nat
  whole : Bool
  corr : Int
  port : Nat
  seq  : Nat
  uni  : Bool
  mac  : Nat
  ip   : Nat
  udp  : Nat
  deriving DecidableEq, Repr

/-- A received NTP packet (R180, R182): receive timestamp, core cycles since the instance's previous one, mode,
version, octets of UDP payload, poll, Transmit Timestamp, and its source MAC address, network address and port. -/
structure NtpIn where
  t    : Int
  cyc  : Nat
  mode : Nat
  vn   : Nat
  len  : Nat
  poll : Nat
  orig : Nat
  mac  : Nat
  ip   : Nat
  udp  : Nat
  deriving DecidableEq, Repr

/-- What the lanes of the station ports show at a microtick boundary (chapter 8): the lane, bits 15 to 8 of
PF_LANE_STATUS as the balls and the PCS give them, pattern bit errors, and of its quad the codewords corrected and
uncorrectable, failed alignments and skew. -/
structure LaneIn where
  lane   : Nat
  cond   : Nat
  prbs   : Nat
  cwC    : Nat
  cwU    : Nat
  failed : Nat
  skew   : Nat
  deriving DecidableEq, Repr

/-- What a doorbell poll reads (R364): whether the read of the summary line succeeds, its eight group counters, the
doorbell slots (ring and index), and the rings for which a DMA read ends with Unsupported Request or Completer Abort. -/
structure PollIn where
  sumOk  : Bool
  groups : List Nat
  slots  : List (Nat × Nat)
  bad    : List Nat
  deriving DecidableEq, Repr

/-- One parser instruction (Table 9-3), field by field as its word carries them; `w` of EXTB, `len` of KEY and
`sz` of KEYR are the values less 1. -/
inductive PInstr where
  | nop
  | ld (d sz off : Nat)
  | ldi (d imm : Nat)
  | ldih (d imm : Nat)
  | extb (d s pos w : Nat)
  | alu (d a b fn : Nat)
  | alui (d a fn imm : Nat)
  | cmp (a b : Nat)
  | cmpi (a imm : Nat)
  | bf (cond target : Nat)
  | adv (mode s imm : Nat)
  | mark (n typ : Nat)
  | key (koff off len : Nat)
  | keyr (koff s sz : Nat)
  | hash (d c v6 koff : Nat)
  | lookup (d tbl koff s : Nat)
  | setm (f s : Nat)
  | setmi (f imm : Nat)
  | getm (d f : Nat)
  | lchk (a mode b min : Nat)
  | fwd
  | exc (cls : Nat)
  | drop (reason : Nat)
  | recirc (wadv entry : Nat)
  deriving DecidableEq, Repr


/-- What the blocks answer to the power controller in a microtick (R436, R437): the LPDDR6 channels accessed in the
microtick that ends (bit c), the delays (block, reason, microticks) and the blocks that do not answer. -/
structure PwrIn where
  acc    : Nat
  delays : List (Nat × Nat × Nat)
  mute   : List Nat
  deriving DecidableEq, Repr

/-- What the boot logic finds beside the bytes of the flash (R430 to R433): the size of the flash in bytes (0 without
JESD216 parameters), the verdicts of the checks of Table 16-5 on keys and signatures, the unwrapped DKEK, the verdicts on
copies 0 and 1 of the two firmware images, and the contents of FACTORY and PRODUCT that the terminal uses: base MAC
address, attachment MAC addresses, serial numbers, factory latencies by kind and index, LN_TX_LAT by upstream channel, and the
MIN_SEC_VER of SERVICE_FW. -/
structure BootIn where
  size      : Nat
  keysOk    : Bool
  factoryOk : Bool
  productOk : Bool
  presetOk  : Bool
  dkek      : Option Nat
  sup       : List Bool
  svc       : List Bool
  baseMac   : Nat
  attMac    : List Nat
  sn        : List Nat
  lat       : List ((Nat × Nat) × Nat)
  txLat     : List Nat
  minSec    : Nat
  deriving DecidableEq, Repr

/-- What a microtick boundary finds (R26 to R28): the periodic jobs 9 to 11 whose runs overrun or are late, the downstream
receivers (4a + c) with a loss indication in the microtick, the station lanes, the doorbell poll and the answers to the
power controller. -/
structure MicroIn where
  ovr  : List Nat
  late  : List Nat
  seen  : List Nat
  lanes : List LaneIn
  poll  : PollIn
  pwr   : PwrIn
  deriving DecidableEq, Repr

/-- What a tick boundary finds beside the boundary of microtick 0: the jobs 0 to 8 that overrun or are late in the periods
that begin, D in core cycles (R25), the herd overhead words by 4a + c and the members outside the skew window (R106, R109),
the drift of the 1PPS comparison (R141), the deviation that TS_SELFTEST finds (R170), the ports whose replica differs (class
9), the regions that do not answer EPOCH_ARM (R386), the dump destinations without room and the busy counts of SNAPSHOT
(R338, R347), the junction temperature in °C, the worst frequency error in ppm that the monitor oscillator counts, an error
of the time configuration's readback, and a cross-check verdict that the supervision pair does not confirm (Table 15-3). -/
structure TickIn where
  micro    : MicroIn
  ovr     : List Nat
  late     : List Nat
  d        : Nat
  words    : List (Nat × Nat)
  skewOut  : List Nat
  drift    : Rat
  dev      : Int
  replicas : List Nat
  noReady  : List Nat
  full     : List Nat
  busy     : List Nat
  tj       : Int
  ppm      : Nat
  crcBad   : Bool
  diverse  : Bool
  deriving DecidableEq, Repr

/-- One herd descriptor (R112). -/
structure HerdDesc where
  hseq    : Nat
  active  : Nat
  start   : Nat
  offsets : List Int
  twin    : Nat
  deriving DecidableEq, Repr

/-! ### Commands -/

/-- The commands: one constructor per row of the table. Each docstring names its row and rule. Ten rows without
operands stand last, so that every constructor with operands is among the first 245, which is what compiled code can
build. -/
inductive Instr where
  /-- MICROTICK_BOUNDARY (R27) -/
  | microtickBoundary (x : MicroIn)
  /-- TICK_BOUNDARY (R23) -/
  | tickBoundary (x : TickIn)
  /-- CORE_PLL_REF_CHANGE (R21) -/
  | corePllRefChange
  /-- CLK_REVERT (R22) -/
  | clkRevert
  /-- GL_CLK_CTRL_WRITE (R20) -/
  | glClkCtrlWrite (v : Nat)
  /-- REFOSC_STOP (R480) -/
  | refoscStop
  /-- REFOSC_RESTART (R480) -/
  | refoscRestart
  /-- RX_ENABLE (R38) -/
  | rxEnable (a c v : Nat)
  /-- RX_DISABLE (R38) -/
  | rxDisable (a c v : Nat)
  /-- RX_SELFTEST_DONE (R38) -/
  | rxSelftestDone (a c : Nat) (pass : Bool)
  /-- EQ_RESET (R41) -/
  | eqReset (a c v : Nat)
  /-- LOS_DECLARED (R43) -/
  | losDeclared (a c : Nat) (cdr : Bool)
  /-- CDR_LOCK (R49) -/
  | cdrLock (a c phase : Nat)
  /-- EQ_CONV (R41) -/
  | eqConv (a c : Nat)
  /-- CANDIDATE_FOUND (R44) -/
  | candidateFound (a c pos sfc : Nat)
  /-- CONFIRMATION_POINT (R44) -/
  | confirmationPoint (a c pos diff : Nat) (hec : Bool) (f : FrameIn)
  /-- EXPECTED_POSITION_CHECK (R45) -/
  | expectedPositionCheck (a c diff : Nat) (hec : Bool) (f : FrameIn)
  /-- ALIGNER_PARITY_ERROR (R61) -/
  | alignerParityError (a c : Nat)
  /-- CODEWORD_DECODED (R54) -/
  | codewordDecoded (a c outcome n : Nat)
  /-- LN_MAP_CFG_WRITE (R57) -/
  | lnMapCfgWrite (a v : Nat)
  /-- PM_CLEAR (R66) -/
  | pmClear (a c v : Nat)
  /-- XGEM_FRAME_RX (R255) -/
  | xgemFrameRx (a src port key : Nat) (b : List Byte) (errored err : Bool)
  /-- ACT_EN_WRITE (R72) -/
  | actEnWrite (a v : Nat)
  /-- BURST_PROFILE (R87) -/
  | burstProfile (a c : Nat) (mic : Bool) (u i len : Nat) (fec : Bool)
  /-- ASSIGN_ONU_ID (R72) -/
  | assignOnuId (a c : Nat) (mic : Bool) (sn id : Nat)
  /-- RANGING_TIME (R82) -/
  | rangingTime (a c : Nat) (mic relative : Bool) (ns : Rat)
  /-- DEACTIVATE_ONU_ID (R72) -/
  | deactivateOnuId (a c : Nat) (mic : Bool) (id : Option Nat)
  /-- DISABLE_SERIAL_NUMBER (R75) -/
  | disableSerialNumber (a c : Nat) (mic enable : Bool) (sn : Option Nat)
  /-- REQUEST_REGISTRATION (R77) -/
  | requestRegistration (a c : Nat) (mic : Bool)
  /-- ASSIGN_ALLOC_ID (R77) -/
  | assignAllocId (a c : Nat) (mic : Bool) (id : Nat) (remove : Bool)
  /-- KEY_CONTROL (R94) -/
  | keyControl (a c : Nat) (mic : Bool) (k : Nat) (gen : Bool)
  /-- PROFILE_MESSAGE (R72) -/
  | profileMessage (a c : Nat) (mic : Bool) (chan : Option Nat)
  /-- SLEEP_ALLOW (R77) -/
  | sleepAllow (a c : Nat) (mic : Bool)
  /-- TUNING_CONTROL (R77) -/
  | tuningControl (a c : Nat) (mic : Bool)
  /-- CHANGE_POWER_LEVEL (R77) -/
  | changePowerLevel (a c : Nat) (mic ctl : Bool)
  /-- PROTECTION_CONTROL (R77) -/
  | protectionControl (a c : Nat) (mic : Bool)
  /-- OTHER_PLOAM (R77) -/
  | otherPloam (a c : Nat) (mic answer : Bool)
  /-- PLOAM_IGNORED (R69) -/
  | ploamIgnored (a c : Nat)
  /-- TO1_EXPIRY (R73) -/
  | to1Expiry (a : Nat)
  /-- TO2_EXPIRY (R73) -/
  | to2Expiry (a : Nat)
  /-- ESTOP_FLASH_COPY (R75) -/
  | estopFlashCopy (a : Nat)
  /-- OPTICS_DELAY_WRITE (R84) -/
  | opticsDelayWrite (a w i v : Nat)
  /-- BURST_STAGING (R88) -/
  | burstStaging (k len len1 : Nat)
  /-- BURST_EN_ASSERT (R91) -/
  | burstEnAssert (k : Nat)
  /-- BURST_LAUNCH (R80) -/
  | burstLaunch (k : Nat)
  /-- BURST_EN_DEASSERT (R91) -/
  | burstEnDeassert (k : Nat)
  /-- BURST_WATCHDOG_TRIP (R92) -/
  | burstWatchdogTrip (k : Nat)
  /-- OMCI_MESSAGE_RX (R97) -/
  | omciMessageRx (a kind action tci cls inst : Nat) (ok : Bool) (msg : List Byte)
  /-- OMCI_CFG_ANSWER (R97) -/
  | omciCfgAnswer (a tci : Nat)
  /-- OMCI_HOLD_EXPIRY (R97) -/
  | omciHoldExpiry (a : Nat)
  /-- MEMBER_STATUS (R111) -/
  | memberStatus (a : Nat)
  /-- HELLO_SEND (R119) -/
  | helloSend (a : Nat)
  /-- HELLO (R119) -/
  | hello (a mac : Nat)
  /-- HERD_DESC (R112) -/
  | herdDesc (a seq : Nat) (d : HerdDesc) (rowNow : Nat)
  /-- HERD_DESC_SWITCH (R112) -/
  | herdDescSwitch (a : Nat)
  /-- TWIN_REPORT (R121) -/
  | twinReport (a : Nat) (dv : Int) (quality : Nat)
  /-- EQD_U1 (R116) -/
  | eqdU1 (a seq e : Nat)
  /-- RANGE_INFO (R122) -/
  | rangeInfo (a trt : Nat)
  /-- BOND_ALLOC (R113) -/
  | bondAlloc (a seq : Nat) (ids : List Nat)
  /-- SW_EN_WRITE (R119) -/
  | swEnWrite (a v : Nat)
  /-- HD_WAVELENGTH_WRITE (R102) -/
  | hdWavelengthWrite (a i v : Nat)
  /-- ESTIMATOR_MODE_WRITE (R127) -/
  | estimatorModeWrite (a v : Nat)
  /-- ASYM_OVERRIDE_WRITE (R128) -/
  | asymOverrideWrite (a v : Nat)
  /-- FIT_COMPLETE (R126) -/
  | fitComplete (a : Nat) (sig : List Nat)
  /-- ESTIMATOR_APPLY (R126) -/
  | estimatorApply (a : Nat)
  /-- LOCKSTEP_MISMATCH (R130) -/
  | lockstepMismatch (diff : Int)
  /-- LS_RESYNC (R130) -/
  | lsResync (v : Nat)
  /-- TC_SET_GO (R135) -/
  | tcSetGo (v : Nat)
  /-- TODA_ATTRIBUTE (R139) -/
  | todaAttribute (a lo sec ns : Nat)
  /-- TC_TODA_IN_GO (R139) -/
  | tcTodaInGo (d v : Nat)
  /-- DOMAIN_QUALIFIED (R145) -/
  | domainQualified (d : Nat)
  /-- HOLDOVER_TIMER_EXPIRY (R152) -/
  | holdoverTimerExpiry
  /-- PPS_EDGE (R146) -/
  | ppsEdge (p : Nat) (t : Int)
  /-- PPS_MISSING (R146) -/
  | ppsMissing (mon : Bool)
  /-- OSC_MODEL_MEASURE (R149) -/
  | oscModelMeasure (freq : Rat) (adv : Int) (mon : Rat)
  /-- COMPARATOR_TARGET (R154) -/
  | comparatorTarget (k : Nat)
  /-- PULSE_END (R154) -/
  | pulseEnd (k : Nat)
  /-- TIME_CAPTURE (R157) -/
  | timeCapture (p edge : Nat) (t : Int)
  /-- TOD_MESSAGE_SEND (R158) -/
  | todMessageSend (p : Nat)
  /-- PIN_READBACK (R409) -/
  | pinReadback (p : Nat) (ok : Bool)
  /-- STATION_LANE_LOCK (R166) -/
  | stationLaneLock (n tx rx : Nat)
  /-- SYNC (R174) -/
  | sync (i : Nat)
  /-- ANNOUNCE (R175) -/
  | announce (i : Nat)
  /-- DELAY_REQ (R176) -/
  | delayReq (i : Nat) (m : PtpIn)
  /-- PDELAY_REQ (R177) -/
  | pdelayReq (i : Nat) (m : PtpIn)
  /-- NTP_REQUEST (R180) -/
  | ntpRequest (i : Nat) (m : NtpIn)
  /-- ARP_REQUEST (R164) -/
  | arpRequest (i : Nat) (v6 : Bool) (mac ip : Nat)
  /-- ESMC_RX (R183) -/
  | esmcRx (i : Nat)
  /-- ESMC_INFO_PDU (R185) -/
  | esmcInfoPdu (i : Nat)
  /-- ESMC_EVENT_PDU (R185) -/
  | esmcEventPdu (i : Nat)
  /-- RESPONDER_COMMIT (R169) -/
  | responderCommit (i : Nat) (dep : Int) (len : Nat)
  /-- TX_LATE (R179) -/
  | txLate (i : Nat)
  /-- ATTACHMENT_FAIL (R193) -/
  | attachmentFail (a : Nat)
  /-- ATTACHMENT_RECOVER (R195) -/
  | attachmentRecover (a : Nat)
  /-- RETURN_TIMEOUT (R203) -/
  | returnTimeout (g : Nat)
  /-- FIFO_EMPTY (R203) -/
  | fifoEmpty (g : Nat)
  /-- BRIDGE_DRAIN (R208) -/
  | bridgeDrain
  /-- FRER_RESET_TIMEOUT (R200) -/
  | frerResetTimeout (r : Nat)
  /-- LINK_UP (R221) -/
  | linkUp (n : Nat)
  /-- LANE_IDLE (R222) -/
  | laneIdle (n : Nat)
  /-- DFE_EQ_RESET (R218) -/
  | dfeEqReset (n v : Nat)
  /-- MAC_FRAME_RX (R224) -/
  | macFrameRx (n : Nat) (t : Int) (code ecc : Bool) (b : List Byte)
  /-- PAUSE_TIMER_EXPIRY (R228) -/
  | pauseTimerExpiry (n : Nat)
  /-- PAUSE_GENERATE (R230) -/
  | pauseGenerate (n : Nat)
  /-- PAUSE_REFRESH (R230) -/
  | pauseRefresh (n : Nat)
  /-- MAC_FRAME_TX (R226) -/
  | macFrameTx (n : Nat)
  /-- LANE_RECAL (R233) -/
  | laneRecal (hd : CmdHdr) (lane mode : Nat)
  /-- LANE_RECAL_DONE (R234) -/
  | laneRecalDone (r tx rx : Nat) (dev : Int)
  /-- NOP (R239) -/
  | pNop (e : Nat)
  /-- LD (R239) -/
  | pLd (e d sz off : Nat)
  /-- LDI (R239) -/
  | pLdi (e d imm : Nat)
  /-- LDIH (R239) -/
  | pLdih (e d imm : Nat)
  /-- EXTB (R239) -/
  | pExtb (e d rs pos w : Nat)
  /-- ALU (R240) -/
  | pAlu (e d a b fn : Nat)
  /-- ALUI (R240) -/
  | pAlui (e d a fn imm : Nat)
  /-- CMP (R240) -/
  | pCmp (e a b : Nat)
  /-- CMPI (R240) -/
  | pCmpi (e a imm : Nat)
  /-- BF (R239) -/
  | pBf (e cond target : Nat)
  /-- ADV (R242) -/
  | pAdv (e mode rs imm : Nat)
  /-- MARK (R241) -/
  | pMark (e k typ : Nat)
  /-- KEY (R239) -/
  | pKey (e koff off len : Nat)
  /-- KEYR (R239) -/
  | pKeyr (e koff rs sz : Nat)
  /-- HASH (R245) -/
  | pHash (e d c v6 koff : Nat)
  /-- HASH_RESULT (R243) -/
  | hashResult (e d : Nat)
  /-- LOOKUP (R251) -/
  | pLookup (e d tbl koff rs : Nat)
  /-- LOOKUP_RESULT (R252) -/
  | lookupResult (e d : Nat) (err : Bool)
  /-- SETM (R239) -/
  | pSetm (e f rs : Nat)
  /-- SETMI (R239) -/
  | pSetmi (e f imm : Nat)
  /-- GETM (R239) -/
  | pGetm (e d f : Nat)
  /-- LCHK (R249) -/
  | pLchk (e a mode b min : Nat)
  /-- FWD (R247) -/
  | pFwd (e : Nat)
  /-- EXC (R256) -/
  | pExc (e cls : Nat)
  /-- DROP (R247) -/
  | pDrop (e reason : Nat)
  /-- RECIRC (R250) -/
  | pRecirc (e wadv entry : Nat)
  /-- SCHEDULER_SELECT (R265) -/
  | schedulerSelect (k : Nat)
  /-- STAGING_FILL (R273) -/
  | stagingFill (k : Nat)
  /-- POOL_ALLOC (R292) -/
  | poolAlloc (hd : CmdHdr) (pool count size list : Nat)
  /-- POOL_FREE (R296) -/
  | poolFree (hd : CmdHdr) (ptrs : List Nat)
  /-- POOL_XFER (R295) -/
  | poolXfer (hd : CmdHdr) (tag ptr : Nat)
  /-- MEM_REPAIR (R288) -/
  | memRepair (hd : CmdHdr) (ch : Nat) (rows : List Nat)
  /-- POOL_FILL_DONE (R291) -/
  | poolFillDone (p : Nat)
  /-- ZQ_RECAL (R282) -/
  | zqRecal (drift failed : Nat)
  /-- PATROL_SCRUB (R285) -/
  | patrolScrub (row outcome : Nat)
  /-- MIGRATION_COMPLETE (R287) -/
  | migrationComplete
  /-- CIPHER_WORK_ISSUE (R302) -/
  | cipherWorkIssue (wid stream port key fid : Nat)
  /-- CIPHER_FRAME_DONE (R303) -/
  | cipherFrameDone (wid : Nat) (ok : Bool)
  /-- STALE_GEN_TIMEOUT (R308) -/
  | staleGenTimeout (slot : Nat)
  /-- KEY_LOAD (R311) -/
  | keyLoad (hd : CmdHdr) (slot wrap kekSlot len addr : Nat) (blob : List Byte)
  /-- KEY_GEN (R311) -/
  | keyGen (hd : CmdHdr) (slot typ use flags : Nat)
  /-- KEY_EXPORT (R311) -/
  | keyExport (hd : CmdHdr) (slot wrap kekSlot dest : Nat)
  /-- KEY_ERASE (R308) -/
  | keyErase (hd : CmdHdr) (slot count : Nat)
  /-- KEY_ZEROISE (R314) -/
  | keyZeroise (hd : CmdHdr)
  /-- DKEK_PROVISION (R310) -/
  | dkekProvision (hd : CmdHdr) (src dest key : Nat)
  /-- SA_INSTALL (R322) -/
  | saInstall (hd : CmdHdr) (k an slot pn ssci salt : Nat)
  /-- SA_SWITCH (R326) -/
  | saSwitch (hd : CmdHdr) (k an : Nat)
  /-- SA_READ (R326) -/
  | saRead (hd : CmdHdr) (k an : Nat)
  /-- SA_RETIRE (R322) -/
  | saRetire (hd : CmdHdr) (k an : Nat)
  /-- CX_KS_ZEROISE (R314) -/
  | cxKsZeroise (v : Nat)
  /-- ALARM_CLR (R314) -/
  | alarmClr (v : Nat) (ended : Bool)
  /-- ZEROISE_SENSOR (R314) -/
  | zeroiseSensor (cause : Nat)
  /-- TRNG_HEALTH_FAIL (R312) -/
  | trngHealthFail
  /-- DISPATCH_SELECT (R329) -/
  | dispatchSelect (u wait : Nat)
  /-- CORE_ITEM_TIMEOUT (R340) -/
  | coreItemTimeout (k : Nat)
  /-- PING (R341) -/
  | ping (hd : CmdHdr) (data : List Byte)
  /-- FW_INFO (R341) -/
  | fwInfo (hd : CmdHdr)
  /-- OMCI_REFUSE (R341) -/
  | omciRefuse (hd : CmdHdr) (a tci : Nat)
  /-- FW_UPDATE (R343) -/
  | fwUpdate (hd : CmdHdr) (addr : Nat) (img : List Byte) (sigOk : Bool)
  /-- FW_UPDATE_SWAP (R343) -/
  | fwUpdateSwap (ok : Bool)
  /-- PM_DUMP (R353) -/
  | pmDump (hd : CmdHdr) (kind first count dest : Nat)
  /-- RING_ENABLE_WRITE (R359) -/
  | ringEnableWrite (r v : Nat)
  /-- TX_DESCRIPTOR (R366) -/
  | txDescriptor (r : Nat) (dmaOk phase : Bool) (len tflags queue : Nat) (frame : List Byte)
  /-- RX_WRITEBACK (R367) -/
  | rxWriteback (r bufLen : Nat)
  /-- MSIX_SIGNAL (R376) -/
  | msixSignal (v : Nat)
  /-- UNSUPPORTED_OPCODE (R370) -/
  | unsupportedOpcode (hd : CmdHdr) (op : Nat)
  /-- EPOCH_OPEN (R383) -/
  | epochOpen (hd : CmdHdr)
  /-- CFG_LOAD (R384) -/
  | cfgLoad (hd : CmdHdr) (len addr : Nat) (img : List Byte)
  /-- TBL_WRITE (R384) -/
  | tblWrite (hd : CmdHdr) (table op count addr : Nat) (list : List Byte)
  /-- EPOCH_COMMIT (R385) -/
  | epochCommit (hd : CmdHdr) (flipTick : Nat)
  /-- EPOCH_VALIDATION_DONE (R385) -/
  | epochValidationDone
  /-- EPOCH_ABORT (R391) -/
  | epochAbort (hd : CmdHdr)
  /-- EPOCH_ROLLBACK (R392) -/
  | epochRollback (hd : CmdHdr)
  /-- EPOCH_DRAIN_END (R388) -/
  | epochDrainEnd
  /-- EPOCH_DRAIN_TIMEOUT (R388) -/
  | epochDrainTimeout
  /-- ROLLBACK_NOW (R392) -/
  | rollbackNow
  /-- RING_STOP (R359) -/
  | ringStop
  /-- POLL_NOW (R364) -/
  | pollNow
  /-- BAD_ACC (R355) -/
  | badAcc (off size : Nat) (data : Option Nat)
  /-- UNASSIGNED_ACCESS (R35) -/
  | unassignedAccess (off : Nat) (data : Option Nat)
  /-- GATED_ACCESS (R399) -/
  | gatedAccess (off : Nat) (data : Option Nat)
  /-- RC_READ (R13) -/
  | rcRead (off : Nat)
  /-- LATCHING_READ (R355) -/
  | latchingRead (off : Nat)
  /-- REGISTER_WRITE (R481) -/
  | registerWrite (off v : Nat)
  /-- CELL_ERROR (R17) -/
  | cellError (blk cell kind arg row : Nat)
  /-- REGION_WATCHDOG_TRIP (R398) -/
  | regionWatchdogTrip (r : Nat)
  /-- REGION_RELOAD (R401) -/
  | regionReload (r bad : Nat)
  /-- SF_REGION_RELOAD_WRITE (R402) -/
  | sfRegionReloadWrite (r v : Nat)
  /-- REGION_READY (R401) -/
  | regionReady (r : Nat)
  /-- RELOAD_TIMEOUT (R401) -/
  | reloadTimeout (r : Nat)
  /-- THERMAL_EMERGENCY (R403) -/
  | thermalEmergency
  /-- THERMAL_CLEAR (R405) -/
  | thermalClear
  /-- LEVEL_CMD_RETURN (R405) -/
  | levelCmdReturn
  /-- LEVEL_CMD_TIME_ONLY (R403) -/
  | levelCmdTimeOnly
  /-- LEVEL_CMD_SAFE (R406) -/
  | levelCmdSafe
  /-- SF_ACK (R414) -/
  | sfAck
  /-- SELFCHK (R417) -/
  | selfchk (fails : Nat)
  /-- SELFCHK_PERIODIC (R417) -/
  | selfchkPeriodic (fails : Nat)
  /-- INJECT (R418) -/
  | inject (v : Nat)
  /-- OP_HOURS_TICK (R420) -/
  | opHoursTick
  /-- FLASH_RECORD_WRITE (R423) -/
  | flashRecordWrite
  /-- EV_RECORD_READ (R425) -/
  | evRecordRead (v : Nat)
  /-- EV_READ_DONE (R425) -/
  | evReadDone
  /-- EV_LOG_ERASE (R425) -/
  | evLogErase (v : Nat)
  /-- VDD_FAWN_LOW (R466) -/
  | vddFawnLow (mv : Nat)
  /-- PWR_OK_FALL (R428) -/
  | pwrOkFall (err : Int)
  /-- PWR_OK_RISE (R429) -/
  | pwrOkRise (err : Int)
  /-- BOOT (R431) -/
  | boot (x : BootIn)
  /-- START_UP (R434) -/
  | startUp (bad banks : Nat)
  /-- STANDBY (R435) -/
  | standby (v : Nat)
  /-- POWER_STATE_ENTERED (R437) -/
  | powerStateEntered (u : Nat)
  /-- BLOCK_WAKE (R439) -/
  | blockWake (u : Nat) (pll : Bool) (banks bad : Nat)
  /-- PMBUS_REQUEST_DONE (R441) -/
  | pmbusRequestDone (ok : Bool)
  /-- AVS_TARGET_UPDATE (R440) -/
  | avsTargetUpdate (full tOnly : Nat)
  /-- POWER_SUM_CHECK (R442) -/
  | powerSumCheck (sum : Nat)
  /-- PMB_ALERT (R442) -/
  | pmbAlert (present : Bool)
  /-- PAD_RELEASE (R444) -/
  | padRelease (v : Nat)
  /-- REGION_ENABLE_WRITE (R448) -/
  | regionEnableWrite (v : Nat)
  /-- DEBUG_READ (R451) -/
  | debugRead (prot : Bool)
  /-- FLASH_READ (R454) -/
  | flashRead (v : Nat)
  /-- FLASH_PROGRAM (R454) -/
  | flashProgram (v : Nat)
  /-- ERASE_4K (R454) -/
  | erase4k (v : Nat)
  /-- ERASE_64K (R454) -/
  | erase64k (v : Nat)
  /-- FLASH_OP_DONE (R454) -/
  | flashOpDone (slow : Bool)
  /-- NOP_CMD (R370) -/
  | nopCmd (hd : CmdHdr)
  /-- MBOX_UNKNOWN_TYPE (R341) -/
  | mboxUnknownType (hd : CmdHdr) (typ : Nat)
  /-- CORE_RELEASE (R332) -/
  | coreRelease (k out dest : Nat)
  /-- MEM_REPAIR_DONE (R288) -/
  | memRepairDone (ok : Bool)
  /-- LOG_WRITE_DONE (R424) -/
  | logWriteDone (slow : Bool)
  /-- PRBS_LOCK (R232) -/
  | prbsLock (n : Nat)
  /-- PRBS_LOCK_LOSS (R232) -/
  | prbsLockLoss (n errs : Nat)
  /-- PCIE_LINK_TRAINED (R3) -/
  | pcieLinkTrained (width speed : Nat)
  /-- JTAG_INSTRUCTION (R478) -/
  | jtagInstruction (instr : Nat) (owner : Bool)
  /-- VDD_FAWN_RISE (R427) -/
  | vddFawnRise
  /-- VDD_FAWN_LOSS (R427) -/
  | vddFawnLoss
  /-- SYS_RST_N (R429) -/
  | sysRstN
  /-- PERST_N (R429) -/
  | perstN
  /-- STANDBY_WAKE_TIMEOUT (R435) -/
  | standbyWakeTimeout
  /-- PMBUS_RETRY (R441) -/
  | pmbusRetry
  /-- SCAN_ACCESS_ENABLE (R305) -/
  | scanAccessEnable
  /-- TRNG_HEALTH_PASS (R312) -/
  | trngHealthPass
  /-- CONTROL_LOST (R401) -/
  | controlLost
  /-- LOG_ERASE_DONE (R425) -/
  | logEraseDone
  deriving DecidableEq, Repr

end Sys2Proof
end

