-- ==== Sys2Proof/Decode.lean ====
section
/-! DEFINITION. The command that a word spells. The command table of the specification gives its rows no bits:
a command reaches the block over its pins, lanes, clocks and rings, never as one word, so no word spells one
(log entry 2, DESIGN CHOICE). The one instruction word that the block decodes, of a parser engine (R200 to R216), is in
Sys2Proof/Machine/Flags.lean. -/

namespace Sys2Proof

/-- No row of the command table gives bits (log entry 2, DESIGN CHOICE). -/
def decodeTableWord (_nbits _w : Nat) : Option Instr := none

end Sys2Proof
end

