-- ==== Sys2Proof/Machine/RegTable.lean ====
section
/-! DEFINITION. The registers of BAR0: one name per register of the specification, its fields with
access code and reset value (the register tables of spec/00 to spec/17), its place in BAR0
(Tables 17-1 and 17-2), its reset domain (Table 17-8) and whether a read of its lowest word latches
the other words. -/

namespace Sys2Proof.Machine

/-- The registers of BAR0, by their names in the specification. LN_PM stands for LN_PM_ES, LN_PM_SES,
LN_PM_UAS and LN_PM_STATE; TC_HOLD for TC_HOLD_STATUS, TC_MON, TC_OSC and TC_RATE; PP_CNT for
PP_DEPTH_CNT, PP_LEN_CNT and PP_PROG_CNT; SF_DIAG for SF_PORT_FAULT, SF_PIN, SF_XCHK, SF_DIAG, SF_CRC
and SF_HB. -/
inductive RegName where
  | ID_PART
  | ID_REV
  | GL_RST_STATUS
  | GL_CLK_CTRL
  | GL_CLK_STATUS
  | GL_TICK_NUM
  | GL_JOB_STAT
  | GL_REGION_CTRL
  | GL_DBG_CTRL
  | GL_DBG_ADDR
  | GL_DBG_DATA
  | HI_PCIE_STATUS
  | SF_LEVEL
  | QUADS_OUT
  | SF_LEVEL_CMD
  | SF_LEVEL_CFG
  | SF_REGION
  | GL_FLASH_CTRL
  | GL_FLASH_ADDR
  | GL_FLASH_BUF
  | LN_RX_CTRL
  | LN_RX_EQ
  | LN_ALIGN_CFG
  | LN_RX_STATUS
  | LN_ALIGN_STAT
  | LN_RX_LAT
  | LN_FB_CAP
  | LN_SFC
  | LN_FEC_CFG
  | LN_FEC_CNT
  | LN_PM_CFG
  | LN_PM_SD
  | LN_PM
  | LN_MAP_CFG
  | LN_MAP_STAT
  | LN_ATT_CTRL
  | LN_ATT_STATUS
  | LN_ATT_SN
  | LN_ATT_TMR
  | LN_ATT_RESP
  | LN_OPT_RXDLY
  | LN_OPT_TXDLY
  | LN_ATT_REGID
  | LN_ATT_STAT
  | LN_ATT_STAT2
  | LN_ATT_HEALTH
  | LN_TX_CTRL
  | LN_TX_BURST
  | LN_EQD
  | LN_TX_LAT
  | LN_TX_STATUS
  | LN_TX_CNT
  | HD_HERD_CFG
  | HD_GRID
  | HD_SWIDAN_CFG
  | HD_SWIDAN_CTRL
  | HD_LAMBDA
  | HD_HERD_STATUS
  | HD_HERD_CNT
  | HD_PTR_STATUS
  | HD_PTR_CNT
  | HD_SKEW
  | HD_LAUNCH_OFS
  | HD_EST_CFG
  | HD_EST_LIM
  | HD_GROUP_DLY
  | HD_TABLE
  | HD_ASYM_OVR
  | HD_EST_RES
  | TC_TIME
  | TC_INCR
  | TC_STATUS
  | TC_CTRL
  | TC_SET
  | TC_DOM_STATUS
  | TC_TODA_IN
  | TC_HOLD
  | TC_CMP_CNT
  | TC_PIN_STAT
  | TS_PORT_STATUS
  | TS_LAT
  | TS_SELFTEST
  | TS_CNT
  | TM_HOME_STATUS
  | TM_REPL_STAT
  | TM_FRER_CNT
  | BM_BRIDGE_CFG
  | BM_BRIDGE_STATUS
  | BM_BRIDGE_FIFO
  | PF_LANE_CTRL
  | PF_LANE_EQ
  | PF_LANE_STATUS
  | PF_PRBS_CNT
  | PF_MAC_CNT
  | PF_QUAD_CFG
  | PF_QUAD_CNT
  | PF_RECAL_STATUS
  | PP_ENG_STATUS
  | PP_PROG_STATUS
  | PP_CNT
  | PP_DROP_CNT
  | PP_XGEM_CNT
  | PP_TBL_STAT
  | PP_TBL_SEED
  | PP_EXC_CNT
  | TM_Q_STATUS
  | TM_Q_CNT
  | TM_UP_CNT
  | TM_POL_CNT
  | TM_BP_STATUS
  | TM_ING_DROP
  | BM_MEM_CFG
  | BM_MEM_STATUS
  | BM_MEM_GEOM
  | BM_SCRUB_CFG
  | BM_OCB_STATUS
  | BM_ECC_CNT
  | BM_REPAIR_LOG
  | BM_POOL_STATUS
  | BM_REJ_LAST
  | CX_KS_STATUS
  | CX_KS_CTRL
  | CX_LANE_STATUS
  | CX_CLU_STATUS
  | CX_LANE_CNT
  | CX_PON_CNT
  | CX_PORT_CNT
  | CX_SLOT_ATTR
  | CX_SC_CNT
  | SV_LIST_STAT
  | SV_CORE_STATUS
  | SV_LOAD
  | SV_FW_STATUS
  | SV_DISP_CNT
  | PC_DESC
  | PC_VALUE
  | PC_WRAP
  | PC_STAT
  | HI_CFG
  | HI_EMERG
  | HI_DB_BASE
  | HI_SUM_BASE
  | HI_HEAD_BASE
  | HI_STATUS
  | HI_EPOCH_STATUS
  | HI_EPOCH_CFG
  | HI_EVT_ROUTE
  | HI_EVT_DROP
  | HI_DUMP
  | HI_DUMP_CFG
  | HI_VEC
  | HI_RING
  | SF_STATUS
  | SF_CTRL
  | SF_DIAG
  | EV_STATUS
  | EV_HOURS
  | EV_CFG
  | EV_CTRL
  | EV_RD_CTRL
  | EV_RD_DATA
  | PW_STATUS
  | PW_CTRL
  | PW_BOOT_STATUS
  | PW_DIE_ID
  | PW_TOL
  | PW_BLK_STATE
  | PW_ENTRY_CNT
  | PW_LAST_REFUSAL
  | PW_RAIL
  | PW_AVS
  | PW_PLIMIT
  | PW_PAD_CFG
  | PW_PAD_RELEASE
  | PW_RET_STATUS
  | SF_CNT
  deriving DecidableEq, Repr, Inhabited

/-- Access codes of R12: RO, RW, W1C, RC, WO and WS. -/
inductive Acc where
  | ro | rw | w1c | rc | wo | ws
  deriving DecidableEq, Repr

/-- Reset domains of Table 17-8; `region` is the region that holds the register. -/
inductive Dom where
  | none | fawn | keyStore | chip | region
  deriving DecidableEq, Repr

/-- One field of a register: its lowest bit (counted from bit 0 of the lowest word), its width, its
access code, its reset domain and its reset value. -/
structure Fld where
  reg   : RegName
  lsb   : Nat
  width : Nat
  acc   : Acc
  dom   : Dom
  reset : Nat
  deriving DecidableEq, Repr

/-! ID_PART (Table 0-3). -/
@[reducible] def ID_PART_PART : Fld := ⟨.ID_PART, 16, 16, .ro, .none, 0x9128⟩
@[reducible] def ID_PART_FAMILY : Fld := ⟨.ID_PART, 8, 8, .ro, .none, 0x4C⟩

/-! ID_REV (Table 0-4). -/
@[reducible] def ID_REV_MAJOR : Fld := ⟨.ID_REV, 8, 8, .ro, .none, 0xA⟩
@[reducible] def ID_REV_MINOR : Fld := ⟨.ID_REV, 0, 8, .ro, .none, 1⟩

/-! GL_RST_STATUS (Table 17-4). -/
@[reducible] def GL_RST_STATUS_FAWN_POR : Fld := ⟨.GL_RST_STATUS, 8, 1, .w1c, .fawn, 1⟩
@[reducible] def GL_RST_STATUS_CAUSE : Fld := ⟨.GL_RST_STATUS, 0, 3, .ro, .fawn, 1⟩

/-! GL_CLK_CTRL (Table 1-8). -/
@[reducible] def GL_CLK_CTRL_REVERT : Fld := ⟨.GL_CLK_CTRL, 8, 1, .rw, .chip, 0⟩
@[reducible] def GL_CLK_CTRL_PREF_ATT : Fld := ⟨.GL_CLK_CTRL, 4, 1, .rw, .chip, 0⟩
@[reducible] def GL_CLK_CTRL_PREF_CH : Fld := ⟨.GL_CLK_CTRL, 0, 2, .rw, .chip, 0⟩

/-! GL_CLK_STATUS (Table 1-9). -/
@[reducible] def GL_CLK_STATUS_STRETCH_CNT : Fld := ⟨.GL_CLK_STATUS, 16, 16, .ro, .chip, 0⟩
@[reducible] def GL_CLK_STATUS_ALIGNED : Fld := ⟨.GL_CLK_STATUS, 7, 1, .ro, .chip, 0⟩
@[reducible] def GL_CLK_STATUS_PLL_LOCK : Fld := ⟨.GL_CLK_STATUS, 6, 1, .ro, .chip, 0⟩
@[reducible] def GL_CLK_STATUS_SRC_FREE : Fld := ⟨.GL_CLK_STATUS, 5, 1, .ro, .chip, 1⟩
@[reducible] def GL_CLK_STATUS_SRC_ATT : Fld := ⟨.GL_CLK_STATUS, 4, 1, .ro, .chip, 0⟩
@[reducible] def GL_CLK_STATUS_SRC_CH : Fld := ⟨.GL_CLK_STATUS, 0, 2, .ro, .chip, 0⟩

/-! GL_TICK_NUM (Table 1-10). -/
@[reducible] def GL_TICK_NUM_TICK : Fld := ⟨.GL_TICK_NUM, 0, 64, .ro, .fawn, 0⟩

/-! GL_JOB_STAT (Table 1-11). -/
@[reducible] def GL_JOB_STAT_OVERRUN : Fld := ⟨.GL_JOB_STAT, 16, 16, .rc, .chip, 0⟩
@[reducible] def GL_JOB_STAT_LATE : Fld := ⟨.GL_JOB_STAT, 0, 16, .rc, .chip, 0⟩

/-! GL_REGION_CTRL (Table 17-5). -/
@[reducible] def GL_REGION_CTRL_EN_REJ : Fld := ⟨.GL_REGION_CTRL, 31, 1, .w1c, .chip, 0⟩
@[reducible] def GL_REGION_CTRL_EN_CONTROL : Fld := ⟨.GL_REGION_CTRL, 7, 1, .ro, .chip, 1⟩
@[reducible] def GL_REGION_CTRL_EN_MEMORY : Fld := ⟨.GL_REGION_CTRL, 6, 1, .rw, .chip, 1⟩
@[reducible] def GL_REGION_CTRL_EN_PACKET : Fld := ⟨.GL_REGION_CTRL, 5, 1, .rw, .chip, 1⟩
@[reducible] def GL_REGION_CTRL_EN_PORTE : Fld := ⟨.GL_REGION_CTRL, 4, 1, .rw, .chip, 1⟩
@[reducible] def GL_REGION_CTRL_EN_PORTW : Fld := ⟨.GL_REGION_CTRL, 3, 1, .rw, .chip, 1⟩
@[reducible] def GL_REGION_CTRL_EN_FAWN : Fld := ⟨.GL_REGION_CTRL, 2, 1, .ro, .chip, 1⟩
@[reducible] def GL_REGION_CTRL_EN_LINE : Fld := ⟨.GL_REGION_CTRL, 1, 1, .rw, .chip, 1⟩

/-! GL_DBG_CTRL (Table 17-6). -/
@[reducible] def GL_DBG_CTRL_KEY : Fld := ⟨.GL_DBG_CTRL, 16, 16, .wo, .chip, 0⟩
@[reducible] def GL_DBG_CTRL_DENIED : Fld := ⟨.GL_DBG_CTRL, 3, 1, .w1c, .chip, 0⟩
@[reducible] def GL_DBG_CTRL_GATED : Fld := ⟨.GL_DBG_CTRL, 2, 1, .w1c, .chip, 0⟩
@[reducible] def GL_DBG_CTRL_AUTO_INC : Fld := ⟨.GL_DBG_CTRL, 1, 1, .rw, .chip, 0⟩
@[reducible] def GL_DBG_CTRL_ENABLE : Fld := ⟨.GL_DBG_CTRL, 0, 1, .rw, .chip, 0⟩

/-! GL_DBG_ADDR (Table 17-6). -/
@[reducible] def GL_DBG_ADDR_BLOCK : Fld := ⟨.GL_DBG_ADDR, 16, 16, .rw, .chip, 0⟩
@[reducible] def GL_DBG_ADDR_WORD : Fld := ⟨.GL_DBG_ADDR, 0, 16, .rw, .chip, 0⟩

/-! GL_DBG_DATA (Table 17-6). -/
@[reducible] def GL_DBG_DATA_DATA : Fld := ⟨.GL_DBG_DATA, 0, 32, .ro, .chip, 0⟩

/-! HI_PCIE_STATUS (Table 14-17). -/
@[reducible] def HI_PCIE_STATUS_BAD_ACC : Fld := ⟨.HI_PCIE_STATUS, 16, 1, .w1c, .chip, 0⟩
@[reducible] def HI_PCIE_STATUS_WIDTH : Fld := ⟨.HI_PCIE_STATUS, 4, 6, .ro, .chip, 0⟩
@[reducible] def HI_PCIE_STATUS_SPEED : Fld := ⟨.HI_PCIE_STATUS, 0, 4, .ro, .chip, 0⟩

/-! SF_LEVEL (Table 15-8). -/
@[reducible] def SF_LEVEL_CAUSE : Fld := ⟨.SF_LEVEL, 24, 8, .ro, .chip, 0⟩
@[reducible] def SF_LEVEL_TO_ATT : Fld := ⟨.SF_LEVEL, 16, 1, .ro, .chip, 0⟩
@[reducible] def SF_LEVEL_ATT_OUT : Fld := ⟨.SF_LEVEL, 8, 2, .ro, .chip, 0⟩
@[reducible] def SF_LEVEL_HELD : Fld := ⟨.SF_LEVEL, 4, 2, .ro, .chip, 0⟩
@[reducible] def SF_LEVEL_LEVEL : Fld := ⟨.SF_LEVEL, 0, 3, .ro, .chip, 0⟩

/-! QUADS_OUT (Table 15-8). -/
@[reducible] def QUADS_OUT_OUT : Fld := ⟨.QUADS_OUT, 0, 32, .ro, .chip, 0⟩

/-! SF_LEVEL_CMD (Table 15-9). -/
@[reducible] def SF_LEVEL_CMD_CMD : Fld := ⟨.SF_LEVEL_CMD, 0, 2, .wo, .chip, 0⟩

/-! SF_LEVEL_CFG (Table 15-10). -/
@[reducible] def SF_LEVEL_CFG_AUTO_RESUME : Fld := ⟨.SF_LEVEL_CFG, 31, 1, .rw, .chip, 0⟩
@[reducible] def SF_LEVEL_CFG_THERM_HYST : Fld := ⟨.SF_LEVEL_CFG, 16, 8, .rw, .chip, 0xA⟩
@[reducible] def SF_LEVEL_CFG_THERM_EMERG : Fld := ⟨.SF_LEVEL_CFG, 8, 8, .rw, .chip, 0x69⟩
@[reducible] def SF_LEVEL_CFG_TJ_MAX : Fld := ⟨.SF_LEVEL_CFG, 0, 8, .ro, .chip, 0⟩

/-! SF_REGION (Table 15-11). -/
@[reducible] def SF_REGION_GATED_ACCESS : Fld := ⟨.SF_REGION, 31, 1, .w1c, .chip, 0⟩
@[reducible] def SF_REGION_STATE : Fld := ⟨.SF_REGION, 24, 3, .ro, .chip, 0⟩
@[reducible] def SF_REGION_GATED_BLOCK : Fld := ⟨.SF_REGION, 0, 16, .ro, .chip, 0⟩
@[reducible] def SF_REGION_GATED_CNT : Fld := ⟨.SF_REGION, 48, 16, .rc, .chip, 0⟩
@[reducible] def SF_REGION_RELOADS : Fld := ⟨.SF_REGION, 40, 8, .rc, .chip, 0⟩
@[reducible] def SF_REGION_ISOLATIONS : Fld := ⟨.SF_REGION, 32, 8, .rc, .chip, 0⟩
@[reducible] def SF_REGION_AUTO_DIS : Fld := ⟨.SF_REGION, 65, 1, .rw, .chip, 0⟩
@[reducible] def SF_REGION_RELOAD : Fld := ⟨.SF_REGION, 64, 1, .wo, .chip, 0⟩
@[reducible] def SF_REGION_LAST_CAUSE : Fld := ⟨.SF_REGION, 120, 8, .ro, .chip, 0⟩
@[reducible] def SF_REGION_LAST_TICKS : Fld := ⟨.SF_REGION, 96, 24, .ro, .chip, 0⟩

/-! GL_FLASH_CTRL (Table 17-7). -/
@[reducible] def GL_FLASH_CTRL_KEY : Fld := ⟨.GL_FLASH_CTRL, 16, 16, .wo, .chip, 0⟩
@[reducible] def GL_FLASH_CTRL_GO : Fld := ⟨.GL_FLASH_CTRL, 15, 1, .wo, .chip, 0⟩
@[reducible] def GL_FLASH_CTRL_BUSY : Fld := ⟨.GL_FLASH_CTRL, 14, 1, .ro, .chip, 0⟩
@[reducible] def GL_FLASH_CTRL_ERR : Fld := ⟨.GL_FLASH_CTRL, 13, 1, .w1c, .chip, 0⟩
@[reducible] def GL_FLASH_CTRL_DENIED : Fld := ⟨.GL_FLASH_CTRL, 12, 1, .w1c, .chip, 0⟩
@[reducible] def GL_FLASH_CTRL_LEN : Fld := ⟨.GL_FLASH_CTRL, 4, 8, .rw, .chip, 0⟩
@[reducible] def GL_FLASH_CTRL_OP : Fld := ⟨.GL_FLASH_CTRL, 0, 3, .rw, .chip, 0⟩

/-! GL_FLASH_ADDR (Table 17-7). -/
@[reducible] def GL_FLASH_ADDR_ADDR : Fld := ⟨.GL_FLASH_ADDR, 0, 32, .rw, .chip, 0⟩

/-! GL_FLASH_BUF (Table 17-7). -/
@[reducible] def GL_FLASH_BUF_BUF : Fld := ⟨.GL_FLASH_BUF, 0, 2048, .rw, .chip, 0⟩

/-! LN_RX_CTRL (Table 2-7). -/
@[reducible] def LN_RX_CTRL_LOS_POL : Fld := ⟨.LN_RX_CTRL, 4, 1, .rw, .chip, 0⟩
@[reducible] def LN_RX_CTRL_LOS_SRC : Fld := ⟨.LN_RX_CTRL, 2, 2, .rw, .chip, 2⟩
@[reducible] def LN_RX_CTRL_MODE : Fld := ⟨.LN_RX_CTRL, 1, 1, .rw, .chip, 0⟩
@[reducible] def LN_RX_CTRL_ENABLE : Fld := ⟨.LN_RX_CTRL, 0, 1, .rw, .chip, 0⟩

/-! LN_RX_EQ (Table 2-8). -/
@[reducible] def LN_RX_EQ_EQ_RESET : Fld := ⟨.LN_RX_EQ, 12, 1, .wo, .chip, 0⟩
@[reducible] def LN_RX_EQ_DSP_MODE : Fld := ⟨.LN_RX_EQ, 8, 1, .rw, .chip, 0⟩
@[reducible] def LN_RX_EQ_CTLE_PEAK : Fld := ⟨.LN_RX_EQ, 0, 5, .rw, .chip, 0xC⟩

/-! LN_ALIGN_CFG (Table 2-9). -/
@[reducible] def LN_ALIGN_CFG_SYNC_ERR : Fld := ⟨.LN_ALIGN_CFG, 4, 3, .rw, .chip, 7⟩
@[reducible] def LN_ALIGN_CFG_HUNT_ERR : Fld := ⟨.LN_ALIGN_CFG, 0, 2, .rw, .chip, 3⟩

/-! LN_RX_STATUS (Table 2-10). -/
@[reducible] def LN_RX_STATUS_MODE_REJ : Fld := ⟨.LN_RX_STATUS, 24, 1, .w1c, .region, 0⟩
@[reducible] def LN_RX_STATUS_DEC_CELLS : Fld := ⟨.LN_RX_STATUS, 20, 4, .ro, .region, 0⟩
@[reducible] def LN_RX_STATUS_ITER_CAP : Fld := ⟨.LN_RX_STATUS, 16, 4, .ro, .region, 0⟩
@[reducible] def LN_RX_STATUS_SLOTS_BUSY : Fld := ⟨.LN_RX_STATUS, 12, 3, .ro, .region, 0⟩
@[reducible] def LN_RX_STATUS_MISS_CNT : Fld := ⟨.LN_RX_STATUS, 8, 3, .ro, .region, 0⟩
@[reducible] def LN_RX_STATUS_ISOLATED : Fld := ⟨.LN_RX_STATUS, 7, 1, .ro, .region, 0⟩
@[reducible] def LN_RX_STATUS_MISS2 : Fld := ⟨.LN_RX_STATUS, 6, 1, .ro, .region, 0⟩
@[reducible] def LN_RX_STATUS_STATE : Fld := ⟨.LN_RX_STATUS, 4, 2, .ro, .region, 0⟩
@[reducible] def LN_RX_STATUS_EQ_CONV : Fld := ⟨.LN_RX_STATUS, 2, 1, .ro, .region, 0⟩
@[reducible] def LN_RX_STATUS_CDR_LOCK : Fld := ⟨.LN_RX_STATUS, 1, 1, .ro, .region, 0⟩
@[reducible] def LN_RX_STATUS_LOS : Fld := ⟨.LN_RX_STATUS, 0, 1, .ro, .region, 0⟩

/-! LN_ALIGN_STAT (Table 2-11). -/
@[reducible] def LN_ALIGN_STAT_LOF_CNT : Fld := ⟨.LN_ALIGN_STAT, 24, 8, .rc, .region, 0⟩
@[reducible] def LN_ALIGN_STAT_SLOT_FULL : Fld := ⟨.LN_ALIGN_STAT, 16, 8, .rc, .region, 0⟩
@[reducible] def LN_ALIGN_STAT_REJECT : Fld := ⟨.LN_ALIGN_STAT, 0, 16, .rc, .region, 0⟩

/-! LN_RX_LAT (Table 2-12). -/
@[reducible] def LN_RX_LAT_LAT : Fld := ⟨.LN_RX_LAT, 0, 32, .ro, .region, 0⟩

/-! LN_FB_CAP (Table 2-13). -/
@[reducible] def LN_FB_CAP_NEWLAT : Fld := ⟨.LN_FB_CAP, 127, 1, .ro, .region, 0⟩
@[reducible] def LN_FB_CAP_SEC : Fld := ⟨.LN_FB_CAP, 64, 48, .ro, .region, 0⟩
@[reducible] def LN_FB_CAP_NS : Fld := ⟨.LN_FB_CAP, 32, 30, .ro, .region, 0⟩
@[reducible] def LN_FB_CAP_FRAC : Fld := ⟨.LN_FB_CAP, 0, 16, .ro, .region, 0⟩

/-! LN_SFC (Table 2-14). -/
@[reducible] def LN_SFC_SFC : Fld := ⟨.LN_SFC, 0, 51, .ro, .region, 0⟩

/-! LN_FEC_CFG (Table 2-15). -/
@[reducible] def LN_FEC_CFG_MAX_ITER : Fld := ⟨.LN_FEC_CFG, 0, 4, .rw, .chip, 0xA⟩

/-! LN_FEC_CNT (Table 2-16). -/
@[reducible] def LN_FEC_CNT_CW_TOTAL : Fld := ⟨.LN_FEC_CNT, 0, 32, .rc, .region, 0⟩
@[reducible] def LN_FEC_CNT_CW_CORR : Fld := ⟨.LN_FEC_CNT, 32, 32, .rc, .region, 0⟩
@[reducible] def LN_FEC_CNT_CW_UNCORR : Fld := ⟨.LN_FEC_CNT, 64, 32, .rc, .region, 0⟩
@[reducible] def LN_FEC_CNT_BITS_CORR : Fld := ⟨.LN_FEC_CNT, 96, 32, .rc, .region, 0⟩

/-! LN_PM_CFG (Table 2-17). -/
@[reducible] def LN_PM_CFG_CLEAR : Fld := ⟨.LN_PM_CFG, 17, 1, .wo, .chip, 0⟩
@[reducible] def LN_PM_CFG_PM_EN : Fld := ⟨.LN_PM_CFG, 16, 1, .rw, .chip, 1⟩
@[reducible] def LN_PM_CFG_SES_TICKS : Fld := ⟨.LN_PM_CFG, 0, 13, .rw, .chip, 0x320⟩

/-! LN_PM_SD (Table 2-18). -/
@[reducible] def LN_PM_SD_SD_BITS : Fld := ⟨.LN_PM_SD, 0, 32, .rw, .chip, 0x2F76000⟩

/-! LN_PM (Table 2-19). -/
@[reducible] def LN_PM_ES : Fld := ⟨.LN_PM, 0, 32, .ro, .region, 0⟩
@[reducible] def LN_PM_SES : Fld := ⟨.LN_PM, 32, 32, .ro, .region, 0⟩
@[reducible] def LN_PM_UAS : Fld := ⟨.LN_PM, 64, 32, .ro, .region, 0⟩
@[reducible] def LN_PM_OVR_SEC : Fld := ⟨.LN_PM, 112, 16, .rc, .region, 0⟩
@[reducible] def LN_PM_SDST : Fld := ⟨.LN_PM, 97, 1, .ro, .region, 0⟩
@[reducible] def LN_PM_UNAVAIL : Fld := ⟨.LN_PM, 96, 1, .ro, .region, 0⟩

/-! LN_MAP_CFG (Table 2-20). -/
@[reducible] def LN_MAP_CFG_MAPLOSS_U1 : Fld := ⟨.LN_MAP_CFG, 17, 1, .ro, .region, 0⟩
@[reducible] def LN_MAP_CFG_MAPLOSS_U0 : Fld := ⟨.LN_MAP_CFG, 16, 1, .ro, .region, 0⟩
@[reducible] def LN_MAP_CFG_MAP_U1 : Fld := ⟨.LN_MAP_CFG, 4, 2, .rw, .chip, 1⟩
@[reducible] def LN_MAP_CFG_MAP_U0 : Fld := ⟨.LN_MAP_CFG, 0, 2, .rw, .chip, 0⟩

/-! LN_MAP_STAT (Table 2-21). -/
@[reducible] def LN_MAP_STAT_HEC_DISC : Fld := ⟨.LN_MAP_STAT, 24, 8, .rc, .region, 0⟩
@[reducible] def LN_MAP_STAT_TRUNC : Fld := ⟨.LN_MAP_STAT, 16, 8, .rc, .region, 0⟩
@[reducible] def LN_MAP_STAT_MAPS_LOST : Fld := ⟨.LN_MAP_STAT, 0, 16, .rc, .region, 0⟩

/-! LN_ATT_CTRL (Table 3-7). -/
@[reducible] def LN_ATT_CTRL_KEY_BASE : Fld := ⟨.LN_ATT_CTRL, 16, 10, .rw, .chip, 0⟩
@[reducible] def LN_ATT_CTRL_OMCI_HOLD : Fld := ⟨.LN_ATT_CTRL, 8, 8, .rw, .chip, 0x14⟩
@[reducible] def LN_ATT_CTRL_OMCI_MODE : Fld := ⟨.LN_ATT_CTRL, 1, 1, .rw, .chip, 0⟩
@[reducible] def LN_ATT_CTRL_ACT_EN : Fld := ⟨.LN_ATT_CTRL, 0, 1, .rw, .chip, 0⟩

/-! LN_ATT_STATUS (Table 3-8). -/
@[reducible] def LN_ATT_STATUS_WR_REJ : Fld := ⟨.LN_ATT_STATUS, 31, 1, .w1c, .region, 0⟩
@[reducible] def LN_ATT_STATUS_TERM_ID : Fld := ⟨.LN_ATT_STATUS, 16, 10, .ro, .region, 0⟩
@[reducible] def LN_ATT_STATUS_EQD_U1 : Fld := ⟨.LN_ATT_STATUS, 10, 1, .ro, .region, 0⟩
@[reducible] def LN_ATT_STATUS_EQD_U0 : Fld := ⟨.LN_ATT_STATUS, 9, 1, .ro, .region, 0⟩
@[reducible] def LN_ATT_STATUS_ESTOP : Fld := ⟨.LN_ATT_STATUS, 8, 1, .ro, .region, 0⟩
@[reducible] def LN_ATT_STATUS_STATE : Fld := ⟨.LN_ATT_STATUS, 0, 4, .ro, .region, 0⟩

/-! LN_ATT_SN (Table 3-9). -/
@[reducible] def LN_ATT_SN_VENDOR : Fld := ⟨.LN_ATT_SN, 32, 32, .ro, .none, 0⟩
@[reducible] def LN_ATT_SN_VSSN : Fld := ⟨.LN_ATT_SN, 0, 32, .ro, .none, 0⟩

/-! LN_ATT_TMR (Table 3-10). -/
@[reducible] def LN_ATT_TMR_TO2_MS : Fld := ⟨.LN_ATT_TMR, 16, 16, .rw, .chip, 0x64⟩
@[reducible] def LN_ATT_TMR_TO1_MS : Fld := ⟨.LN_ATT_TMR, 0, 16, .rw, .chip, 0x2710⟩

/-! LN_ATT_RESP (Table 3-11). -/
@[reducible] def LN_ATT_RESP_T_RESP : Fld := ⟨.LN_ATT_RESP, 0, 32, .rw, .chip, 0x88B80000⟩

/-! LN_OPT_RXDLY (Table 3-12). -/
@[reducible] def LN_OPT_RXDLY_D_RX : Fld := ⟨.LN_OPT_RXDLY, 0, 32, .rw, .chip, 0⟩

/-! LN_OPT_TXDLY (Table 3-13). -/
@[reducible] def LN_OPT_TXDLY_D_TX : Fld := ⟨.LN_OPT_TXDLY, 0, 32, .rw, .chip, 0⟩

/-! LN_ATT_REGID (Table 3-14). -/
@[reducible] def LN_ATT_REGID_REGID : Fld := ⟨.LN_ATT_REGID, 0, 288, .rw, .chip, 0⟩

/-! LN_ATT_STAT (Table 3-15). -/
@[reducible] def LN_ATT_STAT_PLOAM_IGN : Fld := ⟨.LN_ATT_STAT, 24, 8, .rc, .region, 0⟩
@[reducible] def LN_ATT_STAT_PLOAM_BAD : Fld := ⟨.LN_ATT_STAT, 16, 8, .rc, .region, 0⟩
@[reducible] def LN_ATT_STAT_PLOAM_RX : Fld := ⟨.LN_ATT_STAT, 0, 16, .rc, .region, 0⟩

/-! LN_ATT_STAT2 (Table 3-16). -/
@[reducible] def LN_ATT_STAT2_DEACT : Fld := ⟨.LN_ATT_STAT2, 24, 8, .rc, .region, 0⟩
@[reducible] def LN_ATT_STAT2_TO_EXP : Fld := ⟨.LN_ATT_STAT2, 16, 8, .rc, .region, 0⟩
@[reducible] def LN_ATT_STAT2_LODS_CNT : Fld := ⟨.LN_ATT_STAT2, 0, 16, .rc, .region, 0⟩

/-! LN_ATT_HEALTH (Table 7-4). -/
@[reducible] def LN_ATT_HEALTH_FAILED : Fld := ⟨.LN_ATT_HEALTH, 31, 1, .ro, .region, 1⟩
@[reducible] def LN_ATT_HEALTH_WAITING : Fld := ⟨.LN_ATT_HEALTH, 30, 1, .ro, .region, 0⟩
@[reducible] def LN_ATT_HEALTH_FAIL_CNT : Fld := ⟨.LN_ATT_HEALTH, 16, 8, .rc, .region, 0⟩
@[reducible] def LN_ATT_HEALTH_CAUSE : Fld := ⟨.LN_ATT_HEALTH, 8, 4, .ro, .region, 4⟩
@[reducible] def LN_ATT_HEALTH_FORCE_FAIL : Fld := ⟨.LN_ATT_HEALTH, 0, 1, .rw, .region, 0⟩

/-! LN_TX_CTRL (Table 3-17). -/
@[reducible] def LN_TX_CTRL_EN_POL : Fld := ⟨.LN_TX_CTRL, 4, 1, .rw, .chip, 0⟩
@[reducible] def LN_TX_CTRL_RATE : Fld := ⟨.LN_TX_CTRL, 1, 2, .rw, .chip, 0⟩
@[reducible] def LN_TX_CTRL_ENABLE : Fld := ⟨.LN_TX_CTRL, 0, 1, .rw, .chip, 0⟩

/-! LN_TX_BURST (Table 3-18). -/
@[reducible] def LN_TX_BURST_LAG : Fld := ⟨.LN_TX_BURST, 16, 10, .rw, .chip, 0x1F⟩
@[reducible] def LN_TX_BURST_LEAD : Fld := ⟨.LN_TX_BURST, 0, 10, .rw, .chip, 0x4E⟩

/-! LN_EQD (Table 3-19). -/
@[reducible] def LN_EQD_VALID : Fld := ⟨.LN_EQD, 63, 1, .ro, .region, 0⟩
@[reducible] def LN_EQD_EQD : Fld := ⟨.LN_EQD, 0, 40, .ro, .region, 0⟩

/-! LN_TX_LAT (Table 3-20). -/
@[reducible] def LN_TX_LAT_LAT : Fld := ⟨.LN_TX_LAT, 0, 32, .ro, .none, 0⟩

/-! LN_TX_STATUS (Table 3-21). -/
@[reducible] def LN_TX_STATUS_PROF_VALID : Fld := ⟨.LN_TX_STATUS, 4, 4, .ro, .region, 0⟩
@[reducible] def LN_TX_STATUS_BURSTING : Fld := ⟨.LN_TX_STATUS, 1, 1, .ro, .region, 0⟩
@[reducible] def LN_TX_STATUS_ROGUE : Fld := ⟨.LN_TX_STATUS, 0, 1, .w1c, .region, 0⟩

/-! LN_TX_CNT (Table 3-22). -/
@[reducible] def LN_TX_CNT_BURSTS : Fld := ⟨.LN_TX_CNT, 0, 32, .rc, .region, 0⟩
@[reducible] def LN_TX_CNT_LATE_GRANT : Fld := ⟨.LN_TX_CNT, 32, 32, .rc, .region, 0⟩
@[reducible] def LN_TX_CNT_OVERLAP : Fld := ⟨.LN_TX_CNT, 64, 32, .rc, .region, 0⟩
@[reducible] def LN_TX_CNT_NOPROF : Fld := ⟨.LN_TX_CNT, 96, 32, .rc, .region, 0⟩
@[reducible] def LN_TX_CNT_NOMAP : Fld := ⟨.LN_TX_CNT, 128, 32, .rc, .region, 0⟩

/-! HD_HERD_CFG (Table 4-12). -/
@[reducible] def HD_HERD_CFG_MEMBERS : Fld := ⟨.HD_HERD_CFG, 8, 4, .ro, .region, 0⟩
@[reducible] def HD_HERD_CFG_MEMBERS_PEND : Fld := ⟨.HD_HERD_CFG, 0, 4, .rw, .chip, 0⟩

/-! HD_GRID (Table 4-13). -/
@[reducible] def HD_GRID_UG1 : Fld := ⟨.HD_GRID, 14, 2, .rw, .chip, 3⟩
@[reducible] def HD_GRID_UG0 : Fld := ⟨.HD_GRID, 12, 2, .rw, .chip, 1⟩
@[reducible] def HD_GRID_DG3 : Fld := ⟨.HD_GRID, 9, 3, .rw, .chip, 7⟩
@[reducible] def HD_GRID_DG2 : Fld := ⟨.HD_GRID, 6, 3, .rw, .chip, 6⟩
@[reducible] def HD_GRID_DG1 : Fld := ⟨.HD_GRID, 3, 3, .rw, .chip, 5⟩
@[reducible] def HD_GRID_DG0 : Fld := ⟨.HD_GRID, 0, 3, .rw, .chip, 4⟩

/-! HD_SWIDAN_CFG (Table 4-14). -/
@[reducible] def HD_SWIDAN_CFG_XGEM_PORT : Fld := ⟨.HD_SWIDAN_CFG, 16, 16, .rw, .chip, 0xFFFF⟩
@[reducible] def HD_SWIDAN_CFG_ETHERTYPE : Fld := ⟨.HD_SWIDAN_CFG, 0, 16, .rw, .chip, 0x88B5⟩

/-! HD_SWIDAN_CTRL (Table 4-15). -/
@[reducible] def HD_SWIDAN_CTRL_PEER : Fld := ⟨.HD_SWIDAN_CTRL, 8, 1, .ro, .region, 0⟩
@[reducible] def HD_SWIDAN_CTRL_REPORT : Fld := ⟨.HD_SWIDAN_CTRL, 1, 1, .rw, .chip, 0⟩
@[reducible] def HD_SWIDAN_CTRL_SW_EN : Fld := ⟨.HD_SWIDAN_CTRL, 0, 1, .rw, .chip, 0⟩

/-! HD_LAMBDA (Table 4-16). -/
@[reducible] def HD_LAMBDA_LAMBDA_PM : Fld := ⟨.HD_LAMBDA, 0, 21, .rw, .chip, 0⟩

/-! HD_HERD_STATUS (Table 4-17). -/
@[reducible] def HD_HERD_STATUS_HERD_LOST : Fld := ⟨.HD_HERD_STATUS, 31, 1, .ro, .region, 0⟩
@[reducible] def HD_HERD_STATUS_FORMED : Fld := ⟨.HD_HERD_STATUS, 30, 1, .ro, .region, 0⟩
@[reducible] def HD_HERD_STATUS_HSEQ : Fld := ⟨.HD_HERD_STATUS, 24, 4, .ro, .region, 0⟩
@[reducible] def HD_HERD_STATUS_ACTIVE : Fld := ⟨.HD_HERD_STATUS, 16, 4, .ro, .region, 0⟩
@[reducible] def HD_HERD_STATUS_UP : Fld := ⟨.HD_HERD_STATUS, 12, 4, .ro, .region, 0⟩

/-! HD_HERD_CNT (Table 4-18). -/
@[reducible] def HD_HERD_CNT_HOLE_DROP : Fld := ⟨.HD_HERD_CNT, 16, 16, .rc, .region, 0⟩
@[reducible] def HD_HERD_CNT_SW_DISC : Fld := ⟨.HD_HERD_CNT, 8, 8, .rc, .region, 0⟩
@[reducible] def HD_HERD_CNT_TWIN_SKIP : Fld := ⟨.HD_HERD_CNT, 0, 8, .rc, .region, 0⟩

/-! HD_PTR_STATUS (Table 4-19). -/
@[reducible] def HD_PTR_STATUS_STATE : Fld := ⟨.HD_PTR_STATUS, 24, 2, .ro, .region, 0⟩
@[reducible] def HD_PTR_STATUS_ROW : Fld := ⟨.HD_PTR_STATUS, 16, 8, .ro, .region, 0⟩
@[reducible] def HD_PTR_STATUS_PTR : Fld := ⟨.HD_PTR_STATUS, 0, 13, .ro, .region, 0⟩

/-! HD_PTR_CNT (Table 4-20). -/
@[reducible] def HD_PTR_CNT_SPACING : Fld := ⟨.HD_PTR_CNT, 56, 8, .rc, .region, 0⟩
@[reducible] def HD_PTR_CNT_UNCONF : Fld := ⟨.HD_PTR_CNT, 48, 8, .rc, .region, 0⟩
@[reducible] def HD_PTR_CNT_NEWPTR : Fld := ⟨.HD_PTR_CNT, 40, 8, .rc, .region, 0⟩
@[reducible] def HD_PTR_CNT_LOP : Fld := ⟨.HD_PTR_CNT, 32, 8, .rc, .region, 0⟩
@[reducible] def HD_PTR_CNT_POS : Fld := ⟨.HD_PTR_CNT, 24, 8, .rc, .region, 0⟩
@[reducible] def HD_PTR_CNT_NEG : Fld := ⟨.HD_PTR_CNT, 16, 8, .rc, .region, 0⟩
@[reducible] def HD_PTR_CNT_INFER : Fld := ⟨.HD_PTR_CNT, 8, 8, .rc, .region, 0⟩
@[reducible] def HD_PTR_CNT_CRC_ERR : Fld := ⟨.HD_PTR_CNT, 0, 8, .rc, .region, 0⟩

/-! HD_SKEW (Table 4-21). -/
@[reducible] def HD_SKEW_SKEW : Fld := ⟨.HD_SKEW, 0, 32, .ro, .region, 0x80000000⟩

/-! HD_LAUNCH_OFS (Table 4-22). -/
@[reducible] def HD_LAUNCH_OFS_OFS : Fld := ⟨.HD_LAUNCH_OFS, 0, 32, .rw, .chip, 0⟩

/-! HD_EST_CFG (Table 4-23). -/
@[reducible] def HD_EST_CFG_TWIN_N : Fld := ⟨.HD_EST_CFG, 16, 8, .rw, .chip, 0x40⟩
@[reducible] def HD_EST_CFG_CONF_MIN : Fld := ⟨.HD_EST_CFG, 8, 8, .rw, .chip, 0x80⟩
@[reducible] def HD_EST_CFG_FALLBACK : Fld := ⟨.HD_EST_CFG, 2, 1, .rw, .chip, 1⟩
@[reducible] def HD_EST_CFG_MODE : Fld := ⟨.HD_EST_CFG, 0, 2, .rw, .chip, 0⟩

/-! HD_EST_LIM (Table 4-24). -/
@[reducible] def HD_EST_LIM_STEP_LIM : Fld := ⟨.HD_EST_LIM, 16, 16, .rw, .chip, 0x32⟩
@[reducible] def HD_EST_LIM_U_LIM : Fld := ⟨.HD_EST_LIM, 0, 16, .rw, .chip, 0x3C⟩

/-! HD_GROUP_DLY (Table 4-25). -/
@[reducible] def HD_GROUP_DLY_G_FS : Fld := ⟨.HD_GROUP_DLY, 0, 32, .rw, .chip, 0x4AB500⟩

/-! HD_TABLE (Table 4-26). -/
@[reducible] def HD_TABLE_LAMBDA0_PM : Fld := ⟨.HD_TABLE, 0, 32, .rw, .chip, 0⟩
@[reducible] def HD_TABLE_S0 : Fld := ⟨.HD_TABLE, 32, 32, .rw, .chip, 0⟩
@[reducible] def HD_TABLE_LENGTH_M : Fld := ⟨.HD_TABLE, 64, 32, .rw, .chip, 0⟩

/-! HD_ASYM_OVR (Table 4-27). -/
@[reducible] def HD_ASYM_OVR_EN : Fld := ⟨.HD_ASYM_OVR, 63, 1, .rw, .chip, 0⟩
@[reducible] def HD_ASYM_OVR_ASYM : Fld := ⟨.HD_ASYM_OVR, 0, 32, .rw, .chip, 0⟩

/-! HD_EST_RES (Table 4-28). -/
@[reducible] def HD_EST_RES_TICK : Fld := ⟨.HD_EST_RES, 0, 64, .ro, .region, 0⟩
@[reducible] def HD_EST_RES_LAMBDA0_PM : Fld := ⟨.HD_EST_RES, 64, 32, .ro, .region, 0⟩
@[reducible] def HD_EST_RES_LS0_FS : Fld := ⟨.HD_EST_RES, 96, 32, .ro, .region, 0⟩
@[reducible] def HD_EST_RES_LENGTH_M : Fld := ⟨.HD_EST_RES, 128, 32, .ro, .region, 0⟩
@[reducible] def HD_EST_RES_ASYM : Fld := ⟨.HD_EST_RES, 160, 32, .ro, .region, 0⟩
@[reducible] def HD_EST_RES_CONF : Fld := ⟨.HD_EST_RES, 192, 8, .ro, .region, 0⟩
@[reducible] def HD_EST_RES_MODE : Fld := ⟨.HD_EST_RES, 200, 8, .ro, .region, 0⟩
@[reducible] def HD_EST_RES_STATUS : Fld := ⟨.HD_EST_RES, 208, 8, .ro, .region, 0⟩
@[reducible] def HD_EST_RES_NMEAS : Fld := ⟨.HD_EST_RES, 216, 8, .ro, .region, 0⟩
@[reducible] def HD_EST_RES_RESID : Fld := ⟨.HD_EST_RES, 224, 32, .ro, .region, 0⟩
@[reducible] def HD_EST_RES_SIGMA : Fld := ⟨.HD_EST_RES, 256, 32, .ro, .region, 0⟩
@[reducible] def HD_EST_RES_APPLIED : Fld := ⟨.HD_EST_RES, 288, 32, .ro, .region, 0⟩
@[reducible] def HD_EST_RES_DOFS : Fld := ⟨.HD_EST_RES, 320, 128, .ro, .region, 0⟩

/-! TC_TIME (Table 5-8). -/
@[reducible] def TC_TIME_SEC : Fld := ⟨.TC_TIME, 80, 48, .ro, .fawn, 0⟩
@[reducible] def TC_TIME_NS : Fld := ⟨.TC_TIME, 48, 30, .ro, .fawn, 0⟩
@[reducible] def TC_TIME_FRAC : Fld := ⟨.TC_TIME, 0, 32, .ro, .fawn, 0⟩

/-! TC_INCR (Table 5-9). -/
@[reducible] def TC_INCR_INC : Fld := ⟨.TC_INCR, 0, 48, .ro, .fawn, 0x14937D5DC2E6⟩

/-! TC_STATUS (Table 5-10). -/
@[reducible] def TC_STATUS_STEP_CNT : Fld := ⟨.TC_STATUS, 24, 8, .ro, .fawn, 0⟩
@[reducible] def TC_STATUS_LS_FAULT : Fld := ⟨.TC_STATUS, 23, 1, .ro, .fawn, 0⟩
@[reducible] def TC_STATUS_SWITCHING : Fld := ⟨.TC_STATUS, 22, 1, .ro, .fawn, 0⟩
@[reducible] def TC_STATUS_SET : Fld := ⟨.TC_STATUS, 21, 1, .ro, .fawn, 0⟩
@[reducible] def TC_STATUS_SET_REJ : Fld := ⟨.TC_STATUS, 20, 1, .w1c, .fawn, 0⟩
@[reducible] def TC_STATUS_RUNG : Fld := ⟨.TC_STATUS, 16, 4, .ro, .fawn, 3⟩
@[reducible] def TC_STATUS_SERVO : Fld := ⟨.TC_STATUS, 8, 4, .ro, .fawn, 0⟩
@[reducible] def TC_STATUS_SEL : Fld := ⟨.TC_STATUS, 4, 2, .ro, .fawn, 0⟩
@[reducible] def TC_STATUS_CLK_SRC : Fld := ⟨.TC_STATUS, 2, 2, .ro, .fawn, 0⟩

/-! TC_CTRL (Table 5-11). -/
@[reducible] def TC_CTRL_LS_RESYNC : Fld := ⟨.TC_CTRL, 5, 1, .wo, .fawn, 0⟩
@[reducible] def TC_CTRL_HOLD_REQ : Fld := ⟨.TC_CTRL, 4, 1, .rw, .fawn, 0⟩
@[reducible] def TC_CTRL_SEL_REQ : Fld := ⟨.TC_CTRL, 2, 2, .rw, .fawn, 0⟩
@[reducible] def TC_CTRL_STEP_ARM : Fld := ⟨.TC_CTRL, 0, 1, .rw, .fawn, 0⟩

/-! TC_SET (Table 5-12). -/
@[reducible] def TC_SET_GO : Fld := ⟨.TC_SET, 127, 1, .wo, .fawn, 0⟩
@[reducible] def TC_SET_SEC : Fld := ⟨.TC_SET, 64, 48, .rw, .fawn, 0⟩
@[reducible] def TC_SET_NS : Fld := ⟨.TC_SET, 32, 30, .rw, .fawn, 0⟩

/-! TC_DOM_STATUS (Table 5-13). -/
@[reducible] def TC_DOM_STATUS_CAUSE : Fld := ⟨.TC_DOM_STATUS, 28, 4, .ro, .fawn, 8⟩
@[reducible] def TC_DOM_STATUS_JUMP : Fld := ⟨.TC_DOM_STATUS, 27, 1, .w1c, .fawn, 0⟩
@[reducible] def TC_DOM_STATUS_QUAL : Fld := ⟨.TC_DOM_STATUS, 26, 1, .ro, .fawn, 0⟩
@[reducible] def TC_DOM_STATUS_STATE : Fld := ⟨.TC_DOM_STATUS, 24, 2, .ro, .fawn, 0⟩
@[reducible] def TC_DOM_STATUS_RT_SRC : Fld := ⟨.TC_DOM_STATUS, 16, 2, .ro, .fawn, 0⟩
@[reducible] def TC_DOM_STATUS_THETA : Fld := ⟨.TC_DOM_STATUS, 64, 64, .ro, .fawn, 0⟩
@[reducible] def TC_DOM_STATUS_RT_F : Fld := ⟨.TC_DOM_STATUS, 128, 64, .ro, .fawn, 0⟩
@[reducible] def TC_DOM_STATUS_SFC_N : Fld := ⟨.TC_DOM_STATUS, 192, 51, .ro, .fawn, 0⟩

/-! TC_TODA_IN (Table 5-14). -/
@[reducible] def TC_TODA_IN_GO : Fld := ⟨.TC_TODA_IN, 127, 1, .wo, .fawn, 0⟩
@[reducible] def TC_TODA_IN_SEC : Fld := ⟨.TC_TODA_IN, 64, 48, .ws, .fawn, 0⟩
@[reducible] def TC_TODA_IN_NS : Fld := ⟨.TC_TODA_IN, 32, 30, .ws, .fawn, 0⟩
@[reducible] def TC_TODA_IN_SFC_LO : Fld := ⟨.TC_TODA_IN, 0, 32, .ws, .fawn, 0⟩

/-! TC_HOLD (Table 5-15). -/
@[reducible] def TC_HOLD_ELAPSED_S : Fld := ⟨.TC_HOLD, 32, 32, .ro, .fawn, 0⟩
@[reducible] def TC_HOLD_LEARNED_S : Fld := ⟨.TC_HOLD, 0, 32, .ro, .fawn, 0⟩
@[reducible] def TC_HOLD_THETA_PPS : Fld := ⟨.TC_HOLD, 64, 64, .ro, .fawn, 0x8000000000000000⟩
@[reducible] def TC_HOLD_THETA_OSC : Fld := ⟨.TC_HOLD, 128, 64, .ro, .fawn, 0⟩
@[reducible] def TC_HOLD_R_PPT : Fld := ⟨.TC_HOLD, 224, 32, .ro, .fawn, 0⟩
@[reducible] def TC_HOLD_Q_PPT : Fld := ⟨.TC_HOLD, 192, 32, .ro, .fawn, 0⟩

/-! TC_CMP_CNT (Table 5-16). -/
@[reducible] def TC_CMP_CNT_SKIP : Fld := ⟨.TC_CMP_CNT, 16, 16, .rc, .fawn, 0⟩
@[reducible] def TC_CMP_CNT_ARMED : Fld := ⟨.TC_CMP_CNT, 0, 1, .ro, .fawn, 0⟩

/-! TC_PIN_STAT (Table 5-16). -/
@[reducible] def TC_PIN_STAT_CAP_DROP : Fld := ⟨.TC_PIN_STAT, 16, 16, .rc, .fawn, 0⟩
@[reducible] def TC_PIN_STAT_FIFO_LVL : Fld := ⟨.TC_PIN_STAT, 8, 8, .ro, .fawn, 0⟩
@[reducible] def TC_PIN_STAT_SQUELCHED : Fld := ⟨.TC_PIN_STAT, 7, 1, .ro, .fawn, 0⟩

/-! TS_PORT_STATUS (Table 6-7). -/
@[reducible] def TS_PORT_STATUS_ACTION_ON : Fld := ⟨.TS_PORT_STATUS, 11, 1, .ro, .region, 0⟩
@[reducible] def TS_PORT_STATUS_RUNG : Fld := ⟨.TS_PORT_STATUS, 8, 3, .ro, .region, 3⟩
@[reducible] def TS_PORT_STATUS_ST_PASS : Fld := ⟨.TS_PORT_STATUS, 4, 1, .ro, .region, 0⟩
@[reducible] def TS_PORT_STATUS_LINK : Fld := ⟨.TS_PORT_STATUS, 3, 1, .ro, .region, 0⟩
@[reducible] def TS_PORT_STATUS_STATE : Fld := ⟨.TS_PORT_STATUS, 0, 2, .ro, .region, 0⟩

/-! TS_LAT (Table 6-8). -/
@[reducible] def TS_LAT_VALID : Fld := ⟨.TS_LAT, 63, 1, .ro, .region, 0⟩
@[reducible] def TS_LAT_RX : Fld := ⟨.TS_LAT, 28, 28, .ro, .region, 0⟩
@[reducible] def TS_LAT_TX : Fld := ⟨.TS_LAT, 0, 28, .ro, .region, 0⟩

/-! TS_SELFTEST (Table 6-9). -/
@[reducible] def TS_SELFTEST_FAILS : Fld := ⟨.TS_SELFTEST, 16, 16, .rc, .region, 0⟩
@[reducible] def TS_SELFTEST_DEV : Fld := ⟨.TS_SELFTEST, 0, 16, .ro, .region, 0⟩

/-! TS_CNT (Table 6-10). -/
@[reducible] def TS_CNT_SYNC_TX : Fld := ⟨.TS_CNT, 0, 32, .rc, .region, 0⟩
@[reducible] def TS_CNT_ANN_TX : Fld := ⟨.TS_CNT, 32, 32, .rc, .region, 0⟩
@[reducible] def TS_CNT_DRESP_TX : Fld := ⟨.TS_CNT, 64, 32, .rc, .region, 0⟩
@[reducible] def TS_CNT_PTP_DISC : Fld := ⟨.TS_CNT, 96, 32, .rc, .region, 0⟩
@[reducible] def TS_CNT_DREQ_LIMIT : Fld := ⟨.TS_CNT, 128, 32, .rc, .region, 0⟩
@[reducible] def TS_CNT_NTP_TX : Fld := ⟨.TS_CNT, 160, 32, .rc, .region, 0⟩
@[reducible] def TS_CNT_NTP_DISC : Fld := ⟨.TS_CNT, 192, 32, .rc, .region, 0⟩
@[reducible] def TS_CNT_NTP_LIMIT : Fld := ⟨.TS_CNT, 224, 32, .rc, .region, 0⟩
@[reducible] def TS_CNT_NTP_SUPP : Fld := ⟨.TS_CNT, 256, 32, .rc, .region, 0⟩
@[reducible] def TS_CNT_SYNC_SUPP : Fld := ⟨.TS_CNT, 288, 32, .rc, .region, 0⟩
@[reducible] def TS_CNT_PTP_SUPP : Fld := ⟨.TS_CNT, 320, 32, .rc, .region, 0⟩
@[reducible] def TS_CNT_Q_FULL : Fld := ⟨.TS_CNT, 352, 32, .rc, .region, 0⟩
@[reducible] def TS_CNT_TX_LATE : Fld := ⟨.TS_CNT, 384, 32, .rc, .region, 0⟩
@[reducible] def TS_CNT_NOLAT : Fld := ⟨.TS_CNT, 416, 32, .rc, .region, 0⟩
@[reducible] def TS_CNT_ESMC_RX : Fld := ⟨.TS_CNT, 448, 32, .rc, .region, 0⟩
@[reducible] def TS_CNT_ST_SKIP : Fld := ⟨.TS_CNT, 496, 16, .rc, .region, 0⟩

/-! TM_HOME_STATUS (Table 7-6). -/
@[reducible] def TM_HOME_STATUS_STATE : Fld := ⟨.TM_HOME_STATUS, 24, 3, .ro, .region, 4⟩
@[reducible] def TM_HOME_STATUS_TARGET : Fld := ⟨.TM_HOME_STATUS, 16, 1, .ro, .region, 0⟩
@[reducible] def TM_HOME_STATUS_MOVES : Fld := ⟨.TM_HOME_STATUS, 0, 16, .rc, .region, 0⟩

/-! TM_REPL_STAT (Table 7-7). -/
@[reducible] def TM_REPL_STAT_REPL_SKIP : Fld := ⟨.TM_REPL_STAT, 16, 16, .rc, .region, 0⟩
@[reducible] def TM_REPL_STAT_TOO_LONG : Fld := ⟨.TM_REPL_STAT, 0, 16, .rc, .region, 0⟩

/-! TM_FRER_CNT (Table 7-10). -/
@[reducible] def TM_FRER_CNT_PASSED : Fld := ⟨.TM_FRER_CNT, 0, 32, .rc, .region, 0⟩
@[reducible] def TM_FRER_CNT_DUPLICATE : Fld := ⟨.TM_FRER_CNT, 32, 32, .rc, .region, 0⟩
@[reducible] def TM_FRER_CNT_ROGUE : Fld := ⟨.TM_FRER_CNT, 64, 32, .rc, .region, 0⟩
@[reducible] def TM_FRER_CNT_RESETS : Fld := ⟨.TM_FRER_CNT, 96, 32, .rc, .region, 0⟩

/-! BM_BRIDGE_CFG (Table 7-11). -/
@[reducible] def BM_BRIDGE_CFG_SIZE_ACT : Fld := ⟨.BM_BRIDGE_CFG, 16, 7, .ro, .chip, 0⟩
@[reducible] def BM_BRIDGE_CFG_SIZE_PEND : Fld := ⟨.BM_BRIDGE_CFG, 0, 7, .rw, .chip, 0⟩

/-! BM_BRIDGE_STATUS (Table 7-12). -/
@[reducible] def BM_BRIDGE_STATUS_USED_MIB : Fld := ⟨.BM_BRIDGE_STATUS, 0, 17, .ro, .region, 0⟩

/-! BM_BRIDGE_FIFO (Table 7-13). -/
@[reducible] def BM_BRIDGE_FIFO_FRAMES : Fld := ⟨.BM_BRIDGE_FIFO, 0, 32, .ro, .region, 0⟩
@[reducible] def BM_BRIDGE_FIFO_USED_MIB : Fld := ⟨.BM_BRIDGE_FIFO, 32, 32, .ro, .region, 0⟩
@[reducible] def BM_BRIDGE_FIFO_DROPS : Fld := ⟨.BM_BRIDGE_FIFO, 64, 32, .rc, .region, 0⟩
@[reducible] def BM_BRIDGE_FIFO_AGED : Fld := ⟨.BM_BRIDGE_FIFO, 96, 32, .rc, .region, 0⟩

/-! PF_LANE_CTRL (Table 8-7). -/
@[reducible] def PF_LANE_CTRL_PATTERN : Fld := ⟨.PF_LANE_CTRL, 8, 4, .rw, .region, 0⟩
@[reducible] def PF_LANE_CTRL_LOOPBACK : Fld := ⟨.PF_LANE_CTRL, 4, 2, .rw, .region, 0⟩
@[reducible] def PF_LANE_CTRL_RX_POL : Fld := ⟨.PF_LANE_CTRL, 1, 1, .rw, .region, 0⟩
@[reducible] def PF_LANE_CTRL_TX_POL : Fld := ⟨.PF_LANE_CTRL, 0, 1, .rw, .region, 0⟩

/-! PF_LANE_EQ (Table 8-8). -/
@[reducible] def PF_LANE_EQ_TX_POST : Fld := ⟨.PF_LANE_EQ, 28, 4, .rw, .region, 4⟩
@[reducible] def PF_LANE_EQ_TX_PRE : Fld := ⟨.PF_LANE_EQ, 24, 3, .rw, .region, 0⟩
@[reducible] def PF_LANE_EQ_TX_AMP : Fld := ⟨.PF_LANE_EQ, 16, 4, .rw, .region, 0xA⟩
@[reducible] def PF_LANE_EQ_EQ_RESET : Fld := ⟨.PF_LANE_EQ, 12, 1, .wo, .region, 0⟩
@[reducible] def PF_LANE_EQ_DFE_MODE : Fld := ⟨.PF_LANE_EQ, 8, 1, .rw, .region, 0⟩
@[reducible] def PF_LANE_EQ_CTLE_PEAK : Fld := ⟨.PF_LANE_EQ, 0, 6, .rw, .region, 0x10⟩

/-! PF_LANE_STATUS (Table 8-9). -/
@[reducible] def PF_LANE_STATUS_PWR : Fld := ⟨.PF_LANE_STATUS, 26, 2, .ro, .region, 0⟩
@[reducible] def PF_LANE_STATUS_ISOLATED : Fld := ⟨.PF_LANE_STATUS, 23, 1, .ro, .region, 0⟩
@[reducible] def PF_LANE_STATUS_RECAL : Fld := ⟨.PF_LANE_STATUS, 22, 1, .ro, .region, 0⟩
@[reducible] def PF_LANE_STATUS_PRBS_LOCK : Fld := ⟨.PF_LANE_STATUS, 21, 1, .ro, .region, 0⟩
@[reducible] def PF_LANE_STATUS_TEST : Fld := ⟨.PF_LANE_STATUS, 20, 1, .ro, .region, 0⟩
@[reducible] def PF_LANE_STATUS_ALIGN_LOCK : Fld := ⟨.PF_LANE_STATUS, 15, 1, .ro, .region, 0⟩
@[reducible] def PF_LANE_STATUS_REM_FAULT_RX : Fld := ⟨.PF_LANE_STATUS, 14, 1, .ro, .region, 0⟩
@[reducible] def PF_LANE_STATUS_LOC_FAULT_RX : Fld := ⟨.PF_LANE_STATUS, 13, 1, .ro, .region, 0⟩
@[reducible] def PF_LANE_STATUS_HI_BER : Fld := ⟨.PF_LANE_STATUS, 12, 1, .ro, .region, 0⟩
@[reducible] def PF_LANE_STATUS_BLOCK_LOCK : Fld := ⟨.PF_LANE_STATUS, 11, 1, .ro, .region, 0⟩
@[reducible] def PF_LANE_STATUS_EQ_CONV : Fld := ⟨.PF_LANE_STATUS, 10, 1, .ro, .region, 0⟩
@[reducible] def PF_LANE_STATUS_CDR_LOCK : Fld := ⟨.PF_LANE_STATUS, 9, 1, .ro, .region, 0⟩
@[reducible] def PF_LANE_STATUS_SIG_DET : Fld := ⟨.PF_LANE_STATUS, 8, 1, .ro, .region, 0⟩
@[reducible] def PF_LANE_STATUS_LINK : Fld := ⟨.PF_LANE_STATUS, 0, 1, .ro, .region, 0⟩

/-! PF_PRBS_CNT (Table 8-10). -/
@[reducible] def PF_PRBS_CNT_ERR : Fld := ⟨.PF_PRBS_CNT, 0, 32, .rc, .region, 0⟩

/-! PF_MAC_CNT (Table 8-11). -/
@[reducible] def PF_MAC_CNT_RX_OCTETS : Fld := ⟨.PF_MAC_CNT, 0, 64, .rc, .region, 0⟩
@[reducible] def PF_MAC_CNT_TX_OCTETS : Fld := ⟨.PF_MAC_CNT, 64, 64, .rc, .region, 0⟩
@[reducible] def PF_MAC_CNT_RX_FRAMES : Fld := ⟨.PF_MAC_CNT, 128, 32, .rc, .region, 0⟩
@[reducible] def PF_MAC_CNT_TX_FRAMES : Fld := ⟨.PF_MAC_CNT, 160, 32, .rc, .region, 0⟩
@[reducible] def PF_MAC_CNT_RX_FCS : Fld := ⟨.PF_MAC_CNT, 192, 32, .rc, .region, 0⟩
@[reducible] def PF_MAC_CNT_RX_RUNT : Fld := ⟨.PF_MAC_CNT, 224, 32, .rc, .region, 0⟩
@[reducible] def PF_MAC_CNT_RX_OVERSIZE : Fld := ⟨.PF_MAC_CNT, 256, 32, .rc, .region, 0⟩
@[reducible] def PF_MAC_CNT_RX_CODE : Fld := ⟨.PF_MAC_CNT, 288, 32, .rc, .region, 0⟩
@[reducible] def PF_MAC_CNT_RX_FIFO_DROP : Fld := ⟨.PF_MAC_CNT, 320, 32, .rc, .region, 0⟩
@[reducible] def PF_MAC_CNT_RX_PAUSE : Fld := ⟨.PF_MAC_CNT, 352, 32, .rc, .region, 0⟩
@[reducible] def PF_MAC_CNT_RX_MACCTL : Fld := ⟨.PF_MAC_CNT, 384, 32, .rc, .region, 0⟩
@[reducible] def PF_MAC_CNT_TX_PAUSE : Fld := ⟨.PF_MAC_CNT, 416, 32, .rc, .region, 0⟩
@[reducible] def PF_MAC_CNT_TX_ERR_DROP : Fld := ⟨.PF_MAC_CNT, 448, 32, .rc, .region, 0⟩

/-! PF_QUAD_CFG (Table 8-12). -/
@[reducible] def PF_QUAD_CFG_FEC : Fld := ⟨.PF_QUAD_CFG, 16, 1, .rw, .chip, 0⟩
@[reducible] def PF_QUAD_CFG_MODE : Fld := ⟨.PF_QUAD_CFG, 12, 1, .ro, .chip, 0⟩
@[reducible] def PF_QUAD_CFG_RATE : Fld := ⟨.PF_QUAD_CFG, 8, 1, .ro, .chip, 0⟩
@[reducible] def PF_QUAD_CFG_MODE_PEND : Fld := ⟨.PF_QUAD_CFG, 4, 1, .rw, .chip, 0⟩
@[reducible] def PF_QUAD_CFG_RATE_PEND : Fld := ⟨.PF_QUAD_CFG, 0, 1, .rw, .chip, 0⟩

/-! PF_QUAD_CNT (Table 8-13). -/
@[reducible] def PF_QUAD_CNT_CW_CORR : Fld := ⟨.PF_QUAD_CNT, 0, 32, .rc, .region, 0⟩
@[reducible] def PF_QUAD_CNT_CW_UNCORR : Fld := ⟨.PF_QUAD_CNT, 32, 32, .rc, .region, 0⟩
@[reducible] def PF_QUAD_CNT_DESKEW_FAIL : Fld := ⟨.PF_QUAD_CNT, 64, 32, .rc, .region, 0⟩
@[reducible] def PF_QUAD_CNT_SKEW : Fld := ⟨.PF_QUAD_CNT, 96, 32, .ro, .region, 0⟩

/-! PF_RECAL_STATUS (Table 8-14). -/
@[reducible] def PF_RECAL_STATUS_BUSY : Fld := ⟨.PF_RECAL_STATUS, 31, 1, .ro, .region, 0⟩
@[reducible] def PF_RECAL_STATUS_FAIL : Fld := ⟨.PF_RECAL_STATUS, 16, 1, .ro, .region, 0⟩
@[reducible] def PF_RECAL_STATUS_LANE : Fld := ⟨.PF_RECAL_STATUS, 0, 7, .ro, .region, 0⟩

/-! PP_ENG_STATUS (Table 9-15). -/
@[reducible] def PP_ENG_STATUS_CLU_IN_SERVICE : Fld := ⟨.PP_ENG_STATUS, 48, 6, .ro, .region, 0⟩
@[reducible] def PP_ENG_STATUS_ENG_IN_SERVICE : Fld := ⟨.PP_ENG_STATUS, 0, 48, .ro, .region, 0⟩

/-! PP_PROG_STATUS (Table 9-16). -/
@[reducible] def PP_PROG_STATUS_CRC : Fld := ⟨.PP_PROG_STATUS, 32, 32, .ro, .region, 0⟩
@[reducible] def PP_PROG_STATUS_COUNT : Fld := ⟨.PP_PROG_STATUS, 0, 14, .ro, .region, 0⟩

/-! PP_CNT (Table 9-17). -/
@[reducible] def PP_CNT_WINDOW : Fld := ⟨.PP_CNT, 0, 32, .rc, .region, 0⟩
@[reducible] def PP_CNT_MARKERS : Fld := ⟨.PP_CNT, 32, 32, .rc, .region, 0⟩
@[reducible] def PP_CNT_BUDGET : Fld := ⟨.PP_CNT, 64, 32, .rc, .region, 0⟩
@[reducible] def PP_CNT_PASSES : Fld := ⟨.PP_CNT, 96, 32, .rc, .region, 0⟩
@[reducible] def PP_CNT_PARTIAL : Fld := ⟨.PP_CNT, 128, 32, .rc, .region, 0⟩
@[reducible] def PP_CNT_GREATER : Fld := ⟨.PP_CNT, 256, 32, .rc, .region, 0⟩
@[reducible] def PP_CNT_LESS : Fld := ⟨.PP_CNT, 288, 32, .rc, .region, 0⟩
@[reducible] def PP_CNT_INNER : Fld := ⟨.PP_CNT, 320, 32, .rc, .region, 0⟩
@[reducible] def PP_CNT_PUNTED : Fld := ⟨.PP_CNT, 352, 32, .rc, .region, 0⟩
@[reducible] def PP_CNT_REDISPATCH : Fld := ⟨.PP_CNT, 416, 32, .rc, .region, 0⟩
@[reducible] def PP_CNT_NO_DEST : Fld := ⟨.PP_CNT, 400, 16, .rc, .region, 0⟩
@[reducible] def PP_CNT_BAD_DEST : Fld := ⟨.PP_CNT, 384, 16, .rc, .region, 0⟩

/-! PP_DROP_CNT (Table 9-18). -/
@[reducible] def PP_DROP_CNT_DROPS : Fld := ⟨.PP_DROP_CNT, 0, 32, .rc, .region, 0⟩

/-! PP_XGEM_CNT (Table 9-18). -/
@[reducible] def PP_XGEM_CNT_MISS : Fld := ⟨.PP_XGEM_CNT, 0, 32, .rc, .region, 0⟩
@[reducible] def PP_XGEM_CNT_MGMT : Fld := ⟨.PP_XGEM_CNT, 32, 32, .rc, .region, 0⟩

/-! PP_TBL_STAT (Table 9-18). -/
@[reducible] def PP_TBL_STAT_USED : Fld := ⟨.PP_TBL_STAT, 0, 17, .ro, .region, 0⟩
@[reducible] def PP_TBL_STAT_ECC_MISS : Fld := ⟨.PP_TBL_STAT, 32, 32, .rc, .region, 0⟩

/-! PP_TBL_SEED (Table 9-18b). -/
@[reducible] def PP_TBL_SEED_SEED_H2_PEND : Fld := ⟨.PP_TBL_SEED, 96, 32, .rw, .chip, 0x1EDC6F41⟩
@[reducible] def PP_TBL_SEED_SEED_H1_PEND : Fld := ⟨.PP_TBL_SEED, 64, 32, .rw, .chip, 0xFFFFFFFF⟩
@[reducible] def PP_TBL_SEED_SEED_H2 : Fld := ⟨.PP_TBL_SEED, 32, 32, .ro, .chip, 0x1EDC6F41⟩
@[reducible] def PP_TBL_SEED_SEED_H1 : Fld := ⟨.PP_TBL_SEED, 0, 32, .ro, .chip, 0xFFFFFFFF⟩

/-! PP_EXC_CNT. -/
@[reducible] def PP_EXC_CNT_SENT : Fld := ⟨.PP_EXC_CNT, 0, 32, .rc, .region, 0⟩
@[reducible] def PP_EXC_CNT_DROPPED : Fld := ⟨.PP_EXC_CNT, 32, 32, .rc, .region, 0⟩

/-! TM_Q_STATUS (Table 10-13). -/
@[reducible] def TM_Q_STATUS_ELIG : Fld := ⟨.TM_Q_STATUS, 49, 1, .ro, .region, 0⟩
@[reducible] def TM_Q_STATUS_PROMOTED : Fld := ⟨.TM_Q_STATUS, 48, 1, .ro, .region, 0⟩
@[reducible] def TM_Q_STATUS_FRAMES : Fld := ⟨.TM_Q_STATUS, 32, 16, .ro, .region, 0⟩
@[reducible] def TM_Q_STATUS_FILL : Fld := ⟨.TM_Q_STATUS, 0, 32, .ro, .region, 0⟩

/-! TM_Q_CNT (Table 10-14). -/
@[reducible] def TM_Q_CNT_SENT : Fld := ⟨.TM_Q_CNT, 0, 32, .rc, .region, 0⟩
@[reducible] def TM_Q_CNT_TAIL_DROP : Fld := ⟨.TM_Q_CNT, 32, 32, .rc, .region, 0⟩
@[reducible] def TM_Q_CNT_DP_DROP : Fld := ⟨.TM_Q_CNT, 64, 32, .rc, .region, 0⟩
@[reducible] def TM_Q_CNT_PROMOTED : Fld := ⟨.TM_Q_CNT, 112, 16, .rc, .region, 0⟩
@[reducible] def TM_Q_CNT_DOWN_DROP : Fld := ⟨.TM_Q_CNT, 96, 16, .rc, .region, 0⟩

/-! TM_UP_CNT (Table 10-15). -/
@[reducible] def TM_UP_CNT_BUFOCC : Fld := ⟨.TM_UP_CNT, 0, 32, .ro, .region, 0⟩
@[reducible] def TM_UP_CNT_UNDERFILL : Fld := ⟨.TM_UP_CNT, 32, 32, .rc, .region, 0⟩
@[reducible] def TM_UP_CNT_FRAGS : Fld := ⟨.TM_UP_CNT, 64, 32, .rc, .region, 0⟩
@[reducible] def TM_UP_CNT_STAGED : Fld := ⟨.TM_UP_CNT, 96, 32, .ro, .region, 0⟩

/-! TM_POL_CNT (Table 10-17). -/
@[reducible] def TM_POL_CNT_GREEN : Fld := ⟨.TM_POL_CNT, 0, 32, .rc, .region, 0⟩
@[reducible] def TM_POL_CNT_YELLOW : Fld := ⟨.TM_POL_CNT, 32, 32, .rc, .region, 0⟩
@[reducible] def TM_POL_CNT_RED : Fld := ⟨.TM_POL_CNT, 64, 32, .rc, .region, 0⟩

/-! TM_BP_STATUS (Table 10-16). -/
@[reducible] def TM_BP_STATUS_ASSERTED : Fld := ⟨.TM_BP_STATUS, 0, 32, .ro, .region, 0⟩

/-! TM_ING_DROP (Table 10-16). -/
@[reducible] def TM_ING_DROP_DROPS : Fld := ⟨.TM_ING_DROP, 0, 32, .rc, .region, 0⟩

/-! BM_MEM_CFG (Table 11-8). -/
@[reducible] def BM_MEM_CFG_SPEED_PEND : Fld := ⟨.BM_MEM_CFG, 18, 2, .rw, .chip, 3⟩
@[reducible] def BM_MEM_CFG_DENS_PEND : Fld := ⟨.BM_MEM_CFG, 16, 2, .rw, .chip, 3⟩
@[reducible] def BM_MEM_CFG_SPARE_PEND : Fld := ⟨.BM_MEM_CFG, 8, 4, .rw, .chip, 0xF⟩
@[reducible] def BM_MEM_CFG_CH_EN_PEND : Fld := ⟨.BM_MEM_CFG, 0, 8, .rw, .chip, 0⟩

/-! BM_MEM_STATUS (Table 11-9). -/
@[reducible] def BM_MEM_STATUS_CH_STATE : Fld := ⟨.BM_MEM_STATUS, 0, 32, .ro, .region, 0⟩

/-! BM_MEM_GEOM (Table 11-10). -/
@[reducible] def BM_MEM_GEOM_CAP_GIB : Fld := ⟨.BM_MEM_GEOM, 16, 8, .ro, .region, 0⟩
@[reducible] def BM_MEM_GEOM_N_ACTIVE : Fld := ⟨.BM_MEM_GEOM, 12, 4, .ro, .region, 0⟩
@[reducible] def BM_MEM_GEOM_SPEED : Fld := ⟨.BM_MEM_GEOM, 10, 2, .ro, .region, 0⟩
@[reducible] def BM_MEM_GEOM_DENS : Fld := ⟨.BM_MEM_GEOM, 8, 2, .ro, .region, 0⟩

/-! BM_SCRUB_CFG (Table 11-11). -/
@[reducible] def BM_SCRUB_CFG_SCRUB_H : Fld := ⟨.BM_SCRUB_CFG, 0, 8, .rw, .region, 0x18⟩

/-! BM_OCB_STATUS (Table 11-12). -/
@[reducible] def BM_OCB_STATUS_CORR : Fld := ⟨.BM_OCB_STATUS, 48, 16, .rc, .region, 0⟩
@[reducible] def BM_OCB_STATUS_BANKS : Fld := ⟨.BM_OCB_STATUS, 0, 48, .ro, .region, 0⟩

/-! BM_ECC_CNT (Table 11-13). -/
@[reducible] def BM_ECC_CNT_CORR : Fld := ⟨.BM_ECC_CNT, 0, 32, .rc, .region, 0⟩
@[reducible] def BM_ECC_CNT_UNCORR : Fld := ⟨.BM_ECC_CNT, 32, 32, .rc, .region, 0⟩
@[reducible] def BM_ECC_CNT_POISON_RD : Fld := ⟨.BM_ECC_CNT, 64, 32, .rc, .region, 0⟩

/-! BM_REPAIR_LOG (Table 11-14). -/
@[reducible] def BM_REPAIR_LOG_VALID : Fld := ⟨.BM_REPAIR_LOG, 63, 1, .ro, .chip, 0⟩
@[reducible] def BM_REPAIR_LOG_SUBCH : Fld := ⟨.BM_REPAIR_LOG, 23, 1, .ro, .chip, 0⟩
@[reducible] def BM_REPAIR_LOG_BANK : Fld := ⟨.BM_REPAIR_LOG, 18, 5, .ro, .chip, 0⟩
@[reducible] def BM_REPAIR_LOG_ROW : Fld := ⟨.BM_REPAIR_LOG, 0, 18, .ro, .chip, 0⟩

/-! BM_POOL_STATUS (Table 11-16). -/
@[reducible] def BM_POOL_STATUS_FREE : Fld := ⟨.BM_POOL_STATUS, 0, 32, .ro, .region, 0⟩
@[reducible] def BM_POOL_STATUS_DRAINING : Fld := ⟨.BM_POOL_STATUS, 50, 1, .ro, .region, 0⟩
@[reducible] def BM_POOL_STATUS_FILLING : Fld := ⟨.BM_POOL_STATUS, 49, 1, .ro, .region, 0⟩
@[reducible] def BM_POOL_STATUS_ENABLED : Fld := ⟨.BM_POOL_STATUS, 48, 1, .ro, .region, 0⟩
@[reducible] def BM_POOL_STATUS_CACHED : Fld := ⟨.BM_POOL_STATUS, 32, 10, .ro, .region, 0⟩
@[reducible] def BM_POOL_STATUS_ALLOC_FAIL : Fld := ⟨.BM_POOL_STATUS, 64, 32, .rc, .region, 0⟩
@[reducible] def BM_POOL_STATUS_SPILLS : Fld := ⟨.BM_POOL_STATUS, 96, 32, .rc, .region, 0⟩
@[reducible] def BM_POOL_STATUS_REJECT : Fld := ⟨.BM_POOL_STATUS, 128, 32, .rc, .region, 0⟩
@[reducible] def BM_POOL_STATUS_RING_ERR : Fld := ⟨.BM_POOL_STATUS, 176, 16, .rc, .region, 0⟩
@[reducible] def BM_POOL_STATUS_QUARANTINED : Fld := ⟨.BM_POOL_STATUS, 160, 16, .rc, .region, 0⟩
@[reducible] def BM_POOL_STATUS_LEAKED : Fld := ⟨.BM_POOL_STATUS, 192, 32, .ro, .region, 0⟩

/-! BM_REJ_LAST (Table 11-17). -/
@[reducible] def BM_REJ_LAST_STATUS : Fld := ⟨.BM_REJ_LAST, 56, 8, .ro, .region, 0⟩
@[reducible] def BM_REJ_LAST_SOURCE : Fld := ⟨.BM_REJ_LAST, 48, 8, .ro, .region, 0⟩
@[reducible] def BM_REJ_LAST_PTR : Fld := ⟨.BM_REJ_LAST, 0, 40, .ro, .region, 0⟩

/-! CX_KS_STATUS (Table 12-11). -/
@[reducible] def CX_KS_STATUS_ALARM : Fld := ⟨.CX_KS_STATUS, 31, 1, .ro, .keyStore, 0⟩
@[reducible] def CX_KS_STATUS_CAUSE : Fld := ⟨.CX_KS_STATUS, 28, 3, .ro, .keyStore, 0⟩
@[reducible] def CX_KS_STATUS_TRNG_OK : Fld := ⟨.CX_KS_STATUS, 27, 1, .ro, .keyStore, 0⟩
@[reducible] def CX_KS_STATUS_DKEK_VALID : Fld := ⟨.CX_KS_STATUS, 26, 1, .ro, .keyStore, 0⟩
@[reducible] def CX_KS_STATUS_SLOTS_USED : Fld := ⟨.CX_KS_STATUS, 0, 14, .ro, .keyStore, 0⟩

/-! CX_KS_CTRL (Table 12-12). -/
@[reducible] def CX_KS_CTRL_ZEROISE : Fld := ⟨.CX_KS_CTRL, 1, 1, .wo, .keyStore, 0⟩
@[reducible] def CX_KS_CTRL_ALARM_CLR : Fld := ⟨.CX_KS_CTRL, 0, 1, .wo, .keyStore, 0⟩

/-! CX_LANE_STATUS (Table 12-13). -/
@[reducible] def CX_LANE_STATUS_IN_SERVICE : Fld := ⟨.CX_LANE_STATUS, 0, 128, .ro, .region, 0⟩

/-! CX_CLU_STATUS. -/
@[reducible] def CX_CLU_STATUS_IN_SERVICE : Fld := ⟨.CX_CLU_STATUS, 0, 8, .ro, .region, 0xFF⟩

/-! CX_LANE_CNT (Table 12-14). -/
@[reducible] def CX_LANE_CNT_MISMATCH : Fld := ⟨.CX_LANE_CNT, 0, 32, .rc, .region, 0⟩
@[reducible] def CX_LANE_CNT_RETRY_FAIL : Fld := ⟨.CX_LANE_CNT, 32, 32, .rc, .region, 0⟩
@[reducible] def CX_LANE_CNT_STALE_GEN : Fld := ⟨.CX_LANE_CNT, 64, 32, .rc, .region, 0⟩
@[reducible] def CX_LANE_CNT_KEY_ABSENT : Fld := ⟨.CX_LANE_CNT, 96, 32, .rc, .region, 0⟩

/-! CX_PON_CNT (Table 12-15). -/
@[reducible] def CX_PON_CNT_DS_DECRYPT : Fld := ⟨.CX_PON_CNT, 0, 32, .rc, .region, 0⟩
@[reducible] def CX_PON_CNT_DS_KEY_ABSENT : Fld := ⟨.CX_PON_CNT, 32, 32, .rc, .region, 0⟩
@[reducible] def CX_PON_CNT_DS_CLEAR_DROP : Fld := ⟨.CX_PON_CNT, 64, 32, .rc, .region, 0⟩
@[reducible] def CX_PON_CNT_US_ENCRYPT : Fld := ⟨.CX_PON_CNT, 96, 32, .rc, .region, 0⟩
@[reducible] def CX_PON_CNT_US_KEY_ABSENT : Fld := ⟨.CX_PON_CNT, 128, 32, .rc, .region, 0⟩

/-! CX_PORT_CNT (Table 12-16). -/
@[reducible] def CX_PORT_CNT_NOSC : Fld := ⟨.CX_PORT_CNT, 0, 32, .rc, .region, 0⟩
@[reducible] def CX_PORT_CNT_UNTAGGED : Fld := ⟨.CX_PORT_CNT, 32, 32, .rc, .region, 0⟩
@[reducible] def CX_PORT_CNT_TOO_LONG : Fld := ⟨.CX_PORT_CNT, 64, 32, .rc, .region, 0⟩

/-! CX_SLOT_ATTR (Table 12-17). -/
@[reducible] def CX_SLOT_ATTR_GEN : Fld := ⟨.CX_SLOT_ATTR, 48, 16, .ro, .keyStore, 0⟩
@[reducible] def CX_SLOT_ATTR_STATE : Fld := ⟨.CX_SLOT_ATTR, 40, 2, .ro, .keyStore, 0⟩
@[reducible] def CX_SLOT_ATTR_ORIGIN : Fld := ⟨.CX_SLOT_ATTR, 32, 2, .ro, .keyStore, 0⟩
@[reducible] def CX_SLOT_ATTR_EXPORTABLE : Fld := ⟨.CX_SLOT_ATTR, 16, 1, .ro, .keyStore, 0⟩
@[reducible] def CX_SLOT_ATTR_USE : Fld := ⟨.CX_SLOT_ATTR, 8, 5, .ro, .keyStore, 0⟩
@[reducible] def CX_SLOT_ATTR_TYPE : Fld := ⟨.CX_SLOT_ATTR, 0, 1, .ro, .keyStore, 0⟩

/-! CX_SC_CNT (Table 12-18). -/
@[reducible] def CX_SC_CNT_OK : Fld := ⟨.CX_SC_CNT, 0, 32, .rc, .region, 0⟩
@[reducible] def CX_SC_CNT_NOT_VALID : Fld := ⟨.CX_SC_CNT, 32, 32, .rc, .region, 0⟩
@[reducible] def CX_SC_CNT_LATE : Fld := ⟨.CX_SC_CNT, 64, 32, .rc, .region, 0⟩
@[reducible] def CX_SC_CNT_NOSA : Fld := ⟨.CX_SC_CNT, 96, 32, .rc, .region, 0⟩

/-! SV_LIST_STAT (Table 13-9). -/
@[reducible] def SV_LIST_STAT_MAX_DEPTH : Fld := ⟨.SV_LIST_STAT, 16, 16, .ro, .region, 0⟩
@[reducible] def SV_LIST_STAT_DEPTH : Fld := ⟨.SV_LIST_STAT, 0, 16, .ro, .region, 0⟩
@[reducible] def SV_LIST_STAT_DISPATCHED : Fld := ⟨.SV_LIST_STAT, 32, 32, .ro, .region, 0⟩
@[reducible] def SV_LIST_STAT_WAIT_MEAN : Fld := ⟨.SV_LIST_STAT, 64, 32, .ro, .region, 0⟩
@[reducible] def SV_LIST_STAT_WAIT_MAX : Fld := ⟨.SV_LIST_STAT, 96, 32, .ro, .region, 0⟩
@[reducible] def SV_LIST_STAT_PROMOTED : Fld := ⟨.SV_LIST_STAT, 144, 16, .ro, .region, 0⟩
@[reducible] def SV_LIST_STAT_WAIT_P99 : Fld := ⟨.SV_LIST_STAT, 128, 5, .ro, .region, 0⟩
@[reducible] def SV_LIST_STAT_OVF_DROP : Fld := ⟨.SV_LIST_STAT, 160, 32, .ro, .region, 0⟩
@[reducible] def SV_LIST_STAT_BP_TICKS : Fld := ⟨.SV_LIST_STAT, 192, 32, .ro, .region, 0⟩

/-! SV_CORE_STATUS (Table 13-10). -/
@[reducible] def SV_CORE_STATUS_LOAD : Fld := ⟨.SV_CORE_STATUS, 16, 16, .ro, .region, 0⟩
@[reducible] def SV_CORE_STATUS_ROLE : Fld := ⟨.SV_CORE_STATUS, 8, 4, .ro, .region, 0⟩
@[reducible] def SV_CORE_STATUS_STATE : Fld := ⟨.SV_CORE_STATUS, 0, 3, .ro, .region, 0⟩

/-! SV_LOAD. -/
@[reducible] def SV_LOAD_LOAD : Fld := ⟨.SV_LOAD, 0, 16, .ro, .region, 0⟩

/-! SV_FW_STATUS (Table 13-11). -/
@[reducible] def SV_FW_STATUS_FW_VERSION : Fld := ⟨.SV_FW_STATUS, 32, 32, .ro, .none, 0⟩
@[reducible] def SV_FW_STATUS_MIN_SEC_VER : Fld := ⟨.SV_FW_STATUS, 16, 16, .ro, .none, 0⟩
@[reducible] def SV_FW_STATUS_UPDATING : Fld := ⟨.SV_FW_STATUS, 0, 1, .ro, .region, 0⟩

/-! SV_DISP_CNT (Table 13-12). -/
@[reducible] def SV_DISP_CNT_RELEASE_FULL : Fld := ⟨.SV_DISP_CNT, 0, 32, .rc, .region, 0⟩
@[reducible] def SV_DISP_CNT_RECIRC_DIRECT : Fld := ⟨.SV_DISP_CNT, 32, 32, .rc, .region, 0⟩
@[reducible] def SV_DISP_CNT_REDISPATCH : Fld := ⟨.SV_DISP_CNT, 64, 32, .rc, .region, 0⟩

/-! PC_DESC (Table 13-14). -/
@[reducible] def PC_DESC_OFFSET : Fld := ⟨.PC_DESC, 8, 24, .ro, .none, 0⟩
@[reducible] def PC_DESC_STATUS : Fld := ⟨.PC_DESC, 7, 1, .ro, .none, 0⟩
@[reducible] def PC_DESC_BIT : Fld := ⟨.PC_DESC, 0, 6, .ro, .none, 0⟩

/-! PC_VALUE. -/
@[reducible] def PC_VALUE_VALUE : Fld := ⟨.PC_VALUE, 0, 48, .ro, .chip, 0⟩

/-! PC_WRAP. -/
@[reducible] def PC_WRAP_WRAP : Fld := ⟨.PC_WRAP, 0, 6144, .ro, .chip, 0⟩

/-! PC_STAT (Table 13-16). -/
@[reducible] def PC_STAT_SEQ : Fld := ⟨.PC_STAT, 0, 32, .ro, .region, 0⟩
@[reducible] def PC_STAT_SKIPPED : Fld := ⟨.PC_STAT, 32, 32, .rc, .region, 0⟩
@[reducible] def PC_STAT_SAMPLES : Fld := ⟨.PC_STAT, 64, 32, .rc, .region, 0⟩
@[reducible] def PC_STAT_SAMPLE_DROP : Fld := ⟨.PC_STAT, 96, 32, .rc, .region, 0⟩

/-! HI_CFG (Table 14-18). -/
@[reducible] def HI_CFG_RUN : Fld := ⟨.HI_CFG, 31, 1, .rw, .region, 0⟩
@[reducible] def HI_CFG_RO_EN : Fld := ⟨.HI_CFG, 8, 1, .rw, .region, 0⟩
@[reducible] def HI_CFG_POLL_UT : Fld := ⟨.HI_CFG, 0, 7, .rw, .region, 1⟩

/-! HI_EMERG (Table 14-19). -/
@[reducible] def HI_EMERG_ROLLBACK_NOW : Fld := ⟨.HI_EMERG, 2, 1, .wo, .region, 0⟩
@[reducible] def HI_EMERG_RING_STOP : Fld := ⟨.HI_EMERG, 1, 1, .wo, .region, 0⟩
@[reducible] def HI_EMERG_POLL_NOW : Fld := ⟨.HI_EMERG, 0, 1, .wo, .region, 0⟩

/-! HI_DB_BASE (Table 14-20). -/
@[reducible] def HI_DB_BASE_ADDR : Fld := ⟨.HI_DB_BASE, 12, 52, .rw, .region, 0⟩

/-! HI_SUM_BASE (Table 14-20). -/
@[reducible] def HI_SUM_BASE_ADDR : Fld := ⟨.HI_SUM_BASE, 6, 58, .rw, .region, 0⟩

/-! HI_HEAD_BASE (Table 14-20). -/
@[reducible] def HI_HEAD_BASE_ADDR : Fld := ⟨.HI_HEAD_BASE, 12, 52, .rw, .region, 0⟩

/-! HI_STATUS (Table 14-21). -/
@[reducible] def HI_STATUS_RING_ERR : Fld := ⟨.HI_STATUS, 1, 1, .ro, .region, 0⟩
@[reducible] def HI_STATUS_SUM_ERR : Fld := ⟨.HI_STATUS, 0, 1, .w1c, .region, 0⟩

/-! HI_EPOCH_STATUS (Table 14-22). -/
@[reducible] def HI_EPOCH_STATUS_CURRENT : Fld := ⟨.HI_EPOCH_STATUS, 0, 32, .ro, .region, 0⟩
@[reducible] def HI_EPOCH_STATUS_PREVIOUS : Fld := ⟨.HI_EPOCH_STATUS, 32, 32, .ro, .region, 0xFFFFFFFF⟩
@[reducible] def HI_EPOCH_STATUS_PENDING : Fld := ⟨.HI_EPOCH_STATUS, 64, 32, .ro, .region, 0xFFFFFFFF⟩
@[reducible] def HI_EPOCH_STATUS_DRAINING : Fld := ⟨.HI_EPOCH_STATUS, 127, 1, .ro, .region, 0⟩
@[reducible] def HI_EPOCH_STATUS_PSTATE : Fld := ⟨.HI_EPOCH_STATUS, 96, 2, .ro, .region, 0⟩
@[reducible] def HI_EPOCH_STATUS_TIME_CRC : Fld := ⟨.HI_EPOCH_STATUS, 128, 32, .ro, .region, 0⟩
@[reducible] def HI_EPOCH_STATUS_DRAIN_DROP : Fld := ⟨.HI_EPOCH_STATUS, 160, 32, .rc, .region, 0⟩

/-! HI_EPOCH_CFG (Table 14-23). -/
@[reducible] def HI_EPOCH_CFG_DRAIN_MS : Fld := ⟨.HI_EPOCH_CFG, 0, 16, .rw, .region, 0x3E8⟩

/-! HI_EVT_ROUTE (Table 14-24). -/
@[reducible] def HI_EVT_ROUTE_ENABLE : Fld := ⟨.HI_EVT_ROUTE, 31, 1, .rw, .region, 0⟩
@[reducible] def HI_EVT_ROUTE_AUX : Fld := ⟨.HI_EVT_ROUTE, 8, 8, .rw, .region, 0⟩
@[reducible] def HI_EVT_ROUTE_RING : Fld := ⟨.HI_EVT_ROUTE, 0, 6, .rw, .region, 0⟩

/-! HI_EVT_DROP (Table 14-24). -/
@[reducible] def HI_EVT_DROP_DROPS : Fld := ⟨.HI_EVT_DROP, 0, 32, .rc, .region, 0⟩

/-! HI_DUMP (Table 14-25). -/
@[reducible] def HI_DUMP_ADDR : Fld := ⟨.HI_DUMP, 6, 58, .rw, .region, 0⟩
@[reducible] def HI_DUMP_ENABLE : Fld := ⟨.HI_DUMP, 0, 1, .rw, .region, 0⟩

/-! HI_DUMP_CFG (Table 14-25). -/
@[reducible] def HI_DUMP_CFG_VECTOR : Fld := ⟨.HI_DUMP_CFG, 0, 8, .rw, .region, 0⟩

/-! HI_VEC (Table 14-26). -/
@[reducible] def HI_VEC_MOD_CNT : Fld := ⟨.HI_VEC, 8, 8, .rw, .region, 1⟩
@[reducible] def HI_VEC_MOD_UT : Fld := ⟨.HI_VEC, 0, 8, .rw, .region, 0⟩

/-! HI_RING (Table 14-27). -/
@[reducible] def HI_RING_BASE : Fld := ⟨.HI_RING, 0, 64, .rw, .region, 0⟩
@[reducible] def HI_RING_VECTOR : Fld := ⟨.HI_RING, 88, 8, .rw, .region, 0⟩
@[reducible] def HI_RING_GROUP : Fld := ⟨.HI_RING, 80, 3, .rw, .region, 0⟩
@[reducible] def HI_RING_SIZE_LOG2 : Fld := ⟨.HI_RING, 72, 5, .rw, .region, 6⟩
@[reducible] def HI_RING_ENABLE : Fld := ⟨.HI_RING, 64, 1, .rw, .region, 0⟩
@[reducible] def HI_RING_STOPPED : Fld := ⟨.HI_RING, 127, 1, .ro, .region, 0⟩
@[reducible] def HI_RING_ERR : Fld := ⟨.HI_RING, 96, 4, .ro, .region, 0⟩
@[reducible] def HI_RING_DROPS : Fld := ⟨.HI_RING, 128, 32, .rc, .region, 0⟩

/-! SF_STATUS (Table 15-12). -/
@[reducible] def SF_STATUS_GLOBAL : Fld := ⟨.SF_STATUS, 31, 1, .ro, .fawn, 0⟩
@[reducible] def SF_STATUS_ACK_REJ : Fld := ⟨.SF_STATUS, 30, 1, .w1c, .fawn, 0⟩
@[reducible] def SF_STATUS_INJ_ACTIVE : Fld := ⟨.SF_STATUS, 29, 1, .ro, .fawn, 0⟩
@[reducible] def SF_STATUS_MODEL_FAULTY : Fld := ⟨.SF_STATUS, 28, 1, .ro, .fawn, 0⟩
@[reducible] def SF_STATUS_PPS_FAULTY : Fld := ⟨.SF_STATUS, 27, 1, .ro, .fawn, 0⟩
@[reducible] def SF_STATUS_DOM_FAULTY : Fld := ⟨.SF_STATUS, 25, 2, .ro, .fawn, 0⟩
@[reducible] def SF_STATUS_CLASS : Fld := ⟨.SF_STATUS, 1, 13, .ro, .fawn, 0⟩

/-! SF_CTRL (Table 15-13). -/
@[reducible] def SF_CTRL_INJ_KEY : Fld := ⟨.SF_CTRL, 16, 16, .wo, .fawn, 0⟩
@[reducible] def SF_CTRL_INJ_ARG : Fld := ⟨.SF_CTRL, 8, 8, .wo, .fawn, 0⟩
@[reducible] def SF_CTRL_INJ_CODE : Fld := ⟨.SF_CTRL, 4, 4, .wo, .fawn, 0⟩
@[reducible] def SF_CTRL_SELFCHK : Fld := ⟨.SF_CTRL, 2, 1, .wo, .fawn, 0⟩
@[reducible] def SF_CTRL_ACK : Fld := ⟨.SF_CTRL, 0, 1, .wo, .fawn, 0⟩

/-! SF_DIAG (Table 15-14). -/
@[reducible] def SF_DIAG_PORT_FAULT : Fld := ⟨.SF_DIAG, 0, 160, .ro, .fawn, 0⟩
@[reducible] def SF_DIAG_PIN_FAULT : Fld := ⟨.SF_DIAG, 168, 8, .w1c, .fawn, 0⟩
@[reducible] def SF_DIAG_SQ_SF : Fld := ⟨.SF_DIAG, 160, 8, .ro, .fawn, 0⟩
@[reducible] def SF_DIAG_DIFF : Fld := ⟨.SF_DIAG, 192, 64, .ro, .fawn, 0⟩
@[reducible] def SF_DIAG_SELFCHK_AGE : Fld := ⟨.SF_DIAG, 272, 16, .ro, .fawn, 0⟩
@[reducible] def SF_DIAG_SELFCHK_RES : Fld := ⟨.SF_DIAG, 256, 16, .ro, .fawn, 0⟩
@[reducible] def SF_DIAG_COMPUTED : Fld := ⟨.SF_DIAG, 992, 32, .ro, .fawn, 0⟩
@[reducible] def SF_DIAG_REFERENCE : Fld := ⟨.SF_DIAG, 960, 32, .ro, .fawn, 0⟩
@[reducible] def SF_DIAG_SF_HB : Fld := ⟨.SF_DIAG, 1024, 32, .ro, .fawn, 0⟩

/-! EV_STATUS (Table 15-15). -/
@[reducible] def EV_STATUS_DROPPED : Fld := ⟨.EV_STATUS, 48, 16, .rc, .fawn, 0⟩
@[reducible] def EV_STATUS_RING_LOST : Fld := ⟨.EV_STATUS, 32, 16, .rc, .fawn, 0⟩
@[reducible] def EV_STATUS_REWRITING : Fld := ⟨.EV_STATUS, 31, 1, .ro, .fawn, 0⟩
@[reducible] def EV_STATUS_FLASH_ERR : Fld := ⟨.EV_STATUS, 30, 1, .w1c, .fawn, 0⟩
@[reducible] def EV_STATUS_FULL : Fld := ⟨.EV_STATUS, 29, 1, .ro, .fawn, 0⟩
@[reducible] def EV_STATUS_PENDING : Fld := ⟨.EV_STATUS, 20, 9, .ro, .fawn, 0⟩
@[reducible] def EV_STATUS_USED : Fld := ⟨.EV_STATUS, 0, 16, .ro, .fawn, 0⟩

/-! EV_HOURS (Table 15-16). -/
@[reducible] def EV_HOURS_PWR_CYCLES : Fld := ⟨.EV_HOURS, 32, 32, .ro, .fawn, 0⟩
@[reducible] def EV_HOURS_OP_HOURS : Fld := ⟨.EV_HOURS, 0, 32, .ro, .fawn, 0⟩

/-! EV_CFG (Table 15-17). -/
@[reducible] def EV_CFG_FLASH_MIN : Fld := ⟨.EV_CFG, 0, 3, .rw, .fawn, 0⟩

/-! EV_CTRL (Table 15-17). -/
@[reducible] def EV_CTRL_KEY : Fld := ⟨.EV_CTRL, 16, 16, .wo, .fawn, 0⟩
@[reducible] def EV_CTRL_ERASE : Fld := ⟨.EV_CTRL, 0, 1, .wo, .fawn, 0⟩

/-! EV_RD_CTRL (Table 15-17). -/
@[reducible] def EV_RD_CTRL_DONE : Fld := ⟨.EV_RD_CTRL, 31, 1, .ro, .fawn, 0⟩
@[reducible] def EV_RD_CTRL_EMPTY : Fld := ⟨.EV_RD_CTRL, 30, 1, .ro, .fawn, 0⟩
@[reducible] def EV_RD_CTRL_GO : Fld := ⟨.EV_RD_CTRL, 29, 1, .wo, .fawn, 0⟩
@[reducible] def EV_RD_CTRL_RING : Fld := ⟨.EV_RD_CTRL, 28, 1, .rw, .fawn, 0⟩
@[reducible] def EV_RD_CTRL_INDEX : Fld := ⟨.EV_RD_CTRL, 0, 16, .rw, .fawn, 0⟩

/-! EV_RD_DATA. -/
@[reducible] def EV_RD_DATA_DATA : Fld := ⟨.EV_RD_DATA, 0, 512, .ro, .fawn, 0⟩

/-! PW_STATUS (Table 16-12). -/
@[reducible] def PW_STATUS_PWR_FAULT : Fld := ⟨.PW_STATUS, 31, 1, .w1c, .fawn, 0⟩
@[reducible] def PW_STATUS_PLIMIT : Fld := ⟨.PW_STATUS, 30, 1, .ro, .fawn, 0⟩
@[reducible] def PW_STATUS_PWR_OK : Fld := ⟨.PW_STATUS, 29, 1, .ro, .fawn, 0⟩
@[reducible] def PW_STATUS_FAWN_LOW : Fld := ⟨.PW_STATUS, 28, 1, .ro, .fawn, 0⟩
@[reducible] def PW_STATUS_READY : Fld := ⟨.PW_STATUS, 8, 8, .ro, .fawn, 0⟩
@[reducible] def PW_STATUS_PSTATE : Fld := ⟨.PW_STATUS, 0, 3, .ro, .fawn, 0⟩

/-! PW_CTRL (Table 16-13). -/
@[reducible] def PW_CTRL_KEY : Fld := ⟨.PW_CTRL, 16, 16, .wo, .fawn, 0⟩
@[reducible] def PW_CTRL_PERST_SCOPE : Fld := ⟨.PW_CTRL, 1, 1, .rw, .fawn, 1⟩
@[reducible] def PW_CTRL_STANDBY : Fld := ⟨.PW_CTRL, 0, 1, .wo, .fawn, 0⟩

/-! PW_BOOT_STATUS (Table 16-14). -/
@[reducible] def PW_BOOT_STATUS_FAIL_CODE : Fld := ⟨.PW_BOOT_STATUS, 24, 8, .ro, .chip, 0⟩
@[reducible] def PW_BOOT_STATUS_RECOVERY : Fld := ⟨.PW_BOOT_STATUS, 23, 1, .ro, .chip, 0⟩
@[reducible] def PW_BOOT_STATUS_UNOWNED : Fld := ⟨.PW_BOOT_STATUS, 22, 1, .ro, .chip, 0⟩
@[reducible] def PW_BOOT_STATUS_SUP_COPY : Fld := ⟨.PW_BOOT_STATUS, 17, 1, .ro, .chip, 0⟩
@[reducible] def PW_BOOT_STATUS_SVC_COPY : Fld := ⟨.PW_BOOT_STATUS, 16, 1, .ro, .chip, 0⟩
@[reducible] def PW_BOOT_STATUS_PRESET_SKIP : Fld := ⟨.PW_BOOT_STATUS, 0, 16, .ro, .chip, 0⟩

/-! PW_DIE_ID. -/
@[reducible] def PW_DIE_ID_DIE_ID : Fld := ⟨.PW_DIE_ID, 0, 64, .ro, .none, 0⟩

/-! PW_TOL (Table 16-15). -/
@[reducible] def PW_TOL_TOL_US : Fld := ⟨.PW_TOL, 0, 24, .rw, .fawn, 1⟩

/-! PW_BLK_STATE (Table 16-15). -/
@[reducible] def PW_BLK_STATE_TARGET : Fld := ⟨.PW_BLK_STATE, 8, 8, .ro, .fawn, 0⟩
@[reducible] def PW_BLK_STATE_STATE : Fld := ⟨.PW_BLK_STATE, 0, 8, .ro, .fawn, 0⟩

/-! PW_ENTRY_CNT (Table 16-16). -/
@[reducible] def PW_ENTRY_CNT_ENTERED : Fld := ⟨.PW_ENTRY_CNT, 0, 32, .rc, .fawn, 0⟩
@[reducible] def PW_ENTRY_CNT_REFUSED : Fld := ⟨.PW_ENTRY_CNT, 32, 32, .rc, .fawn, 0⟩
@[reducible] def PW_ENTRY_CNT_DELAYED : Fld := ⟨.PW_ENTRY_CNT, 64, 32, .rc, .fawn, 0⟩
@[reducible] def PW_ENTRY_CNT_ABORTED : Fld := ⟨.PW_ENTRY_CNT, 96, 32, .rc, .fawn, 0⟩

/-! PW_LAST_REFUSAL (Table 16-17). -/
@[reducible] def PW_LAST_REFUSAL_TICK : Fld := ⟨.PW_LAST_REFUSAL, 32, 32, .ro, .fawn, 0⟩
@[reducible] def PW_LAST_REFUSAL_BLOCK : Fld := ⟨.PW_LAST_REFUSAL, 16, 16, .ro, .fawn, 0⟩
@[reducible] def PW_LAST_REFUSAL_REASON : Fld := ⟨.PW_LAST_REFUSAL, 8, 8, .ro, .fawn, 0⟩
@[reducible] def PW_LAST_REFUSAL_STATE : Fld := ⟨.PW_LAST_REFUSAL, 0, 8, .ro, .fawn, 0⟩

/-! PW_RAIL (Table 16-18). -/
@[reducible] def PW_RAIL_AVS : Fld := ⟨.PW_RAIL, 22, 1, .rw, .fawn, 0⟩
@[reducible] def PW_RAIL_POUT : Fld := ⟨.PW_RAIL, 21, 1, .rw, .fawn, 0⟩
@[reducible] def PW_RAIL_SWITCHED : Fld := ⟨.PW_RAIL, 20, 1, .rw, .fawn, 0⟩
@[reducible] def PW_RAIL_SUPPLY : Fld := ⟨.PW_RAIL, 16, 4, .rw, .fawn, 0⟩
@[reducible] def PW_RAIL_PAGE : Fld := ⟨.PW_RAIL, 8, 8, .rw, .fawn, 0⟩
@[reducible] def PW_RAIL_ADDR : Fld := ⟨.PW_RAIL, 0, 7, .rw, .fawn, 0⟩

/-! PW_AVS (Table 16-19). -/
@[reducible] def PW_AVS_FAILS : Fld := ⟨.PW_AVS, 48, 16, .rc, .fawn, 0⟩
@[reducible] def PW_AVS_RETRIES : Fld := ⟨.PW_AVS, 32, 16, .rc, .fawn, 0⟩
@[reducible] def PW_AVS_CUR_MV : Fld := ⟨.PW_AVS, 16, 10, .ro, .fawn, 0x320⟩
@[reducible] def PW_AVS_IF : Fld := ⟨.PW_AVS, 15, 1, .rw, .fawn, 0⟩
@[reducible] def PW_AVS_TARGET_MV : Fld := ⟨.PW_AVS, 0, 10, .ro, .fawn, 0x320⟩

/-! PW_PLIMIT (Table 16-20). -/
@[reducible] def PW_PLIMIT_POUT_W : Fld := ⟨.PW_PLIMIT, 16, 16, .ro, .fawn, 0⟩
@[reducible] def PW_PLIMIT_HYST_W : Fld := ⟨.PW_PLIMIT, 8, 8, .rw, .fawn, 5⟩
@[reducible] def PW_PLIMIT_LIMIT_W : Fld := ⟨.PW_PLIMIT, 0, 8, .rw, .fawn, 0⟩

/-! PW_PAD_CFG (Table 16-21). -/
@[reducible] def PW_PAD_CFG_HELD : Fld := ⟨.PW_PAD_CFG, 2, 1, .ro, .fawn, 0⟩
@[reducible] def PW_PAD_CFG_AUTO_REL : Fld := ⟨.PW_PAD_CFG, 1, 1, .rw, .fawn, 1⟩
@[reducible] def PW_PAD_CFG_MODE : Fld := ⟨.PW_PAD_CFG, 0, 1, .rw, .fawn, 0⟩

/-! PW_PAD_RELEASE (Table 16-21). -/
@[reducible] def PW_PAD_RELEASE_REL_REJ : Fld := ⟨.PW_PAD_RELEASE, 31, 1, .w1c, .fawn, 0⟩
@[reducible] def PW_PAD_RELEASE_RELEASE : Fld := ⟨.PW_PAD_RELEASE, 1, 7, .wo, .fawn, 0⟩

/-! PW_RET_STATUS (Table 16-22). -/
@[reducible] def PW_RET_STATUS_FAIL_CNT : Fld := ⟨.PW_RET_STATUS, 16, 16, .rc, .fawn, 0⟩
@[reducible] def PW_RET_STATUS_FAILED : Fld := ⟨.PW_RET_STATUS, 0, 16, .ro, .fawn, 0⟩

/-! SF_CNT (Table 15-14). -/
@[reducible] def SF_CNT_CNT : Fld := ⟨.SF_CNT, 0, 32, .rc, .fawn, 0⟩

/-- One placement of a register in BAR0: the instances `first` to `first + n1 − 1` (first index) times
`0` to `n2 − 1` (second index) stand in the window of region `reg` at `off + s1·(i − first) + s2·j`. -/
structure Span where
  reg   : Nat
  first : Nat
  off   : Nat
  s1    : Nat
  n1    : Nat
  s2    : Nat
  n2    : Nat
  deriving DecidableEq, Repr

/-- The fields of a register. -/
def RegName.fields : RegName → List Fld
  | .ID_PART => [ID_PART_PART, ID_PART_FAMILY]
  | .ID_REV => [ID_REV_MAJOR, ID_REV_MINOR]
  | .GL_RST_STATUS => [GL_RST_STATUS_FAWN_POR, GL_RST_STATUS_CAUSE]
  | .GL_CLK_CTRL => [GL_CLK_CTRL_REVERT, GL_CLK_CTRL_PREF_ATT, GL_CLK_CTRL_PREF_CH]
  | .GL_CLK_STATUS => [GL_CLK_STATUS_STRETCH_CNT, GL_CLK_STATUS_ALIGNED, GL_CLK_STATUS_PLL_LOCK, GL_CLK_STATUS_SRC_FREE, GL_CLK_STATUS_SRC_ATT, GL_CLK_STATUS_SRC_CH]
  | .GL_TICK_NUM => [GL_TICK_NUM_TICK]
  | .GL_JOB_STAT => [GL_JOB_STAT_OVERRUN, GL_JOB_STAT_LATE]
  | .GL_REGION_CTRL => [GL_REGION_CTRL_EN_REJ, GL_REGION_CTRL_EN_CONTROL, GL_REGION_CTRL_EN_MEMORY, GL_REGION_CTRL_EN_PACKET, GL_REGION_CTRL_EN_PORTE, GL_REGION_CTRL_EN_PORTW, GL_REGION_CTRL_EN_FAWN, GL_REGION_CTRL_EN_LINE]
  | .GL_DBG_CTRL => [GL_DBG_CTRL_KEY, GL_DBG_CTRL_DENIED, GL_DBG_CTRL_GATED, GL_DBG_CTRL_AUTO_INC, GL_DBG_CTRL_ENABLE]
  | .GL_DBG_ADDR => [GL_DBG_ADDR_BLOCK, GL_DBG_ADDR_WORD]
  | .GL_DBG_DATA => [GL_DBG_DATA_DATA]
  | .HI_PCIE_STATUS => [HI_PCIE_STATUS_BAD_ACC, HI_PCIE_STATUS_WIDTH, HI_PCIE_STATUS_SPEED]
  | .SF_LEVEL => [SF_LEVEL_CAUSE, SF_LEVEL_TO_ATT, SF_LEVEL_ATT_OUT, SF_LEVEL_HELD, SF_LEVEL_LEVEL]
  | .QUADS_OUT => [QUADS_OUT_OUT]
  | .SF_LEVEL_CMD => [SF_LEVEL_CMD_CMD]
  | .SF_LEVEL_CFG => [SF_LEVEL_CFG_AUTO_RESUME, SF_LEVEL_CFG_THERM_HYST, SF_LEVEL_CFG_THERM_EMERG, SF_LEVEL_CFG_TJ_MAX]
  | .SF_REGION => [SF_REGION_GATED_ACCESS, SF_REGION_STATE, SF_REGION_GATED_BLOCK, SF_REGION_GATED_CNT, SF_REGION_RELOADS, SF_REGION_ISOLATIONS, SF_REGION_AUTO_DIS, SF_REGION_RELOAD, SF_REGION_LAST_CAUSE, SF_REGION_LAST_TICKS]
  | .GL_FLASH_CTRL => [GL_FLASH_CTRL_KEY, GL_FLASH_CTRL_GO, GL_FLASH_CTRL_BUSY, GL_FLASH_CTRL_ERR, GL_FLASH_CTRL_DENIED, GL_FLASH_CTRL_LEN, GL_FLASH_CTRL_OP]
  | .GL_FLASH_ADDR => [GL_FLASH_ADDR_ADDR]
  | .GL_FLASH_BUF => [GL_FLASH_BUF_BUF]
  | .LN_RX_CTRL => [LN_RX_CTRL_LOS_POL, LN_RX_CTRL_LOS_SRC, LN_RX_CTRL_MODE, LN_RX_CTRL_ENABLE]
  | .LN_RX_EQ => [LN_RX_EQ_EQ_RESET, LN_RX_EQ_DSP_MODE, LN_RX_EQ_CTLE_PEAK]
  | .LN_ALIGN_CFG => [LN_ALIGN_CFG_SYNC_ERR, LN_ALIGN_CFG_HUNT_ERR]
  | .LN_RX_STATUS => [LN_RX_STATUS_MODE_REJ, LN_RX_STATUS_DEC_CELLS, LN_RX_STATUS_ITER_CAP, LN_RX_STATUS_SLOTS_BUSY, LN_RX_STATUS_MISS_CNT, LN_RX_STATUS_ISOLATED, LN_RX_STATUS_MISS2, LN_RX_STATUS_STATE, LN_RX_STATUS_EQ_CONV, LN_RX_STATUS_CDR_LOCK, LN_RX_STATUS_LOS]
  | .LN_ALIGN_STAT => [LN_ALIGN_STAT_LOF_CNT, LN_ALIGN_STAT_SLOT_FULL, LN_ALIGN_STAT_REJECT]
  | .LN_RX_LAT => [LN_RX_LAT_LAT]
  | .LN_FB_CAP => [LN_FB_CAP_NEWLAT, LN_FB_CAP_SEC, LN_FB_CAP_NS, LN_FB_CAP_FRAC]
  | .LN_SFC => [LN_SFC_SFC]
  | .LN_FEC_CFG => [LN_FEC_CFG_MAX_ITER]
  | .LN_FEC_CNT => [LN_FEC_CNT_CW_TOTAL, LN_FEC_CNT_CW_CORR, LN_FEC_CNT_CW_UNCORR, LN_FEC_CNT_BITS_CORR]
  | .LN_PM_CFG => [LN_PM_CFG_CLEAR, LN_PM_CFG_PM_EN, LN_PM_CFG_SES_TICKS]
  | .LN_PM_SD => [LN_PM_SD_SD_BITS]
  | .LN_PM => [LN_PM_ES, LN_PM_SES, LN_PM_UAS, LN_PM_OVR_SEC, LN_PM_SDST, LN_PM_UNAVAIL]
  | .LN_MAP_CFG => [LN_MAP_CFG_MAPLOSS_U1, LN_MAP_CFG_MAPLOSS_U0, LN_MAP_CFG_MAP_U1, LN_MAP_CFG_MAP_U0]
  | .LN_MAP_STAT => [LN_MAP_STAT_HEC_DISC, LN_MAP_STAT_TRUNC, LN_MAP_STAT_MAPS_LOST]
  | .LN_ATT_CTRL => [LN_ATT_CTRL_KEY_BASE, LN_ATT_CTRL_OMCI_HOLD, LN_ATT_CTRL_OMCI_MODE, LN_ATT_CTRL_ACT_EN]
  | .LN_ATT_STATUS => [LN_ATT_STATUS_WR_REJ, LN_ATT_STATUS_TERM_ID, LN_ATT_STATUS_EQD_U1, LN_ATT_STATUS_EQD_U0, LN_ATT_STATUS_ESTOP, LN_ATT_STATUS_STATE]
  | .LN_ATT_SN => [LN_ATT_SN_VENDOR, LN_ATT_SN_VSSN]
  | .LN_ATT_TMR => [LN_ATT_TMR_TO2_MS, LN_ATT_TMR_TO1_MS]
  | .LN_ATT_RESP => [LN_ATT_RESP_T_RESP]
  | .LN_OPT_RXDLY => [LN_OPT_RXDLY_D_RX]
  | .LN_OPT_TXDLY => [LN_OPT_TXDLY_D_TX]
  | .LN_ATT_REGID => [LN_ATT_REGID_REGID]
  | .LN_ATT_STAT => [LN_ATT_STAT_PLOAM_IGN, LN_ATT_STAT_PLOAM_BAD, LN_ATT_STAT_PLOAM_RX]
  | .LN_ATT_STAT2 => [LN_ATT_STAT2_DEACT, LN_ATT_STAT2_TO_EXP, LN_ATT_STAT2_LODS_CNT]
  | .LN_ATT_HEALTH => [LN_ATT_HEALTH_FAILED, LN_ATT_HEALTH_WAITING, LN_ATT_HEALTH_FAIL_CNT, LN_ATT_HEALTH_CAUSE, LN_ATT_HEALTH_FORCE_FAIL]
  | .LN_TX_CTRL => [LN_TX_CTRL_EN_POL, LN_TX_CTRL_RATE, LN_TX_CTRL_ENABLE]
  | .LN_TX_BURST => [LN_TX_BURST_LAG, LN_TX_BURST_LEAD]
  | .LN_EQD => [LN_EQD_VALID, LN_EQD_EQD]
  | .LN_TX_LAT => [LN_TX_LAT_LAT]
  | .LN_TX_STATUS => [LN_TX_STATUS_PROF_VALID, LN_TX_STATUS_BURSTING, LN_TX_STATUS_ROGUE]
  | .LN_TX_CNT => [LN_TX_CNT_BURSTS, LN_TX_CNT_LATE_GRANT, LN_TX_CNT_OVERLAP, LN_TX_CNT_NOPROF, LN_TX_CNT_NOMAP]
  | .HD_HERD_CFG => [HD_HERD_CFG_MEMBERS, HD_HERD_CFG_MEMBERS_PEND]
  | .HD_GRID => [HD_GRID_UG1, HD_GRID_UG0, HD_GRID_DG3, HD_GRID_DG2, HD_GRID_DG1, HD_GRID_DG0]
  | .HD_SWIDAN_CFG => [HD_SWIDAN_CFG_XGEM_PORT, HD_SWIDAN_CFG_ETHERTYPE]
  | .HD_SWIDAN_CTRL => [HD_SWIDAN_CTRL_PEER, HD_SWIDAN_CTRL_REPORT, HD_SWIDAN_CTRL_SW_EN]
  | .HD_LAMBDA => [HD_LAMBDA_LAMBDA_PM]
  | .HD_HERD_STATUS => [HD_HERD_STATUS_HERD_LOST, HD_HERD_STATUS_FORMED, HD_HERD_STATUS_HSEQ, HD_HERD_STATUS_ACTIVE, HD_HERD_STATUS_UP]
  | .HD_HERD_CNT => [HD_HERD_CNT_HOLE_DROP, HD_HERD_CNT_SW_DISC, HD_HERD_CNT_TWIN_SKIP]
  | .HD_PTR_STATUS => [HD_PTR_STATUS_STATE, HD_PTR_STATUS_ROW, HD_PTR_STATUS_PTR]
  | .HD_PTR_CNT => [HD_PTR_CNT_SPACING, HD_PTR_CNT_UNCONF, HD_PTR_CNT_NEWPTR, HD_PTR_CNT_LOP, HD_PTR_CNT_POS, HD_PTR_CNT_NEG, HD_PTR_CNT_INFER, HD_PTR_CNT_CRC_ERR]
  | .HD_SKEW => [HD_SKEW_SKEW]
  | .HD_LAUNCH_OFS => [HD_LAUNCH_OFS_OFS]
  | .HD_EST_CFG => [HD_EST_CFG_TWIN_N, HD_EST_CFG_CONF_MIN, HD_EST_CFG_FALLBACK, HD_EST_CFG_MODE]
  | .HD_EST_LIM => [HD_EST_LIM_STEP_LIM, HD_EST_LIM_U_LIM]
  | .HD_GROUP_DLY => [HD_GROUP_DLY_G_FS]
  | .HD_TABLE => [HD_TABLE_LAMBDA0_PM, HD_TABLE_S0, HD_TABLE_LENGTH_M]
  | .HD_ASYM_OVR => [HD_ASYM_OVR_EN, HD_ASYM_OVR_ASYM]
  | .HD_EST_RES => [HD_EST_RES_TICK, HD_EST_RES_LAMBDA0_PM, HD_EST_RES_LS0_FS, HD_EST_RES_LENGTH_M, HD_EST_RES_ASYM, HD_EST_RES_CONF, HD_EST_RES_MODE, HD_EST_RES_STATUS, HD_EST_RES_NMEAS, HD_EST_RES_RESID, HD_EST_RES_SIGMA, HD_EST_RES_APPLIED, HD_EST_RES_DOFS]
  | .TC_TIME => [TC_TIME_SEC, TC_TIME_NS, TC_TIME_FRAC]
  | .TC_INCR => [TC_INCR_INC]
  | .TC_STATUS => [TC_STATUS_STEP_CNT, TC_STATUS_LS_FAULT, TC_STATUS_SWITCHING, TC_STATUS_SET, TC_STATUS_SET_REJ, TC_STATUS_RUNG, TC_STATUS_SERVO, TC_STATUS_SEL, TC_STATUS_CLK_SRC]
  | .TC_CTRL => [TC_CTRL_LS_RESYNC, TC_CTRL_HOLD_REQ, TC_CTRL_SEL_REQ, TC_CTRL_STEP_ARM]
  | .TC_SET => [TC_SET_GO, TC_SET_SEC, TC_SET_NS]
  | .TC_DOM_STATUS => [TC_DOM_STATUS_CAUSE, TC_DOM_STATUS_JUMP, TC_DOM_STATUS_QUAL, TC_DOM_STATUS_STATE, TC_DOM_STATUS_RT_SRC, TC_DOM_STATUS_THETA, TC_DOM_STATUS_RT_F, TC_DOM_STATUS_SFC_N]
  | .TC_TODA_IN => [TC_TODA_IN_GO, TC_TODA_IN_SEC, TC_TODA_IN_NS, TC_TODA_IN_SFC_LO]
  | .TC_HOLD => [TC_HOLD_ELAPSED_S, TC_HOLD_LEARNED_S, TC_HOLD_THETA_PPS, TC_HOLD_THETA_OSC, TC_HOLD_R_PPT, TC_HOLD_Q_PPT]
  | .TC_CMP_CNT => [TC_CMP_CNT_SKIP, TC_CMP_CNT_ARMED]
  | .TC_PIN_STAT => [TC_PIN_STAT_CAP_DROP, TC_PIN_STAT_FIFO_LVL, TC_PIN_STAT_SQUELCHED]
  | .TS_PORT_STATUS => [TS_PORT_STATUS_ACTION_ON, TS_PORT_STATUS_RUNG, TS_PORT_STATUS_ST_PASS, TS_PORT_STATUS_LINK, TS_PORT_STATUS_STATE]
  | .TS_LAT => [TS_LAT_VALID, TS_LAT_RX, TS_LAT_TX]
  | .TS_SELFTEST => [TS_SELFTEST_FAILS, TS_SELFTEST_DEV]
  | .TS_CNT => [TS_CNT_SYNC_TX, TS_CNT_ANN_TX, TS_CNT_DRESP_TX, TS_CNT_PTP_DISC, TS_CNT_DREQ_LIMIT, TS_CNT_NTP_TX, TS_CNT_NTP_DISC, TS_CNT_NTP_LIMIT, TS_CNT_NTP_SUPP, TS_CNT_SYNC_SUPP, TS_CNT_PTP_SUPP, TS_CNT_Q_FULL, TS_CNT_TX_LATE, TS_CNT_NOLAT, TS_CNT_ESMC_RX, TS_CNT_ST_SKIP]
  | .TM_HOME_STATUS => [TM_HOME_STATUS_STATE, TM_HOME_STATUS_TARGET, TM_HOME_STATUS_MOVES]
  | .TM_REPL_STAT => [TM_REPL_STAT_REPL_SKIP, TM_REPL_STAT_TOO_LONG]
  | .TM_FRER_CNT => [TM_FRER_CNT_PASSED, TM_FRER_CNT_DUPLICATE, TM_FRER_CNT_ROGUE, TM_FRER_CNT_RESETS]
  | .BM_BRIDGE_CFG => [BM_BRIDGE_CFG_SIZE_ACT, BM_BRIDGE_CFG_SIZE_PEND]
  | .BM_BRIDGE_STATUS => [BM_BRIDGE_STATUS_USED_MIB]
  | .BM_BRIDGE_FIFO => [BM_BRIDGE_FIFO_FRAMES, BM_BRIDGE_FIFO_USED_MIB, BM_BRIDGE_FIFO_DROPS, BM_BRIDGE_FIFO_AGED]
  | .PF_LANE_CTRL => [PF_LANE_CTRL_PATTERN, PF_LANE_CTRL_LOOPBACK, PF_LANE_CTRL_RX_POL, PF_LANE_CTRL_TX_POL]
  | .PF_LANE_EQ => [PF_LANE_EQ_TX_POST, PF_LANE_EQ_TX_PRE, PF_LANE_EQ_TX_AMP, PF_LANE_EQ_EQ_RESET, PF_LANE_EQ_DFE_MODE, PF_LANE_EQ_CTLE_PEAK]
  | .PF_LANE_STATUS => [PF_LANE_STATUS_PWR, PF_LANE_STATUS_ISOLATED, PF_LANE_STATUS_RECAL, PF_LANE_STATUS_PRBS_LOCK, PF_LANE_STATUS_TEST, PF_LANE_STATUS_ALIGN_LOCK, PF_LANE_STATUS_REM_FAULT_RX, PF_LANE_STATUS_LOC_FAULT_RX, PF_LANE_STATUS_HI_BER, PF_LANE_STATUS_BLOCK_LOCK, PF_LANE_STATUS_EQ_CONV, PF_LANE_STATUS_CDR_LOCK, PF_LANE_STATUS_SIG_DET, PF_LANE_STATUS_LINK]
  | .PF_PRBS_CNT => [PF_PRBS_CNT_ERR]
  | .PF_MAC_CNT => [PF_MAC_CNT_RX_OCTETS, PF_MAC_CNT_TX_OCTETS, PF_MAC_CNT_RX_FRAMES, PF_MAC_CNT_TX_FRAMES, PF_MAC_CNT_RX_FCS, PF_MAC_CNT_RX_RUNT, PF_MAC_CNT_RX_OVERSIZE, PF_MAC_CNT_RX_CODE, PF_MAC_CNT_RX_FIFO_DROP, PF_MAC_CNT_RX_PAUSE, PF_MAC_CNT_RX_MACCTL, PF_MAC_CNT_TX_PAUSE, PF_MAC_CNT_TX_ERR_DROP]
  | .PF_QUAD_CFG => [PF_QUAD_CFG_FEC, PF_QUAD_CFG_MODE, PF_QUAD_CFG_RATE, PF_QUAD_CFG_MODE_PEND, PF_QUAD_CFG_RATE_PEND]
  | .PF_QUAD_CNT => [PF_QUAD_CNT_CW_CORR, PF_QUAD_CNT_CW_UNCORR, PF_QUAD_CNT_DESKEW_FAIL, PF_QUAD_CNT_SKEW]
  | .PF_RECAL_STATUS => [PF_RECAL_STATUS_BUSY, PF_RECAL_STATUS_FAIL, PF_RECAL_STATUS_LANE]
  | .PP_ENG_STATUS => [PP_ENG_STATUS_CLU_IN_SERVICE, PP_ENG_STATUS_ENG_IN_SERVICE]
  | .PP_PROG_STATUS => [PP_PROG_STATUS_CRC, PP_PROG_STATUS_COUNT]
  | .PP_CNT => [PP_CNT_WINDOW, PP_CNT_MARKERS, PP_CNT_BUDGET, PP_CNT_PASSES, PP_CNT_PARTIAL, PP_CNT_GREATER, PP_CNT_LESS, PP_CNT_INNER, PP_CNT_PUNTED, PP_CNT_REDISPATCH, PP_CNT_NO_DEST, PP_CNT_BAD_DEST]
  | .PP_DROP_CNT => [PP_DROP_CNT_DROPS]
  | .PP_XGEM_CNT => [PP_XGEM_CNT_MISS, PP_XGEM_CNT_MGMT]
  | .PP_TBL_STAT => [PP_TBL_STAT_USED, PP_TBL_STAT_ECC_MISS]
  | .PP_TBL_SEED => [PP_TBL_SEED_SEED_H2_PEND, PP_TBL_SEED_SEED_H1_PEND, PP_TBL_SEED_SEED_H2, PP_TBL_SEED_SEED_H1]
  | .PP_EXC_CNT => [PP_EXC_CNT_SENT, PP_EXC_CNT_DROPPED]
  | .TM_Q_STATUS => [TM_Q_STATUS_ELIG, TM_Q_STATUS_PROMOTED, TM_Q_STATUS_FRAMES, TM_Q_STATUS_FILL]
  | .TM_Q_CNT => [TM_Q_CNT_SENT, TM_Q_CNT_TAIL_DROP, TM_Q_CNT_DP_DROP, TM_Q_CNT_PROMOTED, TM_Q_CNT_DOWN_DROP]
  | .TM_UP_CNT => [TM_UP_CNT_BUFOCC, TM_UP_CNT_UNDERFILL, TM_UP_CNT_FRAGS, TM_UP_CNT_STAGED]
  | .TM_POL_CNT => [TM_POL_CNT_GREEN, TM_POL_CNT_YELLOW, TM_POL_CNT_RED]
  | .TM_BP_STATUS => [TM_BP_STATUS_ASSERTED]
  | .TM_ING_DROP => [TM_ING_DROP_DROPS]
  | .BM_MEM_CFG => [BM_MEM_CFG_SPEED_PEND, BM_MEM_CFG_DENS_PEND, BM_MEM_CFG_SPARE_PEND, BM_MEM_CFG_CH_EN_PEND]
  | .BM_MEM_STATUS => [BM_MEM_STATUS_CH_STATE]
  | .BM_MEM_GEOM => [BM_MEM_GEOM_CAP_GIB, BM_MEM_GEOM_N_ACTIVE, BM_MEM_GEOM_SPEED, BM_MEM_GEOM_DENS]
  | .BM_SCRUB_CFG => [BM_SCRUB_CFG_SCRUB_H]
  | .BM_OCB_STATUS => [BM_OCB_STATUS_CORR, BM_OCB_STATUS_BANKS]
  | .BM_ECC_CNT => [BM_ECC_CNT_CORR, BM_ECC_CNT_UNCORR, BM_ECC_CNT_POISON_RD]
  | .BM_REPAIR_LOG => [BM_REPAIR_LOG_VALID, BM_REPAIR_LOG_SUBCH, BM_REPAIR_LOG_BANK, BM_REPAIR_LOG_ROW]
  | .BM_POOL_STATUS => [BM_POOL_STATUS_FREE, BM_POOL_STATUS_DRAINING, BM_POOL_STATUS_FILLING, BM_POOL_STATUS_ENABLED, BM_POOL_STATUS_CACHED, BM_POOL_STATUS_ALLOC_FAIL, BM_POOL_STATUS_SPILLS, BM_POOL_STATUS_REJECT, BM_POOL_STATUS_RING_ERR, BM_POOL_STATUS_QUARANTINED, BM_POOL_STATUS_LEAKED]
  | .BM_REJ_LAST => [BM_REJ_LAST_STATUS, BM_REJ_LAST_SOURCE, BM_REJ_LAST_PTR]
  | .CX_KS_STATUS => [CX_KS_STATUS_ALARM, CX_KS_STATUS_CAUSE, CX_KS_STATUS_TRNG_OK, CX_KS_STATUS_DKEK_VALID, CX_KS_STATUS_SLOTS_USED]
  | .CX_KS_CTRL => [CX_KS_CTRL_ZEROISE, CX_KS_CTRL_ALARM_CLR]
  | .CX_LANE_STATUS => [CX_LANE_STATUS_IN_SERVICE]
  | .CX_CLU_STATUS => [CX_CLU_STATUS_IN_SERVICE]
  | .CX_LANE_CNT => [CX_LANE_CNT_MISMATCH, CX_LANE_CNT_RETRY_FAIL, CX_LANE_CNT_STALE_GEN, CX_LANE_CNT_KEY_ABSENT]
  | .CX_PON_CNT => [CX_PON_CNT_DS_DECRYPT, CX_PON_CNT_DS_KEY_ABSENT, CX_PON_CNT_DS_CLEAR_DROP, CX_PON_CNT_US_ENCRYPT, CX_PON_CNT_US_KEY_ABSENT]
  | .CX_PORT_CNT => [CX_PORT_CNT_NOSC, CX_PORT_CNT_UNTAGGED, CX_PORT_CNT_TOO_LONG]
  | .CX_SLOT_ATTR => [CX_SLOT_ATTR_GEN, CX_SLOT_ATTR_STATE, CX_SLOT_ATTR_ORIGIN, CX_SLOT_ATTR_EXPORTABLE, CX_SLOT_ATTR_USE, CX_SLOT_ATTR_TYPE]
  | .CX_SC_CNT => [CX_SC_CNT_OK, CX_SC_CNT_NOT_VALID, CX_SC_CNT_LATE, CX_SC_CNT_NOSA]
  | .SV_LIST_STAT => [SV_LIST_STAT_MAX_DEPTH, SV_LIST_STAT_DEPTH, SV_LIST_STAT_DISPATCHED, SV_LIST_STAT_WAIT_MEAN, SV_LIST_STAT_WAIT_MAX, SV_LIST_STAT_PROMOTED, SV_LIST_STAT_WAIT_P99, SV_LIST_STAT_OVF_DROP, SV_LIST_STAT_BP_TICKS]
  | .SV_CORE_STATUS => [SV_CORE_STATUS_LOAD, SV_CORE_STATUS_ROLE, SV_CORE_STATUS_STATE]
  | .SV_LOAD => [SV_LOAD_LOAD]
  | .SV_FW_STATUS => [SV_FW_STATUS_FW_VERSION, SV_FW_STATUS_MIN_SEC_VER, SV_FW_STATUS_UPDATING]
  | .SV_DISP_CNT => [SV_DISP_CNT_RELEASE_FULL, SV_DISP_CNT_RECIRC_DIRECT, SV_DISP_CNT_REDISPATCH]
  | .PC_DESC => [PC_DESC_OFFSET, PC_DESC_STATUS, PC_DESC_BIT]
  | .PC_VALUE => [PC_VALUE_VALUE]
  | .PC_WRAP => [PC_WRAP_WRAP]
  | .PC_STAT => [PC_STAT_SEQ, PC_STAT_SKIPPED, PC_STAT_SAMPLES, PC_STAT_SAMPLE_DROP]
  | .HI_CFG => [HI_CFG_RUN, HI_CFG_RO_EN, HI_CFG_POLL_UT]
  | .HI_EMERG => [HI_EMERG_ROLLBACK_NOW, HI_EMERG_RING_STOP, HI_EMERG_POLL_NOW]
  | .HI_DB_BASE => [HI_DB_BASE_ADDR]
  | .HI_SUM_BASE => [HI_SUM_BASE_ADDR]
  | .HI_HEAD_BASE => [HI_HEAD_BASE_ADDR]
  | .HI_STATUS => [HI_STATUS_RING_ERR, HI_STATUS_SUM_ERR]
  | .HI_EPOCH_STATUS => [HI_EPOCH_STATUS_CURRENT, HI_EPOCH_STATUS_PREVIOUS, HI_EPOCH_STATUS_PENDING, HI_EPOCH_STATUS_DRAINING, HI_EPOCH_STATUS_PSTATE, HI_EPOCH_STATUS_TIME_CRC, HI_EPOCH_STATUS_DRAIN_DROP]
  | .HI_EPOCH_CFG => [HI_EPOCH_CFG_DRAIN_MS]
  | .HI_EVT_ROUTE => [HI_EVT_ROUTE_ENABLE, HI_EVT_ROUTE_AUX, HI_EVT_ROUTE_RING]
  | .HI_EVT_DROP => [HI_EVT_DROP_DROPS]
  | .HI_DUMP => [HI_DUMP_ADDR, HI_DUMP_ENABLE]
  | .HI_DUMP_CFG => [HI_DUMP_CFG_VECTOR]
  | .HI_VEC => [HI_VEC_MOD_CNT, HI_VEC_MOD_UT]
  | .HI_RING => [HI_RING_BASE, HI_RING_VECTOR, HI_RING_GROUP, HI_RING_SIZE_LOG2, HI_RING_ENABLE, HI_RING_STOPPED, HI_RING_ERR, HI_RING_DROPS]
  | .SF_STATUS => [SF_STATUS_GLOBAL, SF_STATUS_ACK_REJ, SF_STATUS_INJ_ACTIVE, SF_STATUS_MODEL_FAULTY, SF_STATUS_PPS_FAULTY, SF_STATUS_DOM_FAULTY, SF_STATUS_CLASS]
  | .SF_CTRL => [SF_CTRL_INJ_KEY, SF_CTRL_INJ_ARG, SF_CTRL_INJ_CODE, SF_CTRL_SELFCHK, SF_CTRL_ACK]
  | .SF_DIAG => [SF_DIAG_PORT_FAULT, SF_DIAG_PIN_FAULT, SF_DIAG_SQ_SF, SF_DIAG_DIFF, SF_DIAG_SELFCHK_AGE, SF_DIAG_SELFCHK_RES, SF_DIAG_COMPUTED, SF_DIAG_REFERENCE, SF_DIAG_SF_HB]
  | .EV_STATUS => [EV_STATUS_DROPPED, EV_STATUS_RING_LOST, EV_STATUS_REWRITING, EV_STATUS_FLASH_ERR, EV_STATUS_FULL, EV_STATUS_PENDING, EV_STATUS_USED]
  | .EV_HOURS => [EV_HOURS_PWR_CYCLES, EV_HOURS_OP_HOURS]
  | .EV_CFG => [EV_CFG_FLASH_MIN]
  | .EV_CTRL => [EV_CTRL_KEY, EV_CTRL_ERASE]
  | .EV_RD_CTRL => [EV_RD_CTRL_DONE, EV_RD_CTRL_EMPTY, EV_RD_CTRL_GO, EV_RD_CTRL_RING, EV_RD_CTRL_INDEX]
  | .EV_RD_DATA => [EV_RD_DATA_DATA]
  | .PW_STATUS => [PW_STATUS_PWR_FAULT, PW_STATUS_PLIMIT, PW_STATUS_PWR_OK, PW_STATUS_FAWN_LOW, PW_STATUS_READY, PW_STATUS_PSTATE]
  | .PW_CTRL => [PW_CTRL_KEY, PW_CTRL_PERST_SCOPE, PW_CTRL_STANDBY]
  | .PW_BOOT_STATUS => [PW_BOOT_STATUS_FAIL_CODE, PW_BOOT_STATUS_RECOVERY, PW_BOOT_STATUS_UNOWNED, PW_BOOT_STATUS_SUP_COPY, PW_BOOT_STATUS_SVC_COPY, PW_BOOT_STATUS_PRESET_SKIP]
  | .PW_DIE_ID => [PW_DIE_ID_DIE_ID]
  | .PW_TOL => [PW_TOL_TOL_US]
  | .PW_BLK_STATE => [PW_BLK_STATE_TARGET, PW_BLK_STATE_STATE]
  | .PW_ENTRY_CNT => [PW_ENTRY_CNT_ENTERED, PW_ENTRY_CNT_REFUSED, PW_ENTRY_CNT_DELAYED, PW_ENTRY_CNT_ABORTED]
  | .PW_LAST_REFUSAL => [PW_LAST_REFUSAL_TICK, PW_LAST_REFUSAL_BLOCK, PW_LAST_REFUSAL_REASON, PW_LAST_REFUSAL_STATE]
  | .PW_RAIL => [PW_RAIL_AVS, PW_RAIL_POUT, PW_RAIL_SWITCHED, PW_RAIL_SUPPLY, PW_RAIL_PAGE, PW_RAIL_ADDR]
  | .PW_AVS => [PW_AVS_FAILS, PW_AVS_RETRIES, PW_AVS_CUR_MV, PW_AVS_IF, PW_AVS_TARGET_MV]
  | .PW_PLIMIT => [PW_PLIMIT_POUT_W, PW_PLIMIT_HYST_W, PW_PLIMIT_LIMIT_W]
  | .PW_PAD_CFG => [PW_PAD_CFG_HELD, PW_PAD_CFG_AUTO_REL, PW_PAD_CFG_MODE]
  | .PW_PAD_RELEASE => [PW_PAD_RELEASE_REL_REJ, PW_PAD_RELEASE_RELEASE]
  | .PW_RET_STATUS => [PW_RET_STATUS_FAIL_CNT, PW_RET_STATUS_FAILED]
  | .SF_CNT => [SF_CNT_CNT]

/-- Where a register stands in BAR0 (Tables 17-1 and 17-2). -/
def RegName.spans : RegName → List Span
  | .ID_PART => [⟨0, 0, 0x0, 0x0, 1, 0x0, 1⟩]
  | .ID_REV => [⟨0, 0, 0x4, 0x0, 1, 0x0, 1⟩]
  | .GL_RST_STATUS => [⟨0, 0, 0x10, 0x0, 1, 0x0, 1⟩]
  | .GL_CLK_CTRL => [⟨0, 0, 0x100, 0x0, 1, 0x0, 1⟩]
  | .GL_CLK_STATUS => [⟨0, 0, 0x104, 0x0, 1, 0x0, 1⟩]
  | .GL_TICK_NUM => [⟨0, 0, 0x108, 0x0, 1, 0x0, 1⟩]
  | .GL_JOB_STAT => [⟨0, 0, 0x180, 0x4, 13, 0x0, 1⟩]
  | .GL_REGION_CTRL => [⟨0, 0, 0x200, 0x0, 1, 0x0, 1⟩]
  | .GL_DBG_CTRL => [⟨0, 0, 0x300, 0x0, 1, 0x0, 1⟩]
  | .GL_DBG_ADDR => [⟨0, 0, 0x308, 0x0, 1, 0x0, 1⟩]
  | .GL_DBG_DATA => [⟨0, 0, 0x30C, 0x0, 1, 0x0, 1⟩]
  | .HI_PCIE_STATUS => [⟨0, 0, 0x400, 0x0, 1, 0x0, 1⟩]
  | .SF_LEVEL => [⟨0, 0, 0x500, 0x0, 1, 0x0, 1⟩]
  | .QUADS_OUT => [⟨0, 0, 0x504, 0x0, 1, 0x0, 1⟩]
  | .SF_LEVEL_CMD => [⟨0, 0, 0x508, 0x0, 1, 0x0, 1⟩]
  | .SF_LEVEL_CFG => [⟨0, 0, 0x50C, 0x0, 1, 0x0, 1⟩]
  | .SF_REGION => [⟨0, 0, 0x600, 0x20, 8, 0x0, 1⟩]
  | .GL_FLASH_CTRL => [⟨0, 0, 0x700, 0x0, 1, 0x0, 1⟩]
  | .GL_FLASH_ADDR => [⟨0, 0, 0x704, 0x0, 1, 0x0, 1⟩]
  | .GL_FLASH_BUF => [⟨0, 0, 0x800, 0x0, 1, 0x0, 1⟩]
  | .LN_RX_CTRL => [⟨1, 0, 0x0, 0x4000, 2, 0x1000, 4⟩]
  | .LN_RX_EQ => [⟨1, 0, 0x4, 0x4000, 2, 0x1000, 4⟩]
  | .LN_ALIGN_CFG => [⟨1, 0, 0x8, 0x4000, 2, 0x1000, 4⟩]
  | .LN_RX_STATUS => [⟨1, 0, 0x10, 0x4000, 2, 0x1000, 4⟩]
  | .LN_ALIGN_STAT => [⟨1, 0, 0x14, 0x4000, 2, 0x1000, 4⟩]
  | .LN_RX_LAT => [⟨1, 0, 0x20, 0x4000, 2, 0x1000, 4⟩]
  | .LN_FB_CAP => [⟨1, 0, 0x30, 0x4000, 2, 0x1000, 4⟩]
  | .LN_SFC => [⟨1, 0, 0x40, 0x4000, 2, 0x1000, 4⟩]
  | .LN_FEC_CFG => [⟨1, 0, 0x50, 0x4000, 2, 0x1000, 4⟩]
  | .LN_FEC_CNT => [⟨1, 0, 0x60, 0x4000, 2, 0x1000, 4⟩]
  | .LN_PM_CFG => [⟨1, 0, 0x80, 0x4000, 2, 0x1000, 4⟩]
  | .LN_PM_SD => [⟨1, 0, 0x84, 0x4000, 2, 0x1000, 4⟩]
  | .LN_PM => [⟨1, 0, 0x90, 0x4000, 2, 0x1000, 4⟩]
  | .LN_MAP_CFG => [⟨1, 0, 0x8000, 0x100, 2, 0x0, 1⟩]
  | .LN_MAP_STAT => [⟨1, 0, 0x8004, 0x100, 2, 0x0, 1⟩]
  | .LN_ATT_CTRL => [⟨1, 0, 0x9000, 0x400, 2, 0x0, 1⟩]
  | .LN_ATT_STATUS => [⟨1, 0, 0x9004, 0x400, 2, 0x0, 1⟩]
  | .LN_ATT_SN => [⟨1, 0, 0x9008, 0x400, 2, 0x0, 1⟩]
  | .LN_ATT_TMR => [⟨1, 0, 0x9010, 0x400, 2, 0x0, 1⟩]
  | .LN_ATT_RESP => [⟨1, 0, 0x9014, 0x400, 2, 0x0, 1⟩]
  | .LN_OPT_RXDLY => [⟨1, 0, 0x9020, 0x400, 2, 0x4, 4⟩]
  | .LN_OPT_TXDLY => [⟨1, 0, 0x9030, 0x400, 2, 0x4, 2⟩]
  | .LN_ATT_REGID => [⟨1, 0, 0x9040, 0x400, 2, 0x0, 1⟩]
  | .LN_ATT_STAT => [⟨1, 0, 0x9080, 0x400, 2, 0x0, 1⟩]
  | .LN_ATT_STAT2 => [⟨1, 0, 0x9084, 0x400, 2, 0x0, 1⟩]
  | .LN_ATT_HEALTH => [⟨1, 0, 0x9100, 0x400, 2, 0x0, 1⟩]
  | .LN_TX_CTRL => [⟨1, 0, 0xA000, 0x200, 2, 0x100, 2⟩]
  | .LN_TX_BURST => [⟨1, 0, 0xA004, 0x200, 2, 0x100, 2⟩]
  | .LN_EQD => [⟨1, 0, 0xA008, 0x200, 2, 0x100, 2⟩]
  | .LN_TX_LAT => [⟨1, 0, 0xA010, 0x200, 2, 0x100, 2⟩]
  | .LN_TX_STATUS => [⟨1, 0, 0xA014, 0x200, 2, 0x100, 2⟩]
  | .LN_TX_CNT => [⟨1, 0, 0xA020, 0x200, 2, 0x100, 2⟩]
  | .HD_HERD_CFG => [⟨1, 0, 0xC000, 0x400, 2, 0x0, 1⟩]
  | .HD_GRID => [⟨1, 0, 0xC004, 0x400, 2, 0x0, 1⟩]
  | .HD_SWIDAN_CFG => [⟨1, 0, 0xC008, 0x400, 2, 0x0, 1⟩]
  | .HD_SWIDAN_CTRL => [⟨1, 0, 0xC00C, 0x400, 2, 0x0, 1⟩]
  | .HD_LAMBDA => [⟨1, 0, 0xC010, 0x400, 2, 0x4, 6⟩]
  | .HD_HERD_STATUS => [⟨1, 0, 0xC030, 0x400, 2, 0x0, 1⟩]
  | .HD_HERD_CNT => [⟨1, 0, 0xC034, 0x400, 2, 0x0, 1⟩]
  | .HD_PTR_STATUS => [⟨1, 0, 0xC040, 0x400, 2, 0x4, 4⟩]
  | .HD_PTR_CNT => [⟨1, 0, 0xC050, 0x400, 2, 0x8, 4⟩]
  | .HD_SKEW => [⟨1, 0, 0xC070, 0x400, 2, 0x4, 4⟩]
  | .HD_LAUNCH_OFS => [⟨1, 0, 0xC080, 0x400, 2, 0x4, 4⟩]
  | .HD_EST_CFG => [⟨1, 0, 0xC090, 0x400, 2, 0x0, 1⟩]
  | .HD_EST_LIM => [⟨1, 0, 0xC094, 0x400, 2, 0x0, 1⟩]
  | .HD_GROUP_DLY => [⟨1, 0, 0xC098, 0x400, 2, 0x0, 1⟩]
  | .HD_TABLE => [⟨1, 0, 0xC0A0, 0x400, 2, 0x0, 1⟩]
  | .HD_ASYM_OVR => [⟨1, 0, 0xC0B0, 0x400, 2, 0x0, 1⟩]
  | .HD_EST_RES => [⟨1, 0, 0xC0C0, 0x400, 2, 0x0, 1⟩]
  | .TC_TIME => [⟨2, 0, 0x0, 0x0, 1, 0x0, 1⟩]
  | .TC_INCR => [⟨2, 0, 0x10, 0x0, 1, 0x0, 1⟩]
  | .TC_STATUS => [⟨2, 0, 0x18, 0x0, 1, 0x0, 1⟩]
  | .TC_CTRL => [⟨2, 0, 0x1C, 0x0, 1, 0x0, 1⟩]
  | .TC_SET => [⟨2, 0, 0x20, 0x0, 1, 0x0, 1⟩]
  | .TC_DOM_STATUS => [⟨2, 0, 0x40, 0x20, 2, 0x0, 1⟩]
  | .TC_TODA_IN => [⟨2, 0, 0x80, 0x10, 2, 0x0, 1⟩]
  | .TC_HOLD => [⟨2, 0, 0xA0, 0x0, 1, 0x0, 1⟩]
  | .TC_CMP_CNT => [⟨2, 0, 0x100, 0x4, 32, 0x0, 1⟩]
  | .TC_PIN_STAT => [⟨2, 0, 0x180, 0x4, 8, 0x0, 1⟩]
  | .TS_PORT_STATUS => [⟨3, 0, 0xC0000, 0x400, 64, 0x0, 1⟩, ⟨4, 64, 0xC0000, 0x400, 64, 0x0, 1⟩, ⟨7, 128, 0xC0000, 0x400, 2, 0x0, 1⟩]
  | .TS_LAT => [⟨3, 0, 0xC0008, 0x400, 64, 0x0, 1⟩, ⟨4, 64, 0xC0008, 0x400, 64, 0x0, 1⟩, ⟨7, 128, 0xC0008, 0x400, 2, 0x0, 1⟩]
  | .TS_SELFTEST => [⟨3, 0, 0xC0010, 0x400, 64, 0x0, 1⟩, ⟨4, 64, 0xC0010, 0x400, 64, 0x0, 1⟩, ⟨7, 128, 0xC0010, 0x400, 2, 0x0, 1⟩]
  | .TS_CNT => [⟨3, 0, 0xC0040, 0x400, 64, 0x0, 1⟩, ⟨4, 64, 0xC0040, 0x400, 64, 0x0, 1⟩, ⟨7, 128, 0xC0040, 0x400, 2, 0x0, 1⟩]
  | .TM_HOME_STATUS => [⟨5, 0, 0xE0200, 0x4, 16, 0x0, 1⟩]
  | .TM_REPL_STAT => [⟨5, 0, 0xE0280, 0x0, 1, 0x0, 1⟩]
  | .TM_FRER_CNT => [⟨5, 0, 0xF4000, 0x10, 1024, 0x0, 1⟩]
  | .BM_BRIDGE_CFG => [⟨6, 0, 0x4000, 0x0, 1, 0x0, 1⟩]
  | .BM_BRIDGE_STATUS => [⟨6, 0, 0x4004, 0x0, 1, 0x0, 1⟩]
  | .BM_BRIDGE_FIFO => [⟨6, 0, 0x4040, 0x10, 17, 0x0, 1⟩]
  | .PF_LANE_CTRL => [⟨3, 0, 0x0, 0x400, 64, 0x0, 1⟩, ⟨4, 64, 0x0, 0x400, 64, 0x0, 1⟩]
  | .PF_LANE_EQ => [⟨3, 0, 0x4, 0x400, 64, 0x0, 1⟩, ⟨4, 64, 0x4, 0x400, 64, 0x0, 1⟩]
  | .PF_LANE_STATUS => [⟨3, 0, 0x8, 0x400, 64, 0x0, 1⟩, ⟨4, 64, 0x8, 0x400, 64, 0x0, 1⟩]
  | .PF_PRBS_CNT => [⟨3, 0, 0xC, 0x400, 64, 0x0, 1⟩, ⟨4, 64, 0xC, 0x400, 64, 0x0, 1⟩]
  | .PF_MAC_CNT => [⟨3, 0, 0x40, 0x400, 64, 0x0, 1⟩, ⟨4, 64, 0x40, 0x400, 64, 0x0, 1⟩]
  | .PF_QUAD_CFG => [⟨3, 0, 0x10000, 0x100, 16, 0x0, 1⟩, ⟨4, 16, 0x10000, 0x100, 16, 0x0, 1⟩]
  | .PF_QUAD_CNT => [⟨3, 0, 0x10010, 0x100, 16, 0x0, 1⟩, ⟨4, 16, 0x10010, 0x100, 16, 0x0, 1⟩]
  | .PF_RECAL_STATUS => [⟨3, 0, 0x11000, 0x0, 1, 0x0, 1⟩, ⟨4, 1, 0x11000, 0x0, 1, 0x0, 1⟩]
  | .PP_ENG_STATUS => [⟨5, 0, 0x0, 0x0, 1, 0x0, 1⟩]
  | .PP_PROG_STATUS => [⟨5, 0, 0x8, 0x0, 1, 0x0, 1⟩]
  | .PP_CNT => [⟨5, 0, 0x20, 0x0, 1, 0x0, 1⟩]
  | .PP_DROP_CNT => [⟨5, 0, 0x80, 0x4, 16, 0x0, 1⟩]
  | .PP_XGEM_CNT => [⟨5, 0, 0xC0, 0x8, 2, 0x0, 1⟩]
  | .PP_TBL_STAT => [⟨5, 0, 0x100, 0x8, 5, 0x0, 1⟩]
  | .PP_TBL_SEED => [⟨5, 0, 0x140, 0x0, 1, 0x0, 1⟩]
  | .PP_EXC_CNT => [⟨5, 0, 0x400, 0x8, 32, 0x0, 1⟩]
  | .TM_Q_STATUS => [⟨5, 0, 0x90000, 0x8, 2144, 0x0, 1⟩]
  | .TM_Q_CNT => [⟨5, 0, 0xA0000, 0x10, 2112, 0x0, 1⟩]
  | .TM_UP_CNT => [⟨5, 0, 0xBC000, 0x800, 2, 0x10, 64⟩]
  | .TM_POL_CNT => [⟨5, 0, 0x60000, 0x10, 8192, 0x0, 1⟩]
  | .TM_BP_STATUS => [⟨5, 0, 0xBB000, 0x4, 7, 0x0, 1⟩]
  | .TM_ING_DROP => [⟨5, 0, 0xBB100, 0x4, 194, 0x0, 1⟩]
  | .BM_MEM_CFG => [⟨6, 0, 0x0, 0x0, 1, 0x0, 1⟩]
  | .BM_MEM_STATUS => [⟨6, 0, 0x4, 0x0, 1, 0x0, 1⟩]
  | .BM_MEM_GEOM => [⟨6, 0, 0x8, 0x0, 1, 0x0, 1⟩]
  | .BM_SCRUB_CFG => [⟨6, 0, 0x10, 0x0, 1, 0x0, 1⟩]
  | .BM_OCB_STATUS => [⟨6, 0, 0x20, 0x0, 1, 0x0, 1⟩]
  | .BM_ECC_CNT => [⟨6, 0, 0x100, 0x10, 8, 0x0, 1⟩]
  | .BM_REPAIR_LOG => [⟨6, 0, 0x200, 0x80, 8, 0x8, 16⟩]
  | .BM_POOL_STATUS => [⟨6, 0, 0x2000, 0x20, 16, 0x0, 1⟩]
  | .BM_REJ_LAST => [⟨6, 0, 0x3000, 0x0, 1, 0x0, 1⟩]
  | .CX_KS_STATUS => [⟨5, 0, 0x20000, 0x0, 1, 0x0, 1⟩]
  | .CX_KS_CTRL => [⟨5, 0, 0x20004, 0x0, 1, 0x0, 1⟩]
  | .CX_LANE_STATUS => [⟨5, 0, 0x20010, 0x0, 1, 0x0, 1⟩]
  | .CX_CLU_STATUS => [⟨5, 0, 0x20020, 0x0, 1, 0x0, 1⟩]
  | .CX_LANE_CNT => [⟨5, 0, 0x20030, 0x0, 1, 0x0, 1⟩]
  | .CX_PON_CNT => [⟨5, 0, 0x20100, 0x20, 2, 0x0, 1⟩]
  | .CX_PORT_CNT => [⟨5, 0, 0x22000, 0x10, 128, 0x0, 1⟩]
  | .CX_SLOT_ATTR => [⟨5, 0, 0x30000, 0x8, 8192, 0x0, 1⟩]
  | .CX_SC_CNT => [⟨5, 0, 0x28000, 0x10, 2048, 0x0, 1⟩]
  | .SV_LIST_STAT => [⟨7, 0, 0x10000, 0x20, 16, 0x0, 1⟩]
  | .SV_CORE_STATUS => [⟨7, 0, 0x10400, 0x4, 16, 0x0, 1⟩]
  | .SV_LOAD => [⟨7, 0, 0x10500, 0x4, 48, 0x0, 1⟩]
  | .SV_FW_STATUS => [⟨7, 0, 0x10480, 0x0, 1, 0x0, 1⟩]
  | .SV_DISP_CNT => [⟨7, 0, 0x10490, 0x0, 1, 0x0, 1⟩]
  | .PC_DESC => [⟨7, 0, 0x20000, 0x8, 6144, 0x0, 1⟩]
  | .PC_VALUE => [⟨7, 0, 0x30000, 0x8, 6144, 0x0, 1⟩]
  | .PC_WRAP => [⟨7, 0, 0x3C000, 0x0, 1, 0x0, 1⟩]
  | .PC_STAT => [⟨7, 0, 0x3E000, 0x0, 1, 0x0, 1⟩]
  | .HI_CFG => [⟨7, 0, 0x80000, 0x0, 1, 0x0, 1⟩]
  | .HI_EMERG => [⟨7, 0, 0x80004, 0x0, 1, 0x0, 1⟩]
  | .HI_DB_BASE => [⟨7, 0, 0x80008, 0x0, 1, 0x0, 1⟩]
  | .HI_SUM_BASE => [⟨7, 0, 0x80010, 0x0, 1, 0x0, 1⟩]
  | .HI_HEAD_BASE => [⟨7, 0, 0x80018, 0x0, 1, 0x0, 1⟩]
  | .HI_STATUS => [⟨7, 0, 0x80020, 0x0, 1, 0x0, 1⟩]
  | .HI_EPOCH_STATUS => [⟨7, 0, 0x80040, 0x0, 1, 0x0, 1⟩]
  | .HI_EPOCH_CFG => [⟨7, 0, 0x80060, 0x0, 1, 0x0, 1⟩]
  | .HI_EVT_ROUTE => [⟨7, 0, 0x80080, 0x4, 8, 0x0, 1⟩]
  | .HI_EVT_DROP => [⟨7, 0, 0x800A0, 0x4, 8, 0x0, 1⟩]
  | .HI_DUMP => [⟨7, 0, 0x80100, 0x8, 16, 0x0, 1⟩]
  | .HI_DUMP_CFG => [⟨7, 0, 0x80180, 0x0, 1, 0x0, 1⟩]
  | .HI_VEC => [⟨7, 0, 0x80400, 0x4, 256, 0x0, 1⟩]
  | .HI_RING => [⟨7, 0, 0x81000, 0x20, 216, 0x0, 1⟩]
  | .SF_STATUS => [⟨2, 0, 0x10000, 0x0, 1, 0x0, 1⟩]
  | .SF_CTRL => [⟨2, 0, 0x10004, 0x0, 1, 0x0, 1⟩]
  | .SF_DIAG => [⟨2, 0, 0x10008, 0x0, 1, 0x0, 1⟩]
  | .EV_STATUS => [⟨2, 0, 0x11000, 0x0, 1, 0x0, 1⟩]
  | .EV_HOURS => [⟨2, 0, 0x11008, 0x0, 1, 0x0, 1⟩]
  | .EV_CFG => [⟨2, 0, 0x11010, 0x0, 1, 0x0, 1⟩]
  | .EV_CTRL => [⟨2, 0, 0x11014, 0x0, 1, 0x0, 1⟩]
  | .EV_RD_CTRL => [⟨2, 0, 0x11018, 0x0, 1, 0x0, 1⟩]
  | .EV_RD_DATA => [⟨2, 0, 0x11040, 0x0, 1, 0x0, 1⟩]
  | .PW_STATUS => [⟨2, 0, 0x12000, 0x0, 1, 0x0, 1⟩]
  | .PW_CTRL => [⟨2, 0, 0x12004, 0x0, 1, 0x0, 1⟩]
  | .PW_BOOT_STATUS => [⟨2, 0, 0x12008, 0x0, 1, 0x0, 1⟩]
  | .PW_DIE_ID => [⟨2, 0, 0x12010, 0x0, 1, 0x0, 1⟩]
  | .PW_TOL => [⟨2, 0, 0x12100, 0x4, 50, 0x0, 1⟩]
  | .PW_BLK_STATE => [⟨2, 0, 0x12200, 0x4, 50, 0x0, 1⟩]
  | .PW_ENTRY_CNT => [⟨2, 0, 0x122F0, 0x10, 12, 0x0, 1⟩]
  | .PW_LAST_REFUSAL => [⟨2, 0, 0x12400, 0x0, 1, 0x0, 1⟩]
  | .PW_RAIL => [⟨2, 0, 0x12500, 0x4, 8, 0x0, 1⟩]
  | .PW_AVS => [⟨2, 0, 0x12540, 0x0, 1, 0x0, 1⟩]
  | .PW_PLIMIT => [⟨2, 0, 0x12548, 0x0, 1, 0x0, 1⟩]
  | .PW_PAD_CFG => [⟨2, 0, 0x12600, 0x4, 8, 0x0, 1⟩]
  | .PW_PAD_RELEASE => [⟨2, 0, 0x12640, 0x0, 1, 0x0, 1⟩]
  | .PW_RET_STATUS => [⟨2, 0, 0x12680, 0x0, 1, 0x0, 1⟩]
  | .SF_CNT => [⟨2, 0, 0x10040, 0x4, 14, 0x0, 1⟩]

/-- How many bytes of BAR0 one instance of the register takes. -/
def RegName.bytes : RegName → Nat
  | .ID_PART => 4
  | .ID_REV => 4
  | .GL_RST_STATUS => 4
  | .GL_CLK_CTRL => 4
  | .GL_CLK_STATUS => 4
  | .GL_TICK_NUM => 8
  | .GL_JOB_STAT => 4
  | .GL_REGION_CTRL => 4
  | .GL_DBG_CTRL => 4
  | .GL_DBG_ADDR => 4
  | .GL_DBG_DATA => 4
  | .HI_PCIE_STATUS => 4
  | .SF_LEVEL => 4
  | .QUADS_OUT => 4
  | .SF_LEVEL_CMD => 4
  | .SF_LEVEL_CFG => 4
  | .SF_REGION => 16
  | .GL_FLASH_CTRL => 4
  | .GL_FLASH_ADDR => 4
  | .GL_FLASH_BUF => 256
  | .LN_RX_CTRL => 4
  | .LN_RX_EQ => 4
  | .LN_ALIGN_CFG => 4
  | .LN_RX_STATUS => 4
  | .LN_ALIGN_STAT => 4
  | .LN_RX_LAT => 4
  | .LN_FB_CAP => 16
  | .LN_SFC => 8
  | .LN_FEC_CFG => 4
  | .LN_FEC_CNT => 16
  | .LN_PM_CFG => 4
  | .LN_PM_SD => 4
  | .LN_PM => 16
  | .LN_MAP_CFG => 4
  | .LN_MAP_STAT => 4
  | .LN_ATT_CTRL => 4
  | .LN_ATT_STATUS => 4
  | .LN_ATT_SN => 8
  | .LN_ATT_TMR => 4
  | .LN_ATT_RESP => 4
  | .LN_OPT_RXDLY => 4
  | .LN_OPT_TXDLY => 4
  | .LN_ATT_REGID => 36
  | .LN_ATT_STAT => 4
  | .LN_ATT_STAT2 => 4
  | .LN_ATT_HEALTH => 4
  | .LN_TX_CTRL => 4
  | .LN_TX_BURST => 4
  | .LN_EQD => 8
  | .LN_TX_LAT => 4
  | .LN_TX_STATUS => 4
  | .LN_TX_CNT => 20
  | .HD_HERD_CFG => 4
  | .HD_GRID => 4
  | .HD_SWIDAN_CFG => 4
  | .HD_SWIDAN_CTRL => 4
  | .HD_LAMBDA => 4
  | .HD_HERD_STATUS => 4
  | .HD_HERD_CNT => 4
  | .HD_PTR_STATUS => 4
  | .HD_PTR_CNT => 8
  | .HD_SKEW => 4
  | .HD_LAUNCH_OFS => 4
  | .HD_EST_CFG => 4
  | .HD_EST_LIM => 4
  | .HD_GROUP_DLY => 4
  | .HD_TABLE => 12
  | .HD_ASYM_OVR => 8
  | .HD_EST_RES => 64
  | .TC_TIME => 16
  | .TC_INCR => 8
  | .TC_STATUS => 4
  | .TC_CTRL => 4
  | .TC_SET => 16
  | .TC_DOM_STATUS => 32
  | .TC_TODA_IN => 16
  | .TC_HOLD => 32
  | .TC_CMP_CNT => 4
  | .TC_PIN_STAT => 4
  | .TS_PORT_STATUS => 4
  | .TS_LAT => 8
  | .TS_SELFTEST => 4
  | .TS_CNT => 64
  | .TM_HOME_STATUS => 4
  | .TM_REPL_STAT => 4
  | .TM_FRER_CNT => 16
  | .BM_BRIDGE_CFG => 4
  | .BM_BRIDGE_STATUS => 4
  | .BM_BRIDGE_FIFO => 16
  | .PF_LANE_CTRL => 4
  | .PF_LANE_EQ => 4
  | .PF_LANE_STATUS => 4
  | .PF_PRBS_CNT => 4
  | .PF_MAC_CNT => 64
  | .PF_QUAD_CFG => 4
  | .PF_QUAD_CNT => 16
  | .PF_RECAL_STATUS => 4
  | .PP_ENG_STATUS => 8
  | .PP_PROG_STATUS => 8
  | .PP_CNT => 56
  | .PP_DROP_CNT => 4
  | .PP_XGEM_CNT => 8
  | .PP_TBL_STAT => 8
  | .PP_TBL_SEED => 16
  | .PP_EXC_CNT => 8
  | .TM_Q_STATUS => 8
  | .TM_Q_CNT => 16
  | .TM_UP_CNT => 16
  | .TM_POL_CNT => 12
  | .TM_BP_STATUS => 4
  | .TM_ING_DROP => 4
  | .BM_MEM_CFG => 4
  | .BM_MEM_STATUS => 4
  | .BM_MEM_GEOM => 4
  | .BM_SCRUB_CFG => 4
  | .BM_OCB_STATUS => 8
  | .BM_ECC_CNT => 12
  | .BM_REPAIR_LOG => 8
  | .BM_POOL_STATUS => 32
  | .BM_REJ_LAST => 8
  | .CX_KS_STATUS => 4
  | .CX_KS_CTRL => 4
  | .CX_LANE_STATUS => 16
  | .CX_CLU_STATUS => 4
  | .CX_LANE_CNT => 16
  | .CX_PON_CNT => 20
  | .CX_PORT_CNT => 12
  | .CX_SLOT_ATTR => 8
  | .CX_SC_CNT => 16
  | .SV_LIST_STAT => 32
  | .SV_CORE_STATUS => 4
  | .SV_LOAD => 4
  | .SV_FW_STATUS => 8
  | .SV_DISP_CNT => 12
  | .PC_DESC => 4
  | .PC_VALUE => 8
  | .PC_WRAP => 768
  | .PC_STAT => 16
  | .HI_CFG => 4
  | .HI_EMERG => 4
  | .HI_DB_BASE => 8
  | .HI_SUM_BASE => 8
  | .HI_HEAD_BASE => 8
  | .HI_STATUS => 4
  | .HI_EPOCH_STATUS => 32
  | .HI_EPOCH_CFG => 4
  | .HI_EVT_ROUTE => 4
  | .HI_EVT_DROP => 4
  | .HI_DUMP => 8
  | .HI_DUMP_CFG => 4
  | .HI_VEC => 4
  | .HI_RING => 32
  | .SF_STATUS => 4
  | .SF_CTRL => 4
  | .SF_DIAG => 132
  | .EV_STATUS => 8
  | .EV_HOURS => 8
  | .EV_CFG => 4
  | .EV_CTRL => 4
  | .EV_RD_CTRL => 4
  | .EV_RD_DATA => 64
  | .PW_STATUS => 4
  | .PW_CTRL => 4
  | .PW_BOOT_STATUS => 4
  | .PW_DIE_ID => 8
  | .PW_TOL => 4
  | .PW_BLK_STATE => 4
  | .PW_ENTRY_CNT => 16
  | .PW_LAST_REFUSAL => 8
  | .PW_RAIL => 4
  | .PW_AVS => 8
  | .PW_PLIMIT => 4
  | .PW_PAD_CFG => 4
  | .PW_PAD_RELEASE => 4
  | .PW_RET_STATUS => 4
  | .SF_CNT => 4

/-- Whether a read of the lowest word latches the other words (the notes under the register tables). -/
def RegName.latches : RegName → Bool
  | .GL_TICK_NUM => true
  | .LN_FB_CAP => true
  | .LN_SFC => true
  | .LN_EQD => true
  | .HD_PTR_CNT => true
  | .TC_TIME => true
  | .TC_INCR => true
  | .TC_DOM_STATUS => true
  | .TC_HOLD => true
  | .TS_LAT => true
  | .PP_ENG_STATUS => true
  | .TM_Q_STATUS => true
  | .BM_OCB_STATUS => true
  | .BM_REJ_LAST => true
  | .CX_LANE_STATUS => true
  | .CX_SLOT_ATTR => true
  | .SV_FW_STATUS => true
  | .PC_VALUE => true
  | .HI_EPOCH_STATUS => true
  | .EV_STATUS => true
  | .EV_HOURS => true
  | .PW_DIE_ID => true
  | .PW_LAST_REFUSAL => true
  | .PW_AVS => true
  | .PF_MAC_CNT => true
  | _ => false

/-- Registers of BAR0, part 0. -/
def RegName.part0 : List RegName := [.ID_PART, .ID_REV, .GL_RST_STATUS, .GL_CLK_CTRL, .GL_CLK_STATUS, .GL_TICK_NUM, .GL_JOB_STAT, .GL_REGION_CTRL]

/-- Registers of BAR0, part 1. -/
def RegName.part1 : List RegName := [.GL_DBG_CTRL, .GL_DBG_ADDR, .GL_DBG_DATA, .HI_PCIE_STATUS, .SF_LEVEL, .QUADS_OUT, .SF_LEVEL_CMD, .SF_LEVEL_CFG]

/-- Registers of BAR0, part 2. -/
def RegName.part2 : List RegName := [.SF_REGION, .GL_FLASH_CTRL, .GL_FLASH_ADDR, .GL_FLASH_BUF, .LN_RX_CTRL, .LN_RX_EQ, .LN_ALIGN_CFG, .LN_RX_STATUS]

/-- Registers of BAR0, part 3. -/
def RegName.part3 : List RegName := [.LN_ALIGN_STAT, .LN_RX_LAT, .LN_FB_CAP, .LN_SFC, .LN_FEC_CFG, .LN_FEC_CNT, .LN_PM_CFG, .LN_PM_SD]

/-- Registers of BAR0, part 4. -/
def RegName.part4 : List RegName := [.LN_PM, .LN_MAP_CFG, .LN_MAP_STAT, .LN_ATT_CTRL, .LN_ATT_STATUS, .LN_ATT_SN, .LN_ATT_TMR, .LN_ATT_RESP]

/-- Registers of BAR0, part 5. -/
def RegName.part5 : List RegName := [.LN_OPT_RXDLY, .LN_OPT_TXDLY, .LN_ATT_REGID, .LN_ATT_STAT, .LN_ATT_STAT2, .LN_ATT_HEALTH, .LN_TX_CTRL, .LN_TX_BURST]

/-- Registers of BAR0, part 6. -/
def RegName.part6 : List RegName := [.LN_EQD, .LN_TX_LAT, .LN_TX_STATUS, .LN_TX_CNT, .HD_HERD_CFG, .HD_GRID, .HD_SWIDAN_CFG, .HD_SWIDAN_CTRL]

/-- Registers of BAR0, part 7. -/
def RegName.part7 : List RegName := [.HD_LAMBDA, .HD_HERD_STATUS, .HD_HERD_CNT, .HD_PTR_STATUS, .HD_PTR_CNT, .HD_SKEW, .HD_LAUNCH_OFS, .HD_EST_CFG]

/-- Registers of BAR0, part 8. -/
def RegName.part8 : List RegName := [.HD_EST_LIM, .HD_GROUP_DLY, .HD_TABLE, .HD_ASYM_OVR, .HD_EST_RES, .TC_TIME, .TC_INCR, .TC_STATUS]

/-- Registers of BAR0, part 9. -/
def RegName.part9 : List RegName := [.TC_CTRL, .TC_SET, .TC_DOM_STATUS, .TC_TODA_IN, .TC_HOLD, .TC_CMP_CNT, .TC_PIN_STAT, .TS_PORT_STATUS]

/-- Registers of BAR0, part 10. -/
def RegName.part10 : List RegName := [.TS_LAT, .TS_SELFTEST, .TS_CNT, .TM_HOME_STATUS, .TM_REPL_STAT, .TM_FRER_CNT, .BM_BRIDGE_CFG, .BM_BRIDGE_STATUS]

/-- Registers of BAR0, part 11. -/
def RegName.part11 : List RegName := [.BM_BRIDGE_FIFO, .PF_LANE_CTRL, .PF_LANE_EQ, .PF_LANE_STATUS, .PF_PRBS_CNT, .PF_MAC_CNT, .PF_QUAD_CFG, .PF_QUAD_CNT]

/-- Registers of BAR0, part 12. -/
def RegName.part12 : List RegName := [.PF_RECAL_STATUS, .PP_ENG_STATUS, .PP_PROG_STATUS, .PP_CNT, .PP_DROP_CNT, .PP_XGEM_CNT, .PP_TBL_STAT, .PP_TBL_SEED]

/-- Registers of BAR0, part 13. -/
def RegName.part13 : List RegName := [.PP_EXC_CNT, .TM_Q_STATUS, .TM_Q_CNT, .TM_UP_CNT, .TM_POL_CNT, .TM_BP_STATUS, .TM_ING_DROP, .BM_MEM_CFG]

/-- Registers of BAR0, part 14. -/
def RegName.part14 : List RegName := [.BM_MEM_STATUS, .BM_MEM_GEOM, .BM_SCRUB_CFG, .BM_OCB_STATUS, .BM_ECC_CNT, .BM_REPAIR_LOG, .BM_POOL_STATUS, .BM_REJ_LAST]

/-- Registers of BAR0, part 15. -/
def RegName.part15 : List RegName := [.CX_KS_STATUS, .CX_KS_CTRL, .CX_LANE_STATUS, .CX_CLU_STATUS, .CX_LANE_CNT, .CX_PON_CNT, .CX_PORT_CNT, .CX_SLOT_ATTR]

/-- Registers of BAR0, part 16. -/
def RegName.part16 : List RegName := [.CX_SC_CNT, .SV_LIST_STAT, .SV_CORE_STATUS, .SV_LOAD, .SV_FW_STATUS, .SV_DISP_CNT, .PC_DESC, .PC_VALUE]

/-- Registers of BAR0, part 17. -/
def RegName.part17 : List RegName := [.PC_WRAP, .PC_STAT, .HI_CFG, .HI_EMERG, .HI_DB_BASE, .HI_SUM_BASE, .HI_HEAD_BASE, .HI_STATUS]

/-- Registers of BAR0, part 18. -/
def RegName.part18 : List RegName := [.HI_EPOCH_STATUS, .HI_EPOCH_CFG, .HI_EVT_ROUTE, .HI_EVT_DROP, .HI_DUMP, .HI_DUMP_CFG, .HI_VEC, .HI_RING]

/-- Registers of BAR0, part 19. -/
def RegName.part19 : List RegName := [.SF_STATUS, .SF_CTRL, .SF_DIAG, .EV_STATUS, .EV_HOURS, .EV_CFG, .EV_CTRL, .EV_RD_CTRL]

/-- Registers of BAR0, part 20. -/
def RegName.part20 : List RegName := [.EV_RD_DATA, .PW_STATUS, .PW_CTRL, .PW_BOOT_STATUS, .PW_DIE_ID, .PW_TOL, .PW_BLK_STATE, .PW_ENTRY_CNT]

/-- Registers of BAR0, part 21. -/
def RegName.part21 : List RegName := [.PW_LAST_REFUSAL, .PW_RAIL, .PW_AVS, .PW_PLIMIT, .PW_PAD_CFG, .PW_PAD_RELEASE, .PW_RET_STATUS, .SF_CNT]

/-- Every register of BAR0. -/
def RegName.all : List RegName :=
  part0 ++ part1 ++ part2 ++ part3 ++ part4 ++ part5 ++ part6 ++ part7 ++ part8 ++ part9 ++ part10 ++ part11 ++ part12 ++ part13 ++ part14 ++ part15 ++ part16 ++ part17 ++ part18 ++ part19 ++ part20 ++ part21

end Sys2Proof.Machine
end

