-- ==== Sys2Proof/Config.lean ====
section
/-! DEFINITION. What the specification leaves to the implementation: values that a run produces and the
manual does not state. Every constant here is opaque, so that no proof can see a value of it. -/

namespace Sys2Proof.Config

open Sys2Proof.Machine

/-- The n-th free value of a run: a value that results and that the manual does not state (log entry 4, DESIGN CHOICE).
`Hw.free` counts the values taken. -/
opaque freeValue : Nat → Nat

/-- The event counter, 0 to 6,143, that mirrors a field (R345): PC_DESC is fixed by the maker and its
contents are not printed (log entry 5, DESIGN CHOICE). Arguments: register, lowest bit, first and second index. -/
opaque counterIndex : RegName → Nat → Nat → Nat → Nat

/-- The field that counter `i` mirrors (R345), as its register, lowest bit and indices. -/
opaque counterField : Nat → RegName × Nat × Nat × Nat

/-- PC_DESC[i] of Table 13-14: OFFSET, STATUS and BIT (log entry 5, DESIGN CHOICE). -/
opaque pcDesc : Nat → Nat × Nat × Nat

/-- The recorder code of an event that the manual records, that no field named in it counts and that
Table 15-6 does not list (log entry 5, DESIGN CHOICE); the argument numbers these events. -/
opaque otherCode : Nat → Nat

/-- PW_DIE_ID, fused (R431; log entry 6, DESIGN CHOICE). -/
opaque dieId : Nat

/-- The word of a block's debug space (R451: the layout is the maker's own; log entry 7, DESIGN CHOICE). Arguments: the
block, the word and the number of the free value. -/
opaque debugWord : Nat → Nat → Nat → Nat

/-- The ratio of a circle's circumference to its diameter, as the arithmetic of R141, R149 and R123 uses
it; the manual does not say to how many digits (log entry 8, DESIGN CHOICE). -/
opaque pi : Rat

/-- AES-256-GCM or AES-256 key wrap results and other cipher outputs: the standards named in Table 0-5
compute them and the manual does not restate them (log entry 9, DESIGN CHOICE). Arguments: what is computed, and the
operands. -/
opaque cipherBytes : Nat → List Nat → List (BitVec 8)

/-- Whether an authentication check of a standard passes on the operands given (log entry 9, DESIGN CHOICE). -/
opaque cipherOk : Nat → List Nat → Bool

end Sys2Proof.Config
end

