-- ==== Sys2Proof/Machine/Bits.lean ====
section
/-! DEFINITION. Bit-field, byte-order, sign, rounding and CRC helpers shared by every unit. -/

namespace Sys2Proof.Machine

/-- The `w` bits of `v` from bit `l` upward. -/
def bits (v l w : Nat) : Nat := (v >>> l) % 2 ^ w

/-- `v` with its `w` bits from bit `l` upward replaced by the low `w` bits of `x`. -/
def putBits (v l w x : Nat) : Nat :=
  v % 2 ^ l + (x % 2 ^ w) * 2 ^ l + (v >>> (l + w)) * 2 ^ (l + w)

/-- Bit `k` of `v`. -/
def bitOf (v k : Nat) : Bool := v.testBit k

/-- `v` with bit `k` set or cleared. -/
def putBit (v k : Nat) (b : Bool) : Nat := putBits v k 1 b.toNat

/-- 1 for true, 0 for false. -/
def b2n (b : Bool) : Nat := if b then 1 else 0

/-- The two's complement reading of the low `w` bits of `v`. -/
def signed (w v : Nat) : Int :=
  if v % 2 ^ w < 2 ^ (w - 1) then ((v % 2 ^ w : Nat) : Int) else ((v % 2 ^ w : Nat) : Int) - ((2 ^ w : Nat) : Int)

/-- The `w`-bit two's complement pattern of `x`, modulo 2^w. -/
def unsigned (w : Nat) (x : Int) : Nat := (x % ((2 ^ w : Nat) : Int)).toNat

/-- `x` held between the least and the greatest `w`-bit signed value. -/
def satSigned (w : Nat) (x : Int) : Int :=
  max (-((2 ^ (w - 1) : Nat) : Int)) (min x (((2 ^ (w - 1) : Nat) : Int) - 1))

/-- `v` held at 2^w − 1. -/
def satNat (w v : Nat) : Nat := min v (2 ^ w - 1)

/-- R479: round half to even of the quotient `x / d`. -/
def roundDiv (x : Int) (d : Nat) : Int :=
  let q := x / (d : Int)
  let r := x % (d : Int)
  if 2 * r < (d : Int) then q
  else if 2 * r > (d : Int) then q + 1
  else if q % 2 = 0 then q else q + 1

/-- R479: a rational rounded to the nearest integer, halves to even. -/
def roundRat (x : Rat) : Int := roundDiv x.num x.den

/-- Number of set bits among the `n` lowest of `v`. -/
def popCount (n v : Nat) : Nat := ((List.range n).filter (fun k => v.testBit k)).length

/-- The lowest-numbered of the `n` low bits of `v` that is set. -/
def lowBit? (n v : Nat) : Option Nat := (List.range n).find? (fun k => v.testBit k)

/-- A little-endian number from its octets (R11). -/
def leNat : List Byte → Nat
  | [] => 0
  | b :: t => b.toNat + 256 * leNat t

/-- A number in network order from its octets (R11). -/
def beNat (l : List Byte) : Nat := l.foldl (fun a b => a * 256 + b.toNat) 0

/-- The `n` octets of a number, lowest first (R11). -/
def leBytes : Nat → Nat → List Byte
  | 0, _ => []
  | n + 1, v => BitVec.ofNat 8 v :: leBytes n (v / 256)

/-- R11: what a field of `n` octets held in network order says, from its little-endian reading `v`: its first octet is the
most significant. -/
def netOrder (n v : Nat) : Nat := beNat (leBytes n v)

/-- The `n` octets of a number in network order. -/
def beBytes (n v : Nat) : List Byte := (leBytes n v).reverse

/-- `n` octets of `l` from position `o`, zeros past the end. -/
def slice (l : List Byte) (o n : Nat) : List Byte :=
  (List.range n).map (fun k => l.getD (o + k) 0)

/-- `l` with the octets `d` written from position `o`; octets past the end of `l` are dropped. -/
def splice (l : List Byte) (o : Nat) (d : List Byte) : List Byte :=
  (List.range l.length).map (fun k => if o ≤ k ∧ k < o + d.length then d.getD (k - o) 0 else l.getD k 0)

/-- One step of a reflected CRC over 8 bits. -/
def crcBits (poly : Nat) : Nat → Nat → Nat
  | 0, c => c
  | n + 1, c => crcBits poly n (if c % 2 = 1 then (c / 2) ^^^ poly else c / 2)

/-- One octet of CRC-32C (reflected polynomial 0x82F6_3B78). -/
def crc32cByte (c : Nat) (b : Byte) : Nat := crcBits 0x82F63B78 8 (c ^^^ b.toNat)

/-- CRC-32C with seed `seed` and final inversion, over `l`. -/
def crc32c (seed : Nat) (l : List Byte) : Nat := (l.foldl crc32cByte seed) ^^^ 0xFFFFFFFF

/-- Whether the octets are all equal to `b`. -/
def allEq (l : List Byte) (b : Byte) : Bool := l.all (fun x => x == b)

/-- `l` with element `k` replaced. -/
def setNth {α : Type} (l : List α) (k : Nat) (x : α) : List α := l.set k x

/-- Insert into a list ordered by a key, after equal keys. -/
def insertBy {α : Type} (lt : α → α → Bool) (x : α) : List α → List α
  | [] => [x]
  | y :: t => if lt x y then x :: y :: t else y :: insertBy lt x t

/-- The element for which `lt` holds against every other, the first on ties. -/
def minBy? {α : Type} (lt : α → α → Bool) : List α → Option α
  | [] => none
  | x :: t =>
    match minBy? lt t with
    | none => some x
    | some y => if lt y x then some y else some x

end Sys2Proof.Machine
end

