-- ==== Sys2Proof/Machine/ObjTable.lean ====
section
/-! DEFINITION. The configuration image objects of Table 14-12: their types, sizes and index ranges,
the fields of their layouts with their reset values (Tables 5-17 to 5-19, 6-11, 6-12, 7-5, 7-8, 7-9,
8-15, 9-19, 10-7 to 10-12, 11-15, 12-19, 12-20, 13-13, 13-15 and 15-7) and where BAR0 reads them back. -/

namespace Sys2Proof.Machine

/-- Object types of Table 14-12. -/
inductive ObjType where
  | TIME_CORE | TS_PORT | TS_CLOCK | DUAL_ATT | FRER_GEN | FRER_RCV | PF_PORT | PARSER_PROG | PARSER_CFG | TM_QUEUE
  | TM_SHAPER | TM_PORT | TM_ALLOC | TM_INGRESS | TM_POLICER | BM_POOL | CX_PON | CX_SC | SV_DISPATCH | PC_CFG
  deriving DecidableEq, Repr

/-- One field of an object: its lowest bit in the object, its width in bits, the distance in bits
between its repetitions, how many repetitions there are and its reset value. A field held in network order is
numbered like every other, its first octet the lowest (R11, `netOrder`). -/
structure OFld where
  typ    : ObjType
  lsb    : Nat
  width  : Nat
  stride : Nat
  reps   : Nat
  reset  : Nat
  deriving DecidableEq, Repr

/-- Table 14-12: the TYPE codes. -/
def ObjType.code : ObjType → Nat
  | .TIME_CORE => 0x0001
  | .TS_PORT => 0x0002
  | .TS_CLOCK => 0x0003
  | .DUAL_ATT => 0x0004
  | .FRER_GEN => 0x0005
  | .FRER_RCV => 0x0006
  | .PF_PORT => 0x0007
  | .PARSER_PROG => 0x0008
  | .PARSER_CFG => 0x0009
  | .TM_QUEUE => 0x000A
  | .TM_SHAPER => 0x000B
  | .TM_PORT => 0x000C
  | .TM_ALLOC => 0x000D
  | .TM_INGRESS => 0x000E
  | .TM_POLICER => 0x000F
  | .BM_POOL => 0x0010
  | .CX_PON => 0x0011
  | .CX_SC => 0x0012
  | .SV_DISPATCH => 0x0013
  | .PC_CFG => 0x0014

/-- Every object type, in the order of Table 14-12. -/
def ObjType.all : List ObjType :=
  [.TIME_CORE, .TS_PORT, .TS_CLOCK, .DUAL_ATT, .FRER_GEN, .FRER_RCV, .PF_PORT, .PARSER_PROG, .PARSER_CFG, .TM_QUEUE, .TM_SHAPER, .TM_PORT, .TM_ALLOC, .TM_INGRESS, .TM_POLICER, .BM_POOL, .CX_PON, .CX_SC, .SV_DISPATCH, .PC_CFG]

/-- The object type with a TYPE code. -/
def ObjType.ofCode (c : Nat) : Option ObjType := ObjType.all.find? (fun t => t.code == c)

/-- Table 14-12: instance size in bytes (PARSER_PROG has a variable size). -/
def ObjType.size : ObjType → Nat
  | .TIME_CORE => 1408
  | .TS_PORT => 64
  | .TS_CLOCK => 64
  | .DUAL_ATT => 288
  | .FRER_GEN => 8
  | .FRER_RCV => 8
  | .PF_PORT => 32
  | .PARSER_PROG => 0
  | .PARSER_CFG => 288
  | .TM_QUEUE => 16
  | .TM_SHAPER => 8
  | .TM_PORT => 8
  | .TM_ALLOC => 4
  | .TM_INGRESS => 8
  | .TM_POLICER => 16
  | .BM_POOL => 32
  | .CX_PON => 144
  | .CX_SC => 32
  | .SV_DISPATCH => 1040
  | .PC_CFG => 784

/-- Table 14-12: how many instances there are. -/
def ObjType.count : ObjType → Nat
  | .TIME_CORE => 1
  | .TS_PORT => 130
  | .TS_CLOCK => 1
  | .DUAL_ATT => 1
  | .FRER_GEN => 1024
  | .FRER_RCV => 1024
  | .PF_PORT => 128
  | .PARSER_PROG => 1
  | .PARSER_CFG => 1
  | .TM_QUEUE => 2112
  | .TM_SHAPER => 4096
  | .TM_PORT => 129
  | .TM_ALLOC => 128
  | .TM_INGRESS => 194
  | .TM_POLICER => 8192
  | .BM_POOL => 16
  | .CX_PON => 2
  | .CX_SC => 2048
  | .SV_DISPATCH => 1
  | .PC_CFG => 1

/-- Where the objects in force read back in BAR0. -/
def ObjType.spans : ObjType → List Span
  | .TIME_CORE => [⟨2, 0, 0x400, 0x0, 1, 0, 1⟩]
  | .TS_PORT => [⟨3, 0, 0xC0200, 0x400, 64, 0, 1⟩, ⟨4, 64, 0xC0200, 0x400, 64, 0, 1⟩, ⟨7, 128, 0xC0200, 0x400, 2, 0, 1⟩]
  | .TS_CLOCK => [⟨7, 0, 0xD0000, 0x0, 1, 0, 1⟩]
  | .DUAL_ATT => [⟨5, 0, 0xE0000, 0x0, 1, 0, 1⟩]
  | .FRER_GEN => [⟨5, 0, 0xF0000, 0x8, 1024, 0, 1⟩]
  | .FRER_RCV => [⟨5, 0, 0xF2000, 0x8, 1024, 0, 1⟩]
  | .PF_PORT => [⟨3, 0, 0x20000, 0x20, 64, 0, 1⟩, ⟨4, 64, 0x20000, 0x20, 64, 0, 1⟩]
  | .PARSER_PROG => []
  | .PARSER_CFG => [⟨5, 0, 0x1000, 0x0, 1, 0, 1⟩]
  | .TM_QUEUE => [⟨5, 0, 0x80000, 0x10, 2112, 0, 1⟩]
  | .TM_SHAPER => [⟨5, 0, 0xB0000, 0x8, 4096, 0, 1⟩]
  | .TM_PORT => [⟨5, 0, 0xB8000, 0x8, 129, 0, 1⟩]
  | .TM_ALLOC => [⟨5, 0, 0xB9000, 0x4, 64, 0, 1⟩, ⟨5, 64, 0xB9100, 0x4, 64, 0, 1⟩]
  | .TM_INGRESS => [⟨5, 0, 0xBA000, 0x8, 194, 0, 1⟩]
  | .TM_POLICER => [⟨5, 0, 0xC0000, 0x10, 8192, 0, 1⟩]
  | .BM_POOL => [⟨6, 0, 0x1000, 0x20, 16, 0, 1⟩]
  | .CX_PON => [⟨5, 0, 0x21000, 0x100, 2, 0, 1⟩]
  | .CX_SC => [⟨5, 0, 0x40000, 0x20, 2048, 0, 1⟩]
  | .SV_DISPATCH => [⟨7, 0, 0x11000, 0x0, 1, 0, 1⟩]
  | .PC_CFG => [⟨7, 0, 0x3D000, 0x0, 1, 0, 1⟩]

/-! Fields of TIME_CORE. -/
@[reducible] def TC_BW_LOCK : OFld := ⟨.TIME_CORE, 16, 16, 0, 1, 0x32⟩
@[reducible] def TC_BW_ACQ : OFld := ⟨.TIME_CORE, 0, 16, 0, 1, 0x3E8⟩
@[reducible] def TC_UNLOCK_THR : OFld := ⟨.TIME_CORE, 48, 16, 0, 1, 0x14⟩
@[reducible] def TC_LOCK_THR : OFld := ⟨.TIME_CORE, 32, 16, 0, 1, 0x7D0⟩
@[reducible] def TC_RATE_LIM : OFld := ⟨.TIME_CORE, 80, 16, 0, 1, 0x2710⟩
@[reducible] def TC_SLEW_LIM : OFld := ⟨.TIME_CORE, 64, 16, 0, 1, 0x1388⟩
@[reducible] def TC_PHASE_LIM : OFld := ⟨.TIME_CORE, 112, 16, 0, 1, 0x32⟩
@[reducible] def TC_STEP_MIN : OFld := ⟨.TIME_CORE, 96, 16, 0, 1, 0x3E8⟩
@[reducible] def TC_TODA_TOL : OFld := ⟨.TIME_CORE, 144, 16, 128, 2, 0x2710⟩
@[reducible] def TC_PPS_PIN : OFld := ⟨.TIME_CORE, 136, 4, 128, 2, 0⟩
@[reducible] def TC_SRC : OFld := ⟨.TIME_CORE, 128, 2, 128, 2, 1⟩
@[reducible] def TC_TEQD : OFld := ⟨.TIME_CORE, 192, 64, 128, 2, 0⟩
@[reducible] def TC_WTR_S : OFld := ⟨.TIME_CORE, 400, 16, 0, 1, 0x12C⟩
@[reducible] def TC_REVERT : OFld := ⟨.TIME_CORE, 391, 1, 0, 1, 0⟩
@[reducible] def TC_PRIO : OFld := ⟨.TIME_CORE, 390, 1, 0, 1, 0⟩
@[reducible] def TC_MODE : OFld := ⟨.TIME_CORE, 384, 2, 0, 1, 0⟩
@[reducible] def TC_SWITCH_MAX : OFld := ⟨.TIME_CORE, 432, 16, 0, 1, 0x64⟩
@[reducible] def TC_SWITCH_SLEW : OFld := ⟨.TIME_CORE, 416, 16, 0, 1, 0x3E8⟩
@[reducible] def TC_HOLD_LEARN : OFld := ⟨.TIME_CORE, 464, 16, 0, 1, 0x5A0⟩
@[reducible] def TC_HOLD_SPEC : OFld := ⟨.TIME_CORE, 448, 16, 0, 1, 0x1E0⟩
@[reducible] def TC_ACC_MODE : OFld := ⟨.TIME_CORE, 480, 32, 0, 1, 0x1E1E1F20⟩
@[reducible] def TC_CLASS_8275 : OFld := ⟨.TIME_CORE, 544, 8, 64, 5, 0⟩
@[reducible] def TC_CLASS_DEF : OFld := ⟨.TIME_CORE, 536, 8, 64, 5, 0⟩
@[reducible] def TC_ACC : OFld := ⟨.TIME_CORE, 528, 8, 64, 5, 0⟩
@[reducible] def TC_VAR : OFld := ⟨.TIME_CORE, 512, 16, 64, 5, 0⟩
@[reducible] def TC_LEAP59 : OFld := ⟨.TIME_CORE, 914, 1, 0, 1, 0⟩
@[reducible] def TC_LEAP61 : OFld := ⟨.TIME_CORE, 913, 1, 0, 1, 0⟩
@[reducible] def TC_UTC_VALID : OFld := ⟨.TIME_CORE, 912, 1, 0, 1, 0⟩
@[reducible] def TC_UTC_OFS : OFld := ⟨.TIME_CORE, 896, 16, 0, 1, 0⟩
@[reducible] def TC_LEAP_AT : OFld := ⟨.TIME_CORE, 960, 48, 0, 1, 0⟩
@[reducible] def TC_XCHK_OSC : OFld := ⟨.TIME_CORE, 1040, 16, 0, 1, 0x28⟩
@[reducible] def TC_XCHK_AB : OFld := ⟨.TIME_CORE, 1024, 16, 0, 1, 0x32⟩
@[reducible] def TC_XCHK_N : OFld := ⟨.TIME_CORE, 1072, 2, 0, 1, 2⟩
@[reducible] def TC_XCHK_PPS : OFld := ⟨.TIME_CORE, 1056, 16, 0, 1, 0x64⟩
@[reducible] def TC_SELFCHK_H : OFld := ⟨.TIME_CORE, 1104, 8, 0, 1, 0x18⟩
@[reducible] def TC_MON_LIM : OFld := ⟨.TIME_CORE, 1088, 16, 0, 1, 0x7D0⟩
@[reducible] def TC_CMP_START_SEC : OFld := ⟨.TIME_CORE, 2048, 48, 256, 32, 0⟩
@[reducible] def TC_CMP_START_NS : OFld := ⟨.TIME_CORE, 2096, 32, 256, 32, 0⟩
@[reducible] def TC_CMP_START_FRAC : OFld := ⟨.TIME_CORE, 2128, 16, 256, 32, 0⟩
@[reducible] def TC_CMP_PERIOD_NS : OFld := ⟨.TIME_CORE, 2144, 32, 256, 32, 0⟩
@[reducible] def TC_CMP_PERIOD_FRAC : OFld := ⟨.TIME_CORE, 2176, 16, 256, 32, 0⟩
@[reducible] def TC_CMP_FEATURE : OFld := ⟨.TIME_CORE, 2192, 16, 256, 32, 0⟩
@[reducible] def TC_CMP_WIDTH_NS : OFld := ⟨.TIME_CORE, 2208, 32, 256, 32, 0⟩
@[reducible] def TC_CMP_COUNT : OFld := ⟨.TIME_CORE, 2240, 32, 256, 32, 0⟩
@[reducible] def TC_CMP_PIN : OFld := ⟨.TIME_CORE, 2272, 8, 256, 32, 0xFF⟩
@[reducible] def TC_CMP_ACTION : OFld := ⟨.TIME_CORE, 2280, 8, 256, 32, 0⟩
@[reducible] def TC_PIN_MODE : OFld := ⟨.TIME_CORE, 10240, 8, 128, 8, 0⟩
@[reducible] def TC_PIN_FLAGS : OFld := ⟨.TIME_CORE, 10248, 8, 128, 8, 0⟩
@[reducible] def TC_PIN_FEATURE : OFld := ⟨.TIME_CORE, 10256, 16, 128, 8, 0⟩
@[reducible] def TC_PIN_ADV : OFld := ⟨.TIME_CORE, 10272, 32, 128, 8, 0⟩
@[reducible] def TC_PIN_BAUD : OFld := ⟨.TIME_CORE, 10304, 32, 128, 8, 0x2580⟩
@[reducible] def TC_PIN_COMPANION : OFld := ⟨.TIME_CORE, 10336, 8, 128, 8, 0⟩
@[reducible] def TC_PIN_TOD_DELAY : OFld := ⟨.TIME_CORE, 10352, 16, 128, 8, 0x1F4⟩
/-! Fields of TS_PORT. -/
@[reducible] def TS_PORT_ENABLES : OFld := ⟨.TS_PORT, 0, 8, 0, 1, 0⟩
@[reducible] def TS_PORT_PROFILE : OFld := ⟨.TS_PORT, 8, 8, 0, 1, 0⟩
@[reducible] def TS_PORT_DOMAIN : OFld := ⟨.TS_PORT, 16, 8, 0, 1, 0⟩
@[reducible] def TS_PORT_TRANSPORT : OFld := ⟨.TS_PORT, 24, 8, 0, 1, 0⟩
@[reducible] def TS_PORT_L2_DA : OFld := ⟨.TS_PORT, 32, 8, 0, 1, 0⟩
@[reducible] def TS_PORT_DELAY_MECH : OFld := ⟨.TS_PORT, 40, 8, 0, 1, 0⟩
@[reducible] def TS_PORT_LOG_SYNC : OFld := ⟨.TS_PORT, 48, 8, 0, 1, 0⟩
@[reducible] def TS_PORT_LOG_ANNOUNCE : OFld := ⟨.TS_PORT, 56, 8, 0, 1, 1⟩
@[reducible] def TS_PORT_LOG_MIN_DREQ : OFld := ⟨.TS_PORT, 64, 8, 0, 1, 0⟩
@[reducible] def TS_PORT_FAULT_ACTION : OFld := ⟨.TS_PORT, 72, 8, 0, 1, 0⟩
@[reducible] def TS_PORT_VLAN : OFld := ⟨.TS_PORT, 80, 16, 0, 1, 0⟩
@[reducible] def TS_PORT_IPV4 : OFld := ⟨.TS_PORT, 96, 32, 0, 1, 0⟩
@[reducible] def TS_PORT_IPV6 : OFld := ⟨.TS_PORT, 128, 128, 0, 1, 0⟩
@[reducible] def TS_PORT_NTP_BURST : OFld := ⟨.TS_PORT, 256, 16, 0, 1, 0x10⟩
@[reducible] def TS_PORT_DREQ_LIMIT : OFld := ⟨.TS_PORT, 272, 16, 0, 1, 0x80⟩
@[reducible] def TS_PORT_NTP_RATE : OFld := ⟨.TS_PORT, 288, 32, 0, 1, 0⟩
@[reducible] def TS_PORT_NTP_KOD : OFld := ⟨.TS_PORT, 320, 8, 0, 1, 0⟩
@[reducible] def TS_PORT_RX_RING : OFld := ⟨.TS_PORT, 328, 8, 0, 1, 0⟩
/-! Fields of TS_CLOCK. -/
@[reducible] def TS_CLOCK_CLOCK_ID : OFld := ⟨.TS_CLOCK, 0, 64, 0, 1, 0⟩
@[reducible] def TS_CLOCK_PRIORITY1 : OFld := ⟨.TS_CLOCK, 64, 8, 0, 1, 0x80⟩
@[reducible] def TS_CLOCK_PRIORITY2 : OFld := ⟨.TS_CLOCK, 72, 8, 0, 1, 0x80⟩
@[reducible] def TS_CLOCK_GM_MODE : OFld := ⟨.TS_CLOCK, 80, 8, 0, 1, 0⟩
@[reducible] def TS_CLOCK_STEPS_REMOVED : OFld := ⟨.TS_CLOCK, 88, 8, 0, 1, 1⟩
@[reducible] def TS_CLOCK_GM_ID : OFld := ⟨.TS_CLOCK, 96, 64, 0, 1, 0⟩
@[reducible] def TS_CLOCK_GM_PRIORITY1 : OFld := ⟨.TS_CLOCK, 160, 8, 0, 1, 0x80⟩
@[reducible] def TS_CLOCK_GM_PRIORITY2 : OFld := ⟨.TS_CLOCK, 168, 8, 0, 1, 0x80⟩
@[reducible] def TS_CLOCK_TIME_SOURCE : OFld := ⟨.TS_CLOCK, 176, 8, 0, 1, 0x40⟩
@[reducible] def TS_CLOCK_NTP_STRATUM : OFld := ⟨.TS_CLOCK, 184, 8, 0, 1, 1⟩
@[reducible] def TS_CLOCK_NTP_REFID : OFld := ⟨.TS_CLOCK, 192, 32, 0, 1, 0x004E4F50⟩
@[reducible] def TS_CLOCK_ROOTDISP_LOCKED : OFld := ⟨.TS_CLOCK, 224, 32, 0, 1, 1⟩
@[reducible] def TS_CLOCK_ROOTDISP_HOLD : OFld := ⟨.TS_CLOCK, 256, 32, 0, 1, 7⟩
@[reducible] def TS_CLOCK_QL_NET_OPT : OFld := ⟨.TS_CLOCK, 288, 8, 0, 1, 1⟩
@[reducible] def TS_CLOCK_QL_LOCKED : OFld := ⟨.TS_CLOCK, 296, 8, 0, 1, 2⟩
@[reducible] def TS_CLOCK_QL_FREERUN : OFld := ⟨.TS_CLOCK, 304, 8, 0, 1, 0xB⟩
@[reducible] def TS_CLOCK_ESMC_FLAGS : OFld := ⟨.TS_CLOCK, 312, 8, 0, 1, 0⟩
/-! Fields of DUAL_ATT. -/
@[reducible] def DUAL_ATT_HOLDOFF_A : OFld := ⟨.DUAL_ATT, 0, 8, 0, 1, 0⟩
@[reducible] def DUAL_ATT_HOLDOFF_B : OFld := ⟨.DUAL_ATT, 8, 8, 0, 1, 0⟩
@[reducible] def DUAL_ATT_WTR_S_A : OFld := ⟨.DUAL_ATT, 16, 16, 0, 1, 0xA⟩
@[reducible] def DUAL_ATT_WTR_S_B : OFld := ⟨.DUAL_ATT, 32, 16, 0, 1, 0xA⟩
@[reducible] def DUAL_ATT_RETURN_MS : OFld := ⟨.DUAL_ATT, 48, 16, 0, 1, 0x3E8⟩
@[reducible] def DUAL_ATT_CRIT_RESERVE_GIB : OFld := ⟨.DUAL_ATT, 64, 8, 0, 1, 0⟩
@[reducible] def DUAL_ATT_GFLAGS : OFld := ⟨.DUAL_ATT, 256, 8, 128, 16, 0⟩
@[reducible] def DUAL_ATT_BRIDGE_MAX_GIB : OFld := ⟨.DUAL_ATT, 264, 8, 128, 16, 0⟩
@[reducible] def DUAL_ATT_QSET_A : OFld := ⟨.DUAL_ATT, 272, 16, 128, 16, 0xFFFF⟩
@[reducible] def DUAL_ATT_QSET_B : OFld := ⟨.DUAL_ATT, 288, 16, 128, 16, 0xFFFF⟩
@[reducible] def DUAL_ATT_AGE_LIMIT_MS : OFld := ⟨.DUAL_ATT, 304, 16, 128, 16, 0⟩
/-! Fields of FRER_GEN. -/
@[reducible] def FRER_GEN_FLAGS : OFld := ⟨.FRER_GEN, 0, 8, 0, 1, 0⟩
@[reducible] def FRER_GEN_QUEUE_A : OFld := ⟨.FRER_GEN, 16, 16, 0, 1, 0xFFFF⟩
@[reducible] def FRER_GEN_QUEUE_B : OFld := ⟨.FRER_GEN, 32, 16, 0, 1, 0xFFFF⟩
/-! Fields of FRER_RCV. -/
@[reducible] def FRER_RCV_FLAGS : OFld := ⟨.FRER_RCV, 0, 8, 0, 1, 0⟩
@[reducible] def FRER_RCV_HISTORY : OFld := ⟨.FRER_RCV, 8, 8, 0, 1, 1⟩
@[reducible] def FRER_RCV_RESET_MS : OFld := ⟨.FRER_RCV, 16, 16, 0, 1, 0x7D0⟩
/-! Fields of PF_PORT. -/
@[reducible] def PF_PORT_FLAGS : OFld := ⟨.PF_PORT, 0, 8, 0, 1, 2⟩
@[reducible] def PF_PORT_MAX_FRAME : OFld := ⟨.PF_PORT, 16, 16, 0, 1, 0x2600⟩
@[reducible] def PF_PORT_PAUSE_QUANTA : OFld := ⟨.PF_PORT, 32, 16, 0, 1, 0xFFFF⟩
@[reducible] def PF_PORT_XOFF : OFld := ⟨.PF_PORT, 48, 16, 0, 1, 0xA0⟩
@[reducible] def PF_PORT_XON : OFld := ⟨.PF_PORT, 64, 16, 0, 1, 0x80⟩
@[reducible] def PF_PORT_IDLE_MS : OFld := ⟨.PF_PORT, 80, 16, 0, 1, 0x3E8⟩
/-! Fields of PARSER_CFG. -/
@[reducible] def PARSER_CFG_HASH_SEED : OFld := ⟨.PARSER_CFG, 0, 32, 0, 1, 0xFFFFFFFF⟩
@[reducible] def PARSER_CFG_FLAGS : OFld := ⟨.PARSER_CFG, 32, 8, 0, 1, 0⟩
@[reducible] def PARSER_CFG_EXC_RATE : OFld := ⟨.PARSER_CFG, 256, 32, 64, 32, 0x3E8⟩
@[reducible] def PARSER_CFG_EXC_BURST : OFld := ⟨.PARSER_CFG, 288, 16, 64, 32, 0x40⟩
/-! Fields of TM_QUEUE. -/
@[reducible] def TM_QUEUE_FLAGS : OFld := ⟨.TM_QUEUE, 0, 8, 0, 1, 0⟩
@[reducible] def TM_QUEUE_LEN_ADJ : OFld := ⟨.TM_QUEUE, 8, 8, 0, 1, 0⟩
@[reducible] def TM_QUEUE_WEIGHT : OFld := ⟨.TM_QUEUE, 16, 16, 0, 1, 1⟩
@[reducible] def TM_QUEUE_QLIMIT : OFld := ⟨.TM_QUEUE, 32, 16, 0, 1, 0x100⟩
@[reducible] def TM_QUEUE_DP_LIMIT : OFld := ⟨.TM_QUEUE, 48, 16, 0, 1, 0x80⟩
@[reducible] def TM_QUEUE_AGE_LIMIT : OFld := ⟨.TM_QUEUE, 64, 16, 0, 1, 0⟩
@[reducible] def TM_QUEUE_SHAPER : OFld := ⟨.TM_QUEUE, 80, 16, 0, 1, 0xFFFF⟩
/-! Fields of TM_SHAPER. -/
@[reducible] def TM_SHAPER_RATE : OFld := ⟨.TM_SHAPER, 0, 32, 0, 1, 0⟩
@[reducible] def TM_SHAPER_BURST : OFld := ⟨.TM_SHAPER, 32, 32, 0, 1, 0⟩
/-! Fields of TM_PORT. -/
@[reducible] def TM_PORT_FLAGS : OFld := ⟨.TM_PORT, 0, 8, 0, 1, 1⟩
@[reducible] def TM_PORT_LEN_ADJ : OFld := ⟨.TM_PORT, 8, 8, 0, 1, 0⟩
@[reducible] def TM_PORT_SHAPER : OFld := ⟨.TM_PORT, 16, 16, 0, 1, 0xFFFF⟩
/-! Fields of TM_ALLOC. -/
@[reducible] def TM_ALLOC_ALLOC_ID : OFld := ⟨.TM_ALLOC, 0, 16, 0, 1, 0xFFFF⟩
@[reducible] def TM_ALLOC_STAGE_KIB : OFld := ⟨.TM_ALLOC, 16, 8, 0, 1, 0x40⟩
/-! Fields of TM_INGRESS. -/
@[reducible] def TM_INGRESS_BP_ON : OFld := ⟨.TM_INGRESS, 0, 16, 0, 1, 0x300⟩
@[reducible] def TM_INGRESS_BP_OFF : OFld := ⟨.TM_INGRESS, 16, 16, 0, 1, 0x200⟩
@[reducible] def TM_INGRESS_LIMIT : OFld := ⟨.TM_INGRESS, 32, 16, 0, 1, 0x400⟩
/-! Fields of TM_POLICER. -/
@[reducible] def TM_POLICER_CIR : OFld := ⟨.TM_POLICER, 0, 32, 0, 1, 0⟩
@[reducible] def TM_POLICER_PIR : OFld := ⟨.TM_POLICER, 32, 32, 0, 1, 0⟩
@[reducible] def TM_POLICER_CBS : OFld := ⟨.TM_POLICER, 64, 16, 0, 1, 0x98⟩
@[reducible] def TM_POLICER_PBS : OFld := ⟨.TM_POLICER, 80, 16, 0, 1, 0x98⟩
@[reducible] def TM_POLICER_FLAGS : OFld := ⟨.TM_POLICER, 96, 8, 0, 1, 0x48⟩
/-! Fields of BM_POOL. -/
@[reducible] def BM_POOL_FLAGS : OFld := ⟨.BM_POOL, 0, 8, 0, 1, 0⟩
@[reducible] def BM_POOL_SIZE_LOG2 : OFld := ⟨.BM_POOL, 8, 8, 0, 1, 8⟩
@[reducible] def BM_POOL_FEATURE : OFld := ⟨.BM_POOL, 16, 16, 0, 1, 0⟩
@[reducible] def BM_POOL_BASE : OFld := ⟨.BM_POOL, 32, 40, 0, 1, 0⟩
@[reducible] def BM_POOL_COUNT : OFld := ⟨.BM_POOL, 96, 32, 0, 1, 0⟩
@[reducible] def BM_POOL_RING_BASE : OFld := ⟨.BM_POOL, 128, 40, 0, 1, 0⟩
@[reducible] def BM_POOL_LOW_WM : OFld := ⟨.BM_POOL, 192, 16, 0, 1, 0x80⟩
@[reducible] def BM_POOL_HIGH_WM : OFld := ⟨.BM_POOL, 208, 16, 0, 1, 0x180⟩
@[reducible] def BM_POOL_EMPTY_WM : OFld := ⟨.BM_POOL, 224, 32, 0, 1, 0⟩
/-! Fields of CX_PON. -/
@[reducible] def CX_PON_FLAGS : OFld := ⟨.CX_PON, 0, 8, 0, 1, 0⟩
@[reducible] def CX_PON_NBCAST : OFld := ⟨.CX_PON, 8, 8, 0, 1, 0⟩
@[reducible] def CX_PON_BCAST_PORTS : OFld := ⟨.CX_PON, 128, 1024, 0, 1, 0⟩
/-! Fields of CX_SC. -/
@[reducible] def CX_SC_FLAGS : OFld := ⟨.CX_SC, 0, 8, 0, 1, 0⟩
@[reducible] def CX_SC_SUITE : OFld := ⟨.CX_SC, 8, 8, 0, 1, 0⟩
@[reducible] def CX_SC_PORT : OFld := ⟨.CX_SC, 16, 8, 0, 1, 0⟩
@[reducible] def CX_SC_VALIDATE : OFld := ⟨.CX_SC, 24, 8, 0, 1, 2⟩
@[reducible] def CX_SC_SCI : OFld := ⟨.CX_SC, 32, 64, 0, 1, 0⟩
@[reducible] def CX_SC_REPLAY_WIN : OFld := ⟨.CX_SC, 96, 32, 0, 1, 0⟩
@[reducible] def CX_SC_PN_THR : OFld := ⟨.CX_SC, 128, 64, 0, 1, 0xC0000000⟩
/-! Fields of SV_DISPATCH. -/
@[reducible] def SV_DISPATCH_CAP : OFld := ⟨.SV_DISPATCH, 0, 16, 64, 16, 0x400⟩
@[reducible] def SV_DISPATCH_BP_ON : OFld := ⟨.SV_DISPATCH, 16, 16, 64, 16, 3⟩
@[reducible] def SV_DISPATCH_BP_OFF : OFld := ⟨.SV_DISPATCH, 32, 16, 64, 16, 1⟩
@[reducible] def SV_DISPATCH_AGE_LIMIT : OFld := ⟨.SV_DISPATCH, 48, 16, 64, 16, 0x280⟩
@[reducible] def SV_DISPATCH_SRC_LEVEL : OFld := ⟨.SV_DISPATCH, 1024, 8, 8, 195, 3⟩
@[reducible] def SV_DISPATCH_CLASS_LEVEL : OFld := ⟨.SV_DISPATCH, 3072, 8, 32, 32, 2⟩
@[reducible] def SV_DISPATCH_TAG_BITS : OFld := ⟨.SV_DISPATCH, 3080, 8, 32, 32, 0⟩
@[reducible] def SV_DISPATCH_TAG_BASE : OFld := ⟨.SV_DISPATCH, 3088, 16, 32, 32, 0x100⟩
@[reducible] def SV_DISPATCH_TAG_TYPE : OFld := ⟨.SV_DISPATCH, 4096, 4096, 0, 1, 0⟩
@[reducible] def SV_DISPATCH_ROLE : OFld := ⟨.SV_DISPATCH, 8192, 8, 8, 16, 0xF⟩
/-! Fields of PC_CFG. -/
@[reducible] def PC_CFG_INTERVAL : OFld := ⟨.PC_CFG, 0, 16, 0, 1, 0x1F40⟩
@[reducible] def PC_CFG_FLAGS : OFld := ⟨.PC_CFG, 16, 8, 0, 1, 0⟩
@[reducible] def PC_CFG_SAMPLE_RING : OFld := ⟨.PC_CFG, 24, 8, 0, 1, 0⟩
@[reducible] def PC_CFG_SAMPLE_P : OFld := ⟨.PC_CFG, 32, 32, 0, 1, 0x100000⟩
@[reducible] def PC_CFG_SAMPLE_J : OFld := ⟨.PC_CFG, 64, 32, 0, 1, 0⟩
@[reducible] def PC_CFG_MODE : OFld := ⟨.PC_CFG, 128, 6144, 0, 1, 0⟩

/-- The fields of an object type. -/
def ObjType.fields : ObjType → List OFld
  | .TIME_CORE =>
    [TC_BW_LOCK, TC_BW_ACQ, TC_UNLOCK_THR, TC_LOCK_THR, TC_RATE_LIM,
     TC_SLEW_LIM, TC_PHASE_LIM, TC_STEP_MIN, TC_TODA_TOL, TC_PPS_PIN,
     TC_SRC, TC_TEQD, TC_WTR_S, TC_REVERT, TC_PRIO,
     TC_MODE, TC_SWITCH_MAX, TC_SWITCH_SLEW, TC_HOLD_LEARN, TC_HOLD_SPEC,
     TC_ACC_MODE, TC_CLASS_8275, TC_CLASS_DEF, TC_ACC, TC_VAR,
     TC_LEAP59, TC_LEAP61, TC_UTC_VALID, TC_UTC_OFS, TC_LEAP_AT,
     TC_XCHK_OSC, TC_XCHK_AB, TC_XCHK_N, TC_XCHK_PPS, TC_SELFCHK_H,
     TC_MON_LIM, TC_CMP_START_SEC, TC_CMP_START_NS, TC_CMP_START_FRAC, TC_CMP_PERIOD_NS,
     TC_CMP_PERIOD_FRAC, TC_CMP_FEATURE, TC_CMP_WIDTH_NS, TC_CMP_COUNT, TC_CMP_PIN,
     TC_CMP_ACTION, TC_PIN_MODE, TC_PIN_FLAGS, TC_PIN_FEATURE, TC_PIN_ADV,
     TC_PIN_BAUD, TC_PIN_COMPANION, TC_PIN_TOD_DELAY]
  | .TS_PORT =>
    [TS_PORT_ENABLES, TS_PORT_PROFILE, TS_PORT_DOMAIN, TS_PORT_TRANSPORT, TS_PORT_L2_DA,
     TS_PORT_DELAY_MECH, TS_PORT_LOG_SYNC, TS_PORT_LOG_ANNOUNCE, TS_PORT_LOG_MIN_DREQ, TS_PORT_FAULT_ACTION,
     TS_PORT_VLAN, TS_PORT_IPV4, TS_PORT_IPV6, TS_PORT_NTP_BURST, TS_PORT_DREQ_LIMIT,
     TS_PORT_NTP_RATE, TS_PORT_NTP_KOD, TS_PORT_RX_RING]
  | .TS_CLOCK =>
    [TS_CLOCK_CLOCK_ID, TS_CLOCK_PRIORITY1, TS_CLOCK_PRIORITY2, TS_CLOCK_GM_MODE, TS_CLOCK_STEPS_REMOVED,
     TS_CLOCK_GM_ID, TS_CLOCK_GM_PRIORITY1, TS_CLOCK_GM_PRIORITY2, TS_CLOCK_TIME_SOURCE, TS_CLOCK_NTP_STRATUM,
     TS_CLOCK_NTP_REFID, TS_CLOCK_ROOTDISP_LOCKED, TS_CLOCK_ROOTDISP_HOLD, TS_CLOCK_QL_NET_OPT, TS_CLOCK_QL_LOCKED,
     TS_CLOCK_QL_FREERUN, TS_CLOCK_ESMC_FLAGS]
  | .DUAL_ATT =>
    [DUAL_ATT_HOLDOFF_A, DUAL_ATT_HOLDOFF_B, DUAL_ATT_WTR_S_A, DUAL_ATT_WTR_S_B, DUAL_ATT_RETURN_MS,
     DUAL_ATT_CRIT_RESERVE_GIB, DUAL_ATT_GFLAGS, DUAL_ATT_BRIDGE_MAX_GIB, DUAL_ATT_QSET_A, DUAL_ATT_QSET_B,
     DUAL_ATT_AGE_LIMIT_MS]
  | .FRER_GEN =>
    [FRER_GEN_FLAGS, FRER_GEN_QUEUE_A, FRER_GEN_QUEUE_B]
  | .FRER_RCV =>
    [FRER_RCV_FLAGS, FRER_RCV_HISTORY, FRER_RCV_RESET_MS]
  | .PF_PORT =>
    [PF_PORT_FLAGS, PF_PORT_MAX_FRAME, PF_PORT_PAUSE_QUANTA, PF_PORT_XOFF, PF_PORT_XON,
     PF_PORT_IDLE_MS]
  | .PARSER_PROG =>
    []
  | .PARSER_CFG =>
    [PARSER_CFG_HASH_SEED, PARSER_CFG_FLAGS, PARSER_CFG_EXC_RATE, PARSER_CFG_EXC_BURST]
  | .TM_QUEUE =>
    [TM_QUEUE_FLAGS, TM_QUEUE_LEN_ADJ, TM_QUEUE_WEIGHT, TM_QUEUE_QLIMIT, TM_QUEUE_DP_LIMIT,
     TM_QUEUE_AGE_LIMIT, TM_QUEUE_SHAPER]
  | .TM_SHAPER =>
    [TM_SHAPER_RATE, TM_SHAPER_BURST]
  | .TM_PORT =>
    [TM_PORT_FLAGS, TM_PORT_LEN_ADJ, TM_PORT_SHAPER]
  | .TM_ALLOC =>
    [TM_ALLOC_ALLOC_ID, TM_ALLOC_STAGE_KIB]
  | .TM_INGRESS =>
    [TM_INGRESS_BP_ON, TM_INGRESS_BP_OFF, TM_INGRESS_LIMIT]
  | .TM_POLICER =>
    [TM_POLICER_CIR, TM_POLICER_PIR, TM_POLICER_CBS, TM_POLICER_PBS, TM_POLICER_FLAGS]
  | .BM_POOL =>
    [BM_POOL_FLAGS, BM_POOL_SIZE_LOG2, BM_POOL_FEATURE, BM_POOL_BASE, BM_POOL_COUNT,
     BM_POOL_RING_BASE, BM_POOL_LOW_WM, BM_POOL_HIGH_WM, BM_POOL_EMPTY_WM]
  | .CX_PON =>
    [CX_PON_FLAGS, CX_PON_NBCAST, CX_PON_BCAST_PORTS]
  | .CX_SC =>
    [CX_SC_FLAGS, CX_SC_SUITE, CX_SC_PORT, CX_SC_VALIDATE, CX_SC_SCI,
     CX_SC_REPLAY_WIN, CX_SC_PN_THR]
  | .SV_DISPATCH =>
    [SV_DISPATCH_CAP, SV_DISPATCH_BP_ON, SV_DISPATCH_BP_OFF, SV_DISPATCH_AGE_LIMIT, SV_DISPATCH_SRC_LEVEL,
     SV_DISPATCH_CLASS_LEVEL, SV_DISPATCH_TAG_BITS, SV_DISPATCH_TAG_BASE, SV_DISPATCH_TAG_TYPE, SV_DISPATCH_ROLE]
  | .PC_CFG =>
    [PC_CFG_INTERVAL, PC_CFG_FLAGS, PC_CFG_SAMPLE_RING, PC_CFG_SAMPLE_P, PC_CFG_SAMPLE_J,
     PC_CFG_MODE]

/-- The reset value of repetition `k` of a field, where it depends on `k`: the ladder of Table 5-5, the
ready lists, source levels, tag bases and core roles of Table 13-13. -/
def OFld.resetAt (f : OFld) (k : Nat) : Nat :=
  if f = TC_CLASS_8275 then [6, 135, 165, 248, 248].getD k 0
  else if f = TC_CLASS_DEF then [6, 7, 52, 248, 248].getD k 0
  else if f = TC_ACC then [0x00, 0x21, 0xFE, 0xFE, 0xFE].getD k 0
  else if f = TC_VAR then [0x4E5D, 0x6000, 0xFFFF, 0xFFFF, 0xFFFF].getD k 0
  else if f = SV_DISPATCH_CAP then if k < 8 then 1024 else 256
  else if f = SV_DISPATCH_BP_ON then if k < 8 then 768 else 192
  else if f = SV_DISPATCH_BP_OFF then if k < 8 then 512 else 128
  else if f = SV_DISPATCH_SRC_LEVEL then if k < 128 then 3 else if k < 130 then 4 else 2
  else if f = SV_DISPATCH_TAG_BASE then 256 + 64 * k
  else if f = SV_DISPATCH_ROLE then if k < 2 then 0 else 0x0F
  else f.reset

end Sys2Proof.Machine
end

