-- ==== Sys2Proof/Machine/State.lean ====
section
/-! DEFINITION. The state of the HL9128 as plain data: every register, object, queue, counter, mode and
pin the specification gives it, the queue of commands that wait, the machine after reset, and the
reasons a command can stop. INVENTORY.md lists each piece with its rule and its reset value. -/

namespace Sys2Proof.Machine
/-! ### Stores -/

/-- One stored field of a register: its register and lowest bit, and the register's two indices. -/
structure FKey where
  reg : RegName
  lsb : Nat
  i   : Nat
  j   : Nat
  deriving DecidableEq, Repr

/-- The value of key `k` in an association list, or `d` where the list has no entry for it. -/
def look {κ ν : Type} [DecidableEq κ] (m : List (κ × ν)) (k : κ) (d : ν) : ν :=
  match m with
  | [] => d
  | (k', v) :: t => if k' = k then v else look t k d

/-- The association list with the value of key `k` replaced by `v`. -/
def store {κ ν : Type} [DecidableEq κ] (m : List (κ × ν)) (k : κ) (v : ν) : List (κ × ν) :=
  match m with
  | [] => [(k, v)]
  | (k', v') :: t => if k' = k then (k, v) :: t else (k', v') :: store t k v

/-- The fields of registers that differ from their reset value (Table 17-8). -/
abbrev RegStore := List (FKey × Nat)

/-- The configuration objects of one epoch that differ from their reset values: the payload of instance
`(type, index)` as one little-endian number (Tables 14-11 and 14-12). -/
abbrev CfgStore := List ((ObjType × Nat) × Nat)

/-! ### Tick and clock (R20 to R32) -/

/-- A reference of the core PLL (R20): the reference PLL, or channel `c` of attachment `a`. -/
inductive ClkSrc where
  | free
  | chan (a c : Nat)
  deriving DecidableEq, Repr

/-- One periodic job of Table 1-6 as the tick generator sees it: runs since the last finished one. -/
structure JobSt where
  /-- Consecutive periods in which the job overran (R30). -/
  overruns : Nat := 0
  /-- The run of the present period does not finish in it (R28). -/
  ovr     : Bool := false
  /-- The run of the present period finishes after its budget (R28). -/
  late     : Bool := false
  /-- A period has begun. -/
  running  : Bool := false
  deriving DecidableEq, Repr

/-- The tick generator, core PLL and REFOSC (R20 to R31, R480). -/
structure ClkSt where
  /-- Microtick boundaries since reset; R31 counts timeouts in these. -/
  ut        : Nat := 0
  /-- Number of the microtick within its tick (R23). -/
  micro     : Nat := 0
  /-- Core cycles by which the running tick is longer than 194,400 (R25). -/
  stretch   : Nat := 0
  /-- D measured at the last boundary: the next tick is stretched by it (R25). -/
  pendD     : Option Nat := none
  /-- The timing channel changed, and D is not yet measured for it (R25). -/
  needD     : Bool := false
  /-- The reference in use (R20). -/
  src       : ClkSrc := .free
  /-- GL_CLK_CTRL was written and takes effect at the next tick boundary (Table 1-8 note a). -/
  prefPend  : Bool := false
  /-- Preferred timing channel and REVERT in force. -/
  prefA     : Nat := 0
  prefC     : Nat := 0
  revert    : Bool := false
  /-- Consecutive ticks for which channel 4a + c has been usable (R22). -/
  usable    : List (Nat × Nat) := []
  /-- REFOSC runs (R480). -/
  refosc    : Bool := true
  /-- The core PLL holds its control word (R480). -/
  pllHold   : Bool := false
  /-- State of job j of Table 1-6. -/
  jobs      : List (Nat × JobSt) := []
  /-- Tick number at which SECOND last ran (Table 1-6 note a). -/
  secLast   : Nat := 0
  /-- Microtick at which SECOND last ran (R174). -/
  secUt     : Nat := 0
  /-- Whole second of the counter for which SECOND last ran. -/
  secWhole  : Nat := 0
  /-- Microtick in which DB_POLL last ran. -/
  pollLast  : Nat := 0
  deriving DecidableEq, Repr

/-! ### Host interface (chapter 14) -/

/-- One completion of Table 14-5. -/
structure Compl where
  ring   : Nat
  status : Nat
  cmdId  : Nat
  reason : Nat
  result : Nat
  deriving DecidableEq, Repr

/-- One entry that the terminal writes to a completion/event ring (Tables 14-5 and 14-10). -/
inductive Entry where
  | compl (c : Compl)
  | event (code : Nat) (cont : Bool) (args : List Byte)
  | cont  (code : Nat) (args : List Byte)
  | pad
  deriving DecidableEq, Repr

/-- The terminal's side of one ring (R358 to R362). -/
structure RingSt where
  /-- Producer index (host rings: as last taken from the doorbell slot; terminal rings: entries written). -/
  prod     : Nat := 0
  /-- Consumer index (host rings: entries consumed; terminal rings: as last taken from the slot). -/
  cons     : Nat := 0
  /-- The value last read from the ring's doorbell slot (R362, ERR 3). -/
  slot     : Nat := 0
  /-- The head slot value last written to host memory (R361). -/
  head     : Nat := 0
  /-- A write of ENABLE 0 takes effect at the next microtick boundary (R359). -/
  stopping : Bool := false
  deriving DecidableEq, Repr

/-- Moderation state of one MSI-X vector (R376). -/
structure VecSt where
  count : Nat := 0
  since : Nat := 0
  deriving DecidableEq, Repr

/-- A host command that has started and not completed. -/
structure OpenCmd where
  ring   : Nat
  cmdId  : Nat
  compl  : Nat
  opcode : Nat
  epoch  : Nat
  /-- Microtick in which it started. -/
  since  : Nat
  deriving DecidableEq, Repr

/-- The epochs (R382 to R395). -/
structure EpochSt where
  /-- Highest number used so far (R382). -/
  highest   : Nat := 0
  cur       : CfgStore := []
  prev      : CfgStore := []
  pend      : CfgStore := []
  /-- Parser programs of the current, previous and pending epoch (R250, R390). -/
  progCur   : List Nat := []
  progPrev  : List Nat := []
  progPend  : List Nat := []
  /-- Entry offsets in force: words 2 to 15 of the program header (R258). -/
  headCur   : List Nat := []
  headPrev  : List Nat := []
  headPend  : List Nat := []
  /-- FLIP_TICK of the pending epoch's commit. -/
  flipTick  : Nat := 0
  /-- The pending epoch's checks of R385 have passed. -/
  valid     : Bool := false
  /-- The command whose completion waits for the drain that runs: its opcode and EPOCH. -/
  drainOf   : Option (Nat × Nat) := none
  /-- Tick of the flip at which the drain started. -/
  drainFrom : Nat := 0
  /-- Microtick at which the drain started. -/
  drainUt   : Nat := 0
  /-- Number of the epoch that drains. -/
  drainNum  : Nat := 0
  /-- A rollback waits for EPOCH_ARM (R392). -/
  rollback  : Bool := false
  /-- EPOCH_ARM has armed the rollback for the next boundary. -/
  rbArmed   : Bool := false
  /-- What was staged into the pending epoch and fails at its commit (R385): an object of an unknown type, an
  instance index out of range (type and index), the header byte of a parser program that is wrong (R258). -/
  unkType   : Option Nat := none
  badIdx    : Option (Nat × Nat) := none
  progBad   : Option Nat := none
  /-- Wildcard entries staged: index and position in their list (R253). -/
  wilds     : List (Nat × Nat) := []
  deriving DecidableEq, Repr

/-- Rings, events, commands and interrupts (chapter 14). -/
structure HostSt where
  rings    : List (Nat × RingSt) := []
  /-- Group sequence counters as last read (R364). -/
  groups   : List (Nat × Nat) := []
  vecs     : List (Nat × VecSt) := []
  /-- MSI-X table words, by entry and word (R354). -/
  msixTbl  : List (Nat × Nat) := []
  /-- MSI-X pending bits, by vector. -/
  pba      : List (Nat × Bool) := []
  /-- Commands started and not completed (R368). -/
  opens    : List OpenCmd := []
  /-- Completions that wait for room in their completion ring (R368). -/
  waiting  : List (Nat × Compl) := []
  /-- Cipher events that wait for their ring (R375), oldest first: code, first and second arguments. -/
  cipherQ  : List (Nat × List Byte × List Byte) := []
  /-- TIME_CMP events that wait at their source (R375), oldest first. -/
  timeQ    : List (Nat × List Byte × List Byte) := []
  /-- POLL_NOW was written: the poll runs in the next microtick (R364). -/
  pollNow  : Bool := false
  /-- The next counter-dump destination (R377). -/
  dumpNext : Nat := 0
  deriving DecidableEq, Repr

/-! ### Supervision, safety and the event recorder (chapter 15) -/

/-- One record of Table 15-5. -/
structure Rec where
  hours  : Nat
  cycles : Nat
  tick   : Nat
  sec    : Nat
  ns     : Nat
  valid  : Nat
  sev    : Nat
  region : Nat
  source : Nat
  code   : Nat
  data   : List Byte
  deriving DecidableEq, Repr

/-- One entry of the RAM ring (R422). -/
structure RingRec where
  seq       : Nat
  committed : Bool
  r         : Rec
  deriving DecidableEq, Repr

/-- The event recorder's front end (R421 to R425). -/
structure RecorderSt where
  /-- RAM ring entries in use, by entry number. -/
  ring     : List (Nat × RingRec) := []
  /-- Records made so far: the order of the ring. -/
  made     : Nat := 0
  /-- The write in progress: sequence number of its entry, and its slot (R423). -/
  job      : Option (Nat × Nat) := none
  /-- The rewrite buffer with its tag: a sector of the log and the 4,096 bytes to be written there (R424). -/
  rewrite  : Option (Nat × List Byte) := none
  /-- The failed attempts of the write in progress (R424). -/
  tries    : Nat := 0
  /-- Writing to the log has stopped until the next reset (R424). -/
  stopped  : Bool := false
  /-- A log erase is in progress; the records it erases (R425). -/
  erasing  : Option Nat := none
  /-- A log read waits for the flash (R425). -/
  readWait : Bool := false
  /-- Ticks counted towards the next unit of OP_HOURS (R420). -/
  hourTick : Nat := 0
  /-- OP_HOURS and PWR_CYCLES have been restored since the last Fawn power-on reset (R420). -/
  restored : Bool := true
  /-- Rises of PWR_OK held until PWR_CYCLES is restored (R420). -/
  heldRise : Nat := 0
  deriving DecidableEq, Repr

/-- State of one detection in progress (R409). -/
structure DetSt where
  /-- Found in the running tick. -/
  now    : Bool := false
  /-- Found in the previous tick: a further tick of it is no new onset. -/
  last   : Bool := false
  /-- Consecutive ticks of absence since (R414). -/
  absent : Nat := 0
  deriving DecidableEq, Repr

/-- Reload bookkeeping of one region (R18, R401). -/
structure RegionSt where
  /-- Ticks of the automatic reloads of the last 60 s (R18). -/
  autos    : List Nat := []
  /-- Ticks of every reload of the last 60 s (Table 15-6). -/
  all      : List Nat := []
  /-- Tick in which the running reload began, and its cause (Table 15-6). -/
  began    : Nat := 0
  cause    : Nat := 0
  /-- Watchdog acknowledgements missed in a row (R398). -/
  missed   : Nat := 0
  /-- The region is powered (R448). -/
  powered  : Bool := true
  /-- A clear of its enable waits for the tick boundary (R448). -/
  offPend  : Bool := false
  /-- A wake is asked for: 0 by its enable (R448), 4 by a level change (R405). -/
  wake     : Option Nat := none
  /-- Blocks isolated by the region. -/
  isolated : List Nat := []
  /-- Cells quarantined by its blocks: block and cell. -/
  cells    : List (Nat × Nat) := []
  deriving DecidableEq, Repr

/-- The safety manager and the operating level (R397 to R418). -/
structure SafetySt where
  regions  : List (Nat × RegionSt) := []
  /-- Detections by class and instance (R409). -/
  dets     : List ((Nat × Nat) × DetSt) := []
  /-- Consecutive ticks in which a source was suspect: 0 TD-A, 1 TD-B, 2 PPS, 3 model (R411). -/
  suspect  : List (Nat × Nat) := []
  /-- Consecutive ticks in which a marked source disagreed with nothing (R411). -/
  agree    : List (Nat × Nat) := []
  /-- Consecutive ticks of a disagreement that involves the selected domain (R412). -/
  disagree : Nat := 0
  /-- Consecutive ticks of a phase sanity fault, and its domain (R412). -/
  phaseRun : Nat := 0
  phaseDom : Nat := 0
  /-- Global reaction requested for the next boundary, by class: bit k (R408). -/
  reactReq : Nat := 0
  /-- Ports and pins whose reaction takes effect at the next boundary (R408, R413). -/
  reactPorts : List Nat := []
  reactPins  : List Nat := []
  /-- SAFE was entered by SF_LEVEL_CMD = 3 (R406, R414). -/
  hostSafe : Bool := false
  /-- ACK was written since the reaction began (R414). -/
  acked    : Bool := false
  /-- Causes of TIME-ONLY present: codes of SF_LEVEL.CAUSE (R406). -/
  toCauses : List Nat := []
  /-- The cause with which TIME-ONLY was entered (R405). -/
  toCause  : Nat := 0
  /-- Consecutive ticks at or above THERM_EMERG (Table 15-2). -/
  hotRun   : Nat := 0
  /-- Microtick since which Tj has stayed below THERM_EMERG − THERM_HYST (R405). -/
  coolFrom : Option Nat := none
  /-- A return was asked for (R405). -/
  retReq   : Bool := false
  /-- LPDDR6 channels lost without a spare (Table 15-2). -/
  memLost  : Bool := false
  /-- The injection in force: code and argument (R418). -/
  inject   : Option (Nat × Nat) := none
  /-- Ticks since the last periodic self-check, and since the last one that passed (R417). -/
  chkTicks : Nat := 0
  passTicks : Nat := 0
  /-- Ticks of the supervision pair's running second (log entry 81, DEDUCED). -/
  hbTicks  : Nat := 0
  /-- Pins whose readback fault holds them at high impedance: bit p (R413). -/
  pinHiZ   : Nat := 0
  /-- CONTROL has been reloading since this microtick (Table 15-1 note b). -/
  ctlFrom  : Option Nat := none
  /-- Reloads asked for by region and cause of Table 15-6, not yet begun (R18). -/
  wantReload : List (Nat × Nat) := []
  /-- Microticks of the errors of the last second, by block, cell and kind (the error tables of chapters 9 to 13). -/
  errLog   : List ((Nat × Nat × Nat) × List Nat) := []
  deriving DecidableEq, Repr

/-! ### Power, reset and boot (chapter 16) -/

/-- The handshake of one block with the power controller (R436, R437). -/
structure PwrBlk where
  /-- State asked for and not yet answered. -/
  asked   : Option Nat := none
  /-- State accepted and not yet reached. -/
  entering : Option Nat := none
  /-- For a state, the microtick before which the controller does not ask for it again (R437). -/
  notBefore : List (Nat × Nat) := []
  /-- The block's work, for the entry conditions of Table 16-7: microtick of the last work. -/
  lastWork : Nat := 0
  /-- A wake event arrived in this microtick (R437). -/
  wakeNow : Bool := false
  deriving DecidableEq, Repr

/-- One voltage request or OPERATION write on the PMBus or AVSBus (R440, R441). -/
structure VReq where
  rail    : Nat
  /-- Target in mV; 0 for OPERATION. -/
  mv      : Nat
  /-- 0 voltage, 1 OPERATION on, 2 OPERATION off. -/
  kind    : Nat
  tries   : Nat := 0
  /-- Last microtick of the wait for its acknowledgement. -/
  due     : Nat := 0
  /-- Region or level change that waits for it: 0 none, r a region's wake, 16 a level change. -/
  waiter  : Nat := 0
  deriving DecidableEq, Repr

/-- Power controller, rails, boot and pads (chapter 16). -/
structure PowerSt where
  blks     : List (Nat × PwrBlk) := []
  /-- VDD_CORE targets of the operating points FULL and TIME-ONLY in mV, as last computed (R440). -/
  mvFull   : Nat := 800
  mvTo     : Nat := 800
  /-- Voltage requests in order; the first is outstanding (R440). -/
  vreqs    : List VReq := []
  /-- Rail i of PW_RAIL is switched off. -/
  railOff  : List (Nat × Bool) := []
  /-- STANDBY was written and takes effect at the next tick boundary (R435). -/
  standby  : Bool := false
  /-- Waking from STANDBY: the microtick in which the last rail was switched on. -/
  wakeFrom : Option Nat := none
  /-- Seconds in a row in which the power sum exceeded LIMIT_W (R442). -/
  overRun  : Nat := 0
  /-- Seconds in a row in which it stayed below LIMIT_W − HYST_W with no overcurrent (R442). -/
  underRun : Nat := 0
  /-- An overcurrent fault is reported (R442). -/
  ocFault  : Bool := false
  /-- Regions whose pads were held by a power-off: bit r (R444). -/
  padOff   : Nat := 0
  /-- The board interrupt was asserted when the pads of CONTROL became held (R443). -/
  intLast  : Bool := false
  /-- LOG_OFS and OPDATA_OFS of the boot image header (Table 16-3). -/
  logOfs   : Nat := 0
  opOfs    : Nat := 0
  /-- Base MAC address and attachment MAC addresses of PRODUCT (Table 16-4). -/
  baseMac  : Nat := 0
  attMac   : List (Nat × Nat) := []
  /-- Factory latencies of FACTORY (Table 16-4), by kind and index. -/
  factory  : List ((Nat × Nat) × Nat) := []
  /-- The host's flash operation in progress or waiting: OP, address, length and the bytes to program (R454). -/
  flashOp  : Option (Nat × Nat × Nat × List Byte) := none
  /-- The retention banks whose signature is written: bit b (R445). -/
  signed   : Nat := 0
  /-- The endpoint presents the recovery identity (Table 16-5 note a). -/
  recovery : Bool := false
  /-- VDD_FAWN is present (chip power state P4 where it is not). -/
  vddFawn  : Bool := true
  /-- The rails were switched off by STANDBY (R435). -/
  inStandby : Bool := false
  /-- The PCI Express link is trained. -/
  link     : Bool := true
  /-- PRODUCT has passed: configuration requests are answered (R433). -/
  product  : Bool := true
  /-- The IEEE 1149.1 instruction in force (R478): 0 BYPASS, 1 IDCODE, 2 SAMPLE/PRELOAD, 3 EXTEST, 4 HIGHZ, 5 CLAMP,
  6 the private instruction that programs the fuses. -/
  jtag     : Nat := 1
  /-- Time of the fall of PWR_OK, in seconds of the counter (R446). -/
  fellAt   : Option Nat := none
  deriving DecidableEq, Repr

/-! ### The packet path (chapters 7, 9, 10 and 13) -/

/-- What a parser pass hands to the next one, to an exception record and to the egress: the cursor, g0 to
g7, the layer markers (number, frame offset, type) and the metadata of Table 9-6. -/
structure Carry where
  cursor  : Nat := 0
  wbase   : Nat := 0
  g       : List Nat := [0, 0, 0, 0, 0, 0, 0, 0]
  markers : List (Nat × Nat × Nat) := []
  mdata   : List Nat := [0xFFFF, 0, 0, 0, 0, 0, 0xFFFF, 0, 0, 0, 0, 0, 0, 0, 0, 0]
  deriving DecidableEq, Repr

/-- A frame inside the terminal. -/
structure Frame where
  /-- Packet handle. -/
  id    : Nat
  /-- From the first byte of the destination address, with the FCS where it has one (R238). -/
  bytes : List Byte
  /-- F of R238: 4 or 0. -/
  fcs   : Nat
  /-- Source of Table 10-5, 194 for reinjection, 195 for a frame that firmware sends. -/
  src   : Nat
  /-- XGEM port of an attachment's frame. -/
  xgem  : Nat := 0
  /-- Result words of the XGEM map (R255). -/
  res   : Nat × Nat := (0, 0)
  /-- Epoch tag (R34). -/
  epoch : Nat
  /-- Frames of PTP or Swidan kinds and so on are told apart by their bytes; this is the pass state. -/
  carry : Carry := {}
  /-- Passes made. -/
  passes : Nat := 0
  /-- Enqueue stamp (R262). -/
  stamp : Nat := 0
  /-- Drop precedence (R270). -/
  dp    : Bool := false
  /-- Traffic class of an upstream frame. -/
  cls   : Nat := 0
  /-- Replication stream of a critical frame, and its sequence number (R197). -/
  crit  : Option (Nat × Nat) := none
  /-- The MAC received it with an error, or a stored copy holds errored data (R284). -/
  err   : Bool := false
  /-- Receive timestamp at the station ball, in 2^-16 ns (R165). -/
  rts   : Option Int := none
  /-- Exception class when a service core passed the frame; 0xFF otherwise (Table 14-3). -/
  exc   : Nat := 0xFF
  /-- Its pool buffer: pool and number of the buffer in it (R292). -/
  buf   : Option (Nat × Nat) := none
  deriving DecidableEq, Repr

/-- One pool beside its object (R289 to R299). -/
structure PoolSt where
  /-- Numbers of the buffers in the pointer cache, the top first (R293). -/
  cache : List Nat := []
  /-- Numbers written back to the free ring, the head first, behind those that the fill wrote. -/
  ring  : List Nat := []
  /-- The fill wrote 0, 1, 2, ... to the ring; the first that nobody has fetched (R291). -/
  fresh : Nat := 0
  /-- Allocated buffers and their owner tags (R295). -/
  tags  : List (Nat × Nat) := []
  /-- The free count is below EMPTY_WM, and recorded (R293). -/
  low   : Bool := false
  deriving DecidableEq, Repr

/-- One migration (R287, R288): source and spare channel; the command ring and CMD_ID of a repair and the number of
rows that it names. -/
structure Migr where
  src  : Nat
  dst  : Nat
  cmd  : Option (Nat × Nat × Nat)
  /-- The last granule is copied: the switch takes place at the next tick boundary. -/
  done : Bool := false
  /-- The switch has taken place and the repair runs. -/
  repair : Bool := false
  deriving DecidableEq, Repr

/-- Buffer memory beside its registers (chapter 11). -/
structure MemSt where
  pools    : List (Nat × PoolSt) := []
  /-- The channel at place k of the interleave (R283). -/
  places   : List Nat := []
  /-- Poisoned sectors of 32 bytes, by channel and sector (R284). -/
  poison   : List (Nat × Nat) := []
  /-- The next sector of the patrol scrubber (R285). -/
  scrubAt  : Nat := 0
  migr     : Option Migr := none
  /-- Channels left out of the next MEMORY reset (R286): bit c. -/
  leftOut  : Nat := 0
  /-- Events of a rejection status in the running second (R297): second and number. -/
  rejects  : List (Nat × (Nat × Nat)) := []
  deriving DecidableEq, Repr

/-- What a ready list holds (R328). -/
inductive Work where
  | first  (f : Frame)
  /-- A second pass from address `entry`; the handler's PARTIAL flag goes with the metadata. -/
  | second (f : Frame) (entry : Nat)
  | record (f : Frame) (cls cause : Nat)
  | ploam  (a : Nat)
  | mbox   (typ : Nat)
  deriving DecidableEq, Repr

/-- One item of a ready list (R327). -/
structure Item where
  id    : Nat
  work  : Work
  stamp : Nat
  tag   : Nat
  /-- Source index and exception class: the tie order of R329. -/
  src   : Nat
  cls   : Nat
  /-- The list it entered; `list` may differ after promotion. -/
  home  : Nat
  list  : Nat
  /-- It has been dispatched again once (R340). -/
  again : Bool := false
  /-- Microtick of its dispatch. -/
  since : Nat := 0
  deriving DecidableEq, Repr

/-- The release of an item (R332): what takes effect in dispatch order. -/
inductive Verdict where
  | forward (f : Frame)
  | except  (f : Frame) (cls cause : Nat)
  | drop    (f : Frame) (reason : Option Nat)
  | lenConflict (f : Frame)
  /-- A core's output: to queue `q`, to the host receive ring `r`, reinjected, or nothing left. -/
  | queue   (f : Frame) (q : Nat)
  | host    (f : Frame) (r : Nat)
  | reinject (f : Frame)
  | done    (f : Option Frame)
  deriving DecidableEq, Repr

/-- The class shares of R16 in the window of 16 grants that runs. -/
structure Arb where
  n   : Nat := 0
  tc  : Nat := 0
  urg : Nat := 0
  nor : Nat := 0
  deriving DecidableEq, Repr

/-- A result that has been asked for and has not arrived (R243). -/
inductive Await where
  /-- HASH: value, destination, canonical tuple to write back at KOFF with the direction. -/
  | hash (d val : Nat) (back : Option (Nat × List Byte × Bool))
  /-- LOOKUP: table, destination and key. -/
  | lookup (d tbl : Nat) (key : List Byte)
  deriving DecidableEq, Repr

/-- One pass on a parser engine (Tables 9-1 and 9-2). -/
structure Pass where
  item   : Item
  frame  : Frame
  second : Bool
  wbase  : Nat
  cursor : Nat
  g      : List Nat
  eq     : Bool := false
  lt     : Bool := false
  gt     : Bool := false
  fin    : Bool := false
  key    : List Byte := List.replicate 64 0
  markers : List (Nat × Nat × Nat) := []
  mdata  : List Nat
  budget : Nat := 256
  pc     : Nat
  /-- The DEPTH handler runs (R248). -/
  handler : Bool := false
  awaits : List Await := []
  deriving DecidableEq, Repr

/-- One queue of the traffic manager (R260 to R272). -/
structure QueueSt where
  frames   : List Frame := []
  fHead    : Nat := 0
  fPrev    : Nat := 0
  promoted : Bool := false
  deriving DecidableEq, Repr

/-- One scheduler node (R265 to R267). -/
structure NodeSt where
  v   : Nat := 0
  arb : Arb := {}
  deriving DecidableEq, Repr

/-- The staging area of an upstream slot (R273, R275): frames with their queue, and the bytes of the first
that a fragment has already carried. -/
structure StageSt where
  frames : List (Nat × Frame) := []
  sent   : Nat := 0
  deriving DecidableEq, Repr

/-- One table entry (R252, R253). Visibility: bit 0 current, 1 previous, 2 pending bank. -/
structure TblEntry where
  /-- 0 flow, 1 wildcard, 2 port/VLAN, 3 XGEM A, 4 XGEM B. -/
  tbl   : Nat
  key   : List Byte
  mask  : List Byte := []
  prio  : Nat := 0
  /-- Slot: wildcard index, or half, set and way, or stash place, as the FLOW metadata numbers them. -/
  slot  : Nat
  r0    : Nat
  r1    : Nat
  /-- PM flag of a flow entry; ACTION of an XGEM entry. -/
  aux   : Nat := 0
  pm    : Nat := 0
  vis   : Nat
  /-- An uncorrectable error was found in it (R254). -/
  bad   : Bool := false
  deriving DecidableEq, Repr

/-- Vector recovery of one FRER_RCV stream (R200). -/
structure RcvSt where
  seq     : Nat := 65535
  hist    : List Nat := []
  takeAny : Bool := true
  due     : Option Nat := none
  deriving DecidableEq, Repr

/-- One bridge FIFO (R206 to R208): frames with the microtick of their writing. -/
structure FifoSt where
  frames : List (Frame × Nat) := []
  /-- A drop was recorded since it was last empty. -/
  warned : Bool := false
  deriving DecidableEq, Repr

/-- One homing group beside its register (R203). -/
structure GroupSt where
  /-- Last microtick of the RETURN wait. -/
  due : Option Nat := none
  deriving DecidableEq, Repr

/-- Statistics of one ready list over the running interval (R338). -/
structure ListStat where
  maxDepth : Nat := 0
  disp     : Nat := 0
  sum      : Nat := 0
  max      : Nat := 0
  hist     : List (Nat × Nat) := []
  promoted : Nat := 0
  drops    : Nat := 0
  bpTicks  : Nat := 0
  /-- Back-pressure is asserted by the list (R336). -/
  bp       : Bool := false
  deriving DecidableEq, Repr

/-- One performance bin of one entity (R351). -/
structure PmBin where
  start   : Nat := 0
  suspect : Bool := false
  part    : Bool := true
  frames  : Nat := 0
  octets  : Nat := 0
  drops   : Nat := 0
  errors  : Nat := 0
  deriving DecidableEq, Repr

/-- FW_UPDATE in progress (R343). -/
structure FwUp where
  ver   : Nat
  sec   : Nat
  /-- Active cores still to be swapped, ascending. -/
  todo  : List Nat
  /-- The spare that holds the new image. -/
  spare : Nat
  /-- Swaps made, latest first: old core and the core that took its roles. -/
  made  : List (Nat × Nat) := []
  ring  : Nat
  cmd   : Nat
  deriving DecidableEq, Repr

/-- Dispatcher, parser, tables, traffic manager, replication, bridge and performance bins. -/
structure PkSt where
  nextId  : Nat := 0
  lists   : List (Nat × List Item) := []
  stats   : List (Nat × ListStat) := []
  /-- Items in service: engine e, or 48 + core k. -/
  svc     : List (Nat × Item) := []
  /-- Items of each tag that are dispatched and not released, in dispatch order (R332, R334). -/
  order   : List (Nat × List Nat) := []
  /-- Releases that wait for older items of their tag: item, group and release. -/
  waits   : List (Nat × Nat × Verdict) := []
  arbs    : List (Nat × Arb) := []
  passes  : List (Nat × Pass) := []
  tables  : List TblEntry := []
  /-- Credit of exception class c, in 2^-16 packets (R256). -/
  excCred : List (Nat × Nat) := []
  queues  : List (Nat × QueueSt) := []
  nodes   : List (Nat × NodeSt) := []
  /-- Shaper credits in 2^-16 bytes (R269). -/
  credits : List (Nat × Int) := []
  /-- Policer buckets, committed and peak, in 2^-16 bytes (R270). -/
  buckets : List (Nat × (Nat × Nat)) := []
  /-- Ingress usage in bytes (R276). -/
  usage   : List (Nat × Nat) := []
  stages  : List (Nat × StageSt) := []
  /-- Copies left of a replicated frame's buffer (R198). -/
  copies  : List (Nat × Nat) := []
  seqGen  : List (Nat × Nat) := []
  rcv     : List (Nat × RcvSt) := []
  fifos   : List (Nat × FifoSt) := []
  groups  : List (Nat × GroupSt) := []
  /-- Round-robin place among drained groups of equal priority (R208). -/
  drainAt : Nat := 0
  /-- Microticks for which criterion of attachment a has held, from a boundary (R193), and the tick since
  which none holds (R195). -/
  failFrom : List (Nat × Nat) := []
  okFrom   : List (Nat × Nat) := []
  /-- The first recovery after a LINE reset has no wait: bit a (R195). -/
  firstOk  : Nat := 3
  /-- Instructions left to the next sample on engine e (R350), and the number of records made. -/
  gaps     : List (Nat × Nat) := []
  samples  : Nat := 0
  /-- Performance bins open for 15 minutes and for a day, and the closed ones, newest first (R351). -/
  bin15    : List (Nat × PmBin) := []
  binDay   : List (Nat × PmBin) := []
  hist15   : List (List (Nat × PmBin)) := []
  histDay  : List (List (Nat × PmBin)) := []
  /-- Snapshots: tick of the last capture, images skipped since the last image, first after a reload. -/
  snapTick : Nat := 0
  /-- Core cycles of the snapshot interval so far. -/
  snapCyc  : Nat := 0
  snapSkip : Nat := 0
  snapNew  : Bool := false
  snapSeq  : Nat := 0
  fwUp     : Option FwUp := none
  /-- Security version of the image in force. -/
  fwSec    : Nat := 0
  deriving DecidableEq, Repr
/-! ### Downstream line (chapter 2) -/

/-- One candidate slot of a frame aligner (R44). -/
structure Cand where
  pos : Nat
  sfc : Nat
  tol : Nat
  deriving DecidableEq, Repr

/-- What a receiver holds beside its registers (R38 to R68). -/
structure RxSt where
  selftest : Bool := false
  cands    : List Cand := []
  /-- The latest capture: time in 2^-16 ns, superframe count, tick of the frame, NEWLAT (R48, R51). -/
  cap      : Option (Int × Nat × Nat × Bool) := none
  /-- The capture before it. -/
  capOld   : Option (Int × Nat × Nat × Bool) := none
  /-- Held equaliser coefficients exist: the next lock is a warm start (R41). -/
  warm     : Bool := false
  /-- The next capture is the first after a CDR lock (R49). -/
  newlat   : Bool := false
  /-- CTLE_PEAK, HUNT_ERR and SYNC_ERR in force (R39, Table 2-9 note a). -/
  ctle     : Nat := 12
  huntErr  : Nat := 3
  syncErr  : Nat := 7
  /-- Errors of decoder cell n in the running second: uncorrectable, corrected (Table 2-5). -/
  cellErr  : List (Nat × (Nat × Nat)) := []
  /-- Ticks of the aligner parity errors and extractor errors of the last second (Table 2-5). -/
  parTicks : List Nat := []
  extTicks : List Nat := []
  /-- The running tick is a defect tick, or has an error (R64). -/
  defTick  : Bool := false
  errTick  : Bool := false
  /-- Defect and errored ticks, corrected bits of the running second (R64, R65, R68). -/
  defTicks : Nat := 0
  errTicks : Nat := 0
  corrBits : Nat := 0
  /-- Every tick boundary of the running second so far allows accounting (R67). -/
  acct     : Bool := false
  /-- Classes of the accounted seconds that wait: 0 none, 1 ES, 2 SES; oldest first (R66). -/
  window   : List Nat := []
  /-- Class of the last closed second (Table 1-7). -/
  prevCls  : Nat := 0
  /-- CLEAR was written (R66). -/
  clearReq : Bool := false
  /-- Frames lost while XGEM delineation was out of step, and XGEM frames dropped for errors (R54, R59). -/
  xgemLost : Nat := 0
  deriving DecidableEq, Repr

/-- Map channel of one upstream channel (R57). -/
structure MapSt where
  /-- Downstream channel in force. -/
  chan     : Nat := 0
  /-- Consecutive lost maps. -/
  lost     : Nat := 0
  deriving DecidableEq, Repr
/-! ### Activation and upstream bursts (chapter 3) -/

/-- One burst profile (R87): PSBu bytes, FEC setting, and the tick from whose maps on it applies. -/
structure BurstProf where
  len  : Nat
  fec  : Bool
  tick : Nat
  deriving DecidableEq, Repr

/-- One upstream PLOAM message (R79): kind 0 Acknowledgement, 1 Registration, 2 Key_Report,
3 Serial_Number_ONU, 4 a refusal or error response. -/
structure PloamUp where
  kind : Nat
  body : List Nat
  deriving DecidableEq, Repr

/-- One burst of an upstream channel. Times are in 2^-16 ns of the time counter. -/
structure Burst where
  /-- Instant of the first bit of the FS burst header at the transmit ball (R80). -/
  hdr    : Int
  /-- Instant of the first PSBu bit. -/
  launch : Int
  /-- Instant after the last bit. -/
  stop   : Int
  grants : List Grant
  /-- 0 allocations, 1 serial-number response, 2 registration, 3 twin burst. -/
  kind   : Nat
  staged : Bool := false
  /-- The PLOAM message that it carries (R79). -/
  ploam  : Option PloamUp := none
  /-- What it took at its staging deadline: slot, frames with their queues, and the bytes of the first that
  an earlier fragment had carried (R275). -/
  took   : List (Nat × List (Nat × Frame) × Nat) := []
  /-- BufOcc of each allocation that asks for one, in bytes (R90). -/
  occ    : List (Nat × Nat) := []
  /-- Whether the burst profile it names exists (R87). -/
  prof   : Bool := true
  deriving DecidableEq, Repr

/-- The activation of one attachment beside its registers (R69 to R98). -/
structure ActSt where
  /-- Last microtick in which the awaited event is in time (R31, R73). -/
  to1      : Option Nat := none
  to2      : Option Nat := none
  sysProf  : Bool := false
  /-- Downstream channels whose channel profile has been received. -/
  chanProf : List Nat := []
  ponId    : Nat := 0
  /-- Burst profiles by 4u + index, the latest first (R87). -/
  profs    : List (Nat × BurstProf) := []
  /-- EqD of U0 and U1 for maps before the tick of the third component (R82). -/
  oldEqd   : List (Nat × (Option Nat × Nat)) := []
  allocs   : List Nat := []
  ploamQ   : List PloamUp := []
  /-- The emergency-stop flag in Fawn retention memory (R75). -/
  estop    : Bool := false
  /-- Tick by which the flag is copied to the boot flash (R75). -/
  estopDue : Option Nat := none
  /-- The OMCI requests that firmware holds: transaction and last microtick (R97). -/
  omci     : List (Nat × Nat) := []
  /-- Upstream PLOAM messages dropped (R79), PLOAM messages ignored (Table 3-3) and OMCI messages that fail their
  check (R98). -/
  ploamDrop : Nat := 0
  ploamIgn  : Nat := 0
  omciBad   : Nat := 0
  deriving DecidableEq, Repr

/-- One burst engine beside its registers (R83 to R93). -/
structure UpSt where
  bursts  : List Burst := []
  /-- Instant after the last bit of the last burst sent or being sent (R83). -/
  lastEnd : Int := 0
  /-- Level of BURST_EN: asserted. -/
  en      : Bool := false
  /-- Instant after the last bit of the burst on the fibre. -/
  cur     : Option Int := none
  /-- Instant of the latest launch strobe (R92). -/
  strobe  : Int := 0
  /-- A twin grant that waits for its partner: superframe count and the burst planned for it (R115). -/
  twin    : Option (Nat × Burst) := none
  /-- Per-allocation grant totals of the last map processed (Table 1-7). -/
  totals  : List (Nat × Nat) := []
  deriving DecidableEq, Repr
/-! ### Herds and the dispersion estimator (chapter 4) -/

/-- One herd overhead word as the HERD job judges it (Table 4-3, R103). -/
structure Hoh where
  ptr  : Nat
  act  : Nat
  row  : Nat
  hseq : Nat
  pos  : Nat
  deriving DecidableEq, Repr

/-- Pointer processing of one configured member (R106, R107, R109, R111). -/
structure PtrSt where
  /-- HOH of frames m − 1 and m; none where the tick has no valid one. -/
  h0       : Option Hoh := none
  h1       : Option Hoh := none
  /-- Tick of the last frame that executed a stuff. -/
  lastStuff : Option Nat := none
  /-- Bad-HOH count (Table 4-5). -/
  bad      : Nat := 0
  /-- New pointer of a run of mismatches, and the run's length. -/
  newPtr   : Nat := 0
  newRun   : Nat := 0
  /-- The row starts lie outside ±8 µs of the first active member (R109). -/
  skewBad  : Bool := false
  deriving DecidableEq, Repr

/-- One result of the estimator (R123 to R126), in exact arithmetic: A and the delays in ps, K in ps/nm². -/
structure FitRes where
  /-- λ0 in pm. -/
  lambda0 : Int
  k       : Rat
  a       : Rat
  mode    : Nat
  conf    : Nat
  meas    : Nat
  rho     : Rat
  sig     : Rat
  /-- The fit failed (R123). -/
  fail    : Bool
  dofs    : List (Nat × Rat)
  deriving DecidableEq, Repr

/-- The herd and the estimator of one attachment (R99 to R128). -/
structure HerdSt where
  desc      : Option HerdDesc := none
  pendDesc  : Option HerdDesc := none
  /-- MEMBER_STATUS is due at this tick (R111). -/
  statusDue : Option Nat := none
  /-- HELLO is due at this tick (R119). -/
  helloDue  : Option Nat := none
  /-- Source address of the head end's most recent HELLO (R117). -/
  peerMac   : Option Nat := none
  /-- Causes last reported for D0 to D3 (Table 4-9). -/
  causes    : List Nat := [0, 0, 0, 0]
  /-- SEQ of the terminal's own messages (Table 4-8). -/
  seq       : Nat := 0
  /-- Bonded Alloc-IDs and the next FSN of each (R113, R114). -/
  bonded    : List (Nat × Nat) := []
  /-- Sum and number of the skew samples of channel c in this block (R120), in units of 1/8,192,000 ns. -/
  skewSum   : List (Nat × (Int × Nat)) := []
  /-- Superframe count of the latest skew sample of channel c. -/
  lastSfc   : List (Nat × Nat) := []
  /-- Whether channel c has a valid block (R120). -/
  skewOk    : List (Nat × Bool) := []
  /-- Good TWIN_REPORT values with their ticks, latest first (R121), in 2^-8 ps. -/
  twins     : List (Int × Nat) := []
  /-- RANGE_INFO: round trip in 2^-16 ns and its tick (R122). -/
  range     : Option (Nat × Nat) := none
  /-- A result has become pending since the estimator started (R126). -/
  started   : Bool := false
  /-- The applied A in units of 2^-8 ps (R126). -/
  applied   : Int := 0
  /-- Mode under which the A in force was applied, as HD_EST_CFG.MODE codes it; 0 NONE before the first
  result (Table 5-5 note a). -/
  appMode   : Nat := 0
  /-- The modelled delay of channel c minus that of the activation channel, in 2^-8 ps (R124). -/
  dofs      : List (Nat × Int) := []
  /-- The override in force: A in 2^-8 ps (R128; Table 4-27, note a). -/
  ovr       : Option Int := none
  pendFit   : Option FitRes := none
  /-- A result that waits for the next tick boundary (R126). -/
  applyNext : Option FitRes := none
  /-- Blocks in a row without an accepted fit in the configured mode (R127). -/
  noFit     : Nat := 0
  /-- The estimator has fallen back (R127), and the last accepted A in the configured mode since. -/
  fellBack  : Bool := false
  streak    : Option Rat := none
  /-- The block that has closed waits for its fit. -/
  blockDone : Bool := false
  deriving DecidableEq, Repr

/-! ### Time core (chapter 5) -/

/-- One time domain beside its registers (R136 to R147, R482). -/
structure DomSt where
  /-- The association in force: N, and T_N in ns (R139). -/
  toda     : Option (Nat × Nat) := none
  /-- An association that is in force from the next tick. -/
  adopt    : Option (Nat × Nat) := none
  /-- The pending association. -/
  pend     : Option (Nat × Nat) := none
  /-- A delivered association that waits for a capture: low 32 bits of N, T_N in ns. -/
  waiting  : Option (Nat × Nat) := none
  /-- Consecutive ticks without a valid sample (R145). -/
  noSample : Nat := 2
  /-- Reason of the latest tick without a sample (R482). -/
  reason   : Nat := 8
  /-- Consecutive ticks out of DOWN (R145). -/
  track    : Nat := 0
  /-- Consecutive ticks in which it was qualified (R147, WTR). -/
  qualFor  : Nat := 0
  /-- θ of the running tick, in 2^-16 ns. -/
  theta    : Option Int := none
  /-- The previous sample, for note (a) of Table 5-13. -/
  last     : Option Int := none
  /-- 1PPS: capture of the latest accepted edge, which fixes the predicted seconds (R146). -/
  ppsPred  : Option Int := none
  /-- 1PPS: the predicted second judged next. -/
  ppsNext  : Int := 0
  /-- 1PPS: consecutive missing pulses. -/
  ppsMiss  : Nat := 0
  /-- 1PPS: θ of an edge accepted since the last SERVO job. -/
  ppsNew   : Option Int := none
  deriving DecidableEq, Repr

/-- One comparator (R154, R155). -/
structure CmpSt where
  /-- The comparator takes part: it was enabled at the flip that set its object. -/
  on     : Bool := false
  /-- Index of the next target. -/
  next   : Nat := 0
  /-- The pin is active until this instant, in 2^-16 ns; none while no pulse runs. -/
  stopAt : Option Int := none
  /-- The pin that the running pulse drives. -/
  stopPin : Nat := 0
  deriving DecidableEq, Repr

/-- What a TIME pin does at its ball. -/
inductive PinLevel where
  | hiZ | inactive | active
  deriving DecidableEq, Repr

/-- What a ball of the general bank shows: high impedance or released, or driven (Table 18-4). -/
inductive PadLevel where
  | open | low | high
  deriving DecidableEq, Repr

/-- One TIME pin (R156 to R160). -/
structure PinSt where
  level   : PinLevel := .hiZ
  /-- The previous capture, in 2^-16 ns. -/
  lastCap : Option Int := none
  /-- Number of captures made. -/
  caps    : Nat := 0
  /-- Captures that wait (R157): edge, number and time. -/
  fifo    : List (Nat × Nat × Int) := []
  /-- Companion edges, in seconds, whose message is not sent yet (R158). -/
  tods    : List Int := []
  /-- PIN_FAULT was cleared by the host and the next readback decides (R413). -/
  recheck : Bool := false
  deriving DecidableEq, Repr

/-- The time core (R129 to R161). Times are in 2^-44 ns unless stated. -/
structure TimeSt where
  /-- The primary counter. -/
  now       : Nat := 0
  /-- The shadow counter less the primary. -/
  shadowOfs : Int := 0
  /-- Core cycles not yet made into a count of the time-counter clock. -/
  half      : Nat := 0
  /-- Increment that the latest SERVO job computed for the tick that follows (R141). -/
  incNext   : Nat := 0x14937D5DC2E6
  lsResync  : Bool := false
  /-- A TC_SET with GO waits for the tick boundary: seconds and nanoseconds. -/
  setGo     : Option (Nat × Nat) := none
  /-- A step that ACQUIRE asked for, in 2^-44 ns (R134). -/
  step      : Option Int := none
  doms      : List (Nat × DomSt) := []
  /-- The PPS monitor's own prediction (R146). -/
  mon       : DomSt := {}
  /-- Servo integrator, output and feedforward (R141, R142). -/
  iAcc      : Rat := 0
  r         : Rat := 0
  q         : Rat := 0
  rHold     : Rat := 0
  /-- Samples of ACQUIRE so far, latest first. -/
  acq       : List Int := []
  /-- Samples of the running whole second: sum and number. -/
  secSum    : Int := 0
  secN      : Nat := 0
  /-- A whole second of LOCKING has begun; whole seconds in a row within LOCK_THR. -/
  lockOpen  : Bool := false
  lockRun   : Nat := 0
  /-- Consecutive samples above UNLOCK_THR. -/
  unlockRun : Nat := 0
  /-- Ticks of the running or most recent LOCKED period. -/
  lockedFor : Nat := 0
  /-- Ticks since the most recent LOCKED period ended. -/
  sinceLock : Nat := 0
  /-- r of the ticks of that period, latest first (R150). -/
  rHist     : List Rat := []
  /-- LOCKED at least once since SET was last set (Table 5-5). -/
  lockedSet : Bool := false
  /-- LOCKING came from HOLDOVER (Table 5-5). -/
  fromHold  : Bool := false
  /-- Switch offset s and its change per tick, in 2^-16 ns (R148). -/
  sOfs      : Rat := 0
  /-- Domain selected last: 0 none, 1 TD-A, 2 TD-B (R142). -/
  lastSel   : Nat := 0
  /-- A refusal of SWITCH_MAX in progress: refused domain and the one it would replace (R147). -/
  refusal   : Option (Nat × Nat) := none
  /-- Oscillator measurements of the last 24 h: second and fractional offset, latest first (R149). -/
  oscMeas   : List (Nat × Rat) := []
  /-- The model clock, in 2^-16 ns, and the seconds since it was set. -/
  modelClk  : Option (Int × Nat) := none
  /-- The holdover timer runs since this instant, in 2^-16 ns (R150). -/
  holdFrom  : Option Int := none
  /-- Frequency of the monitor oscillator against REFOSC, as last measured (R132). -/
  monFreq   : Rat := 0
  /-- Drift of the sample channel against the core-cycle count, filtered (R142). -/
  drift     : Rat := 0
  /-- Last second boundary at which the rung was LOCKED (Table 6-4). -/
  lockedSec : Option Nat := none
  /-- Quality level at the last tick boundary (R184). -/
  ql        : Nat := 0xB
  /-- Port that the next self-test tests (R170). -/
  selfPort  : Nat := 0
  cmps      : List (Nat × CmpSt) := []
  pins      : List (Nat × PinSt) := []
  deriving DecidableEq, Repr

/-! ### Cipher lanes and key store (chapter 12) -/

/-- One frame's cipher work on a lane (R302, R303, R307). -/
structure CipherWork where
  /-- Number that the issue gives the work. -/
  wid    : Nat
  /-- Row of Table 12-2. -/
  path   : Nat
  stream : Nat
  slot   : Nat
  gen    : Nat
  lane   : Nat
  /-- The work has been restarted on another lane. -/
  retry  : Bool
  /-- Every block has passed the check; the frame waits for older frames of its stream. -/
  done   : Bool
  /-- MACsec: channel, AN and packet number. -/
  sa     : Option (Nat × Nat × Nat)
  /-- The frame as it leaves the lane; none for an upstream frame, which stays staged. -/
  frame  : Option Frame := none
  /-- MACsec receive: its ICV is right. -/
  icv    : Bool := true
  /-- MACsec receive: its user data came in the clear. -/
  clear  : Bool := false
  deriving DecidableEq, Repr

/-- A frame that waits for its cipher work: its stream, and for a PON frame the slot that its key index selects. -/
structure CipherWait where
  stream : Nat
  slot   : Nat := 0
  frame  : Frame
  deriving DecidableEq, Repr

/-- One shadow entry (R308): slot, generation, key and the microtick of the rewrite. -/
structure Shadow where
  slot  : Nat
  gen   : Nat
  key   : Nat
  since : Nat
  deriving DecidableEq, Repr

/-- A write into a slot: key, TYPE, USE, EXPORTABLE, ORIGIN, and the microtick in which it was held. -/
structure SlotWrite where
  slot   : Nat
  key    : Nat
  typ    : Nat
  use    : Nat
  exp    : Nat
  origin : Nat
  /-- The command ring and CMD_ID of the command that waits for it; none for firmware. -/
  cmd    : Option (Nat × Nat)
  deriving DecidableEq, Repr

/-- One secure association (R322, R324 to R326). -/
structure SaSt where
  slot  : Nat
  /-- Transmit: next packet number. Receive: lowest acceptable. -/
  pn    : Nat
  /-- Receive: one more than the highest packet number accepted. -/
  seen  : Nat := 0
  ssci  : Nat
  salt  : Nat
  /-- CX_PN_THRESHOLD was written; the first NOSA drop was recorded. -/
  thr   : Bool := false
  nosa  : Bool := false
  deriving DecidableEq, Repr

/-- One secure channel: its associations by AN, the current transmit AN and a pending switch with the
command ring and CMD_ID that asked for it. -/
structure ScSt where
  sas  : List (Nat × SaSt) := []
  cur  : Option Nat := none
  next : Option (Nat × Option (Nat × Nat)) := none
  deriving DecidableEq, Repr

/-- The cipher subsystem beside its registers. -/
structure CipherSt where
  /-- Work in progress or waiting for its stream, in issue order. -/
  works   : List CipherWork := []
  /-- Frames that wait for their cipher work, oldest first. -/
  waits   : List CipherWait := []
  keys    : List (Nat × Nat) := []
  shadows : List Shadow := []
  /-- Writes held until a shadow is free or a slot is zeroised, oldest first. -/
  held    : List SlotWrite := []
  /-- Microtick in which a slot became ERASE_PENDING. -/
  erasing : List (Nat × Nat) := []
  /-- KEY_ERASE commands that wait: command ring, CMD_ID, first slot, count. -/
  erases  : List (Nat × Nat × Nat × Nat) := []
  dkek    : Nat := 0
  /-- DKEK of the boot image, as boot unwrapped it (R310). -/
  imageDkek : Option Nat := none
  /-- Ticks of the latest mismatches (R304). -/
  misses  : List Nat := []
  /-- Scan access to PACKET is enabled (R305). -/
  scan    : Bool := false
  scs     : List (Nat × ScSt) := []
  deriving DecidableEq, Repr

/-! ### Time service instances (chapter 6) -/

/-- One frame that a responder is to send (R164, R174, R176, R177, R180, R185). -/
structure TsReq where
  /-- Order of R179: 0 Sync, 1 delay response, 2 Announce, 3 NTP, 4 ESMC, 5 ARP or Neighbor Advertisement. -/
  kind  : Nat
  /-- Delay: 1 Pdelay_Resp. NTP: 1 kiss-o'-death. ESMC: 1 event PDU. ARP: 1 Neighbor Advertisement. -/
  sub   : Nat := 0
  /-- Microtick of the request. -/
  since : Nat
  /-- Epoch under which it was received (R189). -/
  epoch : Nat := 0
  /-- Receive timestamp, in 2^-16 ns. -/
  t     : Int := 0
  /-- correctionField; requestingPortIdentity, or the NTP Transmit Timestamp; sequenceId. -/
  corr  : Int := 0
  ident : Nat := 0
  seq   : Nat := 0
  /-- The request came to a unicast address. -/
  uni   : Bool := false
  /-- NTP version and poll. -/
  vn    : Nat := 0
  poll  : Nat := 0
  /-- Source MAC address, network address (0 on L2) and UDP port of the request. -/
  mac   : Nat := 0
  ip    : Nat := 0
  udp   : Nat := 0
  deriving DecidableEq, Repr

/-- One PTP port instance beside its registers (R171 to R189). -/
structure TsSt where
  /-- Frames to send, oldest first. -/
  reqs    : List TsReq := []
  /-- sequenceId counters (R173). -/
  seqSync : Nat := 0
  seqAnn  : Nat := 0
  seqEsmc : Nat := 0
  /-- Tokens taken from the delay, NTP and kiss-o'-death buckets and not yet gained back, in units of
  1/1,555,200,000 token (R178, R182). -/
  dUsed   : Nat := 0
  nUsed   : Nat := 0
  kUsed   : Nat := 0
  /-- FAULTY is set (R167, R170), until a reload of the region if `fixed` (Table 8-6). -/
  faulty  : Bool := false
  fixed   : Bool := false
  /-- Consecutive passes of the self-test. -/
  passes  : Nat := 0
  /-- An event PDU is due (R185). -/
  evDue   : Bool := false
  deriving DecidableEq, Repr

/-- A frame that a responder sends, as its fields: the octets of IEEE 1588, NTP and ARP frames are not the
manual's. `dst` is a MAC address, or none for the group address of the message; `ip` and `udp` are 0 on L2;
`vlan` is TS_PORT.VLAN. The order of `fields` is that of the definition that builds them. -/
structure TsMsg where
  kind   : Nat
  sub    : Nat
  dst    : Option Nat
  ip     : Nat
  udp    : Nat
  vlan   : Nat
  fields : List Nat
  deriving DecidableEq, Repr

/-! ### Station lanes and MACs (chapter 8) -/

/-- One station lane and the MAC of its port beside their registers. -/
structure PortSt where
  /-- Core cycles of the received pause that runs (R228). -/
  pause   : Option Nat := none
  /-- Frames received whole that wait for PACKET, with their buffer bytes (R225). -/
  rx      : List Frame := []
  /-- An XOFF was sent and no XON since (R230). -/
  xoff    : Bool := false
  /-- Frames in the transmit buffer (R226). -/
  tx      : List Frame := []
  /-- Ticks, at boundaries, for which the conditions of R221 have held. -/
  upFor   : Nat := 0
  /-- Held DFE coefficients exist (R218). -/
  warm    : Bool := false
  /-- FIR, CTLE, polarity, loopback and pattern in force, as the words of PF_LANE_EQ and PF_LANE_CTRL. -/
  eqNow   : Nat := 0x400A0010
  ctlNow  : Nat := 0
  /-- Microtick since which SIG_DET has been 0 (R222). -/
  quiet   : Option Nat := some 0
  /-- Ticks of the latest PLL losses; microticks of MAC and responder uncorrectable errors. -/
  pllLoss : List Nat := []
  macErr  : List Nat := []
  respErr : List Nat := []
  /-- FULL recalibration holds the port down (R234). -/
  recalDown : Bool := false
  /-- The lane is idle (R222). -/
  idle    : Bool := false
  /-- PF_QUAD_CFG.FEC changed: ALIGN_LOCK drops at the next microtick boundary (R217). -/
  relock  : Bool := false
  deriving DecidableEq, Repr

/-- The recalibration of one region (R233): lane, FULL, and the command ring and CMD_ID. -/
structure RecalSt where
  lane : Nat
  full : Bool
  ring : Nat
  cmd  : Nat
  /-- A result that waits for the tick boundary: transmit and receive latency. -/
  lat  : Option (Nat × Nat) := none
  deriving DecidableEq, Repr

/-! ### What leaves the block -/

/-- One output: a write to host memory, a frame, a burst, a pin, a bus transfer. `Hw.out` lists them, the
latest first. -/
inductive Out where
  /-- Entry `idx` of completion/event ring `ring` with its phase (Tables 14-5 and 14-10). -/
  | entry (ring idx : Nat) (phase : Bool) (e : Entry)
  /-- Head slot of ring `r` (R361). -/
  | head (r val : Nat)
  /-- A receive descriptor written back, and the frame (R367). -/
  | rxWrite (ring idx : Nat) (phase : Bool) (desc : List Byte) (frame : List Byte)
  /-- MSI-X message of a vector (R376). -/
  | msix (v : Nat)
  /-- A record of a capture ring (R350). -/
  | capture (ring idx : Nat) (bytes : List Byte)
  /-- Another write to host memory. -/
  | hostWrite (addr : Nat) (bytes : List Byte)
  /-- A counter-dump image (Table 13-6): destination, bytes 0 to 63, the counters, and the bytes from 49,216 on. -/
  | dump (dest : Nat) (head : List Byte) (counters : List Nat) (tail : List Byte)
  /-- A responder frame of instance i (R169). -/
  | time (i : Nat) (m : TsMsg)
  /-- A frame at a station port's transmit ball. -/
  | stationTx (port : Nat) (bytes : List Byte)
  /-- BURST_EN of upstream channel 2a + u. -/
  | burstEn (u : Nat) (level : Bool)
  /-- A burst at the fibre transmit ball of channel 2a + u (R80, R89). -/
  | burst (u : Nat) (b : Burst)
  /-- An upstream PLOAM message queued: attachment, message type and body (R79). -/
  | ploam (a kind : Nat) (body : List Nat)
  /-- An upstream OMCI answer: attachment, transaction, result (R97). -/
  | omci (a tci result : Nat)
  /-- A Swidan frame sent upstream by attachment a (R117). -/
  | swidan (a : Nat) (frame : List Byte)
  /-- A TIME pin (R156): its level. -/
  | pin (p : Nat) (level : PinLevel)
  /-- A time-of-day message (R158). -/
  | tod (p : Nat) (bytes : List Byte)
  /-- A PMBus or AVSBus transfer: rail, kind, millivolts (R440, R441). -/
  | pmbus (rail kind mv : Nat)
  /-- The data that a BAR0 read of the word at offset `off` returns (R355, R399). -/
  | bar (off val : Nat)
  /-- A JTAG response (R478): instruction and what the data register captures. -/
  | jtag (instr : Nat) (data : Nat)
  deriving DecidableEq, Repr

/-! ### The whole block -/

/-- What survives every loss of power: the boot flash and the fuses (chapter 16). -/
structure NonVol where
  /-- The boot flash as (address, byte) pairs: addresses strictly rising, no byte 0xFF listed (an
  unlisted address reads 0xFF, erased). -/
  flash : List Host.Cell := []
  /-- The copies of the emergency-stop flags: bit a (R75). -/
  estop : Nat := 0
  /-- OP_HOURS and PWR_CYCLES as last written to the operating-data sector (R420), whose layout the manual does not
  give (log entry 61, DESIGN CHOICE). -/
  hours : Nat := 0
  cycles : Nat := 0
  /-- The OWNER_DIGEST fuse is programmed (R431). -/
  owned : Bool := false
  deriving DecidableEq, Repr

/-- Everything the block holds beside its waiting commands and its flash. -/
structure Hw where
  /-- Register fields that differ from reset. -/
  regs : RegStore := []
  /-- Words latched by a read of a register's lowest word (R355). -/
  latch : RegStore := []
  /-- Staged words of WS fields (R12). -/
  stage : RegStore := []
  /-- 48-bit event counters beside the fields that they mirror (R344, R345). -/
  pcnt : RegStore := []
  clk  : ClkSt := {}
  host : HostSt := {}
  ep   : EpochSt := {}
  rcd  : RecorderSt := {}
  sf   : SafetySt := {}
  pw   : PowerSt := {}
  /-- Receiver of channel 4a + c. -/
  rx   : List (Nat × RxSt) := []
  /-- Map channel of upstream channel 2a + u. -/
  map  : List (Nat × MapSt) := []
  /-- Activation of attachment a. -/
  act  : List (Nat × ActSt) := []
  /-- Burst engine of upstream channel 2a + u. -/
  up   : List (Nat × UpSt) := []
  /-- Herd and estimator of attachment a. -/
  herd : List (Nat × HerdSt) := []
  /-- Pointer processing of member 4a + c. -/
  ptr  : List (Nat × PtrSt) := []
  time : TimeSt := {}
  ks   : CipherSt := {}
  pk   : PkSt := {}
  mem  : MemSt := {}
  /-- Time service instance i. -/
  ts   : List (Nat × TsSt) := []
  /-- Station lane n. -/
  port : List (Nat × PortSt) := []
  /-- Recalibration in region 3 or 4. -/
  recal : List (Nat × RecalSt) := []
  /-- Frames that the host node has selected for receive ring r, oldest first (R265). -/
  toHost : List (Nat × Frame) := []
  /-- Counters that have passed 2^48 − 1 and whose wrap bit no image has reported (R349). -/
  wraps : List FKey := []
  /-- How many free values the run has taken (log entry 4, DESIGN CHOICE); the model's own field. -/
  free : Nat := 0
  /-- What left the block, the latest first; the model's own field. -/
  out  : List Out := []
  deriving DecidableEq, Repr

/-- The state: the block, its non-volatile memory and the commands that wait, first in first out. -/
structure State where
  hw      : Hw
  nv      : NonVol
  pending : List Instr
  deriving DecidableEq, Repr

/-- Why a command can stop with a fault. No command of this block does (NOTES.md, Stops): a gated or
unassigned access, a refused command and every error are effects that the specification describes. -/
inductive Fault where
  /-- Raised by no command; kept so that the type has a member. Safe. -/
  | none
  deriving DecidableEq, Repr

/-- Why a command can be refused. -/
inductive Refusal where
  /-- Raised by `exec` for a command that has no meaning yet. Safe. -/
  | notModelled (mnemonic : String)
  deriving DecidableEq, Repr

/-- The machine right after reset: every field at the value the specification states, and where it states
none at the value named in INVENTORY.md and its log entry. -/
def State.reset : State := { hw := {}, nv := {}, pending := [] }

end Sys2Proof.Machine
end

