-- ==== Sys2Proof/Machine/Ops.lean ====
section
/-! DEFINITION. The named operations that every command shares: register fields and their counters,
configuration objects, free values, outputs, completion/event rings (R357 to R361, R374 to R376) and
the event recorder's RAM ring (R421, R422). -/

namespace Sys2Proof.Machine

/-! ### Register fields -/

/-- The key of a field. -/
def Fld.key (f : Fld) (i j : Nat) : FKey := ⟨f.reg, f.lsb, i, j⟩

/-- The value of a field of register (i, j). -/
def Hw.rd (h : Hw) (f : Fld) (i : Nat := 0) (j : Nat := 0) : Nat := look h.regs (f.key i j) f.reset

/-- Whether a field is not 0. -/
def Hw.on (h : Hw) (f : Fld) (i : Nat := 0) (j : Nat := 0) : Bool := h.rd f i j != 0

/-- Field `f` set to `v`, cut to its width. -/
def Hw.wr (h : Hw) (f : Fld) (v : Nat) (i : Nat := 0) (j : Nat := 0) : Hw :=
  { h with regs := store h.regs (f.key i j) (v % 2 ^ f.width) }

/-- A one-bit field set or cleared. -/
def Hw.wrB (h : Hw) (f : Fld) (b : Bool) (i : Nat := 0) (j : Nat := 0) : Hw := h.wr f (b2n b) i j

/-- R13, R344: a counting field counts `n` and stops at its greatest value; the 48-bit event counter that
mirrors it counts too and wraps (R345), which sets its wrap bit (R349). -/
def Hw.inc (h : Hw) (f : Fld) (i : Nat := 0) (j : Nat := 0) (n : Nat := 1) : Hw :=
  { h with
    regs := store h.regs (f.key i j) (satNat f.width (h.rd f i j + n))
    pcnt := store h.pcnt (f.key i j) ((look h.pcnt (f.key i j) 0 + n) % 2 ^ 48)
    wraps := if look h.pcnt (f.key i j) 0 + n < 2 ^ 48 then h.wraps else h.wraps ++ [f.key i j] }

/-- A counting field of 64 bits that wraps (Table 8-11, note a). -/
def Hw.incW (h : Hw) (f : Fld) (i : Nat := 0) (j : Nat := 0) (n : Nat := 1) : Hw :=
  { h with
    regs := store h.regs (f.key i j) ((h.rd f i j + n) % 2 ^ f.width)
    pcnt := store h.pcnt (f.key i j) ((look h.pcnt (f.key i j) 0 + n) % 2 ^ 48)
    wraps := if look h.pcnt (f.key i j) 0 + n < 2 ^ 48 then h.wraps else h.wraps ++ [f.key i j] }

/-- The signed reading of a field. -/
def Hw.rdS (h : Hw) (f : Fld) (i : Nat := 0) (j : Nat := 0) : Int := signed f.width (h.rd f i j)

/-- A field set to the two's complement of `x`, saturating. -/
def Hw.wrS (h : Hw) (f : Fld) (x : Int) (i : Nat := 0) (j : Nat := 0) : Hw :=
  h.wr f (unsigned f.width (satSigned f.width x)) i j

/-! ### Words of registers (R12, R355) -/

/-- The part of a field's value that a write of word `w` of its register with `v` replaces. -/
def Fld.patch (f : Fld) (old w v : Nat) : Nat :=
  let lo := max f.lsb (32 * w)
  let hi := min (f.lsb + f.width) (32 * w + 32)
  if lo < hi then putBits old (lo - f.lsb) (hi - lo) (bits v (lo - 32 * w) (hi - lo)) else old

/-- The bits of a field that word `w` of its register with value `v` carries, in place. -/
def Fld.part (f : Fld) (w v : Nat) : Nat := f.patch 0 w v

/-- Whether word `w` of its register carries a bit of the field. -/
def Fld.inWord (f : Fld) (w : Nat) : Bool := decide (f.lsb < 32 * w + 32 ∧ 32 * w < f.lsb + f.width)

/-- R12: a write of word `w` with `v` acts on one field by its access code: RW takes the bits, W1C clears
where they are 1, WS stages them, RO, RC and WO keep nothing. -/
def Hw.writeFld (h : Hw) (f : Fld) (w v i j : Nat) : Hw :=
  match f.acc with
  | .rw => h.wr f (f.patch (h.rd f i j) w v) i j
  | .w1c => h.wr f (h.rd f i j - (h.rd f i j &&& f.part w v)) i j
  | .ws => { h with stage := store h.stage (f.key i j) (f.patch (look h.stage (f.key i j) 0) w v) }
  | _ => h

/-- R12: a write of word `w` of register (i, j) with `v`, field by field. -/
def Hw.writeWord (h : Hw) (r : RegName) (w v i j : Nat) : Hw :=
  r.fields.foldl (fun h f => if f.inWord w then h.writeFld f w v i j else h) h

/-- R481: a write of word `w` of a register in which the fields of `guard` keep their value. -/
def Hw.writeKeep (h : Hw) (r : RegName) (w v i j : Nat) (guard : Fld → Bool) : Hw :=
  r.fields.foldl (fun h f => if f.inWord w && !guard f then h.writeFld f w v i j else h) h

/-- Apply `f` when `b` holds. -/
def Hw.when (h : Hw) (b : Bool) (f : Hw → Hw) : Hw := if b then f h else h

/-- Apply `f` to the block for each element, in order. -/
def Hw.each {α : Type} (h : Hw) (l : List α) (f : Hw → α → Hw) : Hw := l.foldl f h

/-- Take the next free value of the run (log entry 4, DESIGN CHOICE). -/
def Hw.takeFree (h : Hw) : Nat × Hw := (Config.freeValue h.free, { h with free := h.free + 1 })

/-- An output. -/
def Hw.emit (h : Hw) (o : Out) : Hw := { h with out := o :: h.out }

/-! ### Configuration objects (R378, R379, R390) -/

/-- Field `f`, repetition `k`, of object instance `idx` in an epoch's store. -/
def cfgOf (e : CfgStore) (f : OFld) (idx : Nat := 0) (k : Nat := 0) : Nat :=
  match e.find? (fun p => p.1 == (f.typ, idx)) with
  | some p => bits p.2 (f.lsb + f.stride * k) f.width
  | none => f.resetAt k

/-- The same field in the current epoch. -/
def Hw.cfg (h : Hw) (f : OFld) (idx : Nat := 0) (k : Nat := 0) : Nat := cfgOf h.ep.cur f idx k

/-- Its signed reading. -/
def Hw.cfgS (h : Hw) (f : OFld) (idx : Nat := 0) (k : Nat := 0) : Int := signed f.width (h.cfg f idx k)

/-- R34, R250: the store of the epoch that a frame carries: the current one, or the previous one. -/
def Hw.storeOf (h : Hw) (epoch : Nat) : CfgStore :=
  if epoch = h.rd HI_EPOCH_STATUS_CURRENT then h.ep.cur else h.ep.prev

/-- A field in the epoch that a frame carries. -/
def Hw.cfgFor (h : Hw) (epoch : Nat) (f : OFld) (idx : Nat := 0) (k : Nat := 0) : Nat := cfgOf (h.storeOf epoch) f idx k

/-- The instances of a type that an epoch's store holds. -/
def instances (e : CfgStore) (t : ObjType) : List Nat := (e.filter (fun p => p.1.1 == t)).map (fun p => p.1.2)

/-! ### Indexed parts -/

def Hw.rxAt (h : Hw) (k : Nat) : RxSt := look h.rx k {}
def Hw.setRx (h : Hw) (k : Nat) (f : RxSt → RxSt) : Hw := { h with rx := store h.rx k (f (h.rxAt k)) }
def Hw.mapAt (h : Hw) (k : Nat) : MapSt := look h.map k { chan := k % 2 }
def Hw.setMap (h : Hw) (k : Nat) (f : MapSt → MapSt) : Hw := { h with map := store h.map k (f (h.mapAt k)) }
def Hw.actAt (h : Hw) (a : Nat) : ActSt := look h.act a {}
def Hw.setAct (h : Hw) (a : Nat) (f : ActSt → ActSt) : Hw := { h with act := store h.act a (f (h.actAt a)) }
def Hw.upAt (h : Hw) (k : Nat) : UpSt := look h.up k {}
def Hw.setUp (h : Hw) (k : Nat) (f : UpSt → UpSt) : Hw := { h with up := store h.up k (f (h.upAt k)) }
def Hw.herdAt (h : Hw) (a : Nat) : HerdSt := look h.herd a {}
def Hw.setHerd (h : Hw) (a : Nat) (f : HerdSt → HerdSt) : Hw := { h with herd := store h.herd a (f (h.herdAt a)) }
def Hw.ptrAt (h : Hw) (k : Nat) : PtrSt := look h.ptr k {}
def Hw.setPtr (h : Hw) (k : Nat) (f : PtrSt → PtrSt) : Hw := { h with ptr := store h.ptr k (f (h.ptrAt k)) }
def Hw.domAt (h : Hw) (d : Nat) : DomSt := look h.time.doms d {}
def Hw.setDom (h : Hw) (d : Nat) (f : DomSt → DomSt) : Hw :=
  { h with time := { h.time with doms := store h.time.doms d (f (h.domAt d)) } }
def Hw.cmpAt (h : Hw) (k : Nat) : CmpSt := look h.time.cmps k {}
def Hw.setCmp (h : Hw) (k : Nat) (f : CmpSt → CmpSt) : Hw :=
  { h with time := { h.time with cmps := store h.time.cmps k (f (h.cmpAt k)) } }
def Hw.pinAt (h : Hw) (p : Nat) : PinSt := look h.time.pins p {}
def Hw.setPin (h : Hw) (p : Nat) (f : PinSt → PinSt) : Hw :=
  { h with time := { h.time with pins := store h.time.pins p (f (h.pinAt p)) } }
def Hw.regionAt (h : Hw) (r : Nat) : RegionSt := look h.sf.regions r {}
def Hw.setRegion (h : Hw) (r : Nat) (f : RegionSt → RegionSt) : Hw :=
  { h with sf := { h.sf with regions := store h.sf.regions r (f (h.regionAt r)) } }
def Hw.ringAt (h : Hw) (r : Nat) : RingSt := look h.host.rings r {}
def Hw.setRing (h : Hw) (r : Nat) (f : RingSt → RingSt) : Hw :=
  { h with host := { h.host with rings := store h.host.rings r (f (h.ringAt r)) } }

/-! ### Tick, time and regions -/

/-- GL_TICK_NUM. -/
def Hw.tick (h : Hw) : Nat := h.rd GL_TICK_NUM_TICK

/-- The primary counter in 2^-16 ns. -/
def Hw.now16 (h : Hw) : Int := ((h.time.now / 2 ^ 28 : Nat) : Int)

/-- One second in 2^-16 ns. -/
def sec16 : Int := 65536000000000

/-- Whole seconds of the primary counter. -/
def Hw.nowSec (h : Hw) : Nat := h.time.now / (1000000000 * 2 ^ 44) % 2 ^ 48

/-- Nanoseconds of the primary counter. -/
def Hw.nowNs (h : Hw) : Nat := h.time.now / 2 ^ 44 % 1000000000

/-- States of SF_REGION.STATE (Table 15-11). -/
def stRun : Nat := 0
def stStopped : Nat := 1
def stReloading : Nat := 2
def stGated : Nat := 3
def stFailed : Nat := 4

/-- Region codes of R397. -/
def rgLine : Nat := 1
def rgFawn : Nat := 2
def rgPortW : Nat := 3
def rgPortE : Nat := 4
def rgPacket : Nat := 5
def rgMemory : Nat := 6
def rgControl : Nat := 7

/-- The state of region r (R397); GLOBAL and FAWN always run, and a region that has not been started since a reset of
the chip domain does not run, though its STATE field reads its reset value. -/
def Hw.regionState (h : Hw) (r : Nat) : Nat :=
  if r = 0 ∨ r = rgFawn then stRun
  else if h.rd SF_REGION_STATE r = stRun ∧ (h.regionAt r).powered = false then stGated
  else h.rd SF_REGION_STATE r

/-- Whether region r is in RUN. -/
def Hw.runs (h : Hw) (r : Nat) : Bool := h.regionState r == stRun

/-- The region of quad q's ports: PORTW for quads 0 to 15, else PORTE. -/
def quadRegion (q : Nat) : Nat := if q < 16 then rgPortW else rgPortE

/-- Severities of Table 15-5. -/
def sevInfo : Nat := 0
def sevNotice : Nat := 1
def sevWarn : Nat := 2
def sevMajor : Nat := 3
def sevCritical : Nat := 4

/-! ### Rings that the terminal writes (R358 to R361) -/

/-- R359: entries of ring r; SIZE_LOG2 outside 6 to 16 acts as 6. -/
def Hw.ringSize (h : Hw) (r : Nat) : Nat :=
  let s := h.rd HI_RING_SIZE_LOG2 r
  if 6 ≤ s ∧ s ≤ 16 then 2 ^ s else 64

/-- Whether ring r is enabled, or stops only at the next boundary (R359), and is not stopped under R362. -/
def Hw.ringOn (h : Hw) (r : Nat) : Bool := (h.on HI_RING_ENABLE r || (h.ringAt r).stopping) && !h.on HI_RING_STOPPED r

/-- R360: PH(p) is 1 on the first pass through a ring of `size` entries. -/
def passPhase (size p : Nat) : Bool := (p / size) % 2 == 0

/-- Entries free on a ring that the terminal produces. -/
def Hw.ringRoom (h : Hw) (r : Nat) : Nat :=
  if h.ringOn r then h.ringSize r - ((h.ringAt r).prod - (h.ringAt r).cons) else 0

/-- R376: the pending count and timer of a vector. -/
def Hw.vecNote (h : Hw) (v : Nat) : Hw :=
  let s := look h.host.vecs v {}
  let s' : VecSt := { count := s.count + 1, since := if s.count = 0 then h.clk.ut else s.since }
  { h with host := { h.host with vecs := store h.host.vecs v s' } }

/-- Whether ring r names a vector (Table 14-27: ignored for rings 0 to 63 and 128 to 143). -/
def ringHasVector (r : Nat) : Bool := (64 ≤ r && r < 128) || (144 ≤ r && r < 216)

/-- The index of ring r has moved to `v`: its head slot is written, then its vector is pending (R361). -/
def Hw.ringMoved (h : Hw) (r v : Nat) : Hw :=
  let h := (h.setRing r (fun s => { s with head := v })).emit (.head r v)
  if ringHasVector r then h.vecNote (h.rd HI_RING_VECTOR r) else h

/-- One entry written on completion/event ring n, which has room (R357). -/
def Hw.pushEntry (h : Hw) (n : Nat) (e : Entry) : Hw :=
  let r := 144 + n
  let p := (h.ringAt r).prod
  let h := (h.emit (.entry n p (passPhase (h.ringSize r) p) e)).setRing r (fun s => { s with prod := p + 1 })
  h.ringMoved r (p + 1)

/-- R374: the entries of an event on ring n; none where they have no room. -/
def Hw.tryEvent (h : Hw) (n code : Nat) (a b : List Byte) : Option Hw :=
  let r := 144 + n
  if b.isEmpty then
    if 1 ≤ h.ringRoom r then some (h.pushEntry n (.event code false a)) else none
  else
    let last := ((h.ringAt r).prod + 1) % h.ringSize r = 0
    if (if last then 3 else 2) ≤ h.ringRoom r then
      let h := if last then h.pushEntry n .pad else h
      some ((h.pushEntry n (.event code true a)).pushEntry n (.cont code b))
    else none

/-- R375: an event of class `c` on its route; none where it finds no enabled route or no room. -/
def Hw.route (h : Hw) (c code : Nat) (a b : List Byte) : Option Hw :=
  if h.on HI_EVT_ROUTE_ENABLE c then h.tryEvent (h.rd HI_EVT_ROUTE_RING c) code a b else none

/-- R375: an event that is dropped and counted where it finds no route or room (classes 2 and above). -/
def Hw.eventDrop (h : Hw) (c code : Nat) (a b : List Byte) : Hw :=
  match h.route c code a b with
  | some h' => h'
  | none => h.inc HI_EVT_DROP_DROPS c

/-- R375: a cipher event (class 1) waits in its queue of 64, beyond which it is dropped. -/
def Hw.eventCipher (h : Hw) (code : Nat) (a b : List Byte) : Hw :=
  match (if h.host.cipherQ.isEmpty then h.route 1 code a b else none) with
  | some h' => h'
  | none =>
    if h.host.cipherQ.length < 64 then
      { h with host := { h.host with cipherQ := h.host.cipherQ ++ [(code, a, b)] } }
    else h.inc HI_EVT_DROP_DROPS 1

/-! ### The event recorder's RAM ring (R421, R422) -/

/-- The entry of the RAM ring with the lowest sequence number among those that satisfy `p`. -/
def oldestEntry (ring : List (Nat × RingRec)) (p : RingRec → Bool) : Option Nat :=
  (minBy? (fun x y => x.2.seq < y.2.seq) (ring.filter (fun x => p x.2))).map Prod.fst

/-- R422: where a record of a severity goes: its entry, and whether it takes an uncommitted one. -/
def ringPlace (ring : List (Nat × RingRec)) (sev : Nat) : Option (Nat × Bool) :=
  match (List.range 256).find? (fun k => !ring.any (fun x => x.1 == k)) with
  | some k => some (k, false)
  | none =>
    match oldestEntry ring (fun e => e.committed) with
    | some k => some (k, false)
    | none =>
      match oldestEntry ring (fun e => e.r.sev ≤ sev) with
      | some k => some (k, true)
      | none => none

/-- RING_LOSS of Table 15-6. -/
def codeRingLoss : Nat := 0x8008

/-- The uncommitted RING_LOSS record of the ring, if any. -/
def ringLossAt (ring : List (Nat × RingRec)) : Option (Nat × RingRec) :=
  ring.find? (fun x => x.2.r.code == codeRingLoss && !x.2.committed)

/-- A record placed by the steps of R422, without the account of a loss. The flag says that one was lost. -/
def Hw.placeRec (h : Hw) (r : Rec) : Hw × Bool :=
  match ringPlace h.rcd.ring r.sev with
  | none => (h.inc EV_STATUS_DROPPED, false)
  | some (k, lost) =>
    let h := { h with rcd := { h.rcd with
      ring := store h.rcd.ring k { seq := h.rcd.made, committed := false, r := r }
      made := h.rcd.made + 1 } }
    (if lost then h.inc EV_STATUS_RING_LOST else h, lost)

/-- R374, note (b): the RECORD event that mirrors a record. -/
def Hw.mirrorRec (h : Hw) (r : Rec) : Hw :=
  if h.rd HI_EVT_ROUTE_AUX 3 ≤ r.sev then
    h.eventDrop 3 0x0030 (leBytes 1 r.sev ++ leBytes 1 r.region ++ leBytes 2 r.source ++ leBytes 2 r.code ++
      leBytes 2 0 ++ slice r.data 0 4) []
  else h

/-- A record with the time and counts of this moment (Table 15-5). -/
def Hw.mkRec (h : Hw) (sev source code : Nat) (data : List Byte) : Rec :=
  { hours := h.rd EV_HOURS_OP_HOURS, cycles := h.rd EV_HOURS_PWR_CYCLES, tick := h.tick, sec := h.nowSec
    ns := h.nowNs, valid := h.rd TC_STATUS_SET, sev := sev, region := source / 0x1000, source := source
    code := code, data := data }

/-- R422: one more loss while a RING_LOSS record stays uncommitted. -/
def Hw.countLoss (h : Hw) : Option Hw :=
  match ringLossAt h.rcd.ring with
  | none => none
  | some (k, e) =>
    let r' : Rec := { e.r with data := leBytes 4 (leNat e.r.data + 1) }
    some { h with rcd := { h.rcd with ring := store h.rcd.ring k { e with r := r' } } }

/-- R421, R422: a record of severity `sev` from block `source`. -/
def Hw.record (h : Hw) (sev source code : Nat) (data : List Byte := []) : Hw :=
  let r := h.mkRec sev source code data
  let (h, lost) := h.placeRec r
  let h := h.mirrorRec r
  if lost then
    match h.countLoss with
    | some h' => h'
    | none =>
      let l := h.mkRec sevWarn 0x2020 codeRingLoss (leBytes 4 1)
      let (h, lost') := h.placeRec l
      let h := h.mirrorRec l
      if lost' then h.countLoss.getD h else h
  else h

/-- R421: the record of an event that field `f` counts: its code is the index of the counter (R345). -/
def Hw.recordOf (h : Hw) (sev source : Nat) (f : Fld) (i : Nat := 0) (j : Nat := 0) (data : List Byte := []) : Hw :=
  h.record sev source (Config.counterIndex f.reg f.lsb i j) data

/-- R421: the record of an event that neither a field named in the manual nor Table 15-6 numbers. -/
def Hw.recordOther (h : Hw) (sev source n : Nat) (data : List Byte := []) : Hw :=
  h.record sev source (Config.otherCode n) data

end Sys2Proof.Machine
end

