-- ==== Sys2Proof/Machine/Operands.lean ====
section
/-! DEFINITION. The operand form that every host command shares: its header (Table 14-4), how the ring
engine takes it (R360, R362, R364, R368) and how it completes (R369, R371, Tables 14-5, 14-7, 14-8). -/

namespace Sys2Proof.Machine

/-- Status codes of Table 14-7. -/
def stOk : Nat := 0
def stRange : Nat := 1
def stAlign : Nat := 2
def stDoubleFree : Nat := 3
def stNotOwner : Nat := 4
def stGatedCode : Nat := 5
def stKeyAbsent : Nat := 6
def stConflict : Nat := 7
def stStale : Nat := 8
def stTimeout : Nat := 11
def stBusy : Nat := 12
def stUnsupported : Nat := 13

/-- What a host command answers when it has run: a completion, or none yet. -/
inductive Ans where
  | done (status : Nat) (reason : Nat) (result : Nat)
  | later
  deriving DecidableEq, Repr

/-- A completion OK with a result. -/
def Ans.ok (result : Nat := 0) : Ans := .done stOk 0 result

/-- A completion with a status and no result. -/
def Ans.fail (status : Nat) (result : Nat := 0) (reason : Nat := 0) : Ans := .done status reason result

/-- R368: a completion is written, or waits for room on its ring. -/
def Hw.complete (h : Hw) (compl : Nat) (c : Compl) : Hw :=
  if 1 ≤ h.ringRoom (144 + compl) then h.pushEntry compl (.compl c)
  else { h with host := { h.host with waiting := h.host.waiting ++ [(compl, c)] } }

/-- R362: ring r stops with error `e`, and a WARN event is recorded. -/
def Hw.ringError (h : Hw) (r e : Nat) : Hw :=
  ((h.wr HI_RING_STOPPED 1 r).wr HI_RING_ERR e r).recordOther sevWarn 0x7020 0 (leBytes 2 r ++ leBytes 1 e)

/-- R364, R368: ring engine and command ring can start the next command of the ring now. -/
def Hw.cmdReady (h : Hw) (hd : CmdHdr) : Bool :=
  h.runs rgControl && h.ringOn (128 + hd.ring) &&
  decide ((h.ringAt (128 + hd.ring)).cons < (h.ringAt (128 + hd.ring)).prod) &&
  !h.host.waiting.any (fun w => w.2.ring == hd.ring) &&
  !(hd.fence && h.host.opens.any (fun o => o.ring == hd.ring))

/-- R360: the header's phase is that of its index. -/
def Hw.cmdPhaseOk (h : Hw) (hd : CmdHdr) : Bool :=
  hd.phase == passPhase (h.ringSize (128 + hd.ring)) (h.ringAt (128 + hd.ring)).cons

/-- The command is consumed: the consumer index of its ring moves on (R361). -/
def Hw.cmdTake (h : Hw) (hd : CmdHdr) : Hw :=
  let r := 128 + hd.ring
  let c := (h.ringAt r).cons + 1
  (h.setRing r (fun s => { s with cons := c })).ringMoved r c

/-- R368: COMPL_RING names an enabled completion/event ring. -/
def Hw.complOk (h : Hw) (hd : CmdHdr) : Bool :=
  decide (hd.compl < 64) && h.on HI_RING_ENABLE (144 + hd.compl)

/-- R369: the completion of a command. -/
def cmdAnswer (hd : CmdHdr) (status reason result : Nat) : Compl :=
  { ring := hd.ring, status := status, cmdId := hd.cmdId, reason := reason, result := result % 2 ^ 64 }

/-- R368, R369: the effect and the answer of a command that was taken. -/
def Hw.cmdRun (h : Hw) (hd : CmdHdr) (opcode : Nat) (f : Hw → Hw × Ans) : Hw :=
  match f h with
  | (h', .done st re rs) => h'.complete hd.compl (cmdAnswer hd st re rs)
  | (h', .later) =>
    { h' with host := { h'.host with opens := h'.host.opens ++
      [{ ring := hd.ring, cmdId := hd.cmdId, compl := hd.compl, opcode := opcode, epoch := hd.epoch, since := h'.clk.ut }] } }

/-- R362, R368: a host command. A command that its ring cannot start now, or whose ring is not enabled, is
not fetched and has no effect (log entry 21, DEDUCED); a wrong phase stops the ring; a COMPL_RING that names a
disabled ring completes RANGE on completion ring 0. -/
def Hw.hostCmd (h : Hw) (hd : CmdHdr) (opcode : Nat) (f : Hw → Hw × Ans) : Hw :=
  if h.cmdReady hd then
    if h.cmdPhaseOk hd then
      if h.complOk hd then (h.cmdTake hd).cmdRun hd opcode f
      else (h.cmdTake hd).complete 0 (cmdAnswer hd stRange 0 0)
    else h.ringError (128 + hd.ring) 1
  else h

/-- The completion of the first open command that satisfies `p`. -/
def Hw.completeOpen (h : Hw) (p : OpenCmd → Bool) (status reason result : Nat) : Hw :=
  match h.host.opens.find? p with
  | none => h
  | some o =>
    let h := { h with host := { h.host with opens := h.host.opens.erase o } }
    h.complete o.compl { ring := o.ring, status := status, cmdId := o.cmdId, reason := reason, result := result % 2 ^ 64 }

end Sys2Proof.Machine
end

