-- ==== Sys2Proof/Machine/Detect.lean ====
section
/-! DEFINITION. Detections of the safety function SF-TIME (R408, R409): one onset is counted and recorded
once, and asks for the reaction of its scope. -/

namespace Sys2Proof.Machine

/-- SF_DETECT of Table 15-6. -/
def codeSfDetect : Nat := 0x8002

/-- Scopes of an SF_DETECT record. -/
def scopeGlobal : Nat := 0
def scopePort : Nat := 1
def scopePin : Nat := 2

/-- θ in 2^-16 ns as whole nanoseconds in 32 bits (the values of Table 15-6), rounded under R479. -/
def nsOf (x : Int) : Int := roundDiv x 65536

/-- A signed field in 4 bytes, saturating. -/
def s4 (x : Int) : List Byte := leBytes 4 (unsigned 32 (satSigned 32 x))

/-- The values of the sources of R410 in an SF_DETECT record: domains A and B, PPS monitor, model. -/
def Hw.sourceBytes (h : Hw) : List Byte :=
  s4 (nsOf (h.rdS TC_DOM_STATUS_THETA 0)) ++ s4 (nsOf (h.rdS TC_DOM_STATUS_THETA 1)) ++
  s4 (nsOf (h.rdS TC_HOLD_THETA_PPS)) ++ s4 (nsOf (h.rdS TC_HOLD_THETA_OSC))

/-- The SF_DETECT record of a class and instance. -/
def Hw.sfRecord (h : Hw) (cls scope idx : Nat) (resolved : Bool) : Hw :=
  h.record (if resolved then sevWarn else sevCritical) 0x2003 codeSfDetect
    (leBytes 1 cls ++ leBytes 1 scope ++ leBytes 1 idx ++ leBytes 1 (b2n resolved) ++ h.sourceBytes)

/-- The bookkeeping of one class and instance. -/
def Hw.detAt (h : Hw) (cls idx : Nat) : DetSt := look h.sf.dets (cls, idx) {}

/-- Replace the bookkeeping of one class and instance. -/
def Hw.setDet (h : Hw) (cls idx : Nat) (d : DetSt) : Hw :=
  { h with sf := { h.sf with dets := store h.sf.dets (cls, idx) d } }

/-- R413: the reaction that a detection asks for; it takes effect at the next tick boundary (R408). -/
def Hw.askReaction (h : Hw) (cls scope idx : Nat) : Hw :=
  if scope = scopeGlobal then { h with sf := { h.sf with reactReq := putBit h.sf.reactReq cls true } }
  else if scope = scopePort then { h with sf := { h.sf with reactPorts := h.sf.reactPorts ++ [idx] } }
  else { h with sf := { h.sf with reactPins := h.sf.reactPins ++ [idx] } }

/-- R409: a diagnostic of class `cls` finds a fault on instance `idx` of its scope. The first tick of a
detection counts and records it; each further tick only carries it on. -/
def Hw.detect (h : Hw) (cls scope idx : Nat) : Hw :=
  let d := h.detAt cls idx
  if d.now then h
  else if d.last then h.setDet cls idx { d with now := true, absent := 0 }
  else
    (((h.setDet cls idx { d with now := true, absent := 0 }).inc SF_CNT_CNT cls).sfRecord cls scope idx false).askReaction
      cls scope idx

/-- R412: a resolved detection of class 3 is counted and recorded as WARN, and nothing reacts. -/
def Hw.detectResolved (h : Hw) (cls idx : Nat) : Hw := (h.inc SF_CNT_CNT cls).sfRecord cls scopeGlobal idx true

end Sys2Proof.Machine
end

