-- ==== Sys2Proof/Machine/TimeCore.lean ====
section
/-! DEFINITION. The time core (chapter 5): counters, steps, time-of-day associations, 1PPS edges, the
oscillator model, the clock-class ladder, comparators and TIME pins (R129 to R161). -/

namespace Sys2Proof.Machine

/-! ### Counters and steps (R129 to R135) -/

/-- Core cycles pass: the counters take one count of the increment in force for every two (R131). -/
def Hw.advance (h : Hw) (cycles : Nat) : Hw :=
  let c := h.time.half + cycles
  { h with time := { h.time with now := h.time.now + h.rd TC_INCR_INC * (c / 2), half := c % 2 } }

/-- Targets of comparator k: t_0, the period and the number of targets, 0 for no limit (R154). -/
def Hw.cmpStart (h : Hw) (k : Nat) : Int :=
  (((h.cfg TC_CMP_START_SEC 0 k * 1000000000 + bits (h.cfg TC_CMP_START_NS 0 k) 0 30) * 65536 +
    h.cfg TC_CMP_START_FRAC 0 k : Nat) : Int)

def Hw.cmpPeriod (h : Hw) (k : Nat) : Nat := h.cfg TC_CMP_PERIOD_NS 0 k * 65536 + h.cfg TC_CMP_PERIOD_FRAC 0 k

/-- R154: t_j. -/
def Hw.cmpTarget (h : Hw) (k j : Nat) : Int := h.cmpStart k + ((j * h.cmpPeriod k : Nat) : Int)

/-- R154: PERIOD 0 gives one target; COUNT limits the targets. -/
def Hw.cmpHas (h : Hw) (k j : Nat) : Bool :=
  (h.cmpPeriod k != 0 || j == 0) && (h.cfg TC_CMP_COUNT 0 k == 0 || decide (j < h.cfg TC_CMP_COUNT 0 k))

/-- The index of the first target of comparator k after instant `t`. -/
def Hw.cmpFirst (h : Hw) (k : Nat) (t : Int) : Nat :=
  if t < h.cmpStart k then 0
  else if h.cmpPeriod k = 0 then 1
  else ((t - h.cmpStart k) / (h.cmpPeriod k : Int)).toNat + 1

/-- ACTION bits of a comparator object (Table 5-18). -/
def Hw.cmpEnabled (h : Hw) (k : Nat) : Bool := bitOf (h.cfg TC_CMP_ACTION 0 k) 0
def Hw.cmpPulse (h : Hw) (k : Nat) : Bool := bitOf (h.cfg TC_CMP_ACTION 0 k) 1
def Hw.cmpEvent (h : Hw) (k : Nat) : Bool := bitOf (h.cfg TC_CMP_ACTION 0 k) 2

/-- TC_CMP_CNT.ARMED shows whether comparator k has further targets. -/
def Hw.cmpShow (h : Hw) (k : Nat) : Hw :=
  h.wrB TC_CMP_CNT_ARMED ((h.cmpAt k).on && h.cmpHas k (h.cmpAt k).next) k

/-- R155: a forward step passes over targets without edges and counts each in SKIP. -/
def Hw.cmpPass (h : Hw) (k : Nat) (t : Int) : Hw :=
  let c := h.cmpAt k
  let j := h.cmpFirst k t
  let lim := if h.cmpPeriod k = 0 then 1 else h.cfg TC_CMP_COUNT 0 k
  let j' := if lim = 0 then j else min j lim
  if c.on ∧ c.next < j' then
    ((h.inc TC_CMP_CNT_SKIP k 0 (j' - c.next)).setCmp k (fun c => { c with next := j' })).cmpShow k
  else h

/-- A burst whose instants move with a step of the counter: a step never moves a burst (Table 1-5 note b). -/
def Burst.shift (b : Burst) (d : Int) : Burst := { b with hdr := b.hdr + d, launch := b.launch + d, stop := b.stop + d }

/-- R133: the counters are stepped by `d` (2^-44 ns): both move alike, every 1PPS prediction is cleared and
comparators pass over the targets of a forward step (R146, R155). What the block holds as a reading of the
counter before the step moves with it: captures not yet used (log entry 44, DEDUCED) and planned bursts. -/
def Hw.stepCounter (h : Hw) (d : Int) : Hw :=
  let n := ((h.time.now : Nat) : Int) + d
  let d16 := roundDiv d (2 ^ 28)
  let mv (c : Option (Int × Nat × Nat × Bool)) := c.map (fun x => (x.1 + d16, x.2))
  let h := { h with
    rx := h.rx.map (fun (p : Nat × RxSt) => (p.1, { p.2 with cap := mv p.2.cap, capOld := mv p.2.capOld }))
    up := h.up.map (fun (p : Nat × UpSt) => (p.1, { p.2 with
      bursts := p.2.bursts.map (fun (b : Burst) => b.shift d16), lastEnd := p.2.lastEnd + d16, cur := p.2.cur.map (· + d16)
      strobe := p.2.strobe + d16, twin := p.2.twin.map (fun (x : Nat × Burst) => (x.1, x.2.shift d16)) }))
    time := { h.time with
      now := n.toNat
      doms := h.time.doms.map (fun (p : Nat × DomSt) => (p.1, { p.2 with ppsPred := none, ppsMiss := 0, last := none }))
      mon := { h.time.mon with ppsPred := none, ppsMiss := 0 } } }
  let h := h.wr TC_HOLD_THETA_PPS 0x8000000000000000
  if 0 < d then h.each (List.range 32) (fun h k => h.cmpPass k h.now16) else h

/-! ### Lockstep and setting (R130, R135) -/

/-- Table 5-3, "TC_SET executed": both counters take the written time with fraction 0, I is 0. -/
def Hw.runSet (h : Hw) : Hw :=
  match h.time.setGo with
  | none => h
  | some (s, ns) =>
    let h := h.stepCounter (((((s * 1000000000 + ns) * 2 ^ 44 : Nat) : Int)) - ((h.time.now : Nat) : Int))
    let h := { h with time := { h.time with
      half := 0, setGo := none, iAcc := 0, acq := [], step := none, lockedFor := 0
      rHist := [], lockedSet := false, fromHold := false, holdFrom := none } }
    (h.wr TC_STATUS_SET 1).wr TC_STATUS_SERVO (if h.rd TC_STATUS_SEL = 0 then 0 else 1)

/-- R130: LS_RESYNC copies the primary into the shadow at the tick boundary and clears LS_FAULT. -/
def Hw.runResync (h : Hw) : Hw :=
  if h.time.lsResync then
    ({ h with time := { h.time with shadowOfs := 0, lsResync := false } }).wr TC_STATUS_LS_FAULT 0
  else h

/-- LOCKSTEP_MISMATCH (R130): the shadow has come to differ from the primary by `diff`. -/
def Hw.lockstepMismatch (h : Hw) (diff : Int) : Hw :=
  let h := { h with time := { h.time with shadowOfs := diff } }
  (h.wr TC_STATUS_LS_FAULT 1).detect 1 scopeGlobal 0

/-- LS_RESYNC (R130): a write of TC_CTRL with value `v`. -/
def Hw.lsResyncWrite (h : Hw) (v : Nat) : Hw :=
  let h := h.writeWord .TC_CTRL 0 v 0 0
  if bitOf v 5 then { h with time := { h.time with lsResync := true } } else h

/-- TC_SET_GO (R135, Table 5-12): a write of the word at 0x02C with value `v`. -/
def Hw.tcSetGo (h : Hw) (v : Nat) : Hw :=
  let h := h.writeWord .TC_SET 3 v 0 0
  if bitOf v 31 then
    if h.rd TC_STATUS_SEL != 0 then h.wr TC_STATUS_SET_REJ 1
    else { h with time := { h.time with setGo := some (h.rd TC_SET_SEC, h.rd TC_SET_NS) } }
  else h

/-! ### Time-of-day associations (R138 to R140) -/

/-- The activation channel of attachment a: the map channel of U0 in force (R57, R69). -/
def Hw.actChan (h : Hw) (a : Nat) : Nat := (h.mapAt (2 * a)).chan

/-- States of LN_RX_STATUS.STATE (Table 2-10). -/
def rxOff : Nat := 0
def rxLos : Nat := 1
def rxHunt : Nat := 2
def rxSync : Nat := 3

/-- Whether a channel is in SYNC. -/
def Hw.inSync (h : Hw) (a c : Nat) : Bool := h.rd LN_RX_STATUS_STATE a c == rxSync

/-- Estimator modes as HD_EST_CFG.MODE codes them. -/
def modeNone : Nat := 0
def modeTable : Nat := 1
def modeDown : Nat := 2
def modeFull : Nat := 3

/-- R138: the sample channel of attachment a. -/
def Hw.sampleChan (h : Hw) (a : Nat) : Option Nat :=
  if h.inSync a (h.actChan a) then some (h.actChan a)
  else
    let e := h.herdAt a
    let act := match e.desc with
      | some d => d.active
      | none => 0
    (List.range 4).find? (fun c => bitOf act c && h.inSync a c && e.dofs.any (fun p => p.1 == c) &&
      (e.appMode == modeFull || e.appMode == modeDown))

/-- R139: the superframe count closest to `cur` whose low 32 bits are `lo`. -/
def extendSfc (cur lo : Nat) : Nat :=
  let base : Int := ((cur / 2 ^ 32 * 2 ^ 32 + lo % 2 ^ 32 : Nat) : Int)
  let c : Int := (cur : Nat)
  let best := [base - 2 ^ 32, base, base + 2 ^ 32].foldl
    (fun (b : Int) x => if (x - c).natAbs < (b - c).natAbs then x else b) base
  (best % 2 ^ 51).toNat

/-- The time, in ns, that an association gives for superframe `n`. -/
def todaAt (as : Nat × Nat) (n : Nat) : Int := (as.2 : Int) + ((n : Int) - (as.1 : Int)) * 125000

/-- Two associations agree within TODA_TOL, in ps. -/
def todaAgree (tol : Nat) (p q : Nat × Nat) : Bool := decide ((((q.2 : Int) - todaAt p q.1).natAbs) * 1000 ≤ tol)

/-- R139, R140: association `x` is adopted: in force from the next tick; JUMP when it moves the domain's
time by more than STEP_MIN. -/
def Hw.todaAdopt (h : Hw) (d : Nat) (x : Nat × Nat) : Hw :=
  let old := (h.domAt d).adopt.or (h.domAt d).toda
  let jump := match old with
    | some o => decide (h.cfg TC_STEP_MIN < ((x.2 : Int) - todaAt o x.1).natAbs)
    | none => false
  let h := h.setDom d (fun s => { s with adopt := some x, pend := none })
  if jump then ((h.wr TC_DOM_STATUS_JUMP 1 d).wr TC_DOM_STATUS_QUAL 0 d).setDom d (fun s => { s with qualFor := 0 }) else h

/-- R139: the check of an association with its 51-bit count. -/
def Hw.todaCheck (h : Hw) (d : Nat) (x : Nat × Nat) : Hw :=
  let s := h.domAt d
  let tol := h.cfg TC_TODA_TOL 0 d
  match s.adopt.or s.toda with
  | none => h.todaAdopt d x
  | some o =>
    if todaAgree tol o x then h.todaAdopt d x
    else
      match s.pend with
      | some p => if todaAgree tol p x then h.todaAdopt d x else h.setDom d (fun s => { s with pend := some x })
      | none => h.setDom d (fun s => { s with pend := some x })

/-- R139: the delivered association that waits is extended and checked once a sample channel has a
capture. -/
def Hw.todaTry (h : Hw) (d : Nat) : Hw :=
  match (h.domAt d).waiting with
  | none => h
  | some (lo, t) =>
    match h.sampleChan d with
    | none => h
    | some c =>
      match (h.rxAt (4 * d + c)).cap with
      | none => h
      | some (_, sfc, _, _) =>
        (h.setDom d (fun s => { s with waiting := none })).todaCheck d (extendSfc sfc lo, t)

/-- R139: an association (low 32 bits of N, T_N in ns) is delivered to domain d. -/
def Hw.todaDeliver (h : Hw) (d lo t : Nat) : Hw :=
  (h.setDom d (fun s => { s with waiting := some (lo % 2 ^ 32, t) })).todaTry d

/-- TODA_ATTRIBUTE (R139): firmware, in FIRMWARE mode, delivers the OMCI time-of-day attribute. -/
def Hw.todaAttribute (h : Hw) (a lo sec ns : Nat) : Hw :=
  if h.rd LN_ATT_CTRL_OMCI_MODE a = 0 then h.todaDeliver a lo (sec * 1000000000 + ns) else h

/-- TC_TODA_IN_GO (R139, Table 5-14): a write of the word +0xC of TC_TODA_IN[d] with value `v`. -/
def Hw.todaInGo (h : Hw) (d v : Nat) : Hw :=
  let h := h.writeWord .TC_TODA_IN 3 v d 0
  if bitOf v 31 then
    let st (f : Fld) : Nat := look h.stage (f.key d 0) 0
    h.todaDeliver d (st TC_TODA_IN_SFC_LO) (st TC_TODA_IN_SEC * 1000000000 + st TC_TODA_IN_NS)
  else h

/-! ### Domains (R145, R146) -/

/-- R145, R147: the conditions of qualification besides the command's own event. -/
def Hw.domCanQualify (h : Hw) (d : Nat) : Bool :=
  h.rd TC_DOM_STATUS_STATE d != 0 && decide (80000 ≤ (h.domAt d).track) && !h.on TC_DOM_STATUS_JUMP d &&
  !bitOf (h.rd SF_STATUS_DOM_FAULTY) d

/-- DOMAIN_QUALIFIED (R145). -/
def Hw.domainQualified (h : Hw) (d : Nat) : Hw := if h.domCanQualify d then h.wr TC_DOM_STATUS_QUAL 1 d else h

/-- R482: TC_DOM_STATUS.CAUSE. -/
def Hw.domCause (h : Hw) (d : Nat) : Hw :=
  h.wr TC_DOM_STATUS_CAUSE
    (if h.rd TC_DOM_STATUS_STATE d = 0 then (h.domAt d).reason
     else if h.on TC_DOM_STATUS_JUMP d then 7
     else if bitOf (h.rd SF_STATUS_DOM_FAULTY) d then 5 else 0) d

/-- R145: domain d goes DOWN and loses its qualification. -/
def Hw.domDown (h : Hw) (d : Nat) : Hw :=
  let h := h.setDom d (fun s => { s with track := 0, qualFor := 0 })
  ((h.wr TC_DOM_STATUS_STATE 0 d).wr TC_DOM_STATUS_QUAL 0 d).domCause d

/-- The nearest whole second to an instant, halves to even (R146, R479). -/
def nearestSec (t : Int) : Int := roundDiv t 65536000000000 * sec16

/-- R146: whether an edge at `c` is accepted against the prediction of `s`. -/
def ppsAccepts (s : DomSt) (c : Int) : Bool :=
  match s.ppsPred with
  | none => true
  | some p => decide (p < c ∧ (c - p - roundDiv (c - p) 65536000000000 * sec16).natAbs ≤ 65536000)

/-- R146: an accepted edge at `c` sets the prediction and the sample. -/
def ppsTake (s : DomSt) (c : Int) : DomSt :=
  { s with ppsPred := some c, ppsNext := c + sec16, ppsMiss := 0, ppsNew := some (c - nearestSec c) }

/-- PPS_EDGE (R146): an edge at instant `t` on TIME pin p, which is in mode PPS_IN. -/
def Hw.ppsEdge (h : Hw) (p : Nat) (t : Int) : Hw :=
  let c := t - h.cfgS TC_PIN_ADV 0 p
  if h.cfg TC_PIN_MODE 0 p != 4 then h
  else if h.cfg TC_PIN_FEATURE 0 p = 0x8000 then
    if ppsAccepts (h.domAt 1) c then h.setDom 1 (fun s => ppsTake s c) else h
  else if h.cfg TC_PIN_FEATURE 0 p = 0x8001 then
    if ppsAccepts h.time.mon c then
      ({ h with time := { h.time with mon := ppsTake h.time.mon c } }).wrS TC_HOLD_THETA_PPS (c - nearestSec c)
    else h
  else h

/-- R146: a predicted second passed without an accepted edge. -/
def ppsMissed (s : DomSt) : DomSt :=
  let m := s.ppsMiss + 1
  { s with ppsMiss := m, ppsNext := s.ppsNext + sec16, ppsPred := if 2 ≤ m then none else s.ppsPred, ppsNew := none }

/-- PPS_MISSING (R146, R410): of the 1PPS domain (`mon` false) or of the PPS monitor. In ACQUIRE a missing
pulse is a sample that did not come (log entry 45, DEDUCED). -/
def Hw.ppsMissing (h : Hw) (mon : Bool) : Hw :=
  if mon then
    if h.time.mon.ppsPred.isSome then
      ({ h with time := { h.time with mon := ppsMissed h.time.mon } }).wr TC_HOLD_THETA_PPS 0x8000000000000000
    else h
  else if h.cfg TC_SRC 0 1 = 2 ∧ (h.domAt 1).ppsPred.isSome then
    let h := h.setDom 1 (fun s => { ppsMissed s with reason := 6 })
    let h := if h.rd TC_STATUS_SERVO = 1 ∧ h.rd TC_STATUS_SEL = 2 then { h with time := { h.time with acq := [] } } else h
    if 2 ≤ (h.domAt 1).ppsMiss then h.domDown 1 else h
  else h

/-! ### Oscillator model (R149, R132) -/

/-- Least-squares line through measurements (second, offset): mean time, mean offset and slope. -/
def oscLine (ms : List (Nat × Rat)) : Rat × Rat × Rat :=
  let n : Rat := (ms.length : Nat)
  let mt := (ms.map (fun m => ((m.1 : Nat) : Rat))).foldl (· + ·) 0 / n
  let mf := (ms.map (fun m => m.2)).foldl (· + ·) 0 / n
  let num := (ms.map (fun m => (((m.1 : Nat) : Rat) - mt) * (m.2 - mf))).foldl (· + ·) 0
  let den := (ms.map (fun m => (((m.1 : Nat) : Rat) - mt) * (((m.1 : Nat) : Rat) - mt))).foldl (· + ·) 0
  (mt, mf, if den = 0 then 0 else num / den)

/-- R149: the model's prediction of the fractional offset of REFOSC at counter second `t`: the latest
offset, and with at least 3,600 s of measurement the fitted line. 0 while no model has been learned. -/
def Hw.oscPredict (h : Hw) (t : Nat) : Rat :=
  match h.time.oscMeas with
  | [] => 0
  | m :: ms =>
    let oldest := (ms.getLast?.getD m).1
    if 3600 ≤ m.1 - oldest then
      let (mt, mf, sl) := oscLine (m :: ms)
      mf + sl * (((t : Nat) : Rat) - mt)
    else m.2

/-- OSC_MODEL_MEASURE (R149): once per second while LOCKED, the fractional offset of REFOSC against the
counter rate is `freq`, and `adv` (2^-16 ns at the nominal period) of REFOSC time has passed since the
last measurement. `mon` is the monitor oscillator's frequency against REFOSC (R132). -/
def Hw.oscMeasure (h : Hw) (freq : Rat) (adv : Int) (mon : Rat) : Hw :=
  let h := { h with time := { h.time with monFreq := mon } }
  if h.rd TC_STATUS_SERVO = 3 then
    let corr := 1 + h.oscPredict h.nowSec
    let clk : Int × Nat := match h.time.modelClk with
      | none => (h.now16, 0)
      | some (t, n) => if 999 ≤ n then (h.now16, 0) else (t + roundRat ((adv : Rat) / corr), n + 1)
    let ms := ((h.nowSec, freq) :: h.time.oscMeas).filter (fun m => h.nowSec - m.1 ≤ 86400)
    ({ h with time := { h.time with oscMeas := ms, modelClk := some clk } }).wrS TC_HOLD_THETA_OSC (h.now16 - clk.1)
  else h

/-! ### The clock-class ladder (R151 to R153) -/

/-- Rung codes of Table 5-5. -/
def rungLocked : Nat := 0
def rungHoldIn : Nat := 1
def rungHoldOut : Nat := 2
def rungFreerun : Nat := 3
def rungDegraded : Nat := 4

/-- R151: the rung, by the first row of Table 5-5 that applies; a faulty model makes HOLD_IN HOLD_OUT
(R411). -/
def Hw.rungNow (h : Hw) : Nat :=
  let servo := h.rd TC_STATUS_SERVO
  let held := servo = 4 ∨ (servo = 2 ∧ h.time.fromHold)
  if h.on SF_STATUS_GLOBAL ∨ h.rd SF_LEVEL_LEVEL = 3 then rungDegraded
  else if servo = 3 then rungLocked
  else if held ∧ h.cfg TC_HOLD_LEARN * 60 ≤ h.rd TC_HOLD_LEARNED_S ∧
      h.rd TC_HOLD_ELAPSED_S ≤ h.cfg TC_HOLD_SPEC * 60 then
    if h.on SF_STATUS_MODEL_FAULTY then rungHoldOut else rungHoldIn
  else if h.on TC_STATUS_SET ∧ h.time.lockedSet then rungHoldOut
  else rungFreerun

/-- R152: only LOCKED and HOLD_IN are usable. -/
def rungUsable (r : Nat) : Bool := r == rungLocked || r == rungHoldIn

/-- The rung published. -/
def Hw.rung (h : Hw) : Nat := h.rd TC_STATUS_RUNG

/-- The estimator mode by which the LOCKED rung takes its clockAccuracy (Table 5-5, note (a)). -/
def Hw.accMode (h : Hw) : Nat :=
  match h.rd TC_STATUS_SEL with
  | 1 => (h.herdAt 0).appMode
  | 2 => if h.cfg TC_SRC 0 1 = 2 then modeNone else (h.herdAt 1).appMode
  | _ => modeNone

/-- clockAccuracy of a rung (Tables 5-5 and 5-17): LOCKED takes it from ACC_MODE. -/
def Hw.rungAcc (h : Hw) (r : Nat) : Nat :=
  if r = rungLocked then bits (h.cfg TC_ACC_MODE) (8 * h.accMode) 8 else h.cfg TC_ACC 0 r

/-- R153: the UTC offset in force at counter second `s`. -/
def Hw.utcOfs (h : Hw) (s : Nat) : Int :=
  let o := h.cfgS TC_UTC_OFS
  if h.cfg TC_LEAP_AT ≤ s then
    if h.cfg TC_LEAP61 != 0 then o + 1 else if h.cfg TC_LEAP59 != 0 then o - 1 else o
  else o

/-- R153: the leap flags announced at counter second `s`. -/
def Hw.leapFlag (h : Hw) (f : OFld) (s : Nat) : Bool := h.cfg f != 0 && decide (s < h.cfg TC_LEAP_AT)

/-- HOLDOVER_TIMER_EXPIRY (R152): the rung leaves HOLD_IN once ELAPSED_S has passed HOLD_SPEC. -/
def Hw.holdoverExpiry (h : Hw) : Hw :=
  if h.cfg TC_HOLD_SPEC * 60 < h.rd TC_HOLD_ELAPSED_S then h.wr TC_STATUS_RUNG h.rungNow else h

/-! ### TIME pins (R156 to R160) -/

/-- Pin modes of Table 5-19. -/
def pinOff : Nat := 0
def pinPulse : Nat := 1
def pinCapture : Nat := 2
def pinTod : Nat := 3
def pinPps : Nat := 4

/-- FLAGS bits of a pin object. -/
def Hw.pinFlag (h : Hw) (p k : Nat) : Bool := bitOf (h.cfg TC_PIN_FLAGS 0 p) k

/-- R159, R413: SF-TIME names the pin: a global reaction, or its own readback fault. -/
def Hw.pinNamed (h : Hw) (p : Nat) : Bool :=
  h.on SF_STATUS_GLOBAL || h.rd SF_LEVEL_LEVEL == 3 || bitOf h.sf.pinHiZ p

/-- R159: whether pin p is squelched. -/
def Hw.pinSquelched (h : Hw) (p : Nat) : Bool :=
  h.pinFlag p 1 && (!rungUsable h.rung || h.pinNamed p) &&
  (h.cfg TC_PIN_MODE 0 p == pinPulse || h.cfg TC_PIN_MODE 0 p == pinTod)

/-- Whether a pulse runs on pin p. -/
def Hw.pinPulsing (h : Hw) (p : Nat) : Bool :=
  h.time.cmps.any (fun c => c.2.stopAt.isSome && c.2.stopPin == p)

/-- R156 to R160, R413: the level that pin p holds while no edge is due. -/
def Hw.pinIdle (h : Hw) (p : Nat) : PinLevel :=
  if bitOf h.sf.pinHiZ p then .hiZ
  else if h.pinPulsing p then .active
  else if h.cfg TC_PIN_MODE 0 p = pinPulse then
    if h.pinSquelched p && h.pinFlag p 2 then .hiZ else .inactive
  else if h.cfg TC_PIN_MODE 0 p = pinTod then .inactive
  else .hiZ

/-- Drive pin p. -/
def Hw.drive (h : Hw) (p : Nat) (l : PinLevel) : Hw :=
  if (h.pinAt p).level = l then h else (h.setPin p (fun s => { s with level := l })).emit (.pin p l)

/-- The idle level, SQUELCHED and SQ_SF of pin p (R159, Table 15-14). -/
def Hw.pinRefresh (h : Hw) (p : Nat) : Hw :=
  let h := h.drive p (h.pinIdle p)
  let h := h.wrB TC_PIN_STAT_SQUELCHED (h.pinSquelched p) p
  h.wr SF_DIAG_SQ_SF (putBit (h.rd SF_DIAG_SQ_SF) p (h.pinFlag p 1 && h.pinNamed p))

/-- Every pin refreshed. -/
def Hw.pinsRefresh (h : Hw) : Hw := h.each (List.range 8) Hw.pinRefresh

/-- The bytes of a time in an event: SEC (6), NS (4), FRAC (2) (Table 14-10). -/
def timeBytes (t : Int) : List Byte :=
  let n := t.toNat
  leBytes 6 (n / 65536000000000) ++ leBytes 4 (n / 65536 % 1000000000) ++ leBytes 2 (n % 65536)

/-- R375: time events that wait at their source, in order: comparators, then captures by pin. -/
def Hw.flushTimeQ (h : Hw) : Nat → Hw
  | 0 => h
  | n + 1 =>
    match h.host.timeQ with
    | [] => h
    | (code, a, b) :: t =>
      match h.route 0 code a b with
      | none => h
      | some h' => Hw.flushTimeQ { h' with host := { h'.host with timeQ := t } } n

/-- The TIME_CAPTURE event of one capture. -/
def capBytes (p e n : Nat) : List Byte := leBytes 1 p ++ leBytes 1 e ++ leBytes 2 0 ++ leBytes 8 n

/-- R157, R375: captures that wait in the FIFO of pin p are written in order while the ring takes them. -/
def Hw.flushPin (h : Hw) (p : Nat) : Nat → Hw
  | 0 => h
  | n + 1 =>
    match (h.pinAt p).fifo with
    | [] => h
    | (e, k, t) :: rest =>
      match h.route 0 0x0002 (capBytes p e k) (timeBytes t) with
      | none => h
      | some h' => ((h'.setPin p (fun s => { s with fifo := rest })).wr TC_PIN_STAT_FIFO_LVL rest.length p).flushPin p n

/-- R375: every event of classes 0 and 1 that waits is tried again. -/
def Hw.flushWaiting (h : Hw) : Hw :=
  let h := h.flushTimeQ h.host.timeQ.length
  let h := h.each (List.range 8) (fun h p => h.flushPin p (h.pinAt p).fifo.length)
  h.host.cipherQ.foldl (fun h e =>
    match h.host.cipherQ with
    | x :: t => if x = e then
        (match h.route 1 e.1 e.2.1 e.2.2 with
         | some h' => { h' with host := { h'.host with cipherQ := t } }
         | none => h) else h
    | [] => h) h

/-- R154: the TIME_CMP event of target j of comparator k. -/
def Hw.cmpSend (h : Hw) (k j : Nat) : Hw :=
  let a := leBytes 1 k ++ leBytes 3 0 ++ leBytes 8 j
  let b := timeBytes (h.cmpTarget k j)
  match (if h.host.timeQ.isEmpty then h.route 0 0x0001 a b else none) with
  | some h' => h'
  | none => { h with host := { h.host with timeQ := h.host.timeQ ++ [(0x0001, a, b)] } }

/-- R154, R159: the leading edge of target j of comparator k on its pin. -/
def Hw.cmpEdge (h : Hw) (k j : Nat) : Hw :=
  let p := h.cfg TC_CMP_PIN 0 k
  if h.cfg TC_PIN_MODE 0 p = pinPulse ∧ h.pinSquelched p = false ∧ bitOf h.sf.pinHiZ p = false then
    let stop := h.cmpTarget k j + ((h.cfg TC_CMP_WIDTH_NS 0 k * 65536 : Nat) : Int)
    let h := (h.setCmp k (fun c => { c with stopAt := some stop, stopPin := p })).drive p .active
    h.each (List.range 8) (fun h q =>
      if h.cfg TC_PIN_MODE 0 q = pinTod ∧ h.cfg TC_PIN_COMPANION 0 q = p then
        h.setPin q (fun s => { s with tods := s.tods ++ [h.cmpTarget k j / sec16] })
      else h)
  else h

/-- COMPARATOR_TARGET (R154): the primary counter reaches the next target of comparator k. -/
def Hw.comparatorTarget (h : Hw) (k : Nat) : Hw :=
  let j := (h.cmpAt k).next
  if (h.cmpAt k).on ∧ h.cmpHas k j = true then
    let h := h.when (h.cmpPulse k) (fun h => h.cmpEdge k j)
    let h := h.when (h.cmpEvent k) (fun h => h.cmpSend k j)
    (h.setCmp k (fun c => { c with next := j + 1 })).cmpShow k
  else h

/-- PULSE_END (R154): WIDTH after its leading edge the pulse of comparator k ends. -/
def Hw.pulseEnd (h : Hw) (k : Nat) : Hw :=
  match (h.cmpAt k).stopAt with
  | none => h
  | some _ =>
    let p := (h.cmpAt k).stopPin
    (h.setCmp k (fun c => { c with stopAt := none })).pinRefresh p

/-- TIME_CAPTURE (R157): an edge (1 rising, 2 falling) crosses the ball of pin p at instant `t`. -/
def Hw.timeCapture (h : Hw) (p edge : Nat) (t : Int) : Hw :=
  if h.cfg TC_PIN_MODE 0 p = pinCapture ∧ bitOf (bits (h.cfg TC_PIN_FLAGS 0 p) 3 2) (edge - 1) = true then
    let s := h.pinAt p
    let close : Bool := match s.lastCap with
      | some l => decide (t - l < 20 * 65536)
      | none => false
    if close || decide (64 ≤ s.fifo.length) then h.inc TC_PIN_STAT_CAP_DROP p
    else
      let h := h.setPin p (fun s => { s with
        lastCap := some t, caps := s.caps + 1, fifo := s.fifo ++ [(edge, s.caps, t - h.cfgS TC_PIN_ADV 0 p)] })
      let h := h.wr TC_PIN_STAT_FIFO_LVL (h.pinAt p).fifo.length p
      h.flushPin p (h.pinAt p).fifo.length
  else h

/-- Decimal digits of `v`, `n` of them. -/
def digits : Nat → Nat → List Byte
  | 0, _ => []
  | n + 1, v => digits n (v / 10) ++ [BitVec.ofNat 8 (48 + v % 10)]

/-- The Gregorian date of a day count from 1970-01-01: year, month and day. -/
def civil (days : Nat) : Nat × Nat × Nat :=
  let z := days + 719468
  let era := z / 146097
  let doe := z % 146097
  let yoe := (doe - doe / 1460 + doe / 36524 - doe / 146096) / 365
  let doy := doe - (365 * yoe + yoe / 4 - yoe / 100)
  let mp := (5 * doy + 2) / 153
  let m := if mp < 10 then mp + 3 else mp - 9
  (yoe + era * 400 + (if m ≤ 2 then 1 else 0), m, doy - (153 * mp + 2) / 5 + 1)

/-- The exclusive OR of octets. -/
def xorAll (l : List Byte) : Byte := l.foldl (· ^^^ ·) 0

/-- A hexadecimal digit in capitals. -/
def hexDigit (v : Nat) : Byte := BitVec.ofNat 8 (if v < 10 then 48 + v else 55 + v)

/-- R158: the NMEA 0183 ZDA sentence, talker GP, of a UTC second. -/
def zdaBytes (utc : Nat) : List Byte :=
  let (y, m, d) := civil (utc / 86400)
  let s := utc % 86400
  let comma : List Byte := [44]
  let body : List Byte := [71, 80, 90, 68, 65] ++ comma ++ digits 2 (s / 3600) ++ digits 2 (s / 60 % 60) ++ digits 2 (s % 60) ++
    comma ++ digits 2 d ++ comma ++ digits 2 m ++ comma ++ digits 4 y ++ comma ++ digits 2 0 ++ comma ++ digits 2 0
  let c := (xorAll body).toNat
  [36] ++ body ++ [42, hexDigit (c / 16), hexDigit (c % 16), 13, 10]

/-- Table 5-6: the Henvor time-of-day message for counter second `s`. -/
def Hw.henvorBytes (h : Hw) (p : Nat) (s : Nat) : List Byte :=
  let r := h.rung
  let flags := b2n (rungUsable r && !h.pinSquelched p) + 2 * b2n (h.leapFlag TC_LEAP61 s) +
    4 * b2n (h.leapFlag TC_LEAP59 s) + 8 * h.cfg TC_UTC_VALID + 16 * r
  let body := beBytes 1 1 ++ beBytes 1 16 ++ beBytes 6 s ++ beBytes 2 (unsigned 16 (h.utcOfs s)) ++ beBytes 1 flags ++
    beBytes 1 (h.cfg TC_CLASS_8275 0 r) ++ beBytes 1 (h.rungAcc r)
  beBytes 2 0xC53A ++ body ++ [xorAll body]

/-- TOD_MESSAGE_SEND (R158, R159): TOD_DELAY after its companion edge pin p sends its message. -/
def Hw.todSend (h : Hw) (p : Nat) : Hw :=
  match (h.pinAt p).tods with
  | [] => h
  | s :: t =>
    let h := h.setPin p (fun q => { q with tods := t })
    if h.cfg TC_PIN_MODE 0 p = pinTod ∧ bitOf h.sf.pinHiZ p = false then
      if h.pinFlag p 5 then
        if h.pinSquelched p then h
        else h.emit (.tod p (zdaBytes ((s : Int) - h.utcOfs s.toNat).toNat))
      else h.emit (.tod p (h.henvorBytes p s.toNat))
    else h

/-- PIN_READBACK (R409, R413): an output pin is read back; `ok` says the ball shows what was driven.
Injection 10 inverts the readback of its pin (R418). -/
def Hw.pinReadback (h : Hw) (p : Nat) (ok : Bool) : Hw :=
  if h.cfg TC_PIN_MODE 0 p = pinPulse ∨ h.cfg TC_PIN_MODE 0 p = pinTod then
    let good := if h.sf.inject = some (10, p) then !ok else ok
    if good then
      if (h.pinAt p).recheck then
        ({ h with sf := { h.sf with pinHiZ := putBit h.sf.pinHiZ p false } }.setPin p
          (fun s => { s with recheck := false })).pinRefresh p
      else h
    else (h.setPin p (fun s => { s with recheck := false })).detect 10 scopePin p
  else h

/-! ### Comparators at an epoch flip (R155) -/

/-- R155: comparator k takes its object of the epoch now current; `was` is the epoch it replaces. -/
def Hw.cmpFlip (h : Hw) (was : CfgStore) (k : Nat) : Hw :=
  let same (f : OFld) : Bool := cfgOf was f 0 k == h.cfg f 0 k
  let kept := same TC_CMP_START_SEC && same TC_CMP_START_NS && same TC_CMP_START_FRAC && same TC_CMP_PERIOD_NS &&
    same TC_CMP_PERIOD_FRAC && same TC_CMP_FEATURE && same TC_CMP_WIDTH_NS && same TC_CMP_COUNT && same TC_CMP_PIN &&
    same TC_CMP_ACTION
  if kept then h
  else
    let j := h.cmpFirst k h.now16
    let h := h.when (h.cmpEnabled k && h.cmpPeriod k == 0 && j != 0) (fun h => h.inc TC_CMP_CNT_SKIP k)
    (h.setCmp k (fun c => { c with on := h.cmpEnabled k, next := j })).cmpShow k

/-! ### REFOSC (R132, R480) -/

/-- REFOSC_STOP (R480, R132): class 2 of Table 15-3 finds it while main power is present; in P3, where no job and no
diagnostic of a tick runs, the counters move to the monitor oscillator (log entry 84, DEDUCED). -/
def Hw.refoscStop (h : Hw) : Hw :=
  let h := { h with clk := { h.clk with refosc := false } }
  if h.rd PW_STATUS_PSTATE = 3 then (h.wr TC_STATUS_CLK_SRC 2).wr TC_STATUS_SET 0
  else
    let h := if h.on GL_CLK_STATUS_SRC_FREE then ({ h with clk := { h.clk with pllHold := true } }).wr GL_CLK_STATUS_PLL_LOCK 0
      else h
    h.detect 2 scopeGlobal 0

/-- REFOSC_RESTART (R480, R132): the reference PLL relocks; in P3 the counters return to REFOSC. -/
def Hw.refoscRestart (h : Hw) : Hw :=
  let hold := h.clk.pllHold
  let h := { h with clk := { h.clk with refosc := true, pllHold := false } }
  let h := h.when hold (fun h => h.wr GL_CLK_STATUS_PLL_LOCK 1)
  if h.rd TC_STATUS_CLK_SRC = 2 then h.wr TC_STATUS_CLK_SRC 1 else h

end Sys2Proof.Machine
end

