-- ==== Sys2Proof/Machine/Pools.lean ====
section
/-! DEFINITION. The pool manager (chapter 11): selection, the free store, allocation, owner tags, frees and their
checks (R289 to R299); isolation and quarantine (R17). -/

namespace Sys2Proof.Machine

/-! ### Faults of blocks (R17, Table 1-3) -/

/-- A region isolates a block: ISOLATIONS counts it and a MAJOR record names it. -/
def Hw.isolate (h : Hw) (blk : Nat) : Hw :=
  let r := blk / 0x1000
  let h := (h.inc SF_REGION_ISOLATIONS r).setRegion r (fun s => { s with isolated := s.isolated ++ [blk] })
  h.recordOf sevMajor blk SF_REGION_ISOLATIONS r

/-- A block quarantines a cell: a WARN record names the block and the cell. -/
def Hw.quarantine (h : Hw) (blk cell : Nat) : Hw :=
  let r := blk / 0x1000
  (h.setRegion r (fun s => { s with cells := s.cells ++ [(blk, cell)] })).recordOther sevWarn blk 1 (leBytes 2 cell)

/-! ### Pools and their parts -/

def Hw.poolAt (h : Hw) (p : Nat) : PoolSt := look h.mem.pools p {}
def Hw.setMem (h : Hw) (f : MemSt → MemSt) : Hw := { h with mem := f h.mem }
def Hw.setPool (h : Hw) (p : Nat) (s : PoolSt) : Hw := h.setMem (fun m => { m with pools := store m.pools p s })

/-! ### Objects (R289, Table 11-15) -/

def Hw.poolSize (h : Hw) (p : Nat) : Nat := 2 ^ h.cfg BM_POOL_SIZE_LOG2 p
def Hw.poolCount (h : Hw) (p : Nat) : Nat := h.cfg BM_POOL_COUNT p
def Hw.poolPtr (h : Hw) (p k : Nat) : Nat := h.cfg BM_POOL_BASE p + k * h.poolSize p
def Hw.poolOn (h : Hw) (p : Nat) : Bool := h.on BM_POOL_STATUS_ENABLED p
def Hw.poolDrains (h : Hw) (p : Nat) : Bool := h.on BM_POOL_STATUS_DRAINING p

/-- Requesters of Table 11-15. -/
def usePkt : Nat := 3
def useCores : Nat := 4
def useHost : Nat := 5

/-- Owner tags of Table 11-4. -/
def tagPacket : Nat := 0x01
def tagCore (k : Nat) : Nat := 0x10 + k
def tagRing (r : Nat) : Nat := 0x40 + r

/-- R280: buffer k of pool p lies in a quarantined bank. -/
def Hw.bufQuar (h : Hw) (p k : Nat) : Bool :=
  !bitOf (h.cfg BM_POOL_FLAGS p) 1 && (h.regionAt rgMemory).cells.contains (0x6010, h.poolPtr p k / 2 ^ 21)

/-! ### Free store (R293, R294) -/

/-- The free count: cache plus ring. -/
def Hw.poolFree (h : Hw) (p : Nat) : Nat :=
  (h.poolAt p).cache.length + (h.poolAt p).ring.length + (h.poolCount p - (h.poolAt p).fresh)

/-- A batch of at most 64 from the head of the ring. -/
def PoolSt.fetch (s : PoolSt) (count : Nat) : PoolSt :=
  let n := min 64 (count - s.fresh)
  let first := (List.range n).map (fun k => s.fresh + k)
  let rest := s.ring.take (64 - n)
  { s with fresh := s.fresh + n, ring := s.ring.drop (64 - n), cache := first ++ rest ++ s.cache }

/-- R293: fetches below LOW_WM until the midpoint, while the ring has pointers. -/
def PoolSt.fillCache (s : PoolSt) (count mid : Nat) : Nat → PoolSt
  | 0 => s
  | n + 1 =>
    if mid ≤ s.cache.length ∨ (s.ring.isEmpty = true ∧ count ≤ s.fresh) then s
    else (s.fetch count).fillCache count mid n

/-- R293: write-backs above HIGH_WM until the midpoint, the pointers that have lain longest first. -/
def PoolSt.spillCache (s : PoolSt) (mid : Nat) : Nat → PoolSt
  | 0 => s
  | n + 1 =>
    if s.cache.length ≤ mid then s
    else
      let keep := s.cache.length - 64
      { s with cache := s.cache.take keep, ring := s.ring ++ (s.cache.drop keep).reverse }.spillCache mid n

/-- R293: watermarks, the registers and the NOTICE of EMPTY_WM after a change of pool p's store. -/
def Hw.poolSettle (h : Hw) (p : Nat) : Hw :=
  let s := h.poolAt p
  let lo := h.cfg BM_POOL_LOW_WM p
  let hi := h.cfg BM_POOL_HIGH_WM p
  let mid := (lo + hi) / 2
  let s := if s.cache.length < lo then s.fillCache (h.poolCount p) mid 8 else if hi < s.cache.length then s.spillCache mid 8 else s
  let h := h.setPool p s
  let h := (h.wr BM_POOL_STATUS_FREE (h.poolFree p) p).wr BM_POOL_STATUS_CACHED s.cache.length p
  let wm := h.cfg BM_POOL_EMPTY_WM p
  if s.low then
    if 2 * wm ≤ h.poolFree p then h.setPool p { s with low := false } else h
  else if h.poolFree p < wm then (h.setPool p { s with low := true }).recordOther sevNotice 0x6020 16 (leBytes 1 p)
  else h

/-- R294: the buffer at the top of the cache, past pointers that are discarded: into a quarantined bank (R280), or
already allocated or outside the pool. -/
def Hw.poolTake (h : Hw) (p tag : Nat) : Nat → Option Nat × Hw
  | 0 => (none, h)
  | n + 1 =>
    match (h.poolAt p).cache with
    | [] => (none, h)
    | k :: t =>
      let h := (h.setPool p { h.poolAt p with cache := t })
      if h.bufQuar p k then ((h.inc BM_POOL_STATUS_QUARANTINED p).poolSettle p).poolTake p tag n
      else if h.poolCount p ≤ k ∨ (h.poolAt p).tags.any (fun x => x.1 == k) = true then
        (((h.inc BM_POOL_STATUS_RING_ERR p).recordOf sevWarn 0x6020 BM_POOL_STATUS_RING_ERR p 0 (leBytes 8 (h.poolPtr p k))).poolSettle p).poolTake p tag n
      else (some k, (h.setPool p { h.poolAt p with tags := (k, tag) :: (h.poolAt p).tags }).poolSettle p)

/-! ### Selection (R292) -/

/-- Enabled pools that admit a requester and whose buffers hold `need` bytes, in the order of the choice. -/
def Hw.poolChoice (h : Hw) (use need : Nat) : List Nat :=
  let ps := (List.range 16).filter (fun p => h.poolOn p && bitOf (h.cfg BM_POOL_FLAGS p) use && decide (need ≤ h.poolSize p))
  ps.foldl (fun l p => insertBy (fun a b => decide (h.poolSize a < h.poolSize b)) p l) []

/-- Pools tried in order, an empty one only giving way when its SPILL is set. -/
def Hw.poolTry (h : Hw) (tag : Nat) : List Nat → Option (Nat × Nat) × Hw
  | [] => (none, h)
  | p :: t =>
    match h.poolTake p tag (h.poolFree p + 1) with
    | (some k, h) => (some (p, k), h)
    | (none, h) =>
      if bitOf (h.cfg BM_POOL_FLAGS p) 2 ∧ t ≠ [] then (h.inc BM_POOL_STATUS_SPILLS p).poolTry tag t
      else (none, h)

/-- R292: one buffer of at least `need` bytes. -/
def Hw.bufAlloc (h : Hw) (use need tag : Nat) : Option (Nat × Nat) × Hw :=
  if !h.runs rgMemory then (none, h)
  else
    let ps := h.poolChoice use need
    match h.poolTry tag ps with
    | (some b, h) => (some b, h)
    | (none, h) => (none, h.inc BM_POOL_STATUS_ALLOC_FAIL (ps.headD 0))

/-! ### Frees (R296, R297) -/

/-- The pool, enabled or draining, that holds a pointer. -/
def Hw.poolOf (h : Hw) (ptr : Nat) : Option Nat :=
  (List.range 16).find? (fun p => (h.poolOn p || h.poolDrains p) &&
    decide (h.cfg BM_POOL_BASE p ≤ ptr ∧ ptr < h.cfg BM_POOL_BASE p + h.poolCount p * h.poolSize p))

/-- R296: the checks of a pointer handed in under `tag`: the status of the first that fails, or the buffer. -/
def Hw.bufCheck (h : Hw) (ptr tag : Nat) : Except Nat (Nat × Nat) :=
  match h.poolOf ptr with
  | none => .error stRange
  | some p =>
    let o := ptr - h.cfg BM_POOL_BASE p
    let k := o / h.poolSize p
    if o % h.poolSize p ≠ 0 then .error stAlign
    else
      match (h.poolAt p).tags.find? (fun x => x.1 == k) with
      | none => .error stDoubleFree
      | some x => if x.2 = tag then .ok (p, k) else .error stNotOwner

/-- R297: a rejection. -/
def Hw.bufReject (h : Hw) (ptr tag st : Nat) : Hw :=
  let p := if st = stRange then 0 else (h.poolOf ptr).getD 0
  let h := h.inc BM_POOL_STATUS_REJECT p
  let h := ((h.wr BM_REJ_LAST_STATUS st).wr BM_REJ_LAST_SOURCE tag).wr BM_REJ_LAST_PTR ptr
  let sec := h.clk.ut / 640000
  let (s, n) := look h.mem.rejects st (sec, 0)
  let n := if s = sec then n else 0
  let h := h.setMem (fun m => { m with rejects := store m.rejects st (sec, n + 1) })
  if n < 100 then h.recordOf sevWarn 0x6020 BM_POOL_STATUS_REJECT p 0 (leBytes 8 ptr ++ leBytes 1 tag ++ leBytes 1 st) else h

/-- R290: a draining pool has drained when none of its buffers is allocated. -/
def Hw.poolDrained (h : Hw) (p : Nat) : Hw :=
  if h.poolDrains p ∧ (h.poolAt p).tags = [] then
    (((h.wr BM_POOL_STATUS_DRAINING 0 p).setPool p {}).wr BM_POOL_STATUS_FREE 0 p).wr BM_POOL_STATUS_CACHED 0 p
  else h

/-- R296: buffer k of pool p is free: to the top of the cache, or withdrawn. -/
def Hw.bufPut (h : Hw) (p k : Nat) : Hw :=
  let s := h.poolAt p
  let s := { s with tags := s.tags.filter (fun x => x.1 != k) }
  if h.bufQuar p k then (h.setPool p s).inc BM_POOL_STATUS_QUARANTINED p |>.poolDrained p
  else if h.poolDrains p then (h.setPool p s).poolDrained p
  else (h.setPool p { s with cache := k :: s.cache }).poolSettle p

/-- A free of a pointer. -/
def Hw.bufFreePtr (h : Hw) (ptr tag : Nat) : Hw × Nat :=
  match h.bufCheck ptr tag with
  | .ok (p, k) => (h.bufPut p k, stOk)
  | .error st => (h.bufReject ptr tag st, st)

/-- The buffer of a frame is freed under PACKET's tag. -/
def Hw.bufFree (h : Hw) (f : Frame) : Hw :=
  match f.buf with
  | some (p, k) => if h.runs rgMemory then (h.bufFreePtr (h.poolPtr p k) tagPacket).1 else h
  | none => h

/-- R295: the buffer of a frame goes from one owner to another. -/
def Hw.bufMove (h : Hw) (f : Frame) (tag : Nat) : Hw :=
  match f.buf with
  | some (p, k) =>
    let s := h.poolAt p
    h.setPool p { s with tags := s.tags.map (fun x => if x.1 = k then (k, tag) else x) }
  | none => h

/-! ### Flips, fills and resets (R290, R291, R299) -/

/-- R291: pool p is filled: every pointer on its free ring, bitmap and tags clear. -/
def Hw.poolFill (h : Hw) (p : Nat) : Hw :=
  ((((h.setPool p {}).wr BM_POOL_STATUS_ENABLED 1 p).wr BM_POOL_STATUS_DRAINING 0 p).wr BM_POOL_STATUS_FILLING 1 p).poolSettle p

/-- R290: what a flip does to pool p. -/
def Hw.poolFlip (h : Hw) (p : Nat) : Hw :=
  let want := bitOf (h.cfg BM_POOL_FLAGS p) 0
  if want && !h.poolOn p then h.poolFill p
  else if !want && h.poolOn p then
    (((h.wr BM_POOL_STATUS_ENABLED 0 p).wr BM_POOL_STATUS_FILLING 0 p).wr BM_POOL_STATUS_DRAINING 1 p).poolDrained p
  else if want then h.poolSettle p else h

/-- POOL_FILL_DONE (R291). -/
def Hw.poolFillDone (h : Hw) (p : Nat) : Hw := h.wr BM_POOL_STATUS_FILLING 0 p

/-- R299: pool contents are lost. -/
def Hw.poolsEmpty (h : Hw) : Hw :=
  let h := h.setMem (fun m => { m with pools := [] })
  h.each (List.range 16) (fun h p =>
    if h.poolOn p || h.poolDrains p then
      ((((h.wr BM_POOL_STATUS_ENABLED 0 p).wr BM_POOL_STATUS_DRAINING 0 p).wr BM_POOL_STATUS_FILLING 0 p).wr
        BM_POOL_STATUS_FREE 0 p).wr BM_POOL_STATUS_CACHED 0 p
    else h)

/-- R299: every pool enabled in the epoch in force is filled. -/
def Hw.poolsFill (h : Hw) : Hw :=
  h.each (List.range 16) (fun h p => if bitOf (h.cfg BM_POOL_FLAGS p) 0 then h.poolFill p else h)

/-- Table 15-1, note (a): a reload of PACKET frees every buffer with its tag. -/
def Hw.poolsPacket (h : Hw) : Hw :=
  h.each h.mem.pools (fun h x => h.each (x.2.tags.filter (fun t => t.2 == tagPacket)) (fun h t => h.bufPut x.1 t.1))

/-! ### Commands (Table 11-7) -/

/-- `n` buffers of one pool. -/
def Hw.poolTakeN (h : Hw) (p tag : Nat) : Nat → List Nat × Hw
  | 0 => ([], h)
  | n + 1 =>
    match h.poolTake p tag (h.poolFree p + 1) with
    | (some k, h) =>
      let (l, h) := h.poolTakeN p tag n
      (h.poolPtr p k :: l, h)
    | (none, h) => ([], h.inc BM_POOL_STATUS_ALLOC_FAIL p)

/-- `n` buffers chosen by size. -/
def Hw.sizeTakeN (h : Hw) (need tag : Nat) : Nat → List Nat × Hw
  | 0 => ([], h)
  | n + 1 =>
    match h.bufAlloc useHost need tag with
    | (some (p, k), h) =>
      let (l, h) := h.sizeTakeN need tag n
      (h.poolPtr p k :: l, h)
    | (none, h) => ([], h)

/-- POOL_ALLOC (R292, Table 11-7, note a): the pointers granted are written to the host list. -/
def Hw.poolAllocCmd (h : Hw) (hd : CmdHdr) (pool count size list : Nat) : Hw × Ans :=
  if !h.runs rgMemory then (h, .fail stGatedCode)
  else if count = 0 ∨ 32 < count ∨ (pool ≠ 0xFF ∧ (15 < pool ∨ h.poolOn pool = false ∨ bitOf (h.cfg BM_POOL_FLAGS pool) useHost = false)) then
    (h, .fail stRange)
  else
    let (l, h) := if pool = 0xFF then h.sizeTakeN size (tagRing hd.ring) count else h.poolTakeN pool (tagRing hd.ring) count
    if l.isEmpty then (h, .fail stBusy)
    else (h.emit (.hostWrite list (l.flatMap (leBytes 8))), .ok l.length)

/-- POOL_FREE (R296, Table 11-7, note b): RESULT is the mask of the pointers that failed. -/
def Hw.poolFreeCmd (h : Hw) (hd : CmdHdr) (ptrs : List Nat) : Hw × Ans :=
  if !h.runs rgMemory then (h, .fail stGatedCode)
  else if ptrs.isEmpty ∨ 5 < ptrs.length then (h, .fail stRange)
  else
    let (h, sts) := ptrs.foldl (fun (x : Hw × List Nat) ptr =>
      let (h, st) := x.1.bufFreePtr (ptr % 2 ^ 40) (tagRing hd.ring)
      (h, x.2 ++ [st])) (h, [])
    match sts.find? (fun st => st != stOk) with
    | none => (h, .ok)
    | some st => (h, .fail st ((List.range sts.length).foldl (fun m k => putBit m k (sts.getD k 0 != stOk)) 0))

/-- Whether a tag is one of Table 11-4 that owns a buffer. -/
def tagValid (t : Nat) : Bool := t == 1 || decide (0x10 ≤ t ∧ t < 0x20) || decide (0x40 ≤ t ∧ t < 0x50)

/-- POOL_XFER (R295, R296). -/
def Hw.poolXferCmd (h : Hw) (hd : CmdHdr) (tag ptr : Nat) : Hw × Ans :=
  if !h.runs rgMemory then (h, .fail stGatedCode)
  else if !tagValid tag then (h, .fail stRange)
  else
    match h.bufCheck (ptr % 2 ^ 40) (tagRing hd.ring) with
    | .error st => (h.bufReject (ptr % 2 ^ 40) (tagRing hd.ring) st, .fail st)
    | .ok (p, k) =>
      let s := h.poolAt p
      (h.setPool p { s with tags := s.tags.map (fun x => if x.1 = k then (k, tag) else x) }, .ok)

end Sys2Proof.Machine
end

