-- ==== Sys2Proof/Machine/Traffic.lean ====
section
/-! DEFINITION. The traffic manager (chapter 10): admission, queues, the scheduler, shapers, policers, ageing,
staging and back-pressure; replication, homing groups and the bridge buffer (chapter 7: R192, R197 to R199,
R203 to R211). -/

namespace Sys2Proof.Machine

/-! ### Parts of the packet path -/

def Hw.setPk (h : Hw) (f : PkSt → PkSt) : Hw := { h with pk := f h.pk }
def Hw.queueAt (h : Hw) (q : Nat) : QueueSt := look h.pk.queues q {}
def Hw.setQueue (h : Hw) (q : Nat) (s : QueueSt) : Hw := h.setPk (fun p => { p with queues := store p.queues q s })
def Hw.nodeAt (h : Hw) (n : Nat) : NodeSt := look h.pk.nodes n {}
def Hw.setNode (h : Hw) (n : Nat) (s : NodeSt) : Hw := h.setPk (fun p => { p with nodes := store p.nodes n s })
def Hw.stageAt (h : Hw) (k : Nat) : StageSt := look h.pk.stages k {}
def Hw.setStage (h : Hw) (k : Nat) (s : StageSt) : Hw := h.setPk (fun p => { p with stages := store p.stages k s })
def Hw.fifoAt (h : Hw) (f : Nat) : FifoSt := look h.pk.fifos f {}
def Hw.setFifo (h : Hw) (f : Nat) (s : FifoSt) : Hw := h.setPk (fun p => { p with fifos := store p.fifos f s })
def Hw.portAt (h : Hw) (n : Nat) : PortSt := look h.port n {}
def Hw.setPort (h : Hw) (n : Nat) (f : PortSt → PortSt) : Hw := { h with port := store h.port n (f (h.portAt n)) }

/-- R262, R327: the current microtick number, tick × 80 + microtick, modulo 2^32. -/
def Hw.stampNow (h : Hw) : Nat := (h.tick * 80 + h.clk.micro) % 2 ^ 32

/-- The age of a stamp in microticks (R271, R335). -/
def Hw.ageOf (h : Hw) (stamp : Nat) : Nat := (h.stampNow + 2 ^ 32 - stamp) % 2 ^ 32

/-- The length of a frame with its FCS, counting 4 bytes where it has none (R267). -/
def Frame.len (f : Frame) : Nat := f.bytes.length + 4 - f.fcs

/-- Metadata field k of a frame (Table 9-6). -/
def Frame.md (f : Frame) (k : Nat) : Nat := f.carry.mdata.getD k 0

/-- R241: the offset of the EtherType that ends the outer tags. -/
def Frame.etypeAt (f : Frame) : Nat :=
  match minBy? (fun a b => decide (a.1 < b.1)) (f.carry.markers.filter (fun m => m.2.2 == 2)) with
  | some m => m.2.1
  | none => 12

/-! ### Ports (R214, R216, R268) -/

/-- The lane that stands for the port of lane n: 4q in a four-lane port. -/
def Hw.portBase (h : Hw) (n : Nat) : Nat := if h.on PF_QUAD_CFG_MODE (n / 4) then n / 4 * 4 else n

/-- R268, R236: the port of lane n is enabled in the epoch in force. -/
def Hw.portEnabled (h : Hw) (n : Nat) : Bool :=
  bitOf (h.cfg PF_PORT_FLAGS n) 0 && h.portBase n == n && !h.on PF_LANE_STATUS_ISOLATED n

/-- R268: the queues of port n hold no frames. -/
def Hw.portFlushes (h : Hw) (n : Nat) : Bool :=
  !h.portEnabled n || (!h.on PF_LANE_STATUS_LINK n && bitOf (h.cfg TM_PORT_FLAGS n) 0)

/-- R221, R228, R231: the MAC of port n takes frames. -/
def Hw.portTakes (h : Hw) (n : Nat) : Bool :=
  h.portEnabled n && h.on PF_LANE_STATUS_LINK n && (h.portAt n).pause.isNone && !h.on PF_LANE_STATUS_TEST n

/-! ### Queues (R260, R263, R267) -/

/-- First upstream queue of attachment a. -/
def upBase (a : Nat) : Nat := 1088 + 512 * a

/-- Whether q is an upstream queue of attachment a. -/
def isUpQueue (a q : Nat) : Bool := decide (upBase a ≤ q ∧ q < upBase a + 512)

/-- The scheduler node of a queue: port, 128 for the host, 129 + 64a + s for an upstream slot. -/
def nodeOf (q : Nat) : Nat := if q < 1024 then q / 8 else if q < 1088 then 128 else 129 + (q - 1088) / 8

/-- The queues of a node. -/
def nodeQueues (n : Nat) : List Nat :=
  if n < 128 then (List.range 8).map (fun c => 8 * n + c)
  else if n = 128 then (List.range 64).map (fun r => 1024 + r)
  else (List.range 8).map (fun c => 1088 + 8 * (n - 129) + c)

/-- The charged length of a frame in queue q (R267). -/
def Hw.charged (h : Hw) (q : Nat) (f : Frame) : Nat :=
  (((f.len : Nat) : Int) + signed 8 (h.cfg TM_QUEUE_LEN_ADJ q)).toNat

/-- R263: the fill of queue q. -/
def Hw.fill (h : Hw) (q : Nat) : Nat := ((h.queueAt q).frames.map (h.charged q)).foldl (· + ·) 0

/-- TM_Q_STATUS follows the queue. -/
def Hw.showQueue (h : Hw) (q : Nat) : Hw :=
  ((h.wr TM_Q_STATUS_FILL (satNat 32 (h.fill q)) q).wr TM_Q_STATUS_FRAMES (satNat 16 (h.queueAt q).frames.length) q).wrB
    TM_Q_STATUS_PROMOTED (h.queueAt q).promoted q

/-- The later of two 48-bit virtual times, by the sign of their difference (R267). -/
def later48 (a b : Nat) : Nat := if (a + 2 ^ 48 - b) % 2 ^ 48 < 2 ^ 47 then a else b

/-- Whether `a` comes before `b` (R267). -/
def before48 (a b : Nat) : Bool := a != b && decide ((b + 2 ^ 48 - a) % 2 ^ 48 < 2 ^ 47)

/-- R267: the finish time of the frame that has become the head of queue q. -/
def Hw.headTime (h : Hw) (q : Nat) (s : QueueSt) : QueueSt :=
  match s.frames with
  | [] => s
  | f :: _ =>
    let w := max 1 (h.cfg TM_QUEUE_WEIGHT q)
    let t := (later48 (h.nodeAt (nodeOf q)).v s.fPrev + (h.charged q f * 65536 + w - 1) / w) % 2 ^ 48
    { s with fHead := t, fPrev := t }

/-- R262, step 4: the frame is linked to the tail of queue q with its stamp. -/
def Hw.linkTail (h : Hw) (q : Nat) (f : Frame) : Hw :=
  let s := h.queueAt q
  let s' := { s with frames := s.frames ++ [{ f with stamp := h.stampNow }] }
  (h.setQueue q (if s.frames.isEmpty then h.headTime q s' else s')).showQueue q

/-- R262, step 3: the counter of the refusal of a frame by queue q, none where it is admitted. -/
def Hw.queueRefuses (h : Hw) (q : Nat) (f : Frame) : Option Fld :=
  if q < 1024 ∧ h.portFlushes (q / 8) = true then some TM_Q_CNT_DOWN_DROP
  else if h.cfg TM_QUEUE_QLIMIT q * 1024 ≤ h.fill q then some TM_Q_CNT_TAIL_DROP
  else if f.dp ∧ h.cfg TM_QUEUE_DP_LIMIT q * 1024 ≤ h.fill q then some TM_Q_CNT_DP_DROP
  else none

/-- The frame at the head of queue q leaves it. -/
def Hw.popHead (h : Hw) (q : Nat) : Option (Frame × Hw) :=
  match (h.queueAt q).frames with
  | [] => none
  | f :: t =>
    let s := { h.queueAt q with frames := t, promoted := false }
    some (f, (h.setQueue q (h.headTime q s)).showQueue q)

/-! ### Ingress usage (R276) -/

/-- Usage of source i. -/
def Hw.usageOf (h : Hw) (i : Nat) : Nat := look h.pk.usage i 0

/-- The frame is charged to its source. -/
def Hw.charge (h : Hw) (f : Frame) : Hw :=
  if f.src < 194 ∧ f.buf.isSome = true then h.setPk (fun p => { p with usage := store p.usage f.src (h.usageOf f.src + f.len) }) else h

/-- R198, R276: one copy of the frame has been sent, dropped or moved; with the last one its buffer is
freed and its source's usage falls. -/
def Hw.freed (h : Hw) (f : Frame) : Hw :=
  let n := look h.pk.copies f.id 1
  if 2 ≤ n then h.setPk (fun p => { p with copies := store p.copies f.id (n - 1) })
  else
    let h := h.setPk (fun p => { p with copies := p.copies.filter (fun c => c.1 != f.id) })
    let h := h.bufFree f
    if f.src < 194 ∧ f.buf.isSome = true then h.setPk (fun p => { p with usage := store p.usage f.src (h.usageOf f.src - f.len) }) else h

/-- R276: back-pressure at a microtick boundary. -/
def Hw.backPressure (h : Hw) : Hw :=
  h.pk.usage.foldl (fun h u =>
    let w := u.1 / 32
    let old := h.rd TM_BP_STATUS_ASSERTED w
    let on := if h.cfg TM_INGRESS_BP_ON u.1 * 1024 < u.2 then true
      else if u.2 ≤ h.cfg TM_INGRESS_BP_OFF u.1 * 1024 then false else bitOf old (u.1 % 32)
    h.wr TM_BP_STATUS_ASSERTED (putBit old (u.1 % 32) on) w) h

/-! ### Performance bins of flows and ports (R351) -/

/-- PM_EN and the events of one entity. -/
def Hw.pmNote (h : Hw) (ent frames octets drops errors : Nat) : Hw :=
  if bitOf (h.cfg PC_CFG_FLAGS) 2 then
    let up (b : PmBin) : PmBin := { b with
      frames := (b.frames + frames) % 2 ^ 64, octets := (b.octets + octets) % 2 ^ 64
      drops := (b.drops + drops) % 2 ^ 64, errors := (b.errors + errors) % 2 ^ 64 }
    let new : PmBin := { start := h.nowSec }
    h.setPk (fun p => { p with
      bin15 := store p.bin15 ent (up (look p.bin15 ent new)), binDay := store p.binDay ent (up (look p.binDay ent new)) })
  else h

/-- The PM entity of a frame's marked flow (R252, R351). -/
def Hw.flowEntity (h : Hw) (f : Frame) : Option Nat :=
  if bitOf (f.md 11) 1 then
    (h.pk.tables.find? (fun e => e.tbl == 0 && e.slot == f.md 6 && e.aux == 1)).map (fun e => 256 + e.pm)
  else none

/-- A drop counted in the bin of the frame's flow. -/
def Hw.flowDrop (h : Hw) (f : Frame) : Hw :=
  match h.flowEntity f with
  | some e => h.pmNote e 0 0 1 0
  | none => h

/-! ### Policers (R270) -/

/-- Buckets of policer p, in 2^-16 bytes; full before the first charge. -/
def Hw.bucketsOf (h : Hw) (p : Nat) : Nat × Nat :=
  look h.pk.buckets p (h.cfg TM_POLICER_CBS p * 64 * 65536, h.cfg TM_POLICER_PBS p * 64 * 65536)

/-- The colour of a frame on policer p (0 green, 1 yellow, 2 red), and the buckets charged. -/
def Hw.police (h : Hw) (p : Nat) (f : Frame) : Nat × Hw :=
  if bitOf (h.cfg TM_POLICER_FLAGS p) 0 then
    let b := f.len * 65536
    let (c, pk) := h.bucketsOf p
    let set (x : Nat × Nat) : Hw := h.setPk (fun s => { s with buckets := store s.buckets p x })
    if pk < b then (2, h)
    else if c < b then (1, set (c, pk - b))
    else (0, set (c - b, pk - b))
  else (0, h)

/-- The action of a colour: 0 forward, 1 drop precedence, 2 and 3 drop. -/
def Hw.policeAct (h : Hw) (p col : Nat) : Nat := bits (h.cfg TM_POLICER_FLAGS p) (1 + 2 * col) 2

/-- R262, step 1: the frame charges the policer that its metadata names; none where it is dropped. -/
def Hw.chargePolicer (h : Hw) (f : Frame) : Hw × Option Frame :=
  if bitOf (f.md 5) 15 then
    let p := bits (f.md 5) 0 13
    let (c, h) := h.police p f
    let h := h.inc (if c = 0 then TM_POL_CNT_GREEN else if c = 1 then TM_POL_CNT_YELLOW else TM_POL_CNT_RED) p
    match h.policeAct p c with
    | 0 => (h, some f)
    | 1 => (h, some { f with dp := true })
    | _ => (h.when (c == 2) (fun h => h.flowDrop f), none)
  else (h, some f)

/-- R262, step 2: whether the frame's source is over its limit. -/
def Hw.overLimit (h : Hw) (f : Frame) : Bool :=
  f.src < 194 && decide (h.cfg TM_INGRESS_LIMIT f.src * 1024 ≤ h.usageOf f.src)

/-! ### The bridge buffer (R205 to R207) -/

/-- S(L) of R206. -/
def bridgeSize (f : Frame) : Nat := 64 * ((f.len + 32 + 63) / 64)

/-- Segments, in MiB, that a FIFO of these frames holds. -/
def bridgeMib (l : List (Frame × Nat)) : Nat := ((l.map (fun x => bridgeSize x.1)).foldl (· + ·) 0 + 2 ^ 20 - 1) / 2 ^ 20

/-- MiB in use by the FIFOs that satisfy `p`. -/
def Hw.bridgeUsed (h : Hw) (p : Nat → Bool) : Nat :=
  ((h.pk.fifos.filter (fun x => p x.1)).map (fun x => bridgeMib x.2.frames)).foldl (· + ·) 0

/-- BM_BRIDGE_STATUS and BM_BRIDGE_FIFO follow the FIFO. -/
def Hw.showFifo (h : Hw) (f : Nat) : Hw :=
  let s := h.fifoAt f
  ((h.wr BM_BRIDGE_FIFO_FRAMES s.frames.length f).wr BM_BRIDGE_FIFO_USED_MIB (bridgeMib s.frames) f).wr
    BM_BRIDGE_STATUS_USED_MIB (h.bridgeUsed (fun _ => true))

/-- R206: whether FIFO f may hold the frames `l`. -/
def Hw.bridgeFits (h : Hw) (f : Nat) (l : List (Frame × Nat)) : Bool :=
  let size := h.rd BM_BRIDGE_CFG_SIZE_ACT * 1024
  let others := h.bridgeUsed (fun k => k != f)
  let groups := h.bridgeUsed (fun k => k != f && k != 16)
  let lim := h.cfg DUAL_ATT_BRIDGE_MAX_GIB 0 f
  decide (others + bridgeMib l ≤ size) &&
  (f == 16 || (decide (groups + bridgeMib l + h.cfg DUAL_ATT_CRIT_RESERVE_GIB * 1024 ≤ size) &&
    (lim == 0 || decide (bridgeMib l ≤ lim * 1024))))

/-- R207: a drop for room in FIFO f. -/
def Hw.bridgeDrop (h : Hw) (f : Nat) (fr : Frame) : Hw :=
  let h := (h.inc BM_BRIDGE_FIFO_DROPS f).freed fr
  if (h.fifoAt f).warned then h
  else (h.setFifo f { h.fifoAt f with warned := true }).recordOf sevWarn 0x6030 BM_BRIDGE_FIFO_DROPS f

/-- R207, HEAD_DROP: the oldest frames are dropped until the arriving frame fits. -/
def Hw.bridgeMake (h : Hw) (f : Nat) (x : Frame × Nat) : Nat → Hw
  | 0 => h
  | n + 1 =>
    match (h.fifoAt f).frames with
    | [] => h
    | y :: t =>
      if h.bridgeFits f ((h.fifoAt f).frames ++ [x]) then h
      else Hw.bridgeMake ((h.setFifo f { h.fifoAt f with frames := t }).bridgeDrop f y.1) f x n

/-- R203, R207: a frame is written to the tail of FIFO f. -/
def Hw.bridgePut (h : Hw) (f : Nat) (fr : Frame) : Hw :=
  let x : Frame × Nat := ({ fr with buf := none }, h.clk.ut)
  let h := h.when (f != 16 && bitOf (h.cfg DUAL_ATT_GFLAGS 0 f) 5) (fun h => h.bridgeMake f x (h.fifoAt f).frames.length)
  if h.bridgeFits f ((h.fifoAt f).frames ++ [x]) then
    ((h.setFifo f { h.fifoAt f with frames := (h.fifoAt f).frames ++ [x] }).showFifo f).freed fr
  else (h.bridgeDrop f fr).showFifo f

/-! ### Homing groups (R203, Table 7-2) -/

/-- States of Table 7-2. -/
def hmHome : Nat := 0
def hmDrain : Nat := 1
def hmAway : Nat := 2
def hmReturn : Nat := 3
def hmHeld : Nat := 4

def Hw.groupState (h : Hw) (g : Nat) : Nat := h.rd TM_HOME_STATUS_STATE g
def Hw.groupTarget (h : Hw) (g : Nat) : Nat := h.rd TM_HOME_STATUS_TARGET g

/-- The home attachment of group g, its REVERT and its PRIO (Table 7-5). -/
def Hw.groupHome (h : Hw) (g : Nat) : Nat := bits (h.cfg DUAL_ATT_GFLAGS 0 g) 0 1
def Hw.groupRevert (h : Hw) (g : Nat) : Bool := bitOf (h.cfg DUAL_ATT_GFLAGS 0 g) 1
def Hw.groupPrio (h : Hw) (g : Nat) : Nat := bits (h.cfg DUAL_ATT_GFLAGS 0 g) 2 3

/-- First queue of the group's queue set on attachment a, 0xFFFF for none. -/
def Hw.groupSet (h : Hw) (g a : Nat) : Nat := h.cfg (if a = 0 then DUAL_ATT_QSET_A else DUAL_ATT_QSET_B) 0 g

/-- Attachment a is healthy for group g: not failed, and the group has a queue set on it. -/
def Hw.groupHealthy (h : Hw) (g a : Nat) : Bool := !h.on LN_ATT_HEALTH_FAILED a && h.groupSet g a != 0xFFFF

def Hw.setGroup (h : Hw) (g st tgt : Nat) : Hw := (h.wr TM_HOME_STATUS_STATE st g).wr TM_HOME_STATUS_TARGET tgt g

/-- Queues of the group's set on attachment a. -/
def Hw.groupQueues (h : Hw) (g a : Nat) : List Nat :=
  let b := h.groupSet g a
  if b = 0xFFFF then [] else (List.range 8).map (fun c => b + c)

/-- The staging area of the slot of an upstream queue. -/
def slotOf (q : Nat) : Nat := (q - 1088) / 8

/-- The frames of a queue set in the order in which they were enqueued: staged ones first. -/
def Hw.setFrames (h : Hw) (qs : List Nat) : List Frame :=
  match qs with
  | [] => []
  | q :: _ =>
    (h.stageAt (slotOf q)).frames.map Prod.snd ++
      (qs.flatMap (fun q => (h.queueAt q).frames)).foldl
        (fun l f => insertBy (fun a b => decide (h.ageOf b.stamp < h.ageOf a.stamp)) f l) []

/-- Whether a queue set holds no frame, staged ones included (R273). -/
def Hw.setEmpty (h : Hw) (g a : Nat) : Bool :=
  (h.groupQueues g a).all (fun q => (h.queueAt q).frames.isEmpty) &&
  (match h.groupQueues g a with
   | q :: _ => (h.stageAt (slotOf q)).frames.isEmpty
   | [] => true)

/-- A queue set emptied. -/
def Hw.clearSet (h : Hw) (qs : List Nat) : Hw :=
  let h := h.each qs (fun h q => (h.setQueue q { h.queueAt q with frames := [], promoted := false }).showQueue q)
  match qs with
  | q :: _ => (h.setStage (slotOf q) {}).wr TM_UP_CNT_STAGED 0 (slotOf q / 64) (slotOf q % 64)
  | [] => h

/-- R203: the frames of group g on attachment a are moved ahead of everything in FIFO g. -/
def Hw.moveFrames (h : Hw) (g a : Nat) : Hw :=
  let qs := h.groupQueues g a
  let fs := h.setFrames qs
  let h := (h.clearSet qs).inc TM_HOME_STATUS_MOVES g
  let old := (h.fifoAt g).frames
  let h := h.setFifo g { h.fifoAt g with frames := [] }
  let h := h.each fs (fun h f => h.bridgePut g f)
  (h.setFifo g { h.fifoAt g with frames := (h.fifoAt g).frames ++ old }).showFifo g

/-- RETURN begins: its wait is RETURN_MS × 640 microticks. -/
def Hw.groupReturn (h : Hw) (g : Nat) : Hw :=
  let h := h.setGroup g hmReturn (1 - h.groupHome g)
  h.setPk (fun p => { p with groups := store p.groups g { due := some (h.clk.ut + h.cfg DUAL_ATT_RETURN_MS * 640) } })

/-- HOMING_TRANSITION (R203, R196): Table 7-2 on the health at a microtick boundary. -/
def Hw.homingStep (h : Hw) (g : Nat) : Hw :=
  let hm := h.groupHome g
  let o := 1 - hm
  let hOk := h.groupHealthy g hm
  let oOk := h.groupHealthy g o
  match h.groupState g with
  | 0 =>
    if hOk then h
    else if oOk then (h.moveFrames g hm).setGroup g hmDrain o
    else (h.moveFrames g hm).setGroup g hmHeld hm
  | 1 =>
    let t := h.groupTarget g
    if h.groupHealthy g t then h
    else if h.groupHealthy g (1 - t) then (h.moveFrames g t).setGroup g hmDrain (1 - t)
    else (h.moveFrames g t).setGroup g hmHeld t
  | 2 =>
    if !oOk then
      if hOk then (h.moveFrames g o).setGroup g hmDrain hm else (h.moveFrames g o).setGroup g hmHeld o
    else if hOk && h.groupRevert g then h.groupReturn g
    else h
  | 3 =>
    if !hOk then h.setGroup g hmDrain o
    else if !oOk then (h.moveFrames g o).setGroup g hmDrain hm
    else if h.setEmpty g o then h.setGroup g hmDrain hm
    else h
  | _ => if hOk then h.setGroup g hmDrain hm else if oOk then h.setGroup g hmDrain o else h

/-- R203, rows of an epoch flip: group g's home has changed to attachment `hm` in the epoch now current. -/
def Hw.homingFlip (h : Hw) (g : Nat) (was : Nat) : Hw :=
  let hm := h.groupHome g
  if hm = was then h
  else if h.groupState g = hmHome ∧ h.groupHealthy g hm = true then h.groupReturn g
  else if h.groupState g = hmAway then h.setGroup g hmHome hm
  else h

/-- RETURN_TIMEOUT (R203): RETURN_MS elapsed. -/
def Hw.returnTimeout (h : Hw) (g : Nat) : Hw :=
  match (look h.pk.groups g {}).due with
  | some d =>
    if h.groupState g = hmReturn ∧ d < h.clk.ut then
      ((h.moveFrames g (1 - h.groupHome g)).setGroup g hmDrain (h.groupHome g)).setPk
        (fun p => { p with groups := store p.groups g {} })
    else h
  | none => h

/-- FIFO_EMPTY (R203): a draining FIFO is empty; the group is HOME or AWAY. -/
def Hw.fifoEmpty (h : Hw) (g : Nat) : Hw :=
  if h.groupState g = hmDrain ∧ (h.fifoAt g).frames = [] then
    (h.setGroup g (if h.groupTarget g = h.groupHome g then hmHome else hmAway) (h.groupTarget g)).setFifo g {}
  else h

/-- R261, R203: a bulk frame of group g goes to its queue, or to FIFO g. -/
def Hw.toGroup (h : Hw) (g : Nat) (f : Frame) : Hw :=
  let st := h.groupState g
  let b := h.groupSet g (h.groupTarget g)
  if (h.fifoAt g).frames.isEmpty && (st == hmHome || st == hmAway) && b != 0xFFFF then
    let q := b + f.cls
    match h.queueRefuses q f with
    | some c => ((h.inc c q).flowDrop f).freed f
    | none => h.linkTail q f
  else h.bridgePut g f

/-! ### Replication (R197 to R199) -/

/-- The R-TAG of sequence number n: EtherType 0xF1C1, 6 bytes (R197). -/
def rTag (n : Nat) : List Byte := beBytes 2 0xF1C1 ++ beBytes 2 0 ++ beBytes 2 n

/-- `d` inserted in a frame at offset `o`. -/
def insertAt (l : List Byte) (o : Nat) (d : List Byte) : List Byte := l.take o ++ d ++ l.drop o

/-- R197, R199: one copy for attachment a, none where the attachment is failed or the queue refuses it. -/
def Hw.replCopy (h : Hw) (s a : Nat) (f : Frame) : Hw :=
  if h.on LN_ATT_HEALTH_FAILED a then (h.inc TM_REPL_STAT_REPL_SKIP).freed f
  else
    let q := h.cfgFor f.epoch (if a = 0 then FRER_GEN_QUEUE_A else FRER_GEN_QUEUE_B) s
    match h.queueRefuses q f with
    | some c => ((h.inc c q).flowDrop f).freed f
    | none => h.linkTail q f

/-- R197 to R199: a critical frame of stream s is numbered, tagged and copied. -/
def Hw.replicate (h : Hw) (s : Nat) (f : Frame) : Hw :=
  if 9728 < f.len + 6 then (h.inc TM_REPL_STAT_TOO_LONG).freed f
  else
    let n := look h.pk.seqGen s 0
    let f := { f with bytes := insertAt f.bytes f.etypeAt (rTag n), crit := some (s, n) }
    let h := h.setPk (fun p => { p with seqGen := store p.seqGen s ((n + 1) % 65536) })
    if h.on LN_ATT_HEALTH_FAILED 0 && h.on LN_ATT_HEALTH_FAILED 1 then h.bridgePut 16 f
    else
      let h := h.setPk (fun p => { p with copies := store p.copies f.id 2 })
      (h.replCopy s 0 f).replCopy s 1 f

/-- R199: the critical copies that wait in the queues of attachment a are dropped at its failure. -/
def Hw.dropCritical (h : Hw) (a : Nat) : Hw :=
  let qs := (h.pk.queues.filter (fun x => isUpQueue a x.1)).map Prod.fst
  let h := h.each qs (fun h q =>
    let s := h.queueAt q
    let gone := s.frames.filter (fun f => f.crit.isSome)
    let s' := { s with frames := s.frames.filter (fun f => f.crit.isNone) }
    let h := (h.setQueue q (if (s.frames.head?.map (fun f => f.crit.isSome)).getD false then h.headTime q s' else s')).showQueue q
    (h.each gone (fun h f => h.freed f)).inc TM_REPL_STAT_REPL_SKIP 0 0 gone.length)
  let ks := (h.pk.stages.filter (fun x => x.1 / 64 == a)).map Prod.fst
  h.each ks (fun h k =>
    let s := h.stageAt k
    let gone := s.frames.filter (fun x => x.2.crit.isSome)
    let h := h.setStage k { s with frames := s.frames.filter (fun x => x.2.crit.isNone) }
    (h.each gone (fun h x => h.freed x.2)).inc TM_REPL_STAT_REPL_SKIP 0 0 gone.length)

/-! ### Admission (R261, R262) -/

/-- R247: the station-egress or host-bound queue of a frame. -/
def Hw.toQueue (h : Hw) (q : Nat) (f : Frame) : Hw :=
  match h.queueRefuses q f with
  | some c =>
    let h := ((h.inc c q).flowDrop f).freed f
    if q < 1024 then h.pmNote (128 + q / 8) 0 0 1 0 else h
  | none => h.linkTail q f

/-- R261: the frame goes where its metadata say (R192: no destination named is homing group 0); a stream
that the frame's epoch does not enable takes no frame. -/
def Hw.toDest (h : Hw) (f : Frame) : Hw :=
  if f.md 1 = 0 then h.toQueue (bits (f.md 0) 0 12) f
  else
    let u := f.md 2
    let f := { f with cls := bits (f.md 3) 0 3 }
    match bits u 14 2 with
    | 2 => if bitOf (h.cfgFor f.epoch FRER_GEN_FLAGS (bits u 0 10)) 0 then h.replicate (bits u 0 10) f else h.freed f
    | 1 => h.toGroup (bits u 0 4) f
    | _ => h.toGroup 0 f

/-- ADMISSION (R262): policer, ingress limit, queue, link. -/
def Hw.takeIn (h : Hw) (f : Frame) : Hw :=
  match h.chargePolicer f with
  | (h, none) => h.bufFree f
  | (h, some f) => if h.overLimit f then
      let h := (h.inc TM_ING_DROP_DROPS f.src).bufFree f
      if f.src < 128 then h.pmNote f.src 0 0 1 0 else h
    else (h.charge f).toDest f

/-! ### The scheduler (R265, R266) -/

/-- R16, R266: the class served next among those that wait, and the window after it: 0 time-critical,
1 urgent, 2 normal. -/
def Arb.pick (a : Arb) (tc urg nor : Bool) : Option (Nat × Arb) :=
  let take (c : Nat) : Arb :=
    let b : Arb := { n := a.n + 1, tc := a.tc + b2n (c == 0), urg := a.urg + b2n (c == 1), nor := a.nor + b2n (c == 2) }
    if 16 ≤ b.n then {} else b
  if nor && decide (16 - a.n ≤ 2 - a.nor) then some (2, take 2)
  else if tc && decide (a.tc < 8) then some (0, take 0)
  else if urg && (decide (a.urg < 6) || (!tc && decide (a.tc + a.urg < 14))) then some (1, take 1)
  else if nor then some (2, take 2)
  else if tc then some (0, take 0)
  else if urg then some (1, take 1)
  else none

/-- Credit of shaper s in 2^-16 bytes; 0xFFFF names none. -/
def Hw.creditOk (h : Hw) (s : Nat) : Bool := s == 0xFFFF || decide (0 ≤ look h.pk.credits s 0)

/-- A shaper charged with `b` bytes (R269). -/
def Hw.chargeShaper (h : Hw) (s : Nat) (b : Int) : Hw :=
  if s = 0xFFFF then h
  else h.setPk (fun p => { p with credits := store p.credits s (look p.credits s 0 - b * 65536) })

/-- R265: a host receive ring has a free descriptor. -/
def Hw.rxPosted (h : Hw) (r : Nat) : Nat :=
  if h.ringOn r then (h.ringAt r).prod - (h.ringAt r).cons - (h.toHost.filter (fun x => x.1 == r)).length else 0

/-- R265: queue q is eligible. -/
def Hw.eligible (h : Hw) (q : Nat) : Bool :=
  !(h.queueAt q).frames.isEmpty && h.creditOk (h.cfg TM_QUEUE_SHAPER q) &&
  (if q < 1024 then h.portTakes (q / 8)
   else if q < 1088 then h.runs rgControl && decide (0 < h.rxPosted (64 + (q - 1024))) else true)

/-- The stamp of a queue's head. -/
def Hw.headAge (h : Hw) (q : Nat) : Nat :=
  match (h.queueAt q).frames with
  | f :: _ => h.ageOf f.stamp
  | [] => 0

/-- R266: the queue that a node serves next, its level and the node's window. -/
def Hw.nodePick (h : Hw) (n : Nat) : Option (Nat × Nat × Arb) :=
  let el := (nodeQueues n).filter h.eligible
  let isTc (q : Nat) : Bool := bitOf (h.cfg TM_QUEUE_FLAGS q) 0
  let tc := el.filter isTc
  let ur := el.filter (fun q => !isTc q && (h.queueAt q).promoted)
  let no := el.filter (fun q => !isTc q && !(h.queueAt q).promoted)
  match (h.nodeAt n).arb.pick (!tc.isEmpty) (!ur.isEmpty) (!no.isEmpty) with
  | none => none
  | some (0, a) => (minBy? (fun x y => decide (y % 8 < x % 8)) tc).map (fun q => (q, 0, a))
  | some (1, a) => (minBy? (fun x y => decide (h.headAge y < h.headAge x)) ur).map (fun q => (q, 1, a))
  | some (_, a) =>
    (minBy? (fun x y => before48 (h.queueAt x).fHead (h.queueAt y).fHead) no).map (fun q => (q, 2, a))

/-- The node shaper of a node, and its LEN_ADJ (Table 10-9). -/
def Hw.nodeShaper (h : Hw) (n : Nat) : Nat := if n ≤ 128 then h.cfg TM_PORT_SHAPER n else 0xFFFF

/-- R265 to R269: node n selects one frame, which is charged and leaves its queue. -/
def Hw.nodeSelect (h : Hw) (n : Nat) : Option (Nat × Frame × Hw) :=
  if h.creditOk (h.nodeShaper n) then
    match h.nodePick n with
    | none => none
    | some (q, lvl, a) =>
      let f0 := (h.queueAt q).fHead
      let v := (h.nodeAt n).v
      let h := h.setNode n { v := if lvl = 2 then f0 else v, arb := a }
      match h.popHead q with
      | none => none
      | some (f, h) =>
        let h := h.chargeShaper (h.cfg TM_QUEUE_SHAPER q) (h.charged q f)
        let h := h.chargeShaper (h.nodeShaper n) (((f.len : Nat) : Int) + signed 8 (h.cfg TM_PORT_LEN_ADJ n))
        some (q, f, h.inc TM_Q_CNT_SENT q)
  else none

/-- Staged bytes of a slot (R273). -/
def stagedBytes (s : StageSt) : Nat := (s.frames.map (fun x => x.2.len)).foldl (· + ·) 0 - s.sent

/-- TM_UP_CNT.STAGED follows the staging area of slot k = 64a + s. -/
def Hw.showStage (h : Hw) (k : Nat) : Hw := h.wr TM_UP_CNT_STAGED (stagedBytes (h.stageAt k)) (k / 64) (k % 64)

/-- R273: the staging size of slot k. -/
def Hw.stageSize (h : Hw) (k : Nat) : Nat :=
  let v := h.cfg TM_ALLOC_STAGE_KIB k
  (if v = 0 then 256 else v) * 1024

/-- STAGING_FILL (R273): the node of slot k selects frames while the staged bytes lie below its size. -/
def Hw.stagingFill (h : Hw) (k : Nat) : Nat → Hw
  | 0 => h
  | n + 1 =>
    if stagedBytes (h.stageAt k) < h.stageSize k then
      match h.nodeSelect (129 + k) with
      | none => h
      | some (q, f, h) =>
        let s := h.stageAt k
        Hw.stagingFill ((h.setStage k { s with frames := s.frames ++ [(q, f)] }).showStage k) k n
    else h

/-- Frames that wait in the queues of a node. -/
def Hw.nodeDepth (h : Hw) (n : Nat) : Nat := ((nodeQueues n).map (fun q => (h.queueAt q).frames.length)).foldl (· + ·) 0

/-- The octets of a frame after its EDIT. -/
def Frame.edited (f : Frame) : List Byte :=
  let b := f.bytes.take (f.bytes.length - f.fcs)
  let o := f.etypeAt
  let e := f.md 8
  let tag := beBytes 2 0x8100 ++ beBytes 2 (e % 4096)
  match e / 4096 with
  | 1 => if 16 ≤ o then b.take 12 ++ b.drop 16 else b
  | 2 => b.take 12 ++ tag ++ b.drop 12
  | 3 => if 16 ≤ o then splice b 14 (beBytes 2 (beNat (slice b 14 2) / 4096 * 4096 + e % 4096)) else b
  | _ => b

/-- R324, Table 12-20, note (a): a frame for port n that names a secure channel waits for its cipher work, where the
channel is an enabled transmit channel of that port; any other frame enters the transmit buffer. -/
def Hw.toEgress (h : Hw) (n : Nat) (f : Frame) : Hw :=
  let k := bits (f.md 7) 0 13
  let fl := h.cfgFor f.epoch CX_SC_FLAGS k
  if !bitOf (f.md 7) 15 then h.setPort n (fun p => { p with tx := p.tx ++ [f] })
  else if 2048 ≤ k then (h.inc CX_SC_CNT_NOSA 0).freed f
  else if bitOf fl 0 && !bitOf fl 1 && h.cfgFor f.epoch CX_SC_PORT k == n then
    { h with ks := { h.ks with waits := h.ks.waits ++ [{ stream := 32 + k, frame := f }] } }
  else (h.inc CX_SC_CNT_NOSA k).freed f

/-- SCHEDULER_SELECT (R265): the drawer of node n asks: a port's frame goes to its egress, a
host-bound frame waits for its write-back, an upstream frame enters its staging area. -/
def Hw.schedulerSelect (h : Hw) (n : Nat) : Hw :=
  if 129 ≤ n then h.stagingFill (n - 129) 1
  else
    match h.nodeSelect n with
    | none => h
    | some (q, f, h) =>
      if n < 128 then h.toEgress n f
      else { h with toHost := h.toHost ++ [(64 + (q - 1024), f)] }

/-! ### Jobs (R269 to R271) -/

/-- REFILL of the shapers: credit + RATE, held at BURST. -/
def Hw.refillShapers (h : Hw) : Hw :=
  let ss := (instances h.ep.cur .TM_SHAPER ++ (h.pk.credits.map Prod.fst).filter (fun s => !(instances h.ep.cur .TM_SHAPER).contains s))
  h.each ss (fun h s =>
    let c := min (look h.pk.credits s 0 + ((h.cfg TM_SHAPER_RATE s : Nat) : Int)) (((h.cfg TM_SHAPER_BURST s * 65536 : Nat) : Int))
    h.setPk (fun p => { p with credits := store p.credits s c }))

/-- REFILL of the policers. -/
def Hw.refillPolicers (h : Hw) : Hw :=
  h.each (h.pk.buckets.map Prod.fst) (fun h p =>
    let (c, k) := h.bucketsOf p
    let b := (min (c + h.cfg TM_POLICER_CIR p) (h.cfg TM_POLICER_CBS p * 64 * 65536),
      min (k + h.cfg TM_POLICER_PIR p) (h.cfg TM_POLICER_PBS p * 64 * 65536))
    h.setPk (fun s => { s with buckets := store s.buckets p b }))

/-- REFILL of the exception credits (R256), in 2^-16 packets. -/
def Hw.refillExc (h : Hw) : Hw :=
  h.each (List.range 32) (fun h c =>
    let add := (roundDiv ((h.cfg PARSER_CFG_EXC_RATE 0 c * 65536 : Nat) : Int) 640000).toNat
    let top := h.cfg PARSER_CFG_EXC_BURST 0 c * 65536
    h.setPk (fun p => { p with excCred := store p.excCred c (min (look p.excCred c 0 + add) top) }))

/-- REFILL (R269, R270, R256). -/
def Hw.refill (h : Hw) : Hw := h.refillShapers.refillPolicers.refillExc

/-- AGEING of the queues (R271). -/
def Hw.ageQueues (h : Hw) : Hw :=
  h.each (h.pk.queues.map Prod.fst) (fun h q =>
    let s := h.queueAt q
    let lim := h.cfg TM_QUEUE_AGE_LIMIT q
    if bitOf (h.cfg TM_QUEUE_FLAGS q) 0 || s.promoted || s.frames.isEmpty || lim == 0 || decide (h.headAge q < lim) then h
    else ((h.setQueue q { s with promoted := true }).inc TM_Q_CNT_PROMOTED q).showQueue q)

/-- R268: the queues of port n are emptied, and their frames counted. -/
def Hw.flushPort (h : Hw) (n : Nat) : Hw :=
  h.each ((List.range 8).map (fun c => 8 * n + c)) (fun h q =>
    let fs := (h.queueAt q).frames
    if fs.isEmpty then h
    else (((h.each fs (fun h f => h.freed f)).setQueue q { (h.queueAt q) with frames := [], promoted := false }).inc
      TM_Q_CNT_DOWN_DROP q 0 fs.length).showQueue q |>.pmNote (128 + n) 0 0 fs.length 0)

/-! ### Draining the bridge (R207, R208) -/

/-- Whether FIFO f drains, and into which attachment. -/
def Hw.drainTo (h : Hw) (f : Nat) : Option Nat :=
  if (h.fifoAt f).frames.isEmpty then none
  else if f = 16 then (List.range 2).find? (fun a => !h.on LN_ATT_HEALTH_FAILED a)
  else if h.groupState f = hmDrain then some (h.groupTarget f) else none

/-- R208: the FIFO that the drain engine serves next. -/
def Hw.drainPick (h : Hw) : Option (Nat × Nat) :=
  match h.drainTo 16 with
  | some a => some (16, a)
  | none =>
    let gs := ((List.range 16).map (fun k => (h.pk.drainAt + k) % 16)).filter (fun g => (h.drainTo g).isSome)
    (minBy? (fun x y => decide (h.groupPrio x < h.groupPrio y)) gs).bind (fun g => (h.drainTo g).map (fun a => (g, a)))

/-- Whether the head of FIFO f is older than its group's limit. -/
def Hw.drainAged (h : Hw) (f at' : Nat) : Bool :=
  f != 16 && h.cfg DUAL_ATT_AGE_LIMIT_MS 0 f != 0 && decide (h.cfg DUAL_ATT_AGE_LIMIT_MS 0 f * 640 < h.clk.ut - at')

/-- Fill of the queues of a set, in bytes. -/
def Hw.setFill (h : Hw) (qs : List Nat) : Nat := (qs.map h.fill).foldl (· + ·) 0

/-- Frames leave FIFO f in order while its target queue set holds less than 256 KiB. -/
def Hw.drainFifo (h : Hw) (f a : Nat) : Nat → Hw
  | 0 => h
  | n + 1 =>
    match (h.fifoAt f).frames with
    | [] => h
    | (fr, t) :: rest =>
      let pop : Hw := (h.setFifo f { h.fifoAt f with frames := rest, warned := (h.fifoAt f).warned && !rest.isEmpty }).showFifo f
      if h.drainAged f t then Hw.drainFifo (pop.inc BM_BRIDGE_FIFO_AGED f) f a n
      else
        let q := match fr.crit with
          | some (s, _) => h.cfgFor fr.epoch (if a = 0 then FRER_GEN_QUEUE_A else FRER_GEN_QUEUE_B) s
          | none => h.groupSet f a + fr.cls
        let qs := match fr.crit with
          | some _ => [q]
          | none => h.groupQueues f a
        if h.setFill qs < 262144 then Hw.drainFifo (pop.linkTail q fr) f a n else h

/-- BRIDGE_DRAIN (R208): FIFO 16 first, then the groups by PRIO, round-robin among equals. -/
def Hw.bridgeDrain (h : Hw) : Hw :=
  match h.drainPick with
  | none => h
  | some (f, a) =>
    let h := h.drainFifo f a (h.fifoAt f).frames.length
    if f = 16 then h else h.setPk (fun p => { p with drainAt := (f + 1) % 16 })

/-! ### Grant filling (R273, R274) -/

/-- Bytes of an XGEM header; the payload is padded to whole words, as the standard defines. -/
def xgemHeader : Nat := 8

def pad4 (n : Nat) : Nat := (n + 3) / 4 * 4

/-- R274: BufOcc in bytes of slot k = 64a + s. -/
def Hw.bufOcc (h : Hw) (k : Nat) : Nat :=
  let one (f : Frame) : Nat := f.len + xgemHeader
  let sum (l : List Frame) : Nat := (l.map one).foldl (· + ·) 0
  let own := sum ((nodeQueues (129 + k)).flatMap (fun q => (h.queueAt q).frames)) +
    sum ((h.stageAt k).frames.map Prod.snd)
  let br := (List.range 16).filter (fun g => (h.groupState g == hmDrain || h.groupState g == hmReturn) &&
    h.groupSet g (k / 64) == 1088 + 8 * k &&
    (if h.groupState g = hmDrain then h.groupTarget g == k / 64 else h.groupHome g == k / 64))
  own + (br.map (fun g => sum ((h.fifoAt g).frames.map Prod.fst))).foldl (· + ·) 0

/-- R273, R114: frames leave the staging area of slot k into `space` bytes; the result gives what is left of
the space, the frames taken and how many XGEM frames were made. `ext` is the fragment header's length. -/
def takeStaged (s : StageSt) (space ext : Nat) : Nat → StageSt × Nat × List (Nat × Frame) × Nat × Bool
  | 0 => (s, space, [], 0, false)
  | n + 1 =>
    match s.frames with
    | [] => (s, space, [], 0, false)
    | (q, f) :: rest =>
      let left := f.len - s.sent
      if pad4 (left + ext) + xgemHeader ≤ space then
        let (s', sp, l, c, fr) := takeStaged { frames := rest, sent := 0 } (space - (pad4 (left + ext) + xgemHeader)) ext n
        (s', sp, (q, f) :: l, c + 1, fr)
      else if xgemHeader + ext + 16 ≤ space then
        ({ s with sent := s.sent + (space - xgemHeader - ext) }, 0, [], 1, true)
      else (s, space, [], 0, false)

/-- The slot of attachment a that serves an Alloc-ID in the epoch in force, as 64a + s. -/
def Hw.slotOfAlloc (h : Hw) (a alloc : Nat) : Option Nat :=
  ((List.range 64).map (fun s => 64 * a + s)).find? (fun k => h.cfg TM_ALLOC_ALLOC_ID k == alloc && alloc != 0xFFFF)

/-- R273: at the staging deadline slot k gives frames to an allocation of `space` bytes. The result holds the
block, what was taken for R275 and the number of XGEM frames. -/
def Hw.fillAlloc (h : Hw) (k space ext : Nat) : Hw × (Nat × List (Nat × Frame) × Nat) × Nat :=
  let s : StageSt := if (look h.sf.errLog (0x5020, k, 4) []).isEmpty then h.stageAt k else {}
  let (s', left, l, c, fr) := takeStaged s space ext (s.frames.length + 1)
  let h := if (look h.sf.errLog (0x5020, k, 4) []).isEmpty then (h.setStage k s').showStage k else h
  let h := h.when fr (fun h => h.inc TM_UP_CNT_FRAGS (k / 64) (k % 64))
  let dry := s'.frames.isEmpty && decide (0 < h.nodeDepth (129 + k)) && decide (0 < left)
  let h := h.when dry (fun h => h.inc TM_UP_CNT_UNDERFILL (k / 64) (k % 64) left)
  (h, (k, l, s.sent), c)

/-- R275: what a burst that is not sent had taken returns to the head of its staging area. -/
def Hw.untake (h : Hw) (t : Nat × List (Nat × Frame) × Nat) : Hw :=
  let (k, l, sent) := t
  let s := h.stageAt k
  (h.setStage k { frames := l ++ s.frames, sent := sent }).showStage k

/-! ### Operating levels and resets (R211) -/

/-- R211: on entry to TIME-ONLY the bridge's contents are lost; a MAJOR event records how many frames. -/
def Hw.bridgeLost (h : Hw) : Hw :=
  let ls := h.pk.fifos.filter (fun x => !x.2.frames.isEmpty)
  let h := h.when (!ls.isEmpty) (fun h =>
    h.recordOther sevMajor 0x6030 7 (ls.flatMap (fun x => leBytes 1 x.1 ++ leBytes 4 x.2.frames.length)))
  (h.setPk (fun p => { p with fifos := [] })).each (List.range 17) Hw.showFifo

/-- R211: on return to FULL or REDUCED every group starts by the health at that tick boundary. -/
def Hw.groupsRestart (h : Hw) : Hw :=
  h.each (List.range 16) (fun h g =>
    let hm := h.groupHome g
    if h.groupHealthy g hm then h.setGroup g hmHome hm
    else if h.groupHealthy g (1 - hm) then h.setGroup g hmAway (1 - hm)
    else h.setGroup g hmHeld hm)

end Sys2Proof.Machine
end

