-- ==== Sys2Proof/Machine/Dispatcher.lean ====
section
/-! DEFINITION. The dispatcher and the service cores (chapter 13: R327 to R343): ready lists, ordering tags,
release order, core faults, mailboxes and firmware updates; the exception path (R256), sequence recovery
(R200, R201) and what a release does. -/

namespace Sys2Proof.Machine

/-! ### Ready lists (R327 to R330, R335 to R337) -/

def Hw.listAt (h : Hw) (l : Nat) : List Item := look h.pk.lists l []
def Hw.statAt (h : Hw) (l : Nat) : ListStat := look h.pk.stats l {}
def Hw.setStat (h : Hw) (l : Nat) (f : ListStat → ListStat) : Hw :=
  h.setPk (fun p => { p with stats := store p.stats l (f (h.statAt l)) })

/-- A list takes new contents: DEPTH, the greatest depth and back-pressure follow (R336). -/
def Hw.setList (h : Hw) (l : Nat) (x : List Item) : Hw :=
  let n := x.length
  let h := (h.setPk (fun p => { p with lists := store p.lists l x })).wr SV_LIST_STAT_DEPTH (satNat 16 n) l
  h.setStat l (fun s => { s with
    maxDepth := max s.maxDepth n
    bp := if h.cfg SV_DISPATCH_BP_ON 0 l < n then true else if n ≤ h.cfg SV_DISPATCH_BP_OFF 0 l then false else s.bp })

/-- R328: the list that source i feeds, and the list of an exception class. -/
def Hw.sourceList (h : Hw) (i : Nat) : Nat := h.cfg SV_DISPATCH_SRC_LEVEL 0 i
def Hw.classList (h : Hw) (c : Nat) : Nat := 8 + h.cfg SV_DISPATCH_CLASS_LEVEL 0 c

/-- R276, R336: source i is held by the traffic manager or by the dispatcher. -/
def Hw.sourceHeld (h : Hw) (i : Nat) : Bool :=
  bitOf (h.rd TM_BP_STATUS_ASSERTED (i / 32)) (i % 32) || (h.statAt (h.sourceList i)).bp

/-- R331, Table 13-2: tags. -/
def tagPloam (a : Nat) : Nat := 4064 + a
def tagMgmt (a : Nat) : Nat := 4066 + a
def tagMbox : Nat := 4068

/-- The tag of an exception record of class c. -/
def Hw.classTag (h : Hw) (f : Frame) (c : Nat) : Nat :=
  if c = 3 then tagMgmt (f.src - 128)
  else h.cfg SV_DISPATCH_TAG_BASE 0 c + f.md 9 % 2 ^ h.cfg SV_DISPATCH_TAG_BITS 0 c

/-- R331: whether a tag is atomic. -/
def Hw.atomic (h : Hw) (t : Nat) : Bool :=
  if t ≤ 194 then false else if 4064 ≤ t ∧ t ≤ 4068 then true else bitOf (h.cfg SV_DISPATCH_TAG_TYPE) t

/-- Entries of list l that this kind of work may use (R336, R337). -/
def Hw.listRoom (h : Hw) (l : Nat) (w : Work) : Nat :=
  let cap := h.cfg SV_DISPATCH_CAP 0 l
  match w with
  | .second _ _ | .ploam _ => cap
  | _ => if l < 8 then cap - 256 else if l = 15 then cap - 64 else cap

/-- R328, R336: an item enters list l, or is dropped at a full list. The flag says that it entered. -/
def Hw.enqueue (h : Hw) (l : Nat) (it : Item) : Hw × Bool :=
  if (h.listAt l).length < h.listRoom l it.work then (h.setList l (h.listAt l ++ [it]), true)
  else (h.setStat l (fun s => { s with drops := s.drops + 1 }), false)

/-- A new item for a work. -/
def Hw.mkItem (h : Hw) (w : Work) (l tag src cls : Nat) : Item :=
  { id := h.pk.nextId, work := w, stamp := h.stampNow, tag := tag, src := src, cls := cls, home := l, list := l }

def Hw.nextItem (h : Hw) : Hw := h.setPk (fun p => { p with nextId := p.nextId + 1 })

/-- R292: a frame that enters PACKET takes a buffer; none where no pool yields one. -/
def Hw.takeBuf (h : Hw) (f : Frame) : Option Frame × Hw :=
  match h.bufAlloc usePkt (f.bytes.length + 64) tagPacket with
  | (some b, h) => (some { f with buf := some b }, h)
  | (none, h) => (none, h)

/-- An item enters a list, or is dropped with its buffer at a full one. -/
def Hw.enqueueOrFree (h : Hw) (l : Nat) (it : Item) (f : Frame) : Hw :=
  match h.enqueue l it with
  | (h, true) => h
  | (h, false) => h.bufFree f

/-- R328, R292: a frame takes its buffer and enters for its first pass. -/
def Hw.enterFirst (h : Hw) (f : Frame) : Hw :=
  match h.takeBuf f with
  | (none, h) => h
  | (some f, h) =>
    let l := h.sourceList f.src
    h.nextItem.enqueueOrFree l (h.mkItem (.first f) l f.src f.src 0) f

/-- A new packet handle. -/
def Hw.newFrame (h : Hw) (bytes : List Byte) (fcs src : Nat) (err : Bool := false) (rts : Option Int := none) : Frame × Hw :=
  ({ id := h.pk.nextId, bytes := bytes, fcs := fcs, src := src, epoch := h.rd HI_EPOCH_STATUS_CURRENT, err := err, rts := rts },
    h.nextItem)

/-- R335: items at levels 0 to 5 older than their list's AGE_LIMIT move to level 6 of their group. -/
def Hw.ageLists (h : Hw) : Hw :=
  h.each [0, 1, 2, 3, 4, 5, 8, 9, 10, 11, 12, 13] (fun h l =>
    let lim := h.cfg SV_DISPATCH_AGE_LIMIT 0 l
    let old := (h.listAt l).filter (fun i => lim != 0 && decide (lim ≤ h.ageOf i.stamp))
    if old.isEmpty then h
    else
      let u := 8 * (l / 8) + 6
      let h := h.setList l ((h.listAt l).filter (fun i => !old.contains i))
      let h := h.setStat l (fun s => { s with promoted := s.promoted + old.length })
      h.setList u (h.listAt u ++ old.map (fun i => { i with list := u })))

/-- AGEING (R271, R335). -/
def Hw.ageing (h : Hw) : Hw := h.ageQueues.ageLists

/-! ### The exception path (R256) -/

/-- A frame is sent to the exception path with class c and a cause. -/
def Hw.sendExc (h : Hw) (f : Frame) (c cause : Nat) : Hw :=
  let cr := look h.pk.excCred c 0
  if 65536 ≤ cr then
    let h := (h.setPk (fun p => { p with excCred := store p.excCred c (cr - 65536) })).inc PP_EXC_CNT_SENT c
    let l := h.classList c
    h.nextItem.enqueueOrFree l (h.mkItem (.record f c cause) l (h.classTag f c) f.src c) f
  else (h.inc PP_EXC_CNT_DROPPED c).bufFree f

/-! ### Sequence recovery (R200, R201, R210) -/

/-- The sequence number of a frame's R-TAG, none where it carries none (R241). -/
def Frame.rtag? (f : Frame) : Option Nat :=
  let o := f.etypeAt
  if beNat (slice f.bytes o 2) = 0xF1C1 then some (beNat (slice f.bytes (o + 4) 2)) else none

/-- The R-TAG removed. -/
def Frame.strip (f : Frame) : Frame := { f with bytes := f.bytes.take f.etypeAt ++ f.bytes.drop (f.etypeAt + 6) }

/-- A frame passes: the reset timer starts again. -/
def Hw.rcvPass (h : Hw) (r ep : Nat) (s : RcvSt) : Hw :=
  let s' := { s with due := some (h.clk.ut + h.cfgFor ep FRER_RCV_RESET_MS r * 640) }
  (h.setPk (fun p => { p with rcv := store p.rcv r s' })).inc TM_FRER_CNT_PASSED r

/-- SEQUENCE_RECOVERY (R200): the vector recovery algorithm of IEEE 802.1CB. The flag says that the frame
goes on. -/
def Hw.recover (h : Hw) (r : Nat) (f : Frame) : Hw × Bool :=
  let s := look h.pk.rcv r {}
  let len : Int := ((h.cfgFor f.epoch FRER_RCV_HISTORY r * 64 : Nat) : Int)
  match f.rtag? with
  | none =>
    if bitOf (h.cfgFor f.epoch FRER_RCV_FLAGS r) 2 then (h.rcvPass r f.epoch s, true) else (h, false)
  | some n =>
    if s.takeAny then (h.rcvPass r f.epoch { s with takeAny := false, seq := n, hist := [n] }, true)
    else
      let d := signed 16 (unsigned 16 (((n : Nat) : Int) - ((s.seq : Nat) : Int)))
      if len ≤ d ∨ d ≤ -len then (h.inc TM_FRER_CNT_ROGUE r, false)
      else if d ≤ 0 then
        if s.hist.contains n then (h.inc TM_FRER_CNT_DUPLICATE r, false)
        else (h.rcvPass r f.epoch { s with hist := n :: s.hist }, true)
      else
        let near (x : Nat) : Bool := decide ((unsigned 16 (((n : Nat) : Int) - ((x : Nat) : Int)) : Int) < len)
        (h.rcvPass r f.epoch { s with seq := n, hist := n :: s.hist.filter near }, true)

/-- A reset of a stream's recovery, counted in RESETS. -/
def Hw.rcvReset (h : Hw) (r : Nat) : Hw := (h.setPk (fun p => { p with rcv := store p.rcv r {} })).inc TM_FRER_CNT_RESETS r

/-- FRER_RESET_TIMEOUT (R200). -/
def Hw.frerTimeout (h : Hw) (r : Nat) : Hw :=
  match (look h.pk.rcv r {}).due with
  | some d => if d < h.clk.ut then h.rcvReset r else h
  | none => h

/-- R210: a flip that changes the FRER_RCV object of a stream resets its recovery. -/
def Hw.frerFlip (h : Hw) (was : CfgStore) (r : Nat) : Hw :=
  let same (f : OFld) : Bool := cfgOf was f r == h.cfg f r
  if same FRER_RCV_FLAGS && same FRER_RCV_HISTORY && same FRER_RCV_RESET_MS then h else h.rcvReset r

/-! ### Program headers (R250, R258) -/

/-- R250: the program and its header (words 2 to 15) for the epoch that a frame carries. -/
def Hw.progOf (h : Hw) (epoch : Nat) : List Nat := if epoch = h.rd HI_EPOCH_STATUS_CURRENT then h.ep.progCur else h.ep.progPrev
def Hw.headOf (h : Hw) (epoch : Nat) : List Nat := if epoch = h.rd HI_EPOCH_STATUS_CURRENT then h.ep.headCur else h.ep.headPrev

/-- Table 9-12: entry k (STATION, ATT_A, ATT_B, HOST, REINJECT); 5 is DEPTH_ADDR. -/
def Hw.entryOf (h : Hw) (epoch k : Nat) : Nat := bits ((h.headOf epoch).getD (k / 2) 0) (16 * (k % 2)) 16

/-! ### Releases (R332 to R334) -/

/-- R247, R246: a frame that FWD has accepted: sequence recovery, then admission. -/
def Hw.forward (h : Hw) (f : Frame) : Hw :=
  let h := match h.flowEntity f with
    | some e => h.pmNote e 1 f.len 0 0
    | none => h
  let r := bits (f.md 4) 0 10
  if bitOf (f.md 4) 15 && decide (128 ≤ f.src ∧ f.src < 130) && bitOf (h.cfgFor f.epoch FRER_RCV_FLAGS r) 0 then
    match h.recover r f with
    | (h, true) => h.takeIn (if bitOf (h.cfgFor f.epoch FRER_RCV_FLAGS r) 1 && f.rtag?.isSome then f.strip else f)
    | (h, false) => h.bufFree f
  else h.takeIn f

/-- What a release does (R246, R332). -/
def Hw.applyVerdict (h : Hw) : Verdict → Hw
  | .forward f => h.forward f
  | .except f c cause => h.sendExc f c cause
  | .drop f (some r) => (h.inc PP_DROP_CNT_DROPS r).bufFree f
  | .drop f none => h.bufFree f
  | .lenConflict f =>
    if bitOf (h.cfgFor f.epoch PARSER_CFG_FLAGS) 0 then (h.inc PP_CNT_PUNTED).sendExc f 2 0 else h.bufFree f
  | .queue f q => (h.charge f).toQueue q f
  | .host f r => (h.charge f).toQueue (1024 + r) f
  | .reinject f =>
    if 2 ≤ f.passes then h.bufFree f
    else
      let l := h.sourceList 194
      h.nextItem.enqueueOrFree l (h.mkItem (.second f (h.entryOf f.epoch 4)) l 194 194 0) f
  | .done (some f) => h.bufFree f
  | .done none => h

/-- The items of a tag that are dispatched and not released. -/
def Hw.orderOf (h : Hw) (t : Nat) : List Nat := look h.pk.order t []

/-- Releases of a tag take effect in dispatch order. -/
def Hw.runReleases (h : Hw) (t : Nat) : Nat → Hw
  | 0 => h
  | n + 1 =>
    match h.orderOf t with
    | [] => h
    | id :: rest =>
      match h.pk.waits.find? (fun w => w.1 == id) with
      | none => h
      | some w =>
        let h := h.setPk (fun p => { p with waits := p.waits.filter (fun x => x.1 != id), order := store p.order t rest })
        Hw.runReleases (h.applyVerdict w.2.2) t n

/-- R332: item `it` of group g releases with verdict v. -/
def Hw.release (h : Hw) (g : Nat) (it : Item) (v : Verdict) : Hw :=
  let h := h.setPk (fun p => { p with waits := p.waits ++ [(it.id, g, v)] })
  h.runReleases it.tag (h.orderOf it.tag).length

/-! ### Selection (R329) -/

/-- Roles of a work: 0 PLOAM, 1 MGMT, 2 EXC, 3 HOST (R339). -/
def roleOf : Work → Nat
  | .ploam _ => 0
  | .record _ c _ => if c = 3 then 1 else 2
  | .mbox _ => 3
  | _ => 2

/-- Items in service in a group. -/
def Hw.inService (h : Hw) (g : Nat) : Nat := (h.pk.svc.filter (fun x => decide (x.1 / 48 = 0) == (g == 0))).length

/-- R332: whether the release buffer of a group has room for another item in service. -/
def Hw.releaseRoom (h : Hw) (g : Nat) : Bool :=
  decide (h.inService g + (h.pk.waits.filter (fun w => w.2.1 == g)).length < 2048)

/-- R329: whether an item is eligible for unit u (engine, or 48 + core). -/
def Hw.itemOk (h : Hw) (u : Nat) (i : Item) : Bool :=
  !(h.atomic i.tag && h.pk.svc.any (fun x => x.2.tag == i.tag)) &&
  (decide (u < 48) || bitOf (h.rd SV_CORE_STATUS_ROLE (u - 48)) (roleOf i.work))

/-- R329: the order of service among items of one level. -/
def Hw.itemBefore (h : Hw) (a b : Item) : Bool :=
  let x := h.ageOf a.stamp
  let y := h.ageOf b.stamp
  decide (y < x) || (x == y && (decide (a.src < b.src) || (a.src == b.src && decide (a.cls < b.cls))))

/-- The item that the selector of group g gives to unit u, and the group's window. -/
def Hw.pickItem (h : Hw) (g u : Nat) : Option (Item × Arb) :=
  let of (l : Nat) : List Item := (h.listAt (8 * g + l)).filter (h.itemOk u)
  let lv := [5, 4, 3, 2, 1, 0].find? (fun l => !(of l).isEmpty)
  match (look h.pk.arbs g {}).pick (!(of 7).isEmpty) (!(of 6).isEmpty) lv.isSome with
  | none => none
  | some (0, a) => (minBy? h.itemBefore (of 7)).map (fun i => (i, a))
  | some (1, a) => (minBy? h.itemBefore (of 6)).map (fun i => (i, a))
  | some (_, a) => (minBy? h.itemBefore (of (lv.getD 0))).map (fun i => (i, a))

/-- R338: bucket of a waiting time in core cycles. -/
def waitBucket (w : Nat) : Nat := if w < 2 then 0 else min 23 (Nat.log2 w)

/-- A waiting time recorded for list l. -/
def Hw.noteWait (h : Hw) (l w : Nat) : Hw :=
  h.setStat l (fun s => { s with
    disp := s.disp + 1, sum := s.sum + w, max := max s.max w
    hist := store s.hist (waitBucket w) (look s.hist (waitBucket w) 0 + 1) })

/-- Whether unit u is free and in service: an engine, or an ACTIVE core. -/
def Hw.unitFree (h : Hw) (u : Nat) : Bool :=
  (look (h.pk.svc.map (fun x => (x.1, true))) u false == false) &&
  (if u < 48 then h.runs rgPacket && bitOf (h.rd PP_ENG_STATUS_ENG_IN_SERVICE) u &&
      bitOf (h.rd PP_ENG_STATUS_CLU_IN_SERVICE) (u / 8)
   else h.rd SV_CORE_STATUS_STATE (u - 48) == 2)

/-- R329, R332: unit u takes an item, which has waited `wait` core cycles. -/
def Hw.takeItem (h : Hw) (u wait : Nat) : Option (Item × Hw) :=
  let g := if u < 48 then 0 else 1
  match h.pickItem g u with
  | none => none
  | some (i, a) =>
    let h := h.setList i.list ((h.listAt i.list).filter (fun x => x.id != i.id))
    let i' := { i with since := h.clk.ut }
    let ord := h.orderOf i.tag
    let h := h.setPk (fun p => { p with
      arbs := store p.arbs g a, svc := p.svc ++ [(u, i')]
      order := store p.order i.tag (if ord.contains i.id then ord else ord ++ [i.id]) })
    some (i', h.noteWait i.home wait)

/-- The item of unit u leaves service. -/
def Hw.endService (h : Hw) (u : Nat) : Hw := h.setPk (fun p => { p with svc := p.svc.filter (fun x => x.1 != u) })

/-! ### Service cores (R339, R340) -/

/-- States of Table 13-10. -/
def coreOff : Nat := 0
def coreSup : Nat := 1
def coreActive : Nat := 2
def coreSpare : Nat := 3
def coreLoading : Nat := 4
def coreQuar : Nat := 5

def Hw.coreState (h : Hw) (k : Nat) : Nat := h.rd SV_CORE_STATUS_STATE k
def Hw.setCore (h : Hw) (k st role : Nat) : Hw := (h.wr SV_CORE_STATUS_STATE st k).wr SV_CORE_STATUS_ROLE role k

/-- Service cores in a state. -/
def Hw.coresIn (h : Hw) (st : Nat) : List Nat := ((List.range 16).drop 2).filter (fun k => h.coreState k == st)

/-- A region asks for a reload (R18): `cause` is that of Table 15-6. -/
def Hw.askReload (h : Hw) (r cause : Nat) : Hw :=
  { h with sf := { h.sf with wantReload := h.sf.wantReload ++ [(r, cause)] } }

/-- Table 13-3: a core is quarantined; a spare takes its roles, else the first active core does. -/
def Hw.coreFail (h : Hw) (k : Nat) : Hw :=
  let role := h.rd SV_CORE_STATUS_ROLE k
  let h := (h.setCore k coreQuar 0).quarantine (0x7010 + k) k
  let h := match h.coresIn coreSpare with
    | s :: _ => h.setCore s coreActive role
    | [] =>
      match h.coresIn coreActive with
      | c :: _ => h.wr SV_CORE_STATUS_ROLE (h.rd SV_CORE_STATUS_ROLE c ||| role) c
      | [] => h
  if (h.coresIn coreActive ++ h.coresIn coreSpare).length < 4 then h.askReload rgControl 1 else h

/-- The frame of a work. -/
def Work.frame? : Work → Option Frame
  | .first f | .second f _ | .record f _ _ => some f
  | _ => none

/-- R295: an item's buffer goes to the owner `tag`. -/
def Hw.workMove (h : Hw) (w : Work) (tag : Nat) : Hw :=
  match w.frame? with
  | some f => h.bufMove f tag
  | none => h

/-- R340: the item of a failed unit is dispatched again once, in its place; a second failure drops it. -/
def Hw.againItem (h : Hw) (u : Nat) : Hw :=
  match h.pk.svc.find? (fun x => x.1 == u) with
  | none => h
  | some (_, i) =>
    let h := ((h.endService u).inc SV_DISP_CNT_REDISPATCH).workMove i.work tagPacket
    if i.again then h.release 1 i (.done i.work.frame?)
    else h.setList i.home (insertBy h.itemBefore { i with again := true, list := i.home } (h.listAt i.home))

/-- CORE_ITEM_TIMEOUT (R340): an item has been in service on core k for more than one tick. -/
def Hw.coreTimeout (h : Hw) (k : Nat) : Hw :=
  match h.pk.svc.find? (fun x => x.1 == 48 + k) with
  | none => h
  | some (_, i) => if i.since + 80 < h.clk.ut then (h.againItem (48 + k)).coreFail k else h

/-- CORE_RELEASE (R332): core k finishes its item: `out` 0 to the pool manager, 1 to queue `dest`, 2 to host
receive ring `dest`, 3 reinjected. -/
def Hw.coreRelease (h : Hw) (k out dest : Nat) : Hw :=
  match h.pk.svc.find? (fun x => x.1 == 48 + k) with
  | none => h
  | some (_, i) =>
    let cls := match i.work with
      | .record _ c _ => c
      | _ => 0xFF
    let v : Verdict := match i.work.frame?, out with
      | some f, 1 => .queue f dest
      | some f, 2 => .host { f with exc := cls } dest
      | some f, 3 => .reinject f
      | x, _ => .done x
    ((h.endService (48 + k)).workMove i.work tagPacket).release 1 i v

/-- A flip or a start gives every active core the roles of SV_DISPATCH (R339). -/
def Hw.rolesInForce (h : Hw) : Hw :=
  h.each (h.coresIn coreActive) (fun h k => h.wr SV_CORE_STATUS_ROLE (h.cfg SV_DISPATCH_ROLE 0 k) k)

/-- R339: the cores after a reset of CONTROL: a supervision pair, twelve active, two spares. -/
def Hw.coresStart (h : Hw) : Hw :=
  let h := (h.setCore 0 coreSup 0).setCore 1 coreSup 0
  let h := h.each ((List.range 12).map (· + 2)) (fun h k => h.setCore k coreActive (h.cfg SV_DISPATCH_ROLE 0 k))
  (h.setCore 14 coreSpare 0).setCore 15 coreSpare 0

/-! ### Mailboxes (R341) -/

/-- PING: the first 8 bytes echoed. -/
def mboxPing (data : List Byte) : Ans := .ok (leNat (slice data 0 8))

/-- FW_INFO: FW_VERSION and SEC_VER of the image in force. -/
def Hw.mboxInfo (h : Hw) : Ans := .ok (h.rd SV_FW_STATUS_FW_VERSION + h.pk.fwSec * 2 ^ 32)

/-! ### Firmware images (R342, R343) -/

/-- R342: the checks of a service-core image in order: status and reason of the first failure. -/
def Hw.fwCheck (h : Hw) (img : List Byte) (sigOk : Bool) : Option (Nat × Nat) :=
  let w (o n : Nat) : Nat := leNat (slice img o n)
  if w 0 4 ≠ 0x4E564944 ∨ w 4 2 ≠ 1 ∨ 196608 < w 16 4 ∨ w 16 4 % 64 ≠ 0 then some (stRange, 1)
  else if h.rd ID_REV_MAJOR * 256 + h.rd ID_REV_MINOR < w 24 2 then some (stUnsupported, 4)
  else if w 12 4 < h.rd SV_FW_STATUS_MIN_SEC_VER then some (stRange, 3)
  else if sigOk then none else some (stRange, 2)

/-- FW_UPDATE (R343): `img` is what the DMA read and `sigOk` the result of the signature check. -/
def Hw.fwUpdate (h : Hw) (hd : CmdHdr) (addr : Nat) (img : List Byte) (sigOk : Bool) : Hw × Ans :=
  match h.pk.fwUp, h.coresIn coreSpare with
  | none, s :: _ =>
    if addr % 64 != 0 then (h, .fail stAlign)
    else
      match h.fwCheck img sigOk with
      | some (st, r) => (h, .fail st 0 r)
      | none =>
        let u : FwUp := { ver := leNat (slice img 8 4), sec := leNat (slice img 12 4), todo := h.coresIn coreActive
                          spare := s, ring := hd.ring, cmd := hd.cmdId }
        ((h.setPk (fun p => { p with fwUp := some u })).wr SV_FW_STATUS_UPDATING 1, .later)
  | _, _ => (h, .fail stBusy)

/-- R343: items still in service on the old core are dispatched again. -/
def Hw.drainCore (h : Hw) (k : Nat) : Hw := if (look (h.pk.svc.map (fun x => (x.1, true))) (48 + k) false) then h.againItem (48 + k) else h

/-- FW_UPDATE_SWAP (R343): the spare takes the roles of the next active core, which is loaded and becomes the
spare; `ok` false: a core fails to start the new image, and the swaps made are undone in reverse order. -/
def Hw.fwSwap (h : Hw) (ok : Bool) : Hw :=
  match h.pk.fwUp with
  | none => h
  | some u =>
    let mine (o : OpenCmd) : Bool := o.ring == u.ring && o.cmdId == u.cmd
    if ok then
      match u.todo with
      | [] => h
      | k :: rest =>
        let h := (h.setCore u.spare coreActive (h.rd SV_CORE_STATUS_ROLE k)).drainCore k
        let h := h.setCore k coreSpare 0
        if rest.isEmpty then
          let h := (h.setPk (fun p => { p with fwUp := none, fwSec := u.sec })).wr SV_FW_STATUS_UPDATING 0
          (h.wr SV_FW_STATUS_FW_VERSION u.ver).completeOpen mine stOk 0 u.ver
        else h.setPk (fun p => { p with fwUp := some { u with todo := rest, spare := k, made := (k, u.spare) :: u.made } })
    else
      let h := h.each u.made (fun h m => (h.setCore m.1 coreActive (h.rd SV_CORE_STATUS_ROLE m.2)).setCore m.2 coreSpare 0)
      ((h.setPk (fun p => { p with fwUp := none })).wr SV_FW_STATUS_UPDATING 0).completeOpen mine stTimeout 5 0

/-! ### Performance bins (R351 to R353) -/

/-- R353: the bins of a KIND; none for a KIND without meaning. -/
def Hw.pmKind (h : Hw) (k : Nat) : Option (List (Nat × PmBin)) :=
  if k < 32 then some (h.pk.hist15.getD k [])
  else if k = 32 then some h.pk.bin15
  else if k = 33 then some h.pk.binDay
  else if k < 36 then some (h.pk.histDay.getD (k - 34) [])
  else none

/-- The 48 bytes of one entity. -/
def pmBytes (e : Nat) (b : Option PmBin) : List Byte :=
  let x := b.getD { part := false }
  leBytes 8 x.start ++ leBytes 2 e ++ leBytes 1 (b2n x.suspect + 2 * b2n x.part + 4 * b2n b.isNone) ++ leBytes 5 0 ++
  leBytes 8 x.frames ++ leBytes 8 x.octets ++ leBytes 8 x.drops ++ leBytes 8 x.errors

/-- PM_DUMP (R353). -/
def Hw.pmDump (h : Hw) (kind first count dest : Nat) : Hw × Ans :=
  match h.pmKind kind with
  | none => (h, .fail stRange)
  | some bins =>
    if count = 0 ∨ 4352 < count ∨ 4352 < first + count then (h, .fail stRange)
    else
      let body := (List.range count).flatMap (fun k =>
        pmBytes (first + k) ((bins.find? (fun b => b.1 == first + k)).map Prod.snd))
      (h.emit (.hostWrite dest body), .ok)

/-- R352: at the SECOND job of second `s` bins close; history needs LPDDR6 space. -/
def Hw.pmSecond (h : Hw) (s : Nat) : Hw :=
  if bitOf (h.cfg PC_CFG_FLAGS) 2 then
    let o : Int := if h.cfg TC_UTC_VALID = 0 then 0 else h.cfgS TC_UTC_OFS
    let t : Int := (s : Int) - o
    let keep (l : List (List (Nat × PmBin))) (b : List (Nat × PmBin)) (n : Nat) : List (List (Nat × PmBin)) :=
      if h.rd BM_MEM_GEOM_CAP_GIB = 0 then [] else (b :: l).take n
    let reopen (l : List (Nat × PmBin)) : List (Nat × PmBin) :=
      l.map (fun b => (b.1, { start := s, part := false, suspect := !h.on TC_STATUS_SET : PmBin }))
    let h := if t % 900 = 0 then
        h.setPk (fun p => { p with hist15 := keep p.hist15 p.bin15 32, bin15 := reopen p.bin15 }) else h
    if t % 86400 = 0 then
      h.setPk (fun p => { p with histDay := keep p.histDay p.binDay 2, binDay := reopen p.binDay }) else h
  else h

/-- R352: every open bin is marked SUSPECT. -/
def Hw.pmSuspect (h : Hw) : Hw :=
  let f (b : Nat × PmBin) : Nat × PmBin := (b.1, { b.2 with suspect := true })
  h.setPk (fun p => { p with bin15 := p.bin15.map f, binDay := p.binDay.map f })

end Sys2Proof.Machine
end

