-- ==== Sys2Proof/Machine/Flags.lean ====
section
/-! DEFINITION. The parser engine's instruction words (Table 9-3), their decoding with the checks of R258, and
its flags and conditions (R240, Table 9-4). -/

namespace Sys2Proof

open Sys2Proof.Machine


/-! ### Words -/

/-- The opcode of an instruction. -/
def PInstr.op : PInstr → Nat
  | .nop => 0x00 | .ld .. => 0x01 | .ldi .. => 0x02 | .ldih .. => 0x03 | .extb .. => 0x04 | .alu .. => 0x05
  | .alui .. => 0x06 | .cmp .. => 0x07 | .cmpi .. => 0x08 | .bf .. => 0x09 | .adv .. => 0x0A | .mark .. => 0x0B
  | .key .. => 0x0C | .keyr .. => 0x0D | .hash .. => 0x0E | .lookup .. => 0x0F | .setm .. => 0x10 | .setmi .. => 0x11
  | .getm .. => 0x12 | .lchk .. => 0x13 | .fwd => 0x14 | .exc .. => 0x15 | .drop .. => 0x16 | .recirc .. => 0x17

/-- The fields of an instruction in its word. -/
def PInstr.fields : PInstr → Nat
  | .nop | .fwd => 0
  | .ld d sz off => d * 2 ^ 24 + sz * 2 ^ 22 + off * 2 ^ 14
  | .ldi d imm | .ldih d imm => d * 2 ^ 24 + imm
  | .extb d s pos w => d * 2 ^ 24 + s * 2 ^ 21 + pos * 2 ^ 16 + w * 2 ^ 11
  | .alu d a b fn => d * 2 ^ 24 + a * 2 ^ 21 + b * 2 ^ 18 + fn
  | .alui d a fn imm => d * 2 ^ 24 + a * 2 ^ 21 + fn * 2 ^ 18 + imm
  | .cmp a b => a * 2 ^ 21 + b * 2 ^ 18
  | .cmpi a imm => a * 2 ^ 21 + imm
  | .bf cond target => cond * 2 ^ 24 + target
  | .adv mode s imm => mode * 2 ^ 25 + s * 2 ^ 21 + imm
  | .mark n typ => n * 2 ^ 23 + typ * 2 ^ 19
  | .key koff off len => koff * 2 ^ 21 + off * 2 ^ 13 + len * 2 ^ 8
  | .keyr koff s sz => koff * 2 ^ 21 + s * 2 ^ 18 + sz * 2 ^ 16
  | .hash d c v6 koff => d * 2 ^ 24 + c * 2 ^ 23 + v6 * 2 ^ 22 + koff * 2 ^ 16
  | .lookup d tbl koff s => d * 2 ^ 24 + tbl * 2 ^ 22 + koff * 2 ^ 16 + s * 2 ^ 13
  | .setm f s => f * 2 ^ 23 + s * 2 ^ 20
  | .setmi f imm => f * 2 ^ 23 + imm
  | .getm d f => d * 2 ^ 24 + f * 2 ^ 20
  | .lchk a mode b min => a * 2 ^ 24 + mode * 2 ^ 22 + b * 2 ^ 19 + min
  | .exc cls => cls
  | .drop reason => reason
  | .recirc wadv entry => wadv * 2 ^ 26 + entry

/-- R239: the 32-bit word of an instruction. -/
def PInstr.word (i : PInstr) : Nat := i.op * 2 ^ 27 + i.fields

/-- The instruction that the fields of an opcode spell, whatever the unlisted bits hold. -/
def Machine.pDecodeFields (op w : Nat) : Option PInstr :=
  match op with
  | 0x00 => some .nop
  | 0x01 => some (.ld (bits w 24 3) (bits w 22 2) (bits w 14 8))
  | 0x02 => some (.ldi (bits w 24 3) (bits w 0 16))
  | 0x03 => some (.ldih (bits w 24 3) (bits w 0 16))
  | 0x04 => some (.extb (bits w 24 3) (bits w 21 3) (bits w 16 5) (bits w 11 5))
  | 0x05 => some (.alu (bits w 24 3) (bits w 21 3) (bits w 18 3) (bits w 0 3))
  | 0x06 => some (.alui (bits w 24 3) (bits w 21 3) (bits w 18 3) (bits w 0 16))
  | 0x07 => some (.cmp (bits w 21 3) (bits w 18 3))
  | 0x08 => some (.cmpi (bits w 21 3) (bits w 0 16))
  | 0x09 => some (.bf (bits w 24 3) (bits w 0 13))
  | 0x0A => some (.adv (bits w 25 2) (bits w 21 3) (bits w 0 8))
  | 0x0B => some (.mark (bits w 23 4) (bits w 19 4))
  | 0x0C => some (.key (bits w 21 6) (bits w 13 8) (bits w 8 5))
  | 0x0D => some (.keyr (bits w 21 6) (bits w 18 3) (bits w 16 2))
  | 0x0E => some (.hash (bits w 24 3) (bits w 23 1) (bits w 22 1) (bits w 16 6))
  | 0x0F => some (.lookup (bits w 24 3) (bits w 22 2) (bits w 16 6) (bits w 13 3))
  | 0x10 => some (.setm (bits w 23 4) (bits w 20 3))
  | 0x11 => some (.setmi (bits w 23 4) (bits w 0 16))
  | 0x12 => some (.getm (bits w 24 3) (bits w 20 4))
  | 0x13 => some (.lchk (bits w 24 3) (bits w 22 2) (bits w 19 3) (bits w 0 16))
  | 0x14 => some .fwd
  | 0x15 => some (.exc (bits w 0 8))
  | 0x16 => some (.drop (bits w 0 4))
  | 0x17 => some (.recirc (bits w 26 1) (bits w 0 13))
  | _ => none

/-- R239: a word's instruction; none where the opcode is reserved or a field that must be 0 is not. -/
def Machine.pDecode (w : Nat) : Option PInstr :=
  match pDecodeFields (bits w 27 5) w with
  | none => none
  | some i => if i.word = w then some i else none

/-- Every field in its width, and no code that R258 rejects. -/
def PInstr.wf : PInstr → Bool
  | .nop | .fwd => true
  | .ld d sz off => decide (d < 8 ∧ sz < 3 ∧ off < 256)
  | .ldi d imm | .ldih d imm => decide (d < 8 ∧ imm < 65536)
  | .extb d s pos w => decide (d < 8 ∧ s < 8 ∧ pos < 32 ∧ w < 32)
  | .alu d a b fn => decide (d < 8 ∧ a < 8 ∧ b < 8 ∧ fn < 8)
  | .alui d a fn imm => decide (d < 8 ∧ a < 8 ∧ fn < 8 ∧ imm < 65536)
  | .cmp a b => decide (a < 8 ∧ b < 8)
  | .cmpi a imm => decide (a < 8 ∧ imm < 65536)
  | .bf cond target => decide (cond < 8 ∧ target < 8192)
  | .adv mode s imm => decide (mode < 4 ∧ s < 8 ∧ imm < 256)
  | .mark n typ => decide (n < 16 ∧ typ < 16)
  | .key koff off len => decide (koff + len < 64 ∧ koff < 64 ∧ off < 256 ∧ len < 32)
  | .keyr koff s sz => decide (koff + sz < 64 ∧ koff < 64 ∧ s < 8 ∧ sz < 4)
  | .hash d c v6 koff => decide (d < 8 ∧ c < 2 ∧ v6 < 2 ∧ koff + (if v6 = 0 then 13 else 37) ≤ 64)
  | .lookup d tbl koff s =>
    decide (d < 8 ∧ tbl < 4 ∧ s < 8 ∧ koff < 64 ∧ (tbl = 0 → koff ≤ 24) ∧ (tbl = 1 → koff ≤ 16))
  | .setm f s => decide (f < 12 ∧ s < 8)
  | .setmi f imm => decide (f < 12 ∧ imm < 65536)
  | .getm d f => decide (d < 8 ∧ f < 12)
  | .lchk a mode b min => decide (a < 8 ∧ mode < 3 ∧ b < 8 ∧ min < 65536)
  | .exc cls => decide (8 ≤ cls ∧ cls < 32)
  | .drop reason => decide (reason < 16)
  | .recirc wadv entry => decide (wadv < 2 ∧ entry < 8192)

/-- The program address that an instruction names (R258). -/
def PInstr.target? : PInstr → Option Nat
  | .bf _ t | .recirc _ t => some t
  | _ => none

/-- R258: whether a word may stand in a program of `count` instructions. -/
def Machine.pWordOk (count w : Nat) : Bool :=
  match pDecode w with
  | none => false
  | some i => i.wf && (match i.target? with
    | some t => decide (t < count)
    | none => true)

/-! ### Flags and functions (R240, Table 9-4) -/

/-- CMP: exactly one of EQ, LT and GT, unsigned. -/
def Machine.cmpFlags (a b : Nat) : Bool × Bool × Bool := (a == b, decide (a < b), decide (b < a))

/-- Whether a condition holds on EQ, LT, GT and END. -/
def Machine.condHolds (cond : Nat) (eq lt gt fin : Bool) : Bool :=
  match cond with
  | 0 => true
  | 1 => eq
  | 2 => !eq
  | 3 => lt
  | 4 => !lt
  | 5 => gt
  | 6 => !gt
  | _ => fin

/-- FN, modulo 2^32. -/
def Machine.aluFn (fn a b : Nat) : Nat :=
  match fn with
  | 0 => (a + b) % 2 ^ 32
  | 1 => (a + 2 ^ 32 - b % 2 ^ 32) % 2 ^ 32
  | 2 => a &&& b
  | 3 => (a ||| b) % 2 ^ 32
  | 4 => (a ^^^ b) % 2 ^ 32
  | 5 => (a <<< (b % 32)) % 2 ^ 32
  | 6 => (a % 2 ^ 32) >>> (b % 32)
  | _ => b % 2 ^ 32

end Sys2Proof
end

