-- ==== Sys2Proof/Machine/Parser.lean ====
section
/-! DEFINITION. The parser engines (chapter 9: R237 to R259): passes, instructions, hashes, lookups, verdicts,
depth and length conflicts; admission of XGEM frames (R255, R118); instruction sampling (R350). -/

namespace Sys2Proof.Machine

/-! ### Passes (Table 9-2) -/

def Hw.setPass (h : Hw) (e : Nat) (p : Pass) : Hw := h.setPk (fun k => { k with passes := store k.passes e p })
def Hw.passAt? (h : Hw) (e : Nat) : Option Pass := (h.pk.passes.find? (fun x => x.1 == e)).map Prod.snd

/-- g0 at the start of a first pass (Table 9-2). -/
def startG0 (f : Frame) : Nat :=
  (if f.src < 130 then f.src else if f.src < 194 then 130 + (f.src - 130) * 256 else 131) +
  (if f.src = 128 ∨ f.src = 129 then f.xgem * 65536 else 0)

/-- The entry of a source (Table 9-12). -/
def sourceEntry (src : Nat) : Nat := if src < 128 then 0 else if src = 128 then 1 else if src = 129 then 2 else if src < 194 then 3 else 4

/-- Table 9-2: the state at the start of a pass. -/
def Hw.startPass (h : Hw) (it : Item) : Option Pass :=
  match it.work with
  | .first f =>
    some { item := it, frame := f, second := false, wbase := 0, cursor := 0
           g := [startG0 f, f.bytes.length, f.res.1, f.res.2, 0, 0, 0, 0], mdata := ({} : Carry).mdata
           pc := h.entryOf f.epoch (sourceEntry f.src) }
  | .second f entry =>
    some { item := it, frame := f, second := true, wbase := f.carry.wbase, cursor := f.carry.cursor, g := f.carry.g
           markers := f.carry.markers, mdata := f.carry.mdata, pc := entry }
  | _ => none

/-- What the pass hands on with its frame. -/
def Pass.out (p : Pass) : Frame :=
  { p.frame with
    carry := { cursor := p.cursor, wbase := p.wbase, g := p.g, markers := p.markers, mdata := p.mdata }
    passes := p.frame.passes + 1 }

/-- The pass of engine e ends with a verdict (R246, R332). -/
def Hw.endPass (h : Hw) (e : Nat) (p : Pass) (v : Verdict) : Hw :=
  let h := h.when p.handler (fun h => h.inc PP_CNT_PARTIAL)
  let h := (h.setPk (fun k => { k with passes := k.passes.filter (fun x => x.1 != e) })).endService e
  h.release 0 p.item v

/-- A pass begins on engine e; where the epoch has no program the frame goes to class PROGRAM (Table 9-16). -/
def Hw.beginPass (h : Hw) (e : Nat) (it : Item) : Hw :=
  match h.startPass it with
  | none => h
  | some p => if (h.progOf p.frame.epoch).isEmpty then h.endPass e p (.except p.out 0 0) else h.setPass e p

/-- DISPATCH_SELECT (R329): unit u (engine e, or 48 + core k) is free and takes an item. -/
def Hw.dispatchSelect (h : Hw) (u wait : Nat) : Hw :=
  if h.runs rgControl && h.unitFree u then
    if h.releaseRoom (if u < 48 then 0 else 1) then
      match h.takeItem u wait with
      | none => h
      | some (i, h) => if u < 48 then h.beginPass u i else h.workMove i.work (tagCore (u - 48))
    else h.inc SV_DISP_CNT_RELEASE_FULL
  else h

/-! ### The window (R238, R242) -/

/-- Frame bytes that a pass can read: L − F. -/
def Pass.limit (p : Pass) : Nat := p.frame.bytes.length - p.frame.fcs

/-- Byte k of the window. -/
def Pass.byte (p : Pass) (k : Nat) : Byte := if p.wbase + k < p.limit then p.frame.bytes.getD (p.wbase + k) 0 else 0

/-- `n` bytes from window position `o`, and whether they lie partly beyond L − F. -/
def Pass.read (p : Pass) (o n : Nat) : List Byte × Bool :=
  ((List.range n).map (fun k => p.byte (o + k)), decide (p.limit < p.wbase + o + n))

def Pass.reg (p : Pass) (d : Nat) : Nat := p.g.getD d 0

/-- Register d takes a value, and the pass goes on behind the instruction. -/
def Pass.put (p : Pass) (d v : Nat) : Pass := { p with g := p.g.set d v, pc := p.pc + 1 }

def Pass.next (p : Pass) : Pass := { p with pc := p.pc + 1 }

/-- Metadata field f takes a value; FLAGS keeps its three bits (Table 9-6). -/
def Pass.setMeta (p : Pass) (f v : Nat) : Pass := { p with mdata := p.mdata.set f (if f = 11 then v % 8 else v % 65536) }

/-! ### Waiting for results (R243) -/

/-- Registers that a pending result will write. -/
def Await.regs : Await → List Nat
  | .hash d _ _ => [d]
  | .lookup d _ _ => [d, (d + 1) % 8]

def Await.isLookup : Await → Bool
  | .lookup .. => true
  | _ => false

/-- Whether a pending result will write the key buffer. -/
def Await.writesKey : Await → Bool
  | .hash _ _ (some _) => true
  | _ => false

/-- Registers that an instruction reads. -/
def readsRegs : PInstr → List Nat
  | .ldih d _ => [d]
  | .extb _ s _ _ => [s]
  | .alu _ a b _ => [a, b]
  | .alui _ a _ _ => [a]
  | .cmp a b => [a, b]
  | .cmpi a _ => [a]
  | .adv mode s _ => if mode % 2 = 1 then [s] else []
  | .keyr _ s _ => [s]
  | .lookup _ tbl _ s => if 2 ≤ tbl then [s] else []
  | .setm _ s => [s]
  | .lchk a mode b _ => if mode = 0 then [a] else [a, b]
  | _ => []

/-- Whether an instruction reads the flags that a LOOKUP sets. -/
def readsFlags : PInstr → Bool
  | .bf c _ => c != 0 && c != 7
  | _ => false

/-- Whether an instruction reads the key buffer. -/
def readsKey : PInstr → Bool
  | .hash .. => true
  | .lookup _ tbl _ _ => decide (tbl < 2)
  | _ => false

/-- Metadata that a result writes: FLOW and FLAGS. -/
def readsResultMeta : PInstr → Bool
  | .getm _ f => f == 6 || f == 11
  | _ => false

/-- R243: an instruction that reads a result not yet arrived waits for it. -/
def Pass.waits (p : Pass) (i : PInstr) : Bool :=
  (readsRegs i).any (fun r => p.awaits.any (fun a => a.regs.contains r)) ||
  (readsFlags i && p.awaits.any Await.isLookup) ||
  (readsKey i && p.awaits.any Await.writesKey) ||
  (readsResultMeta i && !p.awaits.isEmpty)

/-! ### The symmetric hash (R245) -/

/-- The canonical tuple of the bytes at KOFF, and whether the endpoints were swapped. -/
def canonTuple (v6 : Bool) (t : List Byte) : List Byte × Bool :=
  let n := if v6 then 16 else 4
  let a1 := slice t 0 n
  let a2 := slice t n n
  let p1 := slice t (2 * n) 2
  let p2 := slice t (2 * n + 2) 2
  let pr := slice t (2 * n + 4) 1
  let stays := decide (beNat a1 < beNat a2) || (beNat a1 == beNat a2 && decide (beNat p1 ≤ beNat p2))
  if stays then (a1 ++ a2 ++ p1 ++ p2 ++ pr, false) else (a2 ++ a1 ++ p2 ++ p1 ++ pr, true)

/-! ### Tables (R251, R252) -/

/-- The visibility bank of an epoch (R253). -/
def Hw.bankOf (h : Hw) (epoch : Nat) : Nat := if epoch = h.rd HI_EPOCH_STATUS_CURRENT then 0 else 1

/-- Whether the key matches a wildcard entry (R252). -/
def wildMatch (e : TblEntry) (key : List Byte) : Bool :=
  (List.range key.length).all (fun k => (key.getD k 0 ^^^ e.key.getD k 0) &&& e.mask.getD k 0 == 0)

/-- Entries of a table visible in an epoch, whole and unerred. -/
def Hw.visible (h : Hw) (tbl epoch : Nat) : List TblEntry :=
  h.pk.tables.filter (fun e => e.tbl == tbl && bitOf e.vis (h.bankOf epoch) && !e.bad)

/-- R252: the entry that a key hits: of the wildcard entries the highest PRIO, then the lowest index. -/
def Hw.tableHit (h : Hw) (tbl epoch : Nat) (key : List Byte) : Option TblEntry :=
  if tbl = 1 then
    minBy? (fun a b => decide (b.prio < a.prio) || (a.prio == b.prio && decide (a.slot < b.slot)))
      ((h.visible 1 epoch).filter (fun e => wildMatch e key))
  else (h.visible tbl epoch).find? (fun e => e.key == key)

/-- R251: the table and key of a LOOKUP; table 5 is one that no source has. -/
def Pass.lookupKey (p : Pass) (tbl koff s : Nat) : Nat × List Byte :=
  match tbl with
  | 0 => (0, slice p.key koff 40)
  | 1 => (1, slice p.key koff 48)
  | 2 => (2, beBytes 3 (p.reg s % 2 ^ 20))
  | _ => (if p.frame.src = 128 then 3 else if p.frame.src = 129 then 4 else 5, beBytes 2 (p.reg s % 2 ^ 16))

/-! ### Instructions (R239 to R242, R247, R249) -/

/-- What an instruction leads to. -/
inductive PRes where
  | go (p : Pass)
  /-- DEPTH with its counter (R242). -/
  | depth (c : Fld)
  /-- The pass ends; the counter of a conflict or missing destination, if any. -/
  | verdict (c : Option Fld) (v : Verdict)
  | recirc (wadv : Bool) (entry : Nat)

/-- R242: a read of `n` bytes at cursor + OFF, or DEPTH. -/
def Pass.window (p : Pass) (off n : Nat) (f : List Byte → Bool → Pass) : PRes :=
  if 256 < p.cursor + off + n then .depth PP_CNT_WINDOW
  else
    let (b, e) := p.read (p.cursor + off) n
    .go (f b e)

/-- LD. -/
def Pass.doLd (p : Pass) (d sz off : Nat) : PRes :=
  p.window off (2 ^ sz) (fun b e => { p.put d (beNat b) with fin := p.fin || e })

/-- KEY. -/
def Pass.doKey (p : Pass) (koff off len : Nat) : PRes :=
  p.window off (len + 1) (fun b e => { p.next with key := splice p.key koff b, fin := p.fin || e })

/-- ADV. -/
def Pass.doAdv (p : Pass) (mode s imm : Nat) : PRes :=
  let v := if mode % 2 = 0 then imm else p.reg s
  let c := if mode < 2 then p.cursor + v else v
  if 255 < c then .depth PP_CNT_WINDOW else .go { p.next with cursor := c }

/-- MARK (R241, R242). -/
def Pass.doMark (p : Pass) (n typ : Nat) : PRes :=
  if 12 ≤ n then .depth PP_CNT_MARKERS
  else .go { p.next with markers := p.markers.filter (fun m => m.1 != n) ++ [(n, p.wbase + p.cursor, typ)] }

/-- HASH: its result is asked for (R245). -/
def Pass.doHash (p : Pass) (seed d c v6 koff : Nat) : PRes :=
  let (t, sw) := canonTuple (v6 != 0) (slice p.key koff (if v6 = 0 then 13 else 37))
  .go { p.next with awaits := p.awaits ++ [.hash d (crc32c seed t) (if c = 0 then none else some (koff, t, sw))] }

/-- LOOKUP: its result is asked for (R251). -/
def Pass.doLookup (p : Pass) (d tbl koff s : Nat) : PRes :=
  let (t, k) := p.lookupKey tbl koff s
  .go { p.next with awaits := p.awaits ++ [.lookup d t k] }

/-- LCHK (R249). -/
def Pass.doLchk (p : Pass) (a mode b min : Nat) : PRes :=
  let rem : Int := ((p.limit : Nat) : Int) - ((p.wbase + p.cursor : Nat) : Int)
  let lo := if mode = 2 then p.reg b else min
  let hi : Int := if mode = 1 then ((p.reg b : Nat) : Int) else rem
  if p.reg a < lo then .verdict (some PP_CNT_LESS) (.lenConflict p.out)
  else if hi < ((p.reg a : Nat) : Int) then
    .verdict (some (if mode = 1 then PP_CNT_INNER else PP_CNT_GREATER)) (.lenConflict p.out)
  else .go p.next

/-- FWD (R247): the frame goes on, or to class PROGRAM with cause 0 NO_DEST or 1 BAD_DEST. -/
def Pass.doFwd (p : Pass) : PRes :=
  let q := p.mdata.getD 0 0
  let d := p.mdata.getD 1 0
  if d = 0 ∧ q = 0xFFFF then .verdict (some PP_CNT_NO_DEST) (.except p.out 0 0)
  else if (d = 0 ∧ 1088 ≤ bits q 0 12) ∨ (d = 1 ∧ (p.frame.src = 128 ∨ p.frame.src = 129)) ∨
      (d = 1 ∧ bits (p.mdata.getD 2 0) 14 2 = 3) ∨ 2 ≤ d then .verdict (some PP_CNT_BAD_DEST) (.except p.out 0 1)
  else .verdict none (.forward p.out)

/-- RECIRC (R242, R250). -/
def Pass.doRecirc (p : Pass) (wadv entry : Nat) : PRes :=
  if p.second then .depth PP_CNT_PASSES else .recirc (wadv != 0) entry

/-- Table 9-3: the effect of an instruction on its pass. -/
def Hw.execP (h : Hw) (p : Pass) : PInstr → PRes
  | .nop => .go p.next
  | .ld d sz off => p.doLd d sz off
  | .ldi d imm => .go (p.put d imm)
  | .ldih d imm => .go (p.put d (imm * 65536 + p.reg d % 65536))
  | .extb d s pos w => .go (p.put d ((p.reg s >>> pos) % 2 ^ (w + 1)))
  | .alu d a b fn => .go (p.put d (aluFn fn (p.reg a) (p.reg b)))
  | .alui d a fn imm => .go (p.put d (aluFn fn (p.reg a) imm))
  | .cmp a b =>
    let (e, l, g) := cmpFlags (p.reg a) (p.reg b)
    .go { p.next with eq := e, lt := l, gt := g }
  | .cmpi a imm =>
    let (e, l, g) := cmpFlags (p.reg a) imm
    .go { p.next with eq := e, lt := l, gt := g }
  | .bf cond target => .go (if condHolds cond p.eq p.lt p.gt p.fin then { p with pc := target } else p.next)
  | .adv mode s imm => p.doAdv mode s imm
  | .mark n typ => p.doMark n typ
  | .key koff off len => p.doKey koff off len
  | .keyr koff s sz => .go { p.next with key := splice p.key koff (beBytes (sz + 1) (p.reg s)) }
  | .hash d c v6 koff => p.doHash (h.cfgFor p.frame.epoch PARSER_CFG_HASH_SEED) d c v6 koff
  | .lookup d tbl koff s => p.doLookup d tbl koff s
  | .setm f s => .go (p.next.setMeta f (p.reg s))
  | .setmi f imm => .go (p.next.setMeta f imm)
  | .getm d f => .go (p.put d (p.mdata.getD f 0))
  | .lchk a mode b min => p.doLchk a mode b min
  | .fwd => p.doFwd
  | .exc cls => .verdict none (.except p.out cls 0)
  | .drop reason => .verdict none (.drop p.out (some reason))
  | .recirc wadv entry => p.doRecirc wadv entry

/-! ### Steps of a pass -/

/-- R248: DEPTH is counted; the handler runs, or the frame goes to class DEPTH. -/
def Hw.passDepth (h : Hw) (e : Nat) (p : Pass) (c : Fld) : Hw :=
  let h := h.inc c
  let a := h.entryOf p.frame.epoch 5
  if a = 0xFFFF ∨ p.handler = true then h.endPass e p (.except p.out 1 0)
  else
    let fl := p.mdata.getD 11 0
    h.setPass e { p with handler := true, budget := 32, pc := a, mdata := p.mdata.set 11 (putBit fl 2 true) }

/-- R250, R337: the frame goes for its second pass, which keeps its place in its tag; on a full list its
engine runs it at once. -/
def Hw.passRecirc (h : Hw) (e : Nat) (p : Pass) (wadv : Bool) (entry : Nat) : Hw :=
  let o := p.out
  let f := { o with carry := { o.carry with cursor := if wadv then 0 else p.cursor, wbase := if wadv then p.cursor else 0 } }
  let it := { p.item with work := .second f entry, list := p.item.home, stamp := h.stampNow }
  let h := h.when p.handler (fun h => h.inc PP_CNT_PARTIAL)
  match h.enqueue it.home it with
  | (h, true) => (h.setPk (fun k => { k with passes := k.passes.filter (fun x => x.1 != e) })).endService e
  | (_, false) => (h.inc SV_DISP_CNT_RECIRC_DIRECT).beginPass e it

/-- The result of an instruction acts. -/
def Hw.passGo (h : Hw) (e : Nat) (p : Pass) : PRes → Hw
  | .go p' => h.setPass e p'
  | .depth c => h.passDepth e p c
  | .verdict c v =>
    let h := match c with
      | some f => h.inc f
      | none => h
    h.endPass e p v
  | .recirc wadv entry => h.passRecirc e p wadv entry

/-- The gap G to the next sample (R350), drawn afresh. -/
def Hw.drawGap (h : Hw) (e : Nat) : Hw :=
  let j := h.cfg PC_CFG_SAMPLE_J
  let (v, h) := h.takeFree
  h.setPk (fun k => { k with gaps := store k.gaps e (h.cfg PC_CFG_SAMPLE_P - j / 2 + v % (j / 2 * 2 + 1)) })

/-- The sampling record of Table 13-7; LATENCY and CYCLE are free values (log entry 31, DESIGN CHOICE). -/
def Hw.sampleRecord (h : Hw) (e : Nat) (p : Pass) (w : Nat) : List Byte × Hw :=
  let (lat, h) := h.takeFree
  let (cyc, h) := h.takeFree
  (leBytes 1 e ++ leBytes 1 (b2n p.second + 2 * b2n (decide (1 < lat % 65536)) + 4 * b2n p.handler) ++ leBytes 2 p.pc ++ leBytes 4 w ++
    leBytes 2 (lat % 65536) ++ leBytes 2 p.frame.epoch ++ leBytes 4 p.frame.id ++ leBytes 8 h.tick ++
    leBytes 4 (cyc % 194400) ++ leBytes 4 h.pk.samples, h)

/-- INSTRUCTION_SAMPLE (R350). -/
def Hw.sampleWrite (h : Hw) (e : Nat) (p : Pass) (w : Nat) : Hw :=
  let r := 208 + h.cfg PC_CFG_SAMPLE_RING
  if 1 ≤ h.ringRoom r then
    let (b, h) := h.sampleRecord e p w
    let n := (h.ringAt r).prod
    let h := (h.emit (.capture r n b)).setRing r (fun s => { s with prod := n + 1 })
    ((h.setPk (fun k => { k with samples := k.samples + 1 })).inc PC_STAT_SAMPLES).ringMoved r (n + 1)
  else h.inc PC_STAT_SAMPLE_DROP

/-- R350: one executed instruction on engine e counts towards its gap. -/
def Hw.sample (h : Hw) (e : Nat) (p : Pass) (w : Nat) : Hw :=
  if bitOf (h.cfg PC_CFG_FLAGS) 1 then
    match h.pk.gaps.find? (fun g => g.1 == e) with
    | none => h.drawGap e
    | some (_, 0) => (h.sampleWrite e p w).drawGap e
    | some (_, n + 1) => h.setPk (fun k => { k with gaps := store k.gaps e n })
  else h

/-- Whether engine e can execute instruction `i` now: PACKET runs, the program of the frame's epoch holds its
word at the program counter, and no result that it reads is awaited (log entry 32, DEDUCED). -/
def Hw.canExec (h : Hw) (p : Pass) (i : PInstr) : Bool :=
  h.runs rgPacket && (h.progOf p.frame.epoch)[p.pc]? == some i.word && !p.waits i

/-- R239, R242, R243: engine e executes instruction `i`; the 257th of a pass raises DEPTH. -/
def Hw.parser (h : Hw) (e : Nat) (i : PInstr) : Hw :=
  match h.passAt? e with
  | none => h
  | some p =>
    if h.canExec p i then
      match p.budget with
      | 0 => h.passDepth e p PP_CNT_BUDGET
      | n + 1 =>
        let h := h.sample e p i.word
        let p := { p with budget := n }
        h.passGo e p (h.execP p i)
    else h

/-- The first awaited result that satisfies `q`, and the others. -/
def takeAwait (q : Await → Bool) : List Await → Option (Await × List Await)
  | [] => none
  | a :: t => if q a then some (a, t) else (takeAwait q t).map (fun x => (x.1, a :: x.2))

/-- HASH_RESULT (R243, R245): the hash of register d arrives on engine e. -/
def Hw.hashResult (h : Hw) (e d : Nat) : Hw :=
  match h.passAt? e with
  | none => h
  | some p =>
    match takeAwait (fun a => !a.isLookup && a.regs.contains d) p.awaits with
    | some (.hash d v back, rest) =>
      let p := { p with awaits := rest, g := p.g.set d v }
      h.setPass e (match back with
        | none => p
        | some (koff, t, sw) => { p with key := splice p.key koff t, mdata := p.mdata.set 11 (putBit (p.mdata.getD 11 0) 0 sw) })
    | _ => h

/-- R254: an uncorrectable error in the entry that a lookup reads: the lookup misses and the entry stays
invalid. -/
def Hw.eccMiss (h : Hw) (t : TblEntry) : Hw :=
  let h := (h.inc PP_TBL_STAT_ECC_MISS t.tbl).setPk (fun k => { k with
    tables := k.tables.map (fun x => if x = t then { t with bad := true } else x) })
  h.recordOf sevWarn (0x5010 + min t.tbl 3) PP_TBL_STAT_ECC_MISS t.tbl 0 (leBytes 1 t.tbl ++ leBytes 2 t.slot)

/-- R251, R252: what a lookup's result does to the pass. -/
def Pass.lookupDone (p : Pass) (d tbl : Nat) (hit : Option TblEntry) : Pass :=
  match hit with
  | none => { p with g := (p.g.set d 0).set ((d + 1) % 8) 0, eq := false, lt := false, gt := false }
  | some t =>
    let p := { p with g := (p.g.set d t.r0).set ((d + 1) % 8) t.r1, eq := true, lt := false, gt := false }
    if tbl = 0 then
      let m := p.mdata.set 6 t.slot
      { p with mdata := if t.aux = 1 then m.set 11 (putBit (m.getD 11 0) 1 true) else m }
    else p

/-- LOOKUP_RESULT (R251, R252, R254): the lookup into register d returns on engine e; `err` says that the
entry read has an uncorrectable error. -/
def Hw.lookupResult (h : Hw) (e d : Nat) (err : Bool) : Hw :=
  match h.passAt? e with
  | none => h
  | some p =>
    match takeAwait (fun a => a.isLookup && a.regs.head? == some d) p.awaits with
    | some (.lookup d tbl key, rest) =>
      let p := { p with awaits := rest }
      match h.tableHit tbl p.frame.epoch key with
      | none => h.setPass e (p.lookupDone d tbl none)
      | some t => if err then (h.eccMiss t).setPass e (p.lookupDone d tbl none) else h.setPass e (p.lookupDone d tbl (some t))
    | _ => h

/-- R257: the pass of engine e is abandoned and restarted from its own start on another engine. -/
def Hw.redispatch (h : Hw) (e : Nat) : Hw :=
  match h.passAt? e with
  | none => h
  | some p =>
    let h := (h.setPk (fun k => { k with passes := k.passes.filter (fun x => x.1 != e) })).endService e
    let h := h.inc PP_CNT_REDISPATCH
    h.setList p.item.home (insertBy h.itemBefore { p.item with list := p.item.home } (h.listAt p.item.home))

/-! ### XGEM admission (R255, R118) -/

/-- The management XGEM port of attachment a: HD_SWIDAN_CFG, where 0xFFFF means the OMCI port, which the
standard associates with the terminal identifier (Table 4-14). -/
def Hw.mgmtPort (h : Hw) (a : Nat) : Nat :=
  let p := h.rd HD_SWIDAN_CFG_XGEM_PORT a
  if p = 0xFFFF then h.rd LN_ATT_STATUS_TERM_ID a else p

/-- R118: a frame on the management port that carries the Swidan EtherType. -/
def Hw.isSwidan (h : Hw) (a port : Nat) (b : List Byte) : Bool :=
  port == h.mgmtPort a && beNat (slice b 12 2) == h.rd HD_SWIDAN_CFG_ETHERTYPE a

/-- R118: a Swidan frame that firmware discards: signature, version, type, length. -/
def swidanBad (b : List Byte) : Bool :=
  let t := beNat (slice b 18 1)
  beNat (slice b 14 4) != 0x5357444E || beNat (slice b 19 1) != 1 || !([1, 2, 5, 6, 8, 9] : List Nat).contains t ||
  decide (b.length < 24 + beNat (slice b 22 2))

/-- R255: the lookup of the XGEM map for a frame of attachment a, delineated and decrypted. -/
def Hw.xgemLook (h : Hw) (a : Nat) (f : Frame) : Hw :=
  match h.tableHit (3 + a) f.epoch (beBytes 2 f.xgem) with
  | none => h.inc PP_XGEM_CNT_MISS a
  | some t =>
    if t.aux = 2 then h.inc PP_XGEM_CNT_MISS a
    else if t.aux = 1 then
      let h := h.inc PP_XGEM_CNT_MGMT a
      if h.isSwidan a f.xgem f.bytes && swidanBad f.bytes then h.inc HD_HERD_CNT_SW_DISC a
      else
        match h.takeBuf f with
        | (some f, h) => h.sendExc f 3 0
        | (none, h) => h
    else h.enterFirst { f with res := (t.r0, t.r1) }

/-- R34, R255: an XGEM frame in the clear, with its payload `b`, on `port` of attachment a takes its tag and is looked up. -/
def Hw.xgemAdmit (h : Hw) (a port : Nat) (b : List Byte) (err : Bool) : Hw :=
  let (f, h) := h.newFrame b 0 (128 + a) err
  h.xgemLook a { f with xgem := port }

end Sys2Proof.Machine
end

