-- ==== Sys2Proof/Machine/Cipher.lean ====
section
/-! DEFINITION. Cipher lanes, the key store and MACsec secure associations (chapter 12: R300 to R326). -/

namespace Sys2Proof.Machine

/-! ### Slots (R305 to R309, Table 12-5) -/

/-- Slot states of Table 12-17. -/
def slEmpty : Nat := 0
def slValid : Nat := 1
def slErase : Nat := 2

/-- USE bits of Table 12-4. -/
def useBit (use k : Nat) : Bool := bitOf use k

def Hw.slotState (h : Hw) (s : Nat) : Nat := h.rd CX_SLOT_ATTR_STATE s

def Hw.slotGen (h : Hw) (s : Nat) : Nat := h.rd CX_SLOT_ATTR_GEN s

/-- The slots that are not EMPTY. -/
def Hw.usedSlots (h : Hw) : List Nat :=
  (h.regs.filter (fun e => decide (e.1.reg = RegName.CX_SLOT_ATTR ∧ e.1.lsb = 40 ∧ e.2 ≠ 0))).map (fun e => e.1.i)

/-- SLOTS_USED counts the slots VALID or ERASE_PENDING. -/
def Hw.showUsed (h : Hw) : Hw := h.wr CX_KS_STATUS_SLOTS_USED h.usedSlots.length

/-- Work in progress bound to a slot and generation. -/
def Hw.workOn (h : Hw) (s g : Nat) : Bool := h.ks.works.any (fun w => w.slot == s && w.gen == g && !w.done)

/-- The store is locked (R314). -/
def Hw.ksLocked (h : Hw) : Bool := h.on CX_KS_STATUS_ALARM

/-- The key of a slot is zeroised and the slot is EMPTY. -/
def Hw.slotZero (h : Hw) (s : Nat) : Hw :=
  ({ h with ks := { h.ks with keys := h.ks.keys.filter (fun k => k.1 != s), erasing := h.ks.erasing.filter (fun e => e.1 != s) } }.wr
    CX_SLOT_ATTR_STATE slEmpty s).showUsed

/-- R307: the write takes effect: generation + 1, VALID, with its attributes. -/
def Hw.slotPut (h : Hw) (w : SlotWrite) : Hw :=
  let h := { h with ks := { h.ks with keys := store h.ks.keys w.slot w.key } }
  let h := h.wr CX_SLOT_ATTR_GEN (h.slotGen w.slot + 1) w.slot
  let h := (h.wr CX_SLOT_ATTR_STATE slValid w.slot).wr CX_SLOT_ATTR_TYPE w.typ w.slot
  ((h.wr CX_SLOT_ATTR_USE w.use w.slot).wr CX_SLOT_ATTR_EXPORTABLE w.exp w.slot).wr CX_SLOT_ATTR_ORIGIN w.origin w.slot |>.showUsed

/-- R308: whether a write into the slot must wait. -/
def Hw.slotBusy (h : Hw) (s : Nat) : Bool :=
  h.slotState s == slErase ||
  (h.slotState s == slValid && h.workOn s (h.slotGen s) &&
    (h.ks.shadows.any (fun x => x.slot == s) || decide (256 ≤ h.ks.shadows.length)))

/-- R307, R308: a write into a slot: the old key goes to a shadow while work bound to it runs. The flag
says that the write took effect; otherwise it is held. -/
def Hw.slotWrite (h : Hw) (w : SlotWrite) : Hw × Bool :=
  if h.slotBusy w.slot then ({ h with ks := { h.ks with held := h.ks.held ++ [w] } }, false)
  else
    let g := h.slotGen w.slot
    let h := if h.slotState w.slot = slValid ∧ h.workOn w.slot g then
        { h with ks := { h.ks with shadows := h.ks.shadows ++
          [{ slot := w.slot, gen := g, key := look h.ks.keys w.slot 0, since := h.clk.ut }] } }
      else h
    (h.slotPut w, true)

/-- Table 12-5: an erase. -/
def Hw.slotErase (h : Hw) (s : Nat) : Hw :=
  if h.slotState s = slValid then
    if h.workOn s (h.slotGen s) then
      ({ h with ks := { h.ks with erasing := store h.ks.erasing s h.clk.ut } }).wr CX_SLOT_ATTR_STATE slErase s
    else h.slotZero s
  else h

/-- The generation of a slot as a command's RESULT (Table 12-10, note (a)). -/
def Hw.genResult (h : Hw) (s : Nat) : Nat := h.slotGen s

/-- Held writes are tried again in order. -/
def Hw.retryHeld (h : Hw) : Hw :=
  let l := h.ks.held
  l.foldl (fun h w =>
    let (h, ok) := h.slotWrite w
    if ok then
      match w.cmd with
      | some (r, c) => h.completeOpen (fun o => o.ring == r && o.cmdId == c) stOk 0 (h.genResult w.slot)
      | none => h
    else h) { h with ks := { h.ks with held := [] } }

/-- KEY_ERASE commands whose last slot is EMPTY complete. -/
def Hw.finishErases (h : Hw) : Hw :=
  h.ks.erases.foldl (fun h e =>
    let (r, c, first, n) := e
    if h.ks.erasing.any (fun x => first ≤ x.1 && x.1 < first + n) then h
    else ({ h with ks := { h.ks with erases := h.ks.erases.erase e } }).completeOpen
      (fun o => o.ring == r && o.cmdId == c) stOk 0 (h.genResult first)) h

/-- R308: work has ended: shadows without work are released, ERASE_PENDING slots without work are zeroised,
and what waited for them goes on. -/
def Hw.ksSettle (h : Hw) : Hw :=
  let h := { h with ks := { h.ks with shadows := h.ks.shadows.filter (fun x => h.workOn x.slot x.gen) } }
  let h := h.ks.erasing.foldl (fun h e => if h.workOn e.1 (h.slotGen e.1) then h else h.slotZero e.1) h
  h.retryHeld.finishErases

/-- The frame of work that is abandoned is dropped. -/
def Hw.workDrop (h : Hw) (w : CipherWork) : Hw :=
  match w.frame with
  | some f => h.freed f
  | none => h

/-- R314: zeroisation by cause `c` of Table 12-7. Every slot loses key, shadows and attributes and keeps
its generation; the DKEK is erased; work is abandoned and counted; the store locks. -/
def Hw.zeroise (h : Hw) (c : Nat) : Hw :=
  let h := (h.each h.ks.works Hw.workDrop).inc CX_LANE_CNT_KEY_ABSENT 0 0 h.ks.works.length
  let h := { h with
    regs := h.regs.filter (fun e => decide (¬(e.1.reg = RegName.CX_SLOT_ATTR ∧ e.1.lsb ≠ 48)))
    ks := { h.ks with works := [], keys := [], shadows := [], held := [], erasing := [], dkek := 0 } }
  let h := ((h.wr CX_KS_STATUS_DKEK_VALID 0).wr CX_KS_STATUS_SLOTS_USED 0).finishErases
  ((h.wr CX_KS_STATUS_ALARM 1).wr CX_KS_STATUS_CAUSE c).recordOther sevCritical 0x5040 2 (leBytes 1 c)

/-! ### Ownership of attachment slots (R306) -/

/-- First key slot of attachment a. -/
def Hw.keyBase (h : Hw) (a : Nat) : Nat := 8 * h.rd LN_ATT_CTRL_KEY_BASE a

/-- The attachment, not in OFF, to which a slot belongs. -/
def Hw.slotOwner (h : Hw) (s : Nat) : Option Nat :=
  (List.range 2).find? (fun a => decide (h.keyBase a ≤ s ∧ s < h.keyBase a + 8) && h.rd LN_ATT_STATUS_STATE a != 0)

/-- R306, R381: RESULT of a CONFLICT over key slot `s` of attachment a. -/
def keyConflict (a s : Nat) : Nat := (0x9E00 + a) * 2 ^ 16 + 6 * 2 ^ 32 + s * 2 ^ 40

/-- A host key command on slot `s`: locked, range and ownership checks, then `f`. -/
def Hw.onSlot (h : Hw) (s : Nat) (f : Hw → Hw × Ans) : Hw × Ans :=
  if h.ksLocked then (h, .fail stGatedCode)
  else if 8192 ≤ s then (h, .fail stRange)
  else
    match h.slotOwner s with
    | some a => (h, .fail stConflict (keyConflict a s))
    | none => f h

/-- R311: the wrapping key: the DKEK, or a VALID slot with USE KEK. -/
def Hw.kek (h : Hw) (wrap kekSlot : Nat) : Except Nat Nat :=
  if wrap = 0 then if h.on CX_KS_STATUS_DKEK_VALID then .ok h.ks.dkek else .error stKeyAbsent
  else if wrap = 1 ∧ kekSlot < 8192 then
    if h.slotState kekSlot != slValid then .error stKeyAbsent
    else if useBit (h.rd CX_SLOT_ATTR_USE kekSlot) 2 then .ok (look h.ks.keys kekSlot 0)
    else .error stRange
  else .error stRange

/-- The computations of the standards, by number, for `Config.cipherBytes` and `Config.cipherOk`. -/
def fnUnwrap : Nat := 1
def fnWrap : Nat := 2
def fnFusedWrap : Nat := 3
def fnKeyReport : Nat := 4
def fnDerive : Nat := 5

/-- KEY_LOAD (R311, Tables 12-6 and 12-10): `blob` is what the DMA read at the host address. -/
def Hw.keyLoad (h : Hw) (hd : CmdHdr) (slot wrap kekSlot len addr : Nat) (blob : List Byte) : Hw × Ans :=
  h.onSlot slot (fun h =>
    if addr % 8 != 0 then (h, .fail stAlign)
    else if len != 32 && len != 48 then (h, .fail stRange)
    else
      match h.kek wrap kekSlot with
      | .error e => (h, .fail e)
      | .ok k =>
        let args := k :: blob.map (fun b => b.toNat)
        let pt := Config.cipherBytes fnUnwrap args
        let typ := (pt.getD 0 0).toNat
        let flags := (pt.getD 2 0).toNat
        if Config.cipherOk fnUnwrap args = false ∨ typ ≠ (if len = 32 then 0 else 1) ∨ 32 ≤ (pt.getD 1 0).toNat ∨ 2 ≤ flags then
          (h, .fail stRange)
        else
          let w : SlotWrite := { slot := slot, key := beNat (slice pt 8 (if len = 32 then 16 else 32)), typ := typ
                                 use := (pt.getD 1 0).toNat, exp := flags, origin := 0, cmd := some (hd.ring, hd.cmdId) }
          match h.slotWrite w with
          | (h, true) => (h, .ok (h.genResult slot))
          | (h, false) => (h, .later))

/-- KEY_GEN (R311, R312). -/
def Hw.keyGen (h : Hw) (hd : CmdHdr) (slot typ use flags : Nat) : Hw × Ans :=
  h.onSlot slot (fun h =>
    if 2 ≤ typ ∨ 32 ≤ use ∨ 2 ≤ flags then (h, .fail stRange)
    else if !h.on CX_KS_STATUS_TRNG_OK then (h, .fail stBusy)
    else
      let (k, h) := h.takeFree
      let w : SlotWrite := { slot := slot, key := k % 2 ^ (if typ = 0 then 128 else 256), typ := typ, use := use
                             exp := flags, origin := 1, cmd := some (hd.ring, hd.cmdId) }
      match h.slotWrite w with
      | (h, true) => (h, .ok (h.genResult slot))
      | (h, false) => (h, .later))

/-- KEY_EXPORT (R311). -/
def Hw.keyExport (h : Hw) (slot wrap kekSlot dest : Nat) : Hw × Ans :=
  h.onSlot slot (fun h =>
    if dest % 8 != 0 then (h, .fail stAlign)
    else if !h.on CX_SLOT_ATTR_EXPORTABLE slot then (h, .fail stRange)
    else if h.slotState slot != slValid then (h, .fail stKeyAbsent)
    else
      match h.kek wrap kekSlot with
      | .error e => (h, .fail e)
      | .ok k =>
        let head := [h.rd CX_SLOT_ATTR_TYPE slot, h.rd CX_SLOT_ATTR_USE slot, h.rd CX_SLOT_ATTR_EXPORTABLE slot]
        (h.emit (.hostWrite dest (Config.cipherBytes fnWrap (k :: look h.ks.keys slot 0 :: head))), .ok (h.genResult slot)))

/-- KEY_ERASE (R308, R306): slots `slot` to `slot + count − 1`. -/
def Hw.keyErase (h : Hw) (hd : CmdHdr) (slot count : Nat) : Hw × Ans :=
  if h.ksLocked then (h, .fail stGatedCode)
  else if count = 0 ∨ 8192 < slot + count then (h, .fail stRange)
  else
    let hits := h.usedSlots.filter (fun s => slot ≤ s && s < slot + count)
    let owned := (List.range 2).find? (fun a => h.rd LN_ATT_STATUS_STATE a != 0 &&
      decide (h.keyBase a < slot + count ∧ slot < h.keyBase a + 8))
    match owned with
    | some a => (h, .fail stConflict (keyConflict a (max slot (h.keyBase a))))
    | none =>
      let h := h.each hits Hw.slotErase
      if hits.any (fun s => h.slotState s == slErase) then
        ({ h with ks := { h.ks with erases := h.ks.erases ++ [(hd.ring, hd.cmdId, slot, count)] } }, .later)
      else (h.retryHeld, .ok (h.genResult slot))

/-- KEY_ZEROISE (R314, cause 5). -/
def Hw.keyZeroise (h : Hw) : Hw × Ans := if h.ksLocked then (h, .fail stGatedCode) else (h.zeroise 5, .ok)

/-- DKEK_PROVISION (R310): `key` is the DKEK that the DMA read at `src`. -/
def Hw.dkekProvision (h : Hw) (src dest key : Nat) : Hw × Ans :=
  if h.ksLocked then (h, .fail stGatedCode)
  else if src % 8 != 0 || dest % 8 != 0 then (h, .fail stAlign)
  else if h.on CX_KS_STATUS_DKEK_VALID then (h, .fail stConflict)
  else
    let h := ({ h with ks := { h.ks with dkek := key } }).wr CX_KS_STATUS_DKEK_VALID 1
    (h.emit (.hostWrite dest (Config.cipherBytes fnFusedWrap [key])), .ok)

/-- R94, R307: firmware makes the key store generate a data key into `slot`. -/
def Hw.fwKeyGen (h : Hw) (slot : Nat) : Hw :=
  let (k, h) := h.takeFree
  (h.slotWrite { slot := slot, key := k % 2 ^ 128, typ := 0, use := 1, exp := 0, origin := 1, cmd := none }).1

/-- R96: the eight slots of attachment a are erased. -/
def Hw.eraseAttKeys (h : Hw) (a : Nat) : Hw := h.each (List.range 8) (fun h k => h.slotErase (h.keyBase a + k))

/-! ### Zeroisation, alarm and TRNG (R312, R314) -/

/-- CX_KS_ZEROISE (R314): a write of CX_KS_CTRL with ZEROISE. -/
def Hw.ksZeroiseWrite (h : Hw) (v : Nat) : Hw := if bitOf v 1 then h.zeroise 5 else h

/-- ALARM_CLR (R314): a write of CX_KS_CTRL with ALARM_CLR; `ended` says whether a sensor cause has ended.
The DKEK is reloaded from the boot image. -/
def Hw.alarmClr (h : Hw) (v : Nat) (ended : Bool) : Hw :=
  let c := h.rd CX_KS_STATUS_CAUSE
  let ovr := if 2 ≤ c ∧ c ≤ 4 then ended else if c = 6 then !h.ks.scan else true
  if bitOf v 0 && h.ksLocked && ovr then
    let h := (h.wr CX_KS_STATUS_ALARM 0).wr CX_KS_STATUS_CAUSE 0
    match h.ks.imageDkek with
    | some k => ({ h with ks := { h.ks with dkek := k } }).wr CX_KS_STATUS_DKEK_VALID 1
    | none => h
  else h

/-- ZEROISE_SENSOR (R314): a sensor leaves its window, with cause 2 to 4. -/
def Hw.zeroiseSensor (h : Hw) (cause : Nat) : Hw := if 2 ≤ cause ∧ cause ≤ 4 then h.zeroise cause else h

/-- TRNG_HEALTH_FAIL (R312). -/
def Hw.trngFail (h : Hw) : Hw := (h.wr CX_KS_STATUS_TRNG_OK 0).recordOther sevMajor 0x5040 3

/-- TRNG_HEALTH_PASS (R312). -/
def Hw.trngPass (h : Hw) : Hw := h.wr CX_KS_STATUS_TRNG_OK 1

/-- SCAN_ACCESS_ENABLE (R305): every slot is zeroised, then scan access is enabled. -/
def Hw.scanEnable (h : Hw) : Hw :=
  let h := h.zeroise 6
  { h with ks := { h.ks with scan := true } }

/-! ### Lanes (R300 to R304) -/

/-- Home clusters of Table 12-2. -/
def homeCluster (path : Nat) : Nat := min path 7

/-- Lane l is in service and free. -/
def Hw.laneFree (h : Hw) (l : Nat) : Bool :=
  bitOf (h.rd CX_LANE_STATUS_IN_SERVICE) l && bitOf (h.rd CX_CLU_STATUS_IN_SERVICE) (l / 16) &&
  !h.ks.works.any (fun w => w.lane == l && !w.done)

/-- R302: the lane that serves a path: the first free one of its home cluster, then of the next. -/
def Hw.pickLane (h : Hw) (path : Nat) : Option Nat :=
  ((List.range 128).map (fun n => (16 * homeCluster path + n) % 128)).find? h.laneFree

/-- The lane's cluster has work: it wakes, and its entry conditions count from now (R436). -/
def Hw.clusterWork (h : Hw) (lane : Nat) : Hw :=
  let k := 32 + lane / 16
  let b := look h.pw.blks k {}
  { h with pw := { h.pw with blks := store h.pw.blks k { b with lastWork := h.clk.ut, wakeNow := true } } }

/-- FLAGS bits of a CX_SC object. -/
def Hw.scFlag (h : Hw) (k b : Nat) : Bool := bitOf (h.cfg CX_SC_FLAGS k) b

def Hw.scAt (h : Hw) (k : Nat) : ScSt := look h.ks.scs k {}

def Hw.setSc (h : Hw) (k : Nat) (f : ScSt → ScSt) : Hw :=
  { h with ks := { h.ks with scs := store h.ks.scs k (f (h.scAt k)) } }

def ScSt.sa (s : ScSt) (an : Nat) : Option SaSt := (s.sas.find? (fun p => p.1 == an)).map Prod.snd

/-- The last packet number of a channel's suite (R325). -/
def Hw.pnLast (h : Hw) (k : Nat) : Nat := if 2 ≤ h.cfg CX_SC_SUITE k then 2 ^ 64 - 1 else 2 ^ 32 - 1

/-- R325: a frame finds no usable SA: counted, and the first drop of each SA is recorded. -/
def Hw.scNosa (h : Hw) (k : Nat) (an : Option Nat) : Hw :=
  let h := h.inc CX_SC_CNT_NOSA k
  match an with
  | none => h
  | some an =>
    match (h.scAt k).sa an with
    | none => h
    | some s =>
      if s.nosa then h
      else (h.setSc k (fun c => { c with sas := store c.sas an { s with nosa := true } })).recordOf sevWarn 0x5040 CX_SC_CNT_NOSA k

/-! ### Work (R302, R307 to R309)

A stream is numbered: 4a + c downstream channel c of attachment a, 8 + a its herd, 16 + 2a + u upstream channel u, 32 + k
secure channel k. -/

/-- The row of Table 12-2 of a stream. -/
def Hw.streamPath (h : Hw) (st : Nat) : Nat :=
  if st < 8 then st / 4
  else if st < 10 then st - 8
  else if st < 32 then 2
  else (if h.scFlag (st - 32) 1 then 3 else 5) + h.cfg CX_SC_PORT (st - 32) / 64

/-- R307: work on a slot and a lane of its stream, bound to the slot's generation. -/
def Hw.newWork (h : Hw) (wid stream slot lane : Nat) : CipherWork :=
  { wid := wid, path := h.streamPath stream, stream := stream, slot := slot, gen := h.slotGen slot, lane := lane
    retry := false, done := false, sa := none }

/-- The work is on its lane. -/
def Hw.addWork (h : Hw) (w : CipherWork) : Hw :=
  { h with ks := { h.ks with works := h.ks.works ++ [w] } }.clusterWork w.lane

/-- A waiting frame leaves the queue. -/
def Hw.unwait (h : Hw) (x : CipherWait) : Hw := { h with ks := { h.ks with waits := h.ks.waits.erase x } }

/-- `n` octets of a computation of Table 0-5's standards (log entry 9, DESIGN CHOICE). -/
def cipherOut (fn n : Nat) (args : List Nat) : List Byte :=
  let o := Config.cipherBytes fn args
  (List.range n).map (fun i => o.getD i 0)

def fnPonCtr : Nat := 6
def fnSecSeal : Nat := 7
def fnSecOpen : Nat := 8

/-! ### PON encryption (R317 to R320) -/

/-- R317: a port that the attachment's CX_PON lists. -/
def Hw.isBcast (h : Hw) (a port : Nat) : Bool :=
  (List.range (h.cfg CX_PON_NBCAST a)).any (fun i => bits (h.cfg CX_PON_BCAST_PORTS a) (16 * i) 16 == port)

/-- R317: the slot that key index 1 or 2 selects on a port. -/
def Hw.ponSlot (h : Hw) (a port key : Nat) : Nat := h.keyBase a + (if h.isBcast a port then 2 else 0) + (key - 1)

/-- R320: whether a clear downstream frame is taken. -/
def Hw.clearTaken (h : Hw) (a port : Nat) : Bool := port == h.mgmtPort a || bitOf (h.cfg CX_PON_FLAGS a) 2

/-- R317: an encrypted XGEM frame of channel `src`, 4 for the herd, takes its tag and waits for its cipher work. -/
def Hw.ponWait (h : Hw) (a src port key : Nat) (b : List Byte) (err : Bool) : Hw :=
  let (f, h) := h.newFrame b 0 (128 + a) err
  let st := if src = 4 then 8 + a else 4 * a + src
  { h with ks := { h.ks with waits := h.ks.waits ++ [{ stream := st, slot := h.ponSlot a port key, frame := { f with xgem := port } }] } }

/-- R309, R320: the cipher work of a downstream frame. -/
def Hw.issueDown (h : Hw) (wid : Nat) (x : CipherWait) : Hw :=
  if h.slotState x.slot ≠ slValid then
    ((h.unwait x).inc CX_LANE_CNT_KEY_ABSENT).inc CX_PON_CNT_DS_KEY_ABSENT (x.frame.src - 128)
  else
    match h.pickLane (h.streamPath x.stream) with
    | none => h
    | some l =>
      let out := cipherOut fnPonCtr x.frame.bytes.length (look h.ks.keys x.slot 0 :: x.stream :: x.frame.id :: x.frame.bytes.map (fun b => b.toNat))
      (h.unwait x).addWork { h.newWork wid x.stream x.slot l with frame := some { x.frame with bytes := out } }

/-- R319: whether upstream frames of a port are encrypted. -/
def Hw.upEnc (h : Hw) (a port : Nat) : Bool :=
  bitOf (h.cfg CX_PON_FLAGS a) (if port = h.mgmtPort a then 1 else 0)

/-- A frame is taken out of a staging area. -/
def StageSt.without (s : StageSt) (fid : Nat) : StageSt :=
  { frames := s.frames.filter (fun x => x.2.id != fid)
    sent := if (s.frames.head?.map (fun x => x.2.id)) = some fid then 0 else s.sent }

/-- R319, R320: the cipher work of the upstream frame `fid` in a staging area of attachment a, with the key index that the
standard's procedure has in force; without a usable key the frame leaves the staging area. -/
def Hw.issueUp (h : Hw) (wid stream port key fid : Nat) : Hw :=
  let a := (stream - 16) / 2
  let here (x : Nat × StageSt) : Bool := x.1 / 64 == a && x.2.frames.any (fun y => y.2.id == fid)
  if h.upEnc a port then
    match h.pk.stages.find? here with
    | none => h
    | some (k, s) =>
      let slot := h.keyBase a + (key - 1)
      if key = 0 ∨ h.slotState slot ≠ slValid then
        let h := h.when (key != 0) (fun h => h.inc CX_LANE_CNT_KEY_ABSENT)
        let h := ((h.setStage k (s.without fid)).showStage k).inc CX_PON_CNT_US_KEY_ABSENT a
        h.each ((s.frames.filter (fun y => y.2.id == fid)).map Prod.snd) Hw.freed
      else
        match h.pickLane 2 with
        | none => h
        | some l => h.addWork (h.newWork wid stream slot l)
  else h

/-! ### MACsec frames (R321 to R326; IEEE 802.1AE: log entry 82, PRESUMED) -/

/-- The octets that MACsec adds: SecTAG of 8 or 16 and an ICV of 16 (R321, R324). -/
def Hw.secExpand (h : Hw) (k : Nat) : Nat := (if h.scFlag k 3 then 16 else 8) + 16

/-- The SCI of channel k, as its octets spell it. -/
def Hw.scSci (h : Hw) (k : Nat) : Nat := netOrder 8 (h.cfg CX_SC_SCI k)

/-- R326: the SA for the next AN takes over at the next tick boundary once the current one has reached
PN_THR. -/
def Hw.autoSwitch (h : Hw) (k an pn : Nat) : Hw :=
  let nx := (an + 1) % 4
  if h.scFlag k 6 ∧ h.cfg CX_SC_PN_THR k ≤ pn ∧ (h.scAt k).next = none ∧ ((h.scAt k).sa nx).isSome then
    h.setSc k (fun c => { c with next := some (nx, none) })
  else h

/-- R324: frame f of channel k, after its EDIT, under packet number pn: SecTAG, protected data and ICV. -/
def Hw.seal (h : Hw) (k an : Nat) (s : SaSt) (f : Frame) : Frame :=
  let b := f.edited
  let data := b.drop 12
  let enc := h.scFlag k 2
  let tci := (if h.scFlag k 3 then 0x20 else 0) + (if enc then 0x0C else 0) + an
  let tag := beBytes 2 0x88E5 ++ beBytes 1 tci ++ beBytes 1 (if data.length < 48 then data.length else 0) ++ beBytes 4 (s.pn % 2 ^ 32) ++
    (if h.scFlag k 3 then beBytes 8 (h.scSci k) else [])
  let args := [look h.ks.keys s.slot 0, h.cfg CX_SC_SUITE k, h.scSci k, s.ssci, s.salt, s.pn] ++ (b.take 12 ++ tag ++ data).map (fun x => x.toNat)
  let out := cipherOut fnSecSeal (data.length + 16) args
  { f with bytes := b.take 12 ++ tag ++ (if enc then out.take data.length else data) ++ out.drop data.length, fcs := 0
           carry := { f.carry with mdata := f.carry.mdata.set 8 0 } }

/-- R324, R325: the cipher work of a transmit frame: its packet number and its lane. -/
def Hw.issueTx (h : Hw) (wid : Nat) (x : CipherWait) : Hw :=
  let k := x.stream - 32
  let p := h.cfg CX_SC_PORT k
  let gone (h : Hw) : Hw := (h.unwait x).freed x.frame
  if min (h.cfg PF_PORT_MAX_FRAME p) 9728 < x.frame.edited.length + 4 + h.secExpand k then (gone h).inc CX_PORT_CNT_TOO_LONG p
  else
    match (h.scAt k).cur.bind (fun an => ((h.scAt k).sa an).map (fun s => (an, s))) with
    | none => (gone h).scNosa k (h.scAt k).cur
    | some (an, s) =>
      if h.pnLast k < s.pn then (gone h).scNosa k (some an)
      else if h.slotState s.slot ≠ slValid then ((gone h).inc CX_LANE_CNT_KEY_ABSENT).scNosa k (some an)
      else
        match h.pickLane (h.streamPath x.stream) with
        | none => h
        | some l =>
          let hit := s.pn == h.cfg CX_SC_PN_THR k && !s.thr
          let h := (h.unwait x).addWork { h.newWork wid x.stream s.slot l with sa := some (k, an, s.pn), frame := some (h.seal k an s x.frame) }
          let h := h.setSc k (fun c => { c with sas := store c.sas an { s with pn := s.pn + 1, thr := s.thr || hit } })
          let h := h.when hit (fun h => h.eventCipher 0x0010
            (leBytes 2 k ++ leBytes 1 an ++ leBytes 1 0 ++ leBytes 2 (h.slotGen s.slot) ++ leBytes 6 0)
            (leBytes 8 s.pn ++ leBytes 4 0))
          h.autoSwitch k an s.pn

/-- The parts of a frame with a SecTAG: TCI and AN, packet number, SCI where it carries one, and its user data. -/
structure SecTag where
  tci  : Nat
  pn   : Nat
  sci  : Option Nat
  size : Nat
  data : List Byte
  icv  : List Byte
  deriving DecidableEq, Repr

def secTag (f : Frame) : SecTag :=
  let b := f.bytes.take (f.bytes.length - f.fcs)
  let tci := beNat (slice b 14 1)
  let size := if bitOf tci 5 then 16 else 8
  let sl := beNat (slice b 15 1) % 64
  let rest := b.drop (12 + size)
  let n := if sl = 0 then rest.length - 16 else min sl (rest.length - 16)
  { tci := tci, pn := beNat (slice b 16 4), sci := if bitOf tci 5 then some (beNat (slice b 20 8)) else none, size := size
    data := rest.take n, icv := slice rest n 16 }

/-- The enabled receive channels of port n (R322). -/
def Hw.rxChans (h : Hw) (e n : Nat) : List Nat :=
  (instances (h.storeOf e) .CX_SC).filter (fun k => bits (h.cfgFor e CX_SC_FLAGS k) 0 2 == 3 && h.cfgFor e CX_SC_PORT k == n)

/-- R322: the receive channel of a frame with a SecTAG. -/
def Hw.rxChan (h : Hw) (n : Nat) (f : Frame) : Option Nat :=
  (h.rxChans f.epoch n).find? (fun k =>
    match (secTag f).sci with
    | some x => netOrder 8 (h.cfgFor f.epoch CX_SC_SCI k) == x
    | none => bitOf (h.cfgFor f.epoch CX_SC_FLAGS k) 5)

/-- R321, R323: a frame of port n before the parser pass. -/
def Hw.secEnter (h : Hw) (n : Nat) (f : Frame) : Hw :=
  let et := beNat (slice f.bytes 12 2)
  if et = 0x88E5 then
    match h.rxChan n f with
    | none => h.inc CX_PORT_CNT_NOSC n
    | some k => { h with ks := { h.ks with waits := h.ks.waits ++ [{ stream := 32 + k, frame := f }] } }
  else if et ≠ 0x888E ∧ (h.rxChans f.epoch n).any (fun k => h.cfgFor f.epoch CX_SC_VALIDATE k == 2) then h.inc CX_PORT_CNT_UNTAGGED n
  else h.enterFirst f

/-- A frame without its SecTAG and ICV, with user data `d`. -/
def Frame.untag (f : Frame) (d : List Byte) : Frame :=
  { f with bytes := f.bytes.take 12 ++ d ++ f.bytes.drop (f.bytes.length - f.fcs) }

/-- The packet number of a received frame: with XPN its upper 32 bits are recovered from the lowest acceptable one. -/
def Hw.rxPn (h : Hw) (k : Nat) (s : SaSt) (pn : Nat) : Nat :=
  if 2 ≤ h.cfg CX_SC_SUITE k then
    (s.pn / 2 ^ 32 + b2n (!bitOf pn 31 && bitOf s.pn 31)) * 2 ^ 32 + pn
  else pn

/-- R323: outside the replay window. -/
def Hw.rxLate (h : Hw) (k : Nat) (s : SaSt) (pn : Nat) : Bool := h.scFlag k 4 && decide (pn < s.pn)

/-- R323, R325: the cipher work of a received frame of channel k. -/
def Hw.issueRx (h : Hw) (wid : Nat) (x : CipherWait) : Hw :=
  let k := x.stream - 32
  let t := secTag x.frame
  let an := t.tci % 4
  let clear := !bitOf t.tci 2
  let g := h.unwait x
  match (h.scAt k).sa an with
  | none =>
    let g := g.inc CX_SC_CNT_NOSA k
    if h.cfg CX_SC_VALIDATE k ≠ 2 ∧ clear = true then g.enterFirst (x.frame.untag t.data) else g
  | some s =>
    let pn := h.rxPn k s t.pn
    if h.rxLate k s pn then g.inc CX_SC_CNT_LATE k
    else if h.cfg CX_SC_VALIDATE k = 0 then
      let g := g.inc CX_SC_CNT_NOSA k
      if clear then g.enterFirst (x.frame.untag t.data) else g
    else if h.slotState s.slot ≠ slValid then (g.inc CX_LANE_CNT_KEY_ABSENT).scNosa k (some an)
    else
      match h.pickLane (h.streamPath x.stream) with
      | none => h
      | some l =>
        let args := [look h.ks.keys s.slot 0, h.cfg CX_SC_SUITE k, h.scSci k, s.ssci, s.salt, pn] ++
          (x.frame.bytes.take (12 + t.size) ++ t.data ++ t.icv).map (fun b => b.toNat)
        let d := if clear then t.data else cipherOut fnSecOpen t.data.length args
        g.addWork { h.newWork wid x.stream s.slot l with
          sa := some (k, an, pn), frame := some (x.frame.untag d), icv := Config.cipherOk fnSecOpen args, clear := clear }

/-- CIPHER_WORK_ISSUE (R302, R307, R309): the oldest waiting frame of a stream, or an upstream frame that is staged, gets its
work on a lane. Where no lane is free the frame waits and the issue comes later. -/
def Hw.workIssue (h : Hw) (wid stream port key fid : Nat) : Hw :=
  if h.runs rgPacket then
    if 16 ≤ stream ∧ stream < 20 then h.issueUp wid stream port key fid
    else
      match h.ks.waits.find? (fun x => x.stream == stream) with
      | none => h
      | some x =>
        if stream < 10 then h.issueDown wid x
        else if h.scFlag (stream - 32) 1 then h.issueRx wid x
        else h.issueTx wid x
  else h

/-- R323: a received frame of channel k leaves its lane: its check and its packet number decide. -/
def Hw.releaseRx (h : Hw) (w : CipherWork) (k an pn : Nat) (f : Frame) : Hw :=
  if w.icv then
    match (h.scAt k).sa an with
    | none => (h.inc CX_SC_CNT_OK k).enterFirst f
    | some s =>
      if h.rxLate k s pn then h.inc CX_SC_CNT_LATE k
      else
        let seen := max s.seen (pn + 1)
        let h := h.setSc k (fun c => { c with sas := store c.sas an { s with seen := seen, pn := max s.pn (seen - h.cfg CX_SC_REPLAY_WIN k) } })
        (h.inc CX_SC_CNT_OK k).enterFirst f
  else
    let h := h.inc CX_SC_CNT_NOT_VALID k
    if h.cfg CX_SC_VALIDATE k = 1 ∧ w.clear = true then h.enterFirst f else h

/-- R302: frames of one stream leave in issue order. The counters of their path count each as it leaves. -/
def Hw.releaseOne (h : Hw) (w : CipherWork) : Hw :=
  match w.sa, w.frame with
  | some (k, an, pn), some f =>
    if w.path < 5 then h.releaseRx w k an pn f
    else (h.inc CX_SC_CNT_OK k).setPort (h.cfg CX_SC_PORT k) (fun p => { p with tx := p.tx ++ [f] })
  | none, some f => (h.inc CX_PON_CNT_DS_DECRYPT (f.src - 128)).xgemLook (f.src - 128) f
  | _, none => h.inc CX_PON_CNT_US_ENCRYPT ((w.stream - 16) / 2)

/-- The oldest finished works of a stream leave, up to the first that still runs. -/
def Hw.releaseStream (h : Hw) (stream : Nat) : Nat → Hw
  | 0 => h
  | n + 1 =>
    match h.ks.works.find? (fun w => w.stream == stream) with
    | none => h
    | some w =>
      if w.done then
        Hw.releaseStream ({ h with ks := { h.ks with works := h.ks.works.erase w } }.releaseOne w) stream n
      else h

/-- R300, Table 12-3: a cluster below 8 lanes in service is isolated. -/
def Hw.clusterCheck (h : Hw) (k : Nat) : Hw :=
  let n := ((List.range 16).filter (fun l => bitOf (h.rd CX_LANE_STATUS_IN_SERVICE) (16 * k + l))).length
  if n < 8 ∧ bitOf (h.rd CX_CLU_STATUS_IN_SERVICE) k then
    (h.wr CX_CLU_STATUS_IN_SERVICE (putBit (h.rd CX_CLU_STATUS_IN_SERVICE) k false)).isolate (0x5030 + k)
  else h

/-- R303, R304: a mismatch quarantines the lane; the third within 8,000 ticks of the first zeroises. -/
def Hw.laneMismatch (h : Hw) (lane : Nat) : Hw :=
  let h := h.inc CX_LANE_CNT_MISMATCH
  let h := h.wr CX_LANE_STATUS_IN_SERVICE (putBit (h.rd CX_LANE_STATUS_IN_SERVICE) lane false)
  let h := h.setRegion rgPacket (fun s => { s with cells := s.cells ++ [(0x5030 + lane / 16, lane)] })
  let h := (h.recordOf sevWarn (0x5030 + lane / 16) CX_LANE_CNT_MISMATCH 0 0 (leBytes 1 lane)).clusterCheck (lane / 16)
  { h with ks := { h.ks with misses := (h.tick :: h.ks.misses).take 3 } }

/-- CIPHER_FRAME_DONE (R303): the lane of work `wid` ends, and `ok` says every block passed the check. -/
def Hw.frameDone (h : Hw) (wid : Nat) (ok : Bool) : Hw :=
  match h.ks.works.find? (fun w => w.wid == wid && !w.done) with
  | none => h
  | some w =>
    let drop (h : Hw) : Hw := { h with ks := { h.ks with works := h.ks.works.erase w } }.workDrop w
    if ok then
      let h := { h with ks := { h.ks with works := h.ks.works.map (fun x => if x = w then { w with done := true } else x) } }
      (h.releaseStream w.stream h.ks.works.length).ksSettle
    else
      let h := h.laneMismatch w.lane
      match h.ks.misses with
      | [_, _, first] => if h.tick - first ≤ 8000 then h.zeroise 1 else retryWork h w drop
      | _ => retryWork h w drop
where
  /-- R303: the work is restarted on another lane, or dropped after a failed retry. -/
  retryWork (h : Hw) (w : CipherWork) (drop : Hw → Hw) : Hw :=
    if w.retry then ((drop h).inc CX_LANE_CNT_RETRY_FAIL).ksSettle
    else
      match h.pickLane w.path with
      | some l =>
        let ws := h.ks.works.map (fun x => if x = w then { w with lane := l, retry := true } else x)
        let h := { h with ks := { h.ks with works := ws } }
        h.clusterWork l
      | none => ((drop h).inc CX_LANE_CNT_RETRY_FAIL).ksSettle

/-- STALE_GEN_TIMEOUT (R308): work still in progress one tick after a slot's rewrite or erase is abandoned. -/
def Hw.staleGen (h : Hw) (slot : Nat) : Hw :=
  let due := h.ks.shadows.filter (fun x => x.slot == slot && decide (x.since + 80 ≤ h.clk.ut))
  let ers := h.ks.erasing.filter (fun e => e.1 == slot && decide (e.2 + 80 ≤ h.clk.ut))
  let stale (w : CipherWork) : Bool := w.slot == slot && !w.done &&
    (due.any (fun x => x.gen == w.gen) || (!ers.isEmpty && w.gen == h.slotGen slot))
  let l := h.ks.works.filter stale
  let h := { h with ks := { h.ks with works := h.ks.works.filter (fun w => !stale w) } }.each l Hw.workDrop
  (h.inc CX_LANE_CNT_STALE_GEN 0 0 l.length).ksSettle

/-! ### Secure associations (R322 to R326) -/

/-- The AES type that a suite needs. -/
def suiteType (suite : Nat) : Nat := suite % 2

/-- SA_INSTALL (R306, R322, Table 12-10). -/
def Hw.saInstall (h : Hw) (k an slot pn ssci salt : Nat) : Hw × Ans :=
  if h.ksLocked then (h, .fail stGatedCode)
  else if 2048 ≤ k ∨ 4 ≤ an ∨ 8192 ≤ slot ∨ !h.scFlag k 0 ∨ (!h.scFlag k 1 ∧ pn = 0) ∨ h.pnLast k < pn then (h, .fail stRange)
  else
    match h.slotOwner slot with
    | some a => (h, .fail stConflict (keyConflict a slot))
    | none =>
      if ((h.scAt k).sa an).isSome then (h, .fail stConflict)
      else if h.slotState slot != slValid then (h, .fail stKeyAbsent)
      else if h.rd CX_SLOT_ATTR_TYPE slot != suiteType (h.cfg CX_SC_SUITE k) || !useBit (h.rd CX_SLOT_ATTR_USE slot) 1 then
        (h, .fail stRange)
      else
        (h.setSc k (fun c => { c with sas := store c.sas an { slot := slot, pn := pn, seen := pn, ssci := ssci, salt := salt } }),
          .ok (h.genResult slot))

/-- A packet number and a generation as a RESULT: PN in [47:0], generation in [63:48] (log entry 30, DESIGN CHOICE). -/
def pnResult (pn gen : Nat) : Nat := pn % 2 ^ 48 + gen % 2 ^ 16 * 2 ^ 48

/-- SA_SWITCH (R326): accepted; it takes effect, and completes, at the next tick boundary. -/
def Hw.saSwitch (h : Hw) (hd : CmdHdr) (k an : Nat) : Hw × Ans :=
  if h.ksLocked then (h, .fail stGatedCode)
  else if 2048 ≤ k ∨ 4 ≤ an ∨ h.scFlag k 1 then (h, .fail stRange)
  else if ((h.scAt k).sa an).isNone then (h, .fail stConflict)
  else if ((h.scAt k).next.map (fun n => n.2.isSome)).getD false then (h, .fail stBusy)
  else (h.setSc k (fun c => { c with next := some (an, some (hd.ring, hd.cmdId)) }), .later)

/-- SA_READ (R326). -/
def Hw.saRead (h : Hw) (k an : Nat) : Hw × Ans :=
  if h.ksLocked then (h, .fail stGatedCode)
  else
    match (h.scAt k).sa an with
    | some s => if k < 2048 ∧ an < 4 then (h, .ok (pnResult s.pn (h.slotGen s.slot))) else (h, .fail stRange)
    | none => (h, .fail stRange)

/-- SA_RETIRE (R322, Table 12-10, note (b)). -/
def Hw.saRetire (h : Hw) (k an : Nat) : Hw × Ans :=
  if h.ksLocked then (h, .fail stGatedCode)
  else if 2048 ≤ k ∨ 4 ≤ an ∨ ((h.scAt k).sa an).isNone then (h, .fail stRange)
  else if !h.scFlag k 1 ∧ (h.scAt k).cur = some an then (h, .fail stConflict)
  else (h.setSc k (fun c => { c with
      sas := c.sas.filter (fun p => p.1 != an)
      next := if (c.next.map Prod.fst) = some an then none else c.next }), .ok)

/-- CX_SA_SWITCHED (Table 14-10). -/
def saSwitchedArgs (k an gen pn : Nat) : List Byte × List Byte :=
  (leBytes 2 k ++ leBytes 1 an ++ leBytes 1 0 ++ leBytes 2 gen ++ leBytes 6 0, leBytes 8 pn ++ leBytes 4 0)

/-- R326: at a tick boundary a pending change of SA takes effect, and is reported with the last packet
number and the generation of the old SA. -/
def Hw.saBoundary (h : Hw) (k : Nat) : Hw :=
  match (h.scAt k).next with
  | none => h
  | some (an, cmd) =>
    let old := (h.scAt k).cur.bind (fun c => (h.scAt k).sa c)
    let pn := (old.map (fun s => s.pn - 1)).getD 0
    let gen := (old.map (fun s => h.slotGen s.slot)).getD 0
    let h := h.setSc k (fun c => { c with cur := some an, next := none })
    match cmd with
    | some (r, c) => h.completeOpen (fun o => o.ring == r && o.cmdId == c) stOk 0 (pnResult pn gen)
    | none => let (x, y) := saSwitchedArgs k an gen pn
              h.eventCipher 0x0011 x y

/-- Every channel's pending change of SA. -/
def Hw.saBoundaries (h : Hw) : Hw := h.each (h.ks.scs.map Prod.fst) Hw.saBoundary

/-- Table 12-20, note (b): a change of SUITE, PORT or SCI of an enabled channel retires its SAs at a flip. -/
def Hw.scFlip (h : Hw) (was : CfgStore) (k : Nat) : Hw :=
  let same (f : OFld) : Bool := cfgOf was f k == h.cfg f k
  if bitOf (cfgOf was CX_SC_FLAGS k) 0 && !(same CX_SC_SUITE && same CX_SC_PORT && same CX_SC_SCI) then
    h.setSc k (fun _ => {})
  else h

end Sys2Proof.Machine
end

