-- ==== Sys2Proof/Machine/Herd.lean ====
section
/-! DEFINITION. Wavelength herds and the dispersion estimator (chapter 4): Swidan messages, pointer processing,
members, descriptors, skew blocks, the fit, its application and the fallback (R99 to R128). -/

namespace Sys2Proof.Machine

/-! ### Swidan messages (R117 to R119) -/

/-- Octets padded with zeros to at least `n`. -/
def padTo (n : Nat) (l : List Byte) : List Byte := l ++ List.replicate (n - l.length) 0

/-- The MAC address of attachment a from the signed boot image (Table 16-4). -/
def Hw.attMac (h : Hw) (a : Nat) : Nat := look h.pw.attMac a 0

/-- Table 4-8: a Swidan frame of attachment a. Before the first HELLO the manual names no destination: a free
value (log entry 40, DESIGN CHOICE). -/
def Hw.swidanSend (h : Hw) (a typ : Nat) (seq : Option Nat) (body : List Byte) : Hw :=
  let (dst, h) := match (h.herdAt a).peerMac with
    | some m => (m, h)
    | none => h.takeFree
  let own := (h.herdAt a).seq
  let h := if seq.isNone then h.setHerd a (fun e => { e with seq := (own + 1) % 65536 }) else h
  h.emit (.swidan a (padTo 60 (beBytes 6 dst ++ beBytes 6 (h.attMac a) ++ beBytes 2 (h.rd HD_SWIDAN_CFG_ETHERTYPE a) ++
    beBytes 4 0x5357444E ++ beBytes 1 typ ++ beBytes 1 1 ++ beBytes 2 (seq.getD own) ++ beBytes 2 body.length ++ body)))

/-- SW_EN of attachment a. -/
def Hw.swEn (h : Hw) (a : Nat) : Bool := h.on HD_SWIDAN_CTRL_SW_EN a

/-- Channels c of attachment a that satisfy `p`. -/
def chansWith (n : Nat) (p : Nat → Bool) : List Nat := (List.range n).filter p

/-! ### Members (R101, R109 to R111) -/

/-- The descriptor's active members, 0 while no herd is formed. -/
def Hw.activeOf (h : Hw) (a : Nat) : Nat := h.rd HD_HERD_STATUS_ACTIVE a

/-- Whether a herd is formed on attachment a (R99). -/
def Hw.formed (h : Hw) (a : Nat) : Bool := h.on HD_HERD_STATUS_FORMED a

/-- The position of channel c among the active members (R104). -/
def herdPos (active c : Nat) : Nat := popCount c active

/-- Table 4-9: the cause of channel c; a channel that is OFF counts as LOS. -/
def Hw.memberCause (h : Hw) (a c : Nat) : Nat :=
  if h.on LN_RX_STATUS_ISOLATED a c then 5
  else
    let st := h.rd LN_RX_STATUS_STATE a c
    if st = rxHunt then 2
    else if st != rxSync then 1
    else
      let p := h.rd HD_PTR_STATUS_STATE a c
      if p = 0 then 6 else if p = 2 then 3 else if (h.ptrAt (4 * a + c)).skewBad then 4 else 0

/-- Causes of D0 to D3; 0 for a channel that is no active member. -/
def Hw.memberCauses (h : Hw) (a : Nat) : List Nat :=
  (List.range 4).map (fun c => if bitOf (h.activeOf a) c then h.memberCause a c else 0)

/-- HD_HERD_STATUS.UP and HERD_LOST follow the members. -/
def Hw.herdShow (h : Hw) (a : Nat) : Hw :=
  let up := (chansWith 4 (fun c => bitOf (h.activeOf a) c && h.memberCause a c == 0)).foldl (fun m c => m + 2 ^ c) 0
  (h.wr HD_HERD_STATUS_UP up a).wrB HD_HERD_STATUS_HERD_LOST (h.formed a && up == 0) a

/-- R111: a change of a member makes MEMBER_STATUS due. -/
def Hw.herdMembers (h : Hw) (a : Nat) : Hw :=
  let h := h.herdShow a
  if h.formed a then
    let cs := h.memberCauses a
    if cs = (h.herdAt a).causes then h else h.setHerd a (fun e => { e with causes := cs, statusDue := some h.tick })
  else h

/-- MEMBER_STATUS (R111): sent on a change, and every 8,000 ticks while a member is down. -/
def Hw.memberStatus (h : Hw) (a : Nat) : Hw :=
  match (h.herdAt a).statusDue with
  | none => h
  | some t =>
    if h.formed a ∧ t ≤ h.tick then
      let cs := h.memberCauses a
      let h := h.swidanSend a 4 none (leBytes 1 (h.rd HD_HERD_STATUS_HSEQ a) ++ leBytes 1 (h.rd HD_HERD_STATUS_UP a) ++
        cs.flatMap (leBytes 1))
      h.setHerd a (fun e => { e with statusDue := if cs.any (· != 0) then some (h.tick + 8000) else none })
    else h

/-- Table 4-5, last row: the slices of channel c are discarded and the member is down. -/
def Hw.ptrDrop (h : Hw) (a c : Nat) : Hw :=
  let h := h.setPtr (4 * a + c) (fun p => { p with h0 := none, h1 := none, bad := 0, newRun := 0, skewBad := false })
  (h.wr HD_PTR_STATUS_STATE 0 a c).herdMembers a

/-- R119: PEER is cleared, and the herd and bonding are dissolved. -/
def Hw.herdDissolve (h : Hw) (a : Nat) : Hw :=
  let h := h.setHerd a (fun e => { e with
    desc := none, pendDesc := none, bonded := [], statusDue := none, helloDue := none, causes := [0, 0, 0, 0] })
  let h := (h.wr HD_SWIDAN_CTRL_PEER 0 a).wr HD_HERD_STATUS_FORMED 0 a
  let h := (h.wr HD_HERD_STATUS_HSEQ 0 a).wr HD_HERD_STATUS_ACTIVE 0 a
  (h.wr HD_HERD_STATUS_UP 0 a).wr HD_HERD_STATUS_HERD_LOST 0 a

/-- HELLO_SEND (R119): in O5 with SW_EN, at its entry and every 8,000 ticks until PEER is set. The channel bytes
are the numbers of enabled receivers and burst engines (log entry 40, DESIGN CHOICE). -/
def Hw.helloSend (h : Hw) (a : Nat) : Hw :=
  match (h.herdAt a).helloDue with
  | none => h
  | some t =>
    if h.swEn a ∧ h.rd LN_ATT_STATUS_STATE a = 5 ∧ t ≤ h.tick then
      let down := (chansWith 4 (fun c => h.on LN_RX_CTRL_ENABLE a c)).length
      let up := (chansWith 2 (fun u => h.on LN_TX_CTRL_ENABLE a u)).length
      let h := h.swidanSend a 1 none (leBytes 1 1 ++ leBytes 1 down ++ leBytes 1 up ++ leBytes 1 3 ++ beBytes 6 (h.attMac a))
      h.setHerd a (fun e => { e with helloDue := if h.on HD_SWIDAN_CTRL_PEER a then none else some (h.tick + 8000) })
    else h

/-- HELLO (R119, R117): a head-end HELLO from source address `mac` sets PEER. -/
def Hw.hello (h : Hw) (a mac : Nat) : Hw :=
  if h.swEn a then
    (h.wr HD_SWIDAN_CTRL_PEER 1 a).setHerd a (fun e => { e with peerMac := some mac, helloDue := none })
  else h

/-- HERD_DESC (R112): checked at hand-over and answered; `rowNow` is the row being received on its first
active member. -/
def Hw.herdDesc (h : Hw) (a seq : Nat) (d : HerdDesc) (rowNow : Nat) : Hw :=
  if h.swEn a then
    let code :=
      if (chansWith 4 (fun c => bitOf d.active c && !bitOf (h.rd HD_HERD_CFG_MEMBERS a) c)).isEmpty = false then 1
      else if h.formed a ∧ d.hseq ≠ (h.rd HD_HERD_STATUS_HSEQ a + 1) % 16 then 3
      else if (d.start + 256 - rowNow % 256) % 256 < 20 then 2
      else 0
    let h := h.swidanSend a 3 (some seq) (leBytes 1 d.hseq ++ leBytes 1 code)
    if code = 0 then h.setHerd a (fun e => { e with pendDesc := some d }) else h
  else h

/-- HERD_DESC_SWITCH (R112, R99): START_ROW of the pending descriptor begins. -/
def Hw.herdSwitch (h : Hw) (a : Nat) : Hw :=
  match (h.herdAt a).pendDesc with
  | none => h
  | some d =>
    if h.swEn a ∧ h.on HD_SWIDAN_CTRL_PEER a then
      let h := h.setHerd a (fun e => { e with desc := some d, pendDesc := none, causes := [0, 0, 0, 0] })
      let h := (h.wr HD_HERD_STATUS_FORMED 1 a).wr HD_HERD_STATUS_HSEQ d.hseq a
      (h.wr HD_HERD_STATUS_ACTIVE d.active a).herdMembers a
    else h

/-- TWIN_REPORT (R121): a good report enters the twin average. -/
def Hw.twinReport (h : Hw) (a : Nat) (v : Int) (quality : Nat) : Hw :=
  if h.swEn a ∧ quality = 0 then h.setHerd a (fun e => { e with twins := ((v, h.tick) :: e.twins).take 256 }) else h

/-- RANGE_INFO (R122). -/
def Hw.rangeInfo (h : Hw) (a trt : Nat) : Hw :=
  if h.swEn a then h.setHerd a (fun e => { e with range := some (trt, h.tick) }) else h

/-- BOND_ALLOC (R113, R114): codes 2 more than 16, 1 unknown, 0 accepted. -/
def Hw.bondAlloc (h : Hw) (a seq : Nat) (ids : List Nat) : Hw :=
  if h.swEn a then
    let code := if 16 < ids.length then 2
      else if ids.all (fun i => (h.actAt a).allocs.contains i) then 0 else 1
    let h := h.swidanSend a 10 (some seq) (leBytes 1 code)
    if code = 0 then h.setHerd a (fun e => { e with bonded := ids.map (fun i => (i, 0)) }) else h
  else h

/-- SW_EN_WRITE (R119, Table 4-5): a write of HD_SWIDAN_CTRL. -/
def Hw.swEnWrite (h : Hw) (a v : Nat) : Hw :=
  let h := h.writeWord .HD_SWIDAN_CTRL 0 v a 0
  if bitOf v 0 then h else (h.herdDissolve a).each (List.range 4) (fun h c => h.ptrDrop a c)

/-! ### Pointer processing (R103, R105 to R107) -/

/-- R103: CRC-8 of the low `n` bits of `v`, most significant first. -/
def crc8 (v : Nat) : Nat → Nat → Nat
  | 0, c => c
  | n + 1, c =>
    let t := bitOf c 7 != bitOf v n
    crc8 v n (if t then (c * 2 % 256) ^^^ 7 else c * 2 % 256)

/-- Table 4-3: the fields of a herd overhead word. -/
def hohOf (w : Nat) : Hoh :=
  { ptr := bits w 51 13, act := bits w 49 2, row := bits w 41 8, hseq := bits w 37 4, pos := bits w 35 2 }

/-- R103: the HOH is valid, its CRC apart. -/
def Hw.hohValid (h : Hw) (a c : Nat) (x : Hoh) : Bool :=
  let e := h.herdAt a
  x.act != 3 && decide (x.ptr ≤ 8119) &&
  (x.hseq == h.rd HD_HERD_STATUS_HSEQ a || (match e.pendDesc with
    | some d => d.hseq == x.hseq
    | none => false)) &&
  (!h.formed a || !bitOf (h.activeOf a) c || x.pos == herdPos (h.activeOf a) c)

/-- R105: the pointer after a stuff: 1 positive, 2 negative. -/
def ptrAfter (p act : Nat) : Nat := if act = 1 then (p + 8) % 8120 else (p + 8112) % 8120

/-- Table 4-4: what the HOH of frames m − 1, m and m + 1 say of frame m. -/
inductive Stuff where
  | none
  | unconf
  | exec (act : Nat) (infer : Bool)
  deriving DecidableEq, Repr

/-- The HOH announces stuff at pointer p: its ACT, 0 where it does not. -/
def announces (p : Nat) : Option Hoh → Nat
  | some x => if x.ptr = p ∧ (x.act = 1 ∨ x.act = 2) then x.act else 0
  | Option.none => 0

/-- The HOH carries pointer p with ACT none. -/
def plain (p : Nat) : Option Hoh → Bool
  | some x => x.ptr == p && x.act == 0
  | Option.none => false

/-- Table 4-4. -/
def stuffOf (p : Nat) (h0 h1 h2 : Option Hoh) : Stuff :=
  let a0 := announces p h0
  let a1 := announces p h1
  if a0 ≠ 0 ∧ a0 = a1 then .exec a0 false
  else if h0.isNone ∧ a1 ≠ 0 ∧ plain (ptrAfter p a1) h2 = true then .exec a1 true
  else if a0 ≠ 0 ∧ h1.isNone ∧ plain (ptrAfter p a0) h2 = true then .exec a0 true
  else if a0 ≠ 0 ∧ plain p h1 = true then .unconf
  else .none

/-- R106: the stuff of frame `m` is decided; `h2` is the HOH of frame m + 1. -/
def Hw.stuffDecision (h : Hw) (a c m : Nat) (h2 : Option Hoh) : Hw :=
  let k := 4 * a + c
  let s := h.ptrAt k
  let p := h.rd HD_PTR_STATUS_PTR a c
  match stuffOf p s.h0 s.h1 h2 with
  | .none => h
  | .unconf => h.inc HD_PTR_CNT_UNCONF a c
  | .exec act infer =>
    if (match s.lastStuff with
      | some l => decide (m < l + 4)
      | none => false) then h.inc HD_PTR_CNT_SPACING a c
    else
      let h := (h.setPtr k (fun s => { s with lastStuff := some m })).wr HD_PTR_STATUS_PTR (ptrAfter p act) a c
      let h := h.inc (if act = 1 then HD_PTR_CNT_POS else HD_PTR_CNT_NEG) a c
      if infer then h.inc HD_PTR_CNT_INFER a c else h

/-- Table 4-5 for a channel in NORM, after the decision: `x` is the HOH of the tick. -/
def Hw.ptrNorm (h : Hw) (a c : Nat) (x : Option Hoh) : Hw :=
  let k := 4 * a + c
  let s := h.ptrAt k
  let p := h.rd HD_PTR_STATUS_PTR a c
  let bad (h : Hw) (q n : Nat) : Hw :=
    let h := h.setPtr k (fun s => { s with bad := s.bad + 1, newPtr := q, newRun := n })
    if 8 ≤ (h.ptrAt k).bad then
      ((h.setPtr k (fun s => { s with bad := 0, newRun := 0 })).inc HD_PTR_CNT_LOP a c).wr HD_PTR_STATUS_STATE 2 a c
    else h
  match x with
  | none => bad h 0 0
  | some y =>
    if y.ptr = p then h.setPtr k (fun s => { s with bad := 0, newRun := 0 })
    else if y.act = 0 then
      let n := if s.newRun ≠ 0 ∧ s.newPtr = y.ptr then s.newRun + 1 else 1
      if 3 ≤ n then
        ((h.setPtr k (fun s => { s with bad := 0, newRun := 0 })).wr HD_PTR_STATUS_PTR y.ptr a c).inc HD_PTR_CNT_NEWPTR a c
      else bad h y.ptr n
    else bad h 0 0

/-- POINTER_PROCESSING (R107): the HOH word of the tick's frame on channel c, none where it has no valid one. -/
def Hw.pointer (h : Hw) (a c : Nat) (w : Option Nat) : Hw :=
  let k := 4 * a + c
  let crcBad : Bool := match w with
    | some v => crc8 (v / 256) 56 0 != v % 256
    | none => false
  let h := h.when crcBad (fun h => h.inc HD_PTR_CNT_CRC_ERR a c)
  let x : Option Hoh := match w with
    | some v => if !crcBad && h.hohValid a c (hohOf v) then some (hohOf v) else none
    | none => none
  let h := match x with
    | some y => h.wr HD_PTR_STATUS_ROW y.row a c
    | none => h
  let h :=
    if h.rd HD_PTR_STATUS_STATE a c = 1 then (h.stuffDecision a c (h.tick - 1) x).ptrNorm a c x
    else
      match x, (h.ptrAt k).h1 with
      | some y, some z =>
        if y.act = 0 ∧ z.ptr = y.ptr then
          ((h.setPtr k (fun s => { s with bad := 0, newRun := 0 })).wr HD_PTR_STATUS_PTR y.ptr a c).wr HD_PTR_STATUS_STATE 1 a c
        else h
      | _, _ => h
  h.setPtr k (fun s => { s with h0 := s.h1, h1 := x })

/-! ### Skew samples and blocks (R120) -/

/-- The launch offset O_c in force, in 2^-8 ps. -/
def Hw.launchOfs (h : Hw) (a c : Nat) : Int :=
  if h.on HD_SWIDAN_CTRL_PEER a then
    match (h.herdAt a).desc with
    | some d => d.offsets.getD c 0
    | none => 0
  else h.rdS HD_LAUNCH_OFS_OFS a c

/-- The captures of a channel that may form a sample: superframe count and LN_FB_CAP − d_rx − O_c, in
1/8,192,000 ns. -/
def Hw.skewCaps (h : Hw) (a c : Nat) : List (Nat × Int) :=
  let r := h.rxAt (4 * a + c)
  ([r.cap, r.capOld].filterMap id).filterMap (fun x =>
    if x.2.2.2 then none
    else some (x.2.1, (x.1 - ((h.rd LN_OPT_RXDLY_D_RX a c : Nat) : Int)) * 125 - h.launchOfs a c * 32))

/-- R120: the skew sample of channel c against the activation channel. -/
def Hw.skewSample (h : Hw) (a c : Nat) : Hw :=
  let r := h.actChan a
  if h.inSync a c && h.inSync a r then
    let cr := h.skewCaps a r
    match (h.skewCaps a c).find? (fun x => cr.any (fun y => y.1 == x.1)) with
    | none => h
    | some x =>
      if (h.herdAt a).lastSfc.contains (c, x.1) then h
      else
        let y := look cr x.1 0
        h.setHerd a (fun e =>
          let (s, n) := look e.skewSum c (0, 0)
          { e with skewSum := store e.skewSum c (s + (x.2 - y), n + 1), lastSfc := store e.lastSfc c x.1 })
  else h

/-- HERD (R106, Table 1-6): the words of the tick by 4a + c, and the members outside ±8 µs (R109). -/
def Hw.herdJob (h : Hw) (words : List (Nat × Nat)) (skewOut : List Nat) : Hw :=
  h.each [0, 1] (fun h a =>
    let h := if h.swEn a then
        let h := h.each (chansWith 4 (fun c => bitOf (h.rd HD_HERD_CFG_MEMBERS a) c && h.inSync a c)) (fun h c =>
          let w := (words.find? (fun x => x.1 == 4 * a + c)).map Prod.snd
          let out : Bool := h.formed a && bitOf (h.activeOf a) c && skewOut.contains (4 * a + c)
          (h.setPtr (4 * a + c) (fun s => { s with skewBad := out })).pointer a c w)
        h.herdMembers a
      else h
    h.each (chansWith 4 (fun c => h.on LN_RX_CTRL_ENABLE a c)) (fun h c => h.skewSample a c))

/-- Table 1-7: the HERD job overran: the pointer state is held, and the tick has no valid HOH (R103). -/
def Hw.herdHeld (h : Hw) : Hw :=
  { h with ptr := h.ptr.map (fun p => (p.1, { p.2 with h0 := p.2.h1, h1 := none })) }

/-- BLOCK_CLOSE (R120): HD_SKEW takes the block means of attachment a. -/
def Hw.blockClose (h : Hw) (a : Nat) : Hw :=
  let e := h.herdAt a
  let h := h.each (List.range 4) (fun h c =>
    let (s, n) := look e.skewSum c (0, 0)
    if 7200 ≤ n then
      (h.wr HD_SKEW_SKEW (unsigned 32 (satSigned 32 (128 * roundDiv s (4096 * n)))) a c).setHerd a (fun e =>
        { e with skewOk := store e.skewOk c true })
    else (h.wr HD_SKEW_SKEW 0x80000000 a c).setHerd a (fun e => { e with skewOk := store e.skewOk c false }))
  h.setHerd a (fun e => { e with skewSum := [], blockDone := true })

/-- HD_WAVELENGTH_WRITE (R102): a write of HD_GRID (i = 0) or HD_LAMBDA[i − 1]. -/
def Hw.wavelengthWrite (h : Hw) (a i v : Nat) : Hw :=
  let h := if i = 0 then h.writeWord .HD_GRID 0 v a 0 else h.writeWord .HD_LAMBDA 0 v a (i - 1)
  h.setHerd a (fun e => { e with skewSum := [], twins := [] })

/-! ### Model and fit (R102, R121 to R125) -/

/-- R102, Tables 4-1 and 4-16: the wavelength in nm of channel i: 0 to 3 are D0 to D3, 4 and 5 U0 and U1. -/
def Hw.lambda (h : Hw) (a i : Nat) : Rat :=
  let pm := h.rd HD_LAMBDA_LAMBDA_PM a i
  if 1250000 ≤ pm ∧ pm ≤ 1360000 then ((pm : Nat) : Rat) / 1000
  else if i < 4 then
    ((1326 + 4 * h.rd ([HD_GRID_DG0, HD_GRID_DG1, HD_GRID_DG2, HD_GRID_DG3].getD i HD_GRID_DG0) a : Nat) : Rat)
  else ((1262 + 8 * h.rd (if i = 4 then HD_GRID_UG0 else HD_GRID_UG1) a : Nat) : Rat)

/-- h(λ) = (λ − λ0²/λ)². -/
def dispH (l0 l : Rat) : Rat := (l - l0 * l0 / l) * (l - l0 * l0 / l)

/-- Its derivative by λ0. -/
def dispH' (l0 l : Rat) : Rat := -4 * (l - l0 * l0 / l) * l0 / l

/-- One measurement of R123: λa, λb in nm, y in ps and the weight. -/
structure Meas where
  la : Rat
  lb : Rat
  y  : Rat
  w  : Rat
  deriving DecidableEq, Repr

/-- Sum of rationals. -/
def sumRat (l : List Rat) : Rat := l.foldl (· + ·) 0

/-- g_i at λ0. -/
def Meas.g (m : Meas) (l0 : Rat) : Rat := (dispH l0 m.la - dispH l0 m.lb) / 8

/-- Its derivative by λ0. -/
def Meas.g' (m : Meas) (l0 : Rat) : Rat := (dispH' l0 m.la - dispH' l0 m.lb) / 8

/-- R123: K at λ0. -/
def fitK (ms : List Meas) (l0 : Rat) : Rat :=
  sumRat (ms.map (fun m => m.w * m.y * m.g l0)) / sumRat (ms.map (fun m => m.w * m.g l0 * m.g l0))

/-- R123: the cost at λ0. -/
def fitCost (ms : List Meas) (l0 : Rat) : Rat :=
  let k := fitK ms l0
  sumRat (ms.map (fun m => m.w * (m.y - k * m.g l0) * (m.y - k * m.g l0)))

/-- The ratio of the golden section, 2,584 / 4,181 (log entry 41, DESIGN CHOICE). -/
def golden : Rat := 2584 / 4181

/-- R123: golden-section search until the interval is 1 pm or less; λ in nm. -/
def goldenSearch (ms : List Meas) : Nat → Rat → Rat → Rat
  | 0, lo, hi => (lo + hi) / 2
  | n + 1, lo, hi =>
    let x1 := hi - golden * (hi - lo)
    let x2 := lo + golden * (hi - lo)
    let left := decide (fitCost ms x1 ≤ fitCost ms x2)
    if hi - lo ≤ 1 / 1000 then (if left then x1 else x2)
    else if left then goldenSearch ms n lo x2 else goldenSearch ms n x1 hi

/-- Integer square root by halving from bit n. -/
def isqrtBits (v : Nat) : Nat → Nat → Nat
  | 0, r => r
  | n + 1, r => isqrtBits v n (if (r + 2 ^ n) * (r + 2 ^ n) ≤ v then r + 2 ^ n else r)

/-- The square root of a rational, rounded down to a multiple of 2^-32 (log entry 41, DESIGN CHOICE). -/
def sqrtRat (x : Rat) : Rat :=
  let v := (x.num.toNat * 2 ^ 64) / x.den
  ((isqrtBits v (v.log2 / 2 + 1) 0 : Nat) : Rat) / (2 ^ 32 : Nat)

/-- The λ0, in pm, of least cost of the first pass. -/
def coarse (ms : List Meas) : Nat :=
  let ls := (List.range 61).map (fun k => (1280 + k, fitCost ms ((1280 + k : Nat) : Rat)))
  (((minBy? (fun x y => decide (x.2 < y.2)) ls).map Prod.fst).getD 1280) * 1000

/-- The part of the variance of A that R125 propagates; none where the linearised system is singular. -/
def sigmaA (ms : List Meas) (l0 k ld lu : Rat) : Option Rat :=
  let p (m : Meas) := m.g l0
  let q (m : Meas) := k * m.g' l0
  let a := sumRat (ms.map (fun m => m.w * p m * p m))
  let b := sumRat (ms.map (fun m => m.w * p m * q m))
  let c := sumRat (ms.map (fun m => m.w * q m * q m))
  let det := a * c - b * b
  let u := (dispH l0 ld - dispH l0 lu) / 16
  let v := k * (dispH' l0 ld - dispH' l0 lu) / 16
  if det = 0 then none else some (sqrtRat ((u * u * c - 2 * u * v * b + v * v * a) / det))

/-- R123 to R125: the fit of the measurements `ms` of attachment a in a mode; `cs` are the channels measured.
Fewer than two measurements, or a singular system, do not determine λ0 and K: the fit fails (log entry 41, DESIGN CHOICE). -/
def Hw.fit (h : Hw) (a mode : Nat) (ms : List Meas) (cs : List Nat) : FitRes :=
  let r := h.actChan a
  let bad : FitRes := { lambda0 := 0, k := 0, a := 0, mode := mode, conf := 0, meas := ms.length, rho := 0, sig := 0
                        fail := true, dofs := [] }
  let c0 := coarse ms
  if ms.length < 2 ∨ c0 ≤ 1280000 ∨ 1340000 ≤ c0 then bad
  else
    let l0 := goldenSearch ms 40 ((c0 - 1000 : Nat) / 1000) ((c0 + 1000 : Nat) / 1000)
    let k := fitK ms l0
    if k ≤ 0 ∨ 4 < k then bad
    else
      match sigmaA ms l0 k (h.lambda a r) (h.lambda a 4) with
      | none => bad
      | some sg =>
        let m := ms.length
        let rho : Rat := if m = 2 then 0
          else sqrtRat (sumRat (ms.map (fun x => (x.y - k * x.g l0) * (x.y - k * x.g l0))) / ((m - 2 : Nat) : Rat))
        let lim : Rat := ((max 1 (h.rd HD_EST_LIM_U_LIM a) : Nat) : Rat)
        let q := 255 * (1 - (rho + sg) / lim)
        { lambda0 := roundRat (l0 * 1000), k := k
          a := k * (dispH l0 (h.lambda a r) - dispH l0 (h.lambda a 4)) / 16
          mode := mode, conf := if q ≤ 0 then 0 else (q.num / (q.den : Int)).toNat, meas := m, rho := rho, sig := sg
          fail := false
          dofs := cs.map (fun c => (c, k * (dispH l0 (h.lambda a c) - dispH l0 (h.lambda a r)) / 8)) }

/-- A standard error given in 2^-16 ps as a weight. -/
def weightOf (s : Nat) : Rat := let x : Rat := ((max 1 s : Nat) : Rat) / 65536; 1 / (x * x)

/-- R121: the twin average in ps. -/
def Hw.twinAvg (h : Hw) (a : Nat) : Option Rat :=
  let v := (((h.herdAt a).twins.filter (fun x => h.tick - x.2 ≤ 480000)).take (max 8 (h.rd HD_EST_CFG_TWIN_N a))).map Prod.fst
  if v.length < 8 then none
  else some (((v.foldl (· + ·) 0 : Int) : Rat) / (256 * ((v.length : Nat) : Rat)))

/-- Channels of attachment a with a valid block, the activation channel among them. -/
def Hw.validSkews (h : Hw) (a : Nat) : List Nat := chansWith 4 (fun c => look (h.herdAt a).skewOk c false)

/-- R122: the fibre length in metres; 0 means unknown. -/
def Hw.fibreLength (h : Hw) (a : Nat) : Nat :=
  match (h.herdAt a).range with
  | some (t, at') =>
    if h.tick - at' ≤ 480000 ∧ h.rd HD_GROUP_DLY_G_FS a ≠ 0 then
      (roundDiv ((t * 1000000 : Nat) : Int) (2 * h.rd HD_GROUP_DLY_G_FS a * 65536)).toNat
    else h.rd HD_TABLE_LENGTH_M a
  | none => h.rd HD_TABLE_LENGTH_M a

/-- R123, Table 4-10: the result of one mode, none where its requirements are not met. `sig` holds the standard
errors of D0 to D3 and of the twin average in 2^-16 ps (log entry 41, DESIGN CHOICE). -/
def Hw.attempt (h : Hw) (a mode : Nat) (sig : List Nat) : Option FitRes :=
  let r := h.actChan a
  let cs := h.validSkews a
  let ms := (cs.filter (fun c => c != r)).map (fun c =>
    { la := h.lambda a c, lb := h.lambda a r, y := ((h.rdS HD_SKEW_SKEW a c : Int) : Rat) / 256, w := weightOf (sig.getD c 0) : Meas })
  if mode = modeNone then
    some { lambda0 := 0, k := 0, a := 0, mode := 0, conf := 255, meas := 0, rho := 0, sig := 0, fail := false, dofs := [] }
  else if mode = modeTable then
    let s0 := h.rd HD_TABLE_S0 a
    let l := h.rd HD_TABLE_LENGTH_M a
    let p := h.rd HD_TABLE_LAMBDA0_PM a
    if s0 = 0 ∨ l = 0 ∨ p = 0 then none
    else
      let k : Rat := ((s0 * l : Nat) : Rat) / 256000000
      let l0 : Rat := ((p : Nat) : Rat) / 1000
      some { lambda0 := p, k := k, a := k * (dispH l0 (h.lambda a r) - dispH l0 (h.lambda a 4)) / 16, mode := 1
             conf := 255, meas := 0, rho := 0, sig := 0, fail := false, dofs := [] }
  else if mode = modeDown then
    if cs.length < 3 then none else some (h.fit a mode ms cs)
  else
    match h.twinAvg a with
    | none => none
    | some t =>
      if h.on HD_SWIDAN_CTRL_PEER a ∧ 2 ≤ cs.length ∧ h.on LN_TX_CTRL_ENABLE a 0 ∧ h.on LN_TX_CTRL_ENABLE a 1 then
        some (h.fit a mode (ms ++ [{ la := h.lambda a 5, lb := h.lambda a 4, y := t, w := weightOf (sig.getD 4 0) }]) cs)
      else none

/-! ### Application and fallback (R126 to R128) -/

/-- Picoseconds in units of 2^-8 ps. -/
def ps8 (x : Rat) : Int := roundRat (x * 256)

/-- R126: |x − y| lies within STEP_LIM. -/
def Hw.within (h : Hw) (a : Nat) (x y : Rat) : Bool :=
  let l : Rat := ((h.rd HD_EST_LIM_STEP_LIM a : Nat) : Rat)
  decide (x - y ≤ l) && decide (y - x ≤ l)

/-- R125: a fit is accepted. -/
def Hw.fitOk (h : Hw) (a : Nat) (f : FitRes) : Bool := !f.fail && decide (h.rd HD_EST_CFG_CONF_MIN a ≤ f.conf)

/-- A in force, in 2^-8 ps (R126, R128). -/
def Hw.asym (h : Hw) (a : Nat) : Int := ((h.herdAt a).ovr).getD (h.herdAt a).applied

/-- HD_EST_RES after a fit (Table 4-28). -/
def Hw.publishFit (h : Hw) (a : Nat) (f : FitRes) (status : Nat) (applied : Int) : Hw :=
  let st := status + (if (h.herdAt a).ovr.isSome then 64 else 0)
  let u (x : Rat) : Nat := min (2 ^ 32 - 1) (roundRat x).toNat
  let h := ((h.wr HD_EST_RES_TICK h.tick a).wr HD_EST_RES_LAMBDA0_PM f.lambda0.toNat a).wr HD_EST_RES_LS0_FS (u (f.k * 1000)) a
  let h := ((h.wr HD_EST_RES_LENGTH_M (h.fibreLength a) a).wrS HD_EST_RES_ASYM (ps8 f.a) a).wr HD_EST_RES_CONF f.conf a
  let h := ((h.wr HD_EST_RES_MODE f.mode a).wr HD_EST_RES_STATUS st a).wr HD_EST_RES_NMEAS f.meas a
  let h := ((h.wr HD_EST_RES_RESID (u (f.rho * 256)) a).wr HD_EST_RES_SIGMA (u (f.sig * 256)) a).wrS HD_EST_RES_APPLIED applied a
  h.wr HD_EST_RES_DOFS ((List.range 4).foldl (fun v c => v + unsigned 32 (ps8 (look f.dofs c 0)) * 2 ^ (32 * c)) 0) a

/-- R126: an accepted result is applied at the next tick boundary or becomes pending. The result gives the
STATUS bit. A result of TABLE or NONE, which no fit makes, needs no confirmation (log entry 42, DEDUCED). -/
def Hw.offer (h : Hw) (a : Nat) (f : FitRes) : Hw × Nat :=
  let e := h.herdAt a
  let apply : Bool := decide (f.mode ≤ 1) || (e.started &&
    (h.within a f.a (((e.applied : Int) : Rat) / 256) || (match e.pendFit with
      | some p => h.within a f.a p.a
      | none => false)))
  if apply then (h.setHerd a (fun e => { e with applyNext := some f, pendFit := none }), 1)
  else (h.setHerd a (fun e => { e with pendFit := some f, started := true }), 2)

/-- The next mode below `m` whose requirements are met (R127). -/
def Hw.lowerMode (h : Hw) (a : Nat) (sig : List Nat) : Nat → Option FitRes
  | 0 => none
  | m + 1 =>
    match h.attempt a m sig with
    | some f => some f
    | none => h.lowerMode a sig m

/-- What a result leads to: the STATUS bits, and A in force. -/
def Hw.judgeFit (h : Hw) (a : Nat) (f : FitRes) (fb : Nat) : Hw :=
  let now := h.asym a
  if f.fail then h.publishFit a f (8 + fb) now
  else if h.fitOk a f || decide (f.mode ≤ 1) then
    match h.offer a f with
    | (h, 1) => h.publishFit a f (1 + fb) (((h.herdAt a).ovr).getD (ps8 f.a))
    | (h, s) => h.publishFit a f (s + fb) now
  else h.publishFit a f (4 + fb) now

/-- FIT_COMPLETE (R126, R127): the fit of the closed block of attachment a completes. -/
def Hw.fitComplete (h : Hw) (a : Nat) (sig : List Nat) : Hw :=
  let e := h.herdAt a
  if e.blockDone then
    let h := h.setHerd a (fun e => { e with blockDone := false })
    let mode := h.rd HD_EST_CFG_MODE a
    let res := h.attempt a mode sig
    let ok : Bool := match res with
      | some f => h.fitOk a f || decide (mode ≤ 1)
      | none => false
    let av : Option Rat := if ok then res.map (fun f => f.a) else none
    let back : Bool := e.fellBack && (match av, e.streak with
      | some x, some y => h.within a x y
      | _, _ => false)
    let fell : Bool := if e.fellBack then !back
      else h.on HD_EST_CFG_FALLBACK a && !ok && decide (8 ≤ e.noFit + 1)
    let h := h.setHerd a (fun e => { e with
      noFit := if ok then 0 else e.noFit + 1, fellBack := fell, streak := if fell then av else none })
    if fell then
      match h.lowerMode a sig mode with
      | some f => h.judgeFit a f 32
      | none => h.wr HD_EST_RES_STATUS (48 + (if e.ovr.isSome then 64 else 0)) a
    else
      match res with
      | some f => h.judgeFit a f 0
      | none => h
  else h

/-- The body of EST_REPORT: Table 4-28 field by field in network order (Table 4-9). -/
def Hw.estBody (h : Hw) (a : Nat) : List Byte :=
  beBytes 8 (h.rd HD_EST_RES_TICK a) ++ beBytes 4 (h.rd HD_EST_RES_LAMBDA0_PM a) ++ beBytes 4 (h.rd HD_EST_RES_LS0_FS a) ++
  beBytes 4 (h.rd HD_EST_RES_LENGTH_M a) ++ beBytes 4 (h.rd HD_EST_RES_ASYM a) ++ beBytes 1 (h.rd HD_EST_RES_CONF a) ++
  beBytes 1 (h.rd HD_EST_RES_MODE a) ++ beBytes 1 (h.rd HD_EST_RES_STATUS a) ++ beBytes 1 (h.rd HD_EST_RES_NMEAS a) ++
  beBytes 4 (h.rd HD_EST_RES_RESID a) ++ beBytes 4 (h.rd HD_EST_RES_SIGMA a) ++ beBytes 4 (h.rd HD_EST_RES_APPLIED a) ++
  (List.range 4).flatMap (fun c => beBytes 4 (bits (h.rd HD_EST_RES_DOFS a) (32 * c) 32)) ++ beBytes 8 0

/-- ESTIMATOR_APPLY (R126, R119): the result that waits is applied at the tick boundary. -/
def Hw.estimatorApply (h : Hw) (a : Nat) : Hw :=
  match (h.herdAt a).applyNext with
  | none => h
  | some f =>
    let h := h.setHerd a (fun e => { e with
      applyNext := none, applied := ps8 f.a, appMode := f.mode
      dofs := f.dofs.map (fun p => (p.1, ps8 p.2)) })
    if h.on HD_SWIDAN_CTRL_REPORT a then h.swidanSend a 11 none (h.estBody a) else h

/-- The estimator of attachment a starts with A = 0 (R126). -/
def Hw.estimatorStart (h : Hw) (a : Nat) : Hw :=
  h.setHerd a (fun e => { e with
    started := false, applied := 0, appMode := 0, dofs := [], pendFit := none, applyNext := none, noFit := 0
    fellBack := false, streak := none, blockDone := false })

/-- ESTIMATOR_MODE_WRITE (R127, Table 4-23): a write of HD_EST_CFG restarts the estimator. -/
def Hw.estimatorModeWrite (h : Hw) (a v : Nat) : Hw := (h.writeWord .HD_EST_CFG 0 v a 0).estimatorStart a

/-- R128: the override that HD_ASYM_OVR holds comes into force. -/
def Hw.overrideTake (h : Hw) (a : Nat) : Hw :=
  let o : Option Int := if h.on HD_ASYM_OVR_EN a then some (h.rdS HD_ASYM_OVR_ASYM a) else none
  h.setHerd a (fun e => { e with ovr := o })

/-- ASYM_OVERRIDE_WRITE (R128, Table 4-27): a write of the upper word of HD_ASYM_OVR. -/
def Hw.asymOverrideWrite (h : Hw) (a v : Nat) : Hw := (h.writeWord .HD_ASYM_OVR 1 v a 0).overrideTake a

end Sys2Proof.Machine
end

