-- ==== Sys2Proof/Machine/Activation.lean ====
section
/-! DEFINITION. Activation, PLOAM, emergency stop, ranging and the OMCI channel of an attachment (chapter 3:
R69 to R82, R84, R94, R96 to R98), and the Swidan ranging of U1 (R116). -/

namespace Sys2Proof.Machine

/-- States of Table 3-1. -/
def aOff : Nat := 0
def aO11 : Nat := 1
def aO12 : Nat := 2
def aO23 : Nat := 3
def aO4 : Nat := 4
def aO5 : Nat := 5
def aO6 : Nat := 6
def aO7 : Nat := 7

/-- LN_ATT_STATUS.STATE. -/
def Hw.actState (h : Hw) (a : Nat) : Nat := h.rd LN_ATT_STATUS_STATE a

/-- States O1.1 to O6. -/
def Hw.actLive (h : Hw) (a : Nat) : Bool := decide (1 ≤ h.actState a ∧ h.actState a ≤ 6)

/-- States O4 to O6, in which a terminal identifier is assigned. -/
def Hw.hasId (h : Hw) (a : Nat) : Bool := decide (4 ≤ h.actState a ∧ h.actState a ≤ 6)

/-! ### Upstream PLOAM queue (R79) -/

/-- The queue without its oldest Acknowledgement. -/
def dropOldestAck : List PloamUp → Option (List PloamUp)
  | [] => none
  | m :: t => if m.kind = 0 then some t else (dropOldestAck t).map (fun l => m :: l)

/-- R79: a message is queued; at a full queue it replaces the oldest Acknowledgement or is dropped. -/
def Hw.ploamQueue (h : Hw) (a : Nat) (m : PloamUp) : Hw :=
  let q := (h.actAt a).ploamQ
  if q.length < 16 then h.setAct a (fun s => { s with ploamQ := q ++ [m] })
  else
    match dropOldestAck q with
    | some l => h.setAct a (fun s => { s with ploamQ := l ++ [m] })
    | none => h.setAct a (fun s => { s with ploamDrop := s.ploamDrop + 1 })

/-- An Acknowledgement of a message. -/
def Hw.ploamAck (h : Hw) (a typ : Nat) : Hw := if h.hasId a then h.ploamQueue a { kind := 0, body := [typ] } else h

/-- A refusal or error response of the standard. -/
def Hw.ploamRefuse (h : Hw) (a typ : Nat) : Hw := if h.hasId a then h.ploamQueue a { kind := 4, body := [typ] } else h

/-! ### Bursts that stop (R75, R76) -/

/-- Upstream channels of attachment a. -/
def upsOf (a : Nat) : List Nat := [2 * a, 2 * a + 1]

/-- What a burst that is not sent had taken goes back (R275), and so does its PLOAM message. -/
def Hw.burstReturn (h : Hw) (k : Nat) (b : Burst) : Hw :=
  let h := (b.took.reverse).foldl Hw.untake h
  match b.ploam with
  | some m => if b.kind = 0 then h.setAct (k / 2) (fun s => { s with ploamQ := m :: s.ploamQ }) else h
  | none => h

/-- R76: no staged burst of channel k starts; the burst on the fibre completes. -/
def Hw.burstDrop (h : Hw) (k : Nat) : Hw :=
  let s := h.upAt k
  let h := (s.bursts.reverse).foldl (fun h b => h.burstReturn k b) h
  h.setUp k (fun s => { s with bursts := [], lastEnd := s.cur.getD (min s.lastEnd h.now16) })

/-- R76: bursts stop on both upstream channels. -/
def Hw.burstsStop (h : Hw) (a : Nat) : Hw := h.each (upsOf a) Hw.burstDrop

/-- The level of a BURST_EN ball (R91): EN_POL selects the asserted level. -/
def Hw.burstEn (h : Hw) (k : Nat) (on : Bool) : Hw :=
  let s := h.upAt k
  if s.en = on then h
  else
    ((h.setUp k (fun s => { s with en := on })).wrB LN_TX_STATUS_BURSTING on (k / 2) (k % 2)).emit
      (.burstEn k (on != h.on LN_TX_CTRL_EN_POL (k / 2) (k % 2)))

/-- R75: BURST_EN is deasserted and a burst in progress is truncated. -/
def Hw.burstsCut (h : Hw) (a : Nat) : Hw :=
  h.each (upsOf a) (fun h k =>
    let h := (h.burstDrop k).burstEn k false
    h.setUp k (fun s => { s with cur := none, lastEnd := min s.lastEnd h.now16 }))

/-! ### State changes (R72, Table 3-2) -/

/-- Identifiers, EqDs, Alloc-IDs and profiles are discarded. -/
def Hw.actForget (h : Hw) (a : Nat) : Hw :=
  let h := h.setAct a (fun s => { s with
    sysProf := false, chanProf := [], ponId := 0, profs := [], oldEqd := [], allocs := [], to1 := none, to2 := none })
  let h := h.each [0, 1] (fun h u => ((h.wr LN_EQD_VALID 0 a u).wr LN_EQD_EQD 0 a u).wr LN_TX_STATUS_PROF_VALID 0 a u)
  ((h.wr LN_ATT_STATUS_EQD_U0 0 a).wr LN_ATT_STATUS_EQD_U1 0 a).wr LN_ATT_STATUS_TERM_ID 0 a

/-- The burst profiles and the system and channel profiles are discarded. -/
def Hw.actNoProfiles (h : Hw) (a : Nat) : Hw :=
  let h := h.setAct a (fun s => { s with sysProf := false, chanProf := [], profs := [] })
  h.each [0, 1] (fun h u => h.wr LN_TX_STATUS_PROF_VALID 0 a u)

/-- O1.2 is left once a burst profile of U0, the system profile and the profile of the activation channel have
been received. -/
def Hw.profilesIn (h : Hw) (a : Nat) : Bool :=
  let s := h.actAt a
  s.sysProf && s.chanProf.contains (h.actChan a) && s.profs.any (fun p => decide (p.1 < 4))

/-- The attachment enters a state: on O1.1, O7 and OFF its keys are erased (R96), queued PLOAM messages and the
identifier are discarded (R79) and the herd is dissolved (R119); entry to O5 makes HELLO due (R119). -/
def Hw.actEnter (h : Hw) (a st : Nat) : Hw :=
  let old := h.actState a
  let h := h.wr LN_ATT_STATUS_STATE st a
  if old = st then h
  else
    let h := if st = aO11 ∨ st = aO7 ∨ st = aOff then
        let h := (h.setAct a (fun s => { s with ploamQ := [], omci := [] })).wr LN_ATT_STATUS_TERM_ID 0 a
        (h.eraseAttKeys a).herdDissolve a
      else h
    if st = aO5 then h.setHerd a (fun e => { e with helloDue := some h.tick }) else h

/-- Table 3-2: the activation channel is in SYNC; `pon` is the PON-ID of its PSBd. -/
def Hw.actSync (h : Hw) (a pon : Nat) : Hw :=
  if h.actState a = aO11 then
    let h := (h.setAct a (fun s => { s with ponId := pon })).actEnter a aO12
    if h.profilesIn a then h.actEnter a aO23 else h
  else if h.actState a = aO6 then (h.setAct a (fun s => { s with to2 := none })).actEnter a aO5
  else h

/-- The attachment enters O1.1, and leaves it at once where its activation channel is in SYNC. -/
def Hw.actRestart (h : Hw) (a : Nat) : Hw :=
  let pon := (h.actAt a).ponId
  let h := h.actEnter a aO11
  if h.inSync a (h.actChan a) then h.actSync a pon else h

/-- TO1 or TO2 in microticks (R73); 0 ms acts as 1. -/
def Hw.attTimer (h : Hw) (a : Nat) (f : Fld) : Nat := max 1 (h.rd f a) * 640

/-- Expiry of TO2, and what is done "as for expiry of TO2". -/
def Hw.actLose (h : Hw) (a : Nat) : Hw := (h.actForget a)

/-- LODS (R71): counted in every state but OFF, and acts as Table 3-2 says. -/
def Hw.lods (h : Hw) (a : Nat) : Hw :=
  let st := h.actState a
  if st = aOff then h
  else
    let h := h.inc LN_ATT_STAT2_LODS_CNT a
    if st = aO12 ∨ st = aO23 then (h.actNoProfiles a).actEnter a aO11
    else if st = aO4 then (h.setAct a (fun s => { s with to1 := none })).actEnter a aO11
    else if st = aO5 then
      let h := (h.burstsStop a).setAct a (fun s => { s with to2 := some (h.clk.ut + h.attTimer a LN_ATT_TMR_TO2_MS) })
      (h.recordOf sevNotice (0x1030 + a) LN_ATT_STAT2_LODS_CNT a).actEnter a aO6
    else h

/-- TO1_EXPIRY (R73): the deadline has passed in O4. -/
def Hw.to1Expiry (h : Hw) (a : Nat) : Hw :=
  match (h.actAt a).to1 with
  | none => h
  | some d =>
    if h.actState a = aO4 ∧ d < h.clk.ut then
      ((h.setAct a (fun s => { s with to1 := none })).inc LN_ATT_STAT2_TO_EXP a).actRestart a
    else h

/-- TO2_EXPIRY (R73): the deadline has passed in O6. -/
def Hw.to2Expiry (h : Hw) (a : Nat) : Hw :=
  match (h.actAt a).to2 with
  | none => h
  | some d =>
    if h.actState a = aO6 ∧ d < h.clk.ut then
      (((h.actLose a).inc LN_ATT_STAT2_TO_EXP a).recordOf sevNotice (0x1030 + a) LN_ATT_STAT2_TO_EXP a).actRestart a
    else h

/-! ### ACT_EN and guarded registers (R72, R84, R96, R481) -/

/-- A write of word `w` of a register with `v`, in which each field that `keep` names stays as it is; WR_REJ is
set where the write would have changed one of them. -/
def Hw.guardedWrite (h : Hw) (a : Nat) (r : RegName) (w v i j : Nat) (keep : Fld → Bool) : Hw :=
  let fs := r.fields.filter (fun f => keep f && f.inWord w)
  let bad := fs.any (fun f => f.patch (h.rd f i j) w v != h.rd f i j)
  let h' := r.fields.foldl (fun h f => if f.inWord w && !keep f then h.writeFld f w v i j else h) h
  if bad then h'.wr LN_ATT_STATUS_WR_REJ 1 a
  else fs.foldl (fun h f => h.writeFld f w v i j) h'

/-- ACT_EN_WRITE (R72, R75, R96): a write of LN_ATT_CTRL. -/
def Hw.actEnWrite (h : Hw) (a v : Nat) : Hw :=
  let h := h.guardedWrite a .LN_ATT_CTRL 0 v a 0 (fun f =>
    h.actState a != aOff && (f == LN_ATT_CTRL_KEY_BASE || f == LN_ATT_CTRL_OMCI_MODE))
  let st := h.actState a
  if st = aO7 then h
  else if bitOf v 0 then
    if st = aOff then (if (h.actAt a).estop then h.actEnter a aO7 else h.actRestart a) else h
  else ((h.burstsStop a).actForget a).actEnter a aOff

/-- OPTICS_DELAY_WRITE (R84): a write of LN_ATT_RESP (`w` 0), LN_OPT_RXDLY[i] (1) or LN_OPT_TXDLY[i] (2). -/
def Hw.opticsWrite (h : Hw) (a w i v : Nat) : Hw :=
  let r : RegName := if w = 0 then .LN_ATT_RESP else if w = 1 then .LN_OPT_RXDLY else .LN_OPT_TXDLY
  h.guardedWrite a r 0 v a (if w = 0 then 0 else i) (fun _ => h.hasId a)

/-- R96: a write of a word of LN_ATT_REGID. -/
def Hw.regIdWrite (h : Hw) (a w v : Nat) : Hw := h.guardedWrite a .LN_ATT_REGID w v a 0 (fun _ => h.actState a != aOff)

/-! ### Downstream PLOAM messages (R69, R77, R78) -/

/-- R69, R78: what every PLOAM message of channel c passes before it is acted on: the channel filter, which
discards it uncounted but in PLOAM_IGN, and the integrity check. -/
def Hw.ploam (h : Hw) (a c : Nat) (mic ranging : Bool) (f : Hw → Hw) : Hw :=
  if h.runs rgLine && h.inSync a c then
    if c = h.actChan a ∨ (ranging = true ∧ c = (h.mapAt (2 * a + 1)).chan) then
      if mic then f (h.inc LN_ATT_STAT_PLOAM_RX a) else h.inc LN_ATT_STAT_PLOAM_BAD a
    else h.inc LN_ATT_STAT_PLOAM_IGN a
  else h

/-- PLOAM_IGNORED (R69): any message on another channel, and any but Ranging_Time on the map channel of U1. -/
def Hw.ploamIgnored (h : Hw) (a c : Nat) : Hw :=
  if h.runs rgLine && h.inSync a c && c != h.actChan a then h.inc LN_ATT_STAT_PLOAM_IGN a else h

/-- In O1.2 a profile may complete what is awaited. -/
def Hw.actProfiles (h : Hw) (a : Nat) : Hw :=
  if h.actState a = aO12 ∧ h.profilesIn a = true then h.actEnter a aO23 else h

/-- BURST_PROFILE (R87): a profile of upstream channel u, index i: PSBu of `len` bytes and FEC setting. -/
def Hw.burstProfile (h : Hw) (a u i len : Nat) (fec : Bool) : Hw :=
  if h.actLive a ∧ u < 2 ∧ i < 4 then
    let k := 4 * u + i
    let p : BurstProf := { len := len, fec := fec, tick := h.tick + 1 }
    let h := h.setAct a (fun s => { s with profs := (k, p) :: (s.profs.filter (fun x => x.1 == k)).take 1 ++ s.profs.filter (fun x => x.1 != k) })
    (h.wr LN_TX_STATUS_PROF_VALID (putBit (h.rd LN_TX_STATUS_PROF_VALID a u) i true) a u).actProfiles a
  else h

/-- The profile of upstream channel u, index i, for maps that arrived in tick `t` (R87). -/
def Hw.profileAt (h : Hw) (a u i t : Nat) : Option BurstProf :=
  ((h.actAt a).profs.find? (fun p => p.1 == 4 * u + i && decide (p.2.tick ≤ t))).map Prod.snd

/-- The serial number of attachment a: VENDOR and VSSN. -/
def Hw.serial (h : Hw) (a : Nat) : Nat := h.rd LN_ATT_SN_VENDOR a * 2 ^ 32 + h.rd LN_ATT_SN_VSSN a

/-- ASSIGN_ONU_ID (R72): in O2-3, with the attachment's serial number. -/
def Hw.assignOnuId (h : Hw) (a sn id : Nat) : Hw :=
  if h.actState a = aO23 ∧ sn = h.serial a then
    let h := (h.wr LN_ATT_STATUS_TERM_ID id a).setAct a (fun s => { s with to1 := some (h.clk.ut + h.attTimer a LN_ATT_TMR_TO1_MS) })
    h.actEnter a aO4
  else h

/-- The EqD of channel u for maps that arrived in tick `t` (R82). -/
def Hw.eqdFor (h : Hw) (a u t : Nat) : Option Nat :=
  let now : Option Nat := if h.on LN_EQD_VALID a u then some (h.rd LN_EQD_EQD a u) else none
  match (h.actAt a).oldEqd.find? (fun x => x.1 == u) with
  | some x => if t < x.2.2 then x.2.1 else now
  | none => now

/-- R82: an EqD in 2^-16 ns is accepted: in force from the tick that follows. -/
def Hw.eqdSet (h : Hw) (a u e : Nat) : Hw :=
  let was := h.eqdFor a u h.tick
  let h := h.setAct a (fun s => { s with oldEqd := store s.oldEqd u (was, h.tick + 1) })
  ((h.wr LN_EQD_VALID 1 a u).wr LN_EQD_EQD e a u).wr (if u = 0 then LN_ATT_STATUS_EQD_U0 else LN_ATT_STATUS_EQD_U1) 1 a

/-- R82: an EqD lies from 0 ns to 1,000,000 ns. -/
def eqdOk (e : Int) : Bool := decide (0 ≤ e ∧ e ≤ 65536000000)

/-- RANGING_TIME (R82): an absolute delay or an adjustment, in ns, received on channel c. -/
def Hw.rangingTime (h : Hw) (a c : Nat) (relative : Bool) (ns : Rat) : Hw :=
  if h.hasId a then
    let u := if c = h.actChan a then 0 else 1
    let d := roundRat (ns * 65536)
    let e : Int := if relative then ((h.rd LN_EQD_EQD a u : Nat) : Int) + d else d
    if eqdOk e then
      let h := (h.eqdSet a u e.toNat).ploamAck a 4
      if u = 0 ∧ h.actState a = aO4 then
        ((h.setAct a (fun s => { s with to1 := none })).recordOther sevNotice (0x1030 + a) 4).actEnter a aO5
      else h
    else h.ploamRefuse a 4
  else h

/-- DEACTIVATE_ONU_ID (R72): addressed to the terminal, or broadcast (`id` none). -/
def Hw.deactivate (h : Hw) (a : Nat) (id : Option Nat) : Hw :=
  if (h.actState a = aO4 ∨ h.actState a = aO5) ∧ (id = none ∨ id = some (h.rd LN_ATT_STATUS_TERM_ID a)) then
    ((((h.burstsStop a).actLose a).inc LN_ATT_STAT2_DEACT a).recordOf sevNotice (0x1030 + a) LN_ATT_STAT2_DEACT a).actRestart a
  else h

/-- The emergency-stop flag (R75), and its copy to the boot flash due within 1 s. -/
def Hw.estopSet (h : Hw) (a : Nat) (b : Bool) : Hw :=
  (h.setAct a (fun s => { s with estop := b, estopDue := some (h.tick + 8000) })).wrB LN_ATT_STATUS_ESTOP b a

/-- DISABLE_SERIAL_NUMBER (R75): disable or enable, for serial number `sn` or broadcast (none). -/
def Hw.disableSn (h : Hw) (a : Nat) (enable : Bool) (sn : Option Nat) : Hw :=
  if sn = none ∨ sn = some (h.serial a) then
    if enable then
      if h.actState a = aO7 then
        let h := (h.estopSet a false).recordOther sevNotice (0x1030 + a) 6
        if h.on LN_ATT_CTRL_ACT_EN a then h.actRestart a else h.actEnter a aOff
      else h
    else if h.actLive a then
      (((h.burstsCut a).estopSet a true).actLose a |>.recordOther sevWarn (0x1030 + a) 5).actEnter a aO7
    else h
  else h

/-- ESTOP_FLASH_COPY (R75): the flag is copied to the boot flash. The result is the flags of both attachments. -/
def Hw.estopCopy (h : Hw) (a : Nat) (was : Nat) : Hw × Nat :=
  if (h.actAt a).estopDue.isSome then
    (h.setAct a (fun s => { s with estopDue := none }), putBit was a (h.actAt a).estop)
  else (h, was)

/-- REQUEST_REGISTRATION (R77): a Registration with LN_ATT_REGID, the byte at offset 0x40 first. -/
def Hw.requestRegistration (h : Hw) (a : Nat) : Hw :=
  if h.hasId a then
    h.ploamQueue a { kind := 1, body := (List.range 36).map (fun k => bits (h.rd LN_ATT_REGID_REGID a) (8 * k) 8) }
  else h

/-- ASSIGN_ALLOC_ID (R77): an Alloc-ID enters or leaves the list of up to 64. -/
def Hw.assignAlloc (h : Hw) (a id : Nat) (remove : Bool) : Hw :=
  if h.hasId a then
    let l := (h.actAt a).allocs
    if remove then (h.setAct a (fun s => { s with allocs := l.filter (· != id) })).ploamAck a 10
    else if l.contains id then h.ploamAck a 10
    else if l.length < 64 then (h.setAct a (fun s => { s with allocs := l ++ [id] })).ploamAck a 10
    else h.ploamRefuse a 10
  else h

/-- KEY_CONTROL (R94): key index k; `gen` asks for a new key. Key_Report carries the ciphertext that the key
store returns. -/
def Hw.keyControl (h : Hw) (a k : Nat) (gen : Bool) : Hw :=
  if h.hasId a ∧ (k = 1 ∨ k = 2) then
    let slot := h.keyBase a + k - 1
    let h := h.when gen (fun h => h.fwKeyGen slot)
    let body := (Config.cipherBytes fnKeyReport [look h.ks.keys (h.keyBase a + 5) 0, look h.ks.keys slot 0]).map (fun b => b.toNat)
    h.ploamQueue a { kind := 2, body := body }
  else h

/-- PROFILE_MESSAGE (R72): the system profile (`chan` none) or the profile of a downstream channel. -/
def Hw.profileMessage (h : Hw) (a : Nat) (chan : Option Nat) : Hw :=
  if h.actLive a then
    (match chan with
      | none => h.setAct a (fun s => { s with sysProf := true })
      | some c => h.setAct a (fun s => { s with chanProf := if s.chanProf.contains c then s.chanProf else s.chanProf ++ [c] })).actProfiles a
  else h

/-- SLEEP_ALLOW (R77). -/
def Hw.sleepAllow (h : Hw) (a : Nat) : Hw := h.ploamAck a 18

/-- TUNING_CONTROL and Adjust_Tx_Wavelength (R77). -/
def Hw.tuningControl (h : Hw) (a : Nat) : Hw := h.ploamRefuse a 22

/-- CHANGE_POWER_LEVEL (R77): applied over the optics I²C bus where the host has set up the control record. -/
def Hw.changePower (h : Hw) (a : Nat) (record : Bool) : Hw := if record then h.ploamAck a 21 else h.ploamRefuse a 21

/-- PROTECTION_CONTROL (R77). -/
def Hw.protectionControl (h : Hw) (a : Nat) : Hw := h.ploamRefuse a 19

/-- OTHER_PLOAM (R77): answered as unsupported where the standard requires an answer. -/
def Hw.otherPloam (h : Hw) (a : Nat) (answer : Bool) : Hw :=
  if answer then h.ploamRefuse a 255 else h.setAct a (fun s => { s with ploamIgn := s.ploamIgn + 1 })

/-- EQD_U1 (R116): a Swidan EqD in 2^-16 ns; answered 2 not applicable, 1 out of range, 0 accepted. -/
def Hw.eqdU1 (h : Hw) (a seq e : Nat) : Hw :=
  if h.swEn a then
    let code := if h.actChan a ≠ (h.mapAt (2 * a + 1)).chan then 2 else if eqdOk (e : Int) then 0 else 1
    (h.when (code == 0) (fun h => h.eqdSet a 1 e)).swidanSend a 7 (some seq) (leBytes 1 code)
  else h

/-! ### OMCI (R97, R98) -/

/-- Results of an OMCI answer that this model tells apart: answered from the base, unknown entity, device busy,
decided by the host. -/
def omciDone : Nat := 0
def omciUnknown : Nat := 1
def omciBusy : Nat := 2
def omciCommitted : Nat := 3

/-- A host-bound OMCI message: the receive ring of HI_EVT_ROUTE[2].AUX, USER its transaction (Table 14-10). -/
def Hw.omciToHost (h : Hw) (a tci : Nat) (msg : List Byte) : Hw :=
  let (f, h) := h.newFrame msg 0 (128 + a)
  let f := { f with carry := { f.carry with mdata := f.carry.mdata.set 9 tci } }
  { h with toHost := h.toHost ++ [(64 + h.rd HI_EVT_ROUTE_AUX 2, f)] }

/-- OMCI_MESSAGE_RX (R97, R98): message kind 0 answered from the management base, 1 a class not implemented, 2 a
change of forwarding, classification or queue mapping, 3 enhanced security control. -/
def Hw.omciRx (h : Hw) (a kind action tci cls inst : Nat) (ok : Bool) (msg : List Byte) : Hw :=
  if !(h.runs rgControl && h.hasId a) then h
  else if !ok then h.setAct a (fun s => { s with omciBad := s.omciBad + 1 })
  else if h.on LN_ATT_CTRL_OMCI_MODE a && kind != 3 then h.omciToHost a tci msg
  else if kind = 2 then
    let hold := max 1 (h.rd LN_ATT_CTRL_OMCI_HOLD a) * 64000
    let h := h.setAct a (fun s => { s with omci := s.omci ++ [(tci, h.clk.ut + hold)] })
    (h.eventDrop 2 0x0020 (leBytes 1 a ++ leBytes 1 action ++ leBytes 2 tci ++ leBytes 2 cls ++ leBytes 2 inst ++ leBytes 4 0) []).omciToHost
      a tci msg
  else h.emit (.omci a tci (if kind = 1 then omciUnknown else omciDone))

/-- The held request of a transaction is answered. -/
def Hw.omciAnswer (h : Hw) (a tci result : Nat) : Hw :=
  if (h.actAt a).omci.any (fun x => x.1 == tci) then
    (h.setAct a (fun s => { s with omci := s.omci.filter (fun x => x.1 != tci) })).emit (.omci a tci result)
  else h

/-- OMCI_CFG_ANSWER (R97): the commit of the change completes. -/
def Hw.omciCommit (h : Hw) (a tci : Nat) : Hw := h.omciAnswer a tci omciCommitted

/-- OMCI_HOLD_EXPIRY (R97): requests whose hold has passed are answered device busy. -/
def Hw.omciExpiry (h : Hw) (a : Nat) : Hw :=
  h.each (((h.actAt a).omci.filter (fun x => decide (x.2 < h.clk.ut))).map Prod.fst) (fun h t => h.omciAnswer a t omciBusy)

/-! ### After a reset of LINE (R74) -/

/-- The attachment takes its state after a reload or start of LINE. -/
def Hw.actStart (h : Hw) (a : Nat) : Hw :=
  let e := (h.actAt a).estop
  let due := (h.actAt a).estopDue
  let h := { h with act := store h.act a { estop := e, estopDue := due } }
  let h := h.wrB LN_ATT_STATUS_ESTOP e a
  let h := (h.eraseAttKeys a).wr LN_ATT_STATUS_STATE 0 a
  if e then h.wr LN_ATT_STATUS_STATE 7 a
  else if h.on LN_ATT_CTRL_ACT_EN a then h.wr LN_ATT_STATUS_STATE 1 a else h

end Sys2Proof.Machine
end

