-- ==== Sys2Proof/Machine/Upstream.lean ====
section
/-! DEFINITION. Bandwidth maps and the upstream burst engines (chapter 3: R80, R83, R85 to R93; R58, R114, R115):
planning, staging, launch, BURST_EN and its watchdog. -/

namespace Sys2Proof.Machine

/-! ### Rates and durations (R80, Table 3-17) -/

/-- The line rate of upstream channel 2a + u: 0 24.8832 Gb/s, 1 49.7664 Gb/s, 2 9.95328 Gb/s; none where it
does not transmit. -/
def Hw.txRate (h : Hw) (k : Nat) : Option Nat :=
  if h.on LN_RX_CTRL_MODE (k / 2) 0 then (if k % 2 = 0 then some 2 else none)
  else some (if h.rd LN_TX_CTRL_RATE (k / 2) (k % 2) = 1 then 1 else 0)

/-- The duration of `n` bits at a rate, in 2^-16 ns. -/
def bitSpan (rate n : Nat) : Int :=
  if rate = 2 then roundDiv ((n * 6553600000 : Nat) : Int) 995328
  else if rate = 1 then roundDiv ((n * 655360000 : Nat) : Int) 497664
  else roundDiv ((n * 655360000 : Nat) : Int) 248832

/-- `n` core cycles in 2^-16 ns. -/
def cycles16 (n : Nat) : Int := roundDiv ((n * 655360000 : Nat) : Int) 15552

/-- T_RESP as it acts: 34,000 ns to 36,000 ns (R81). -/
def Hw.tResp (h : Hw) (a : Nat) : Nat := max 2228224000 (min 2359296000 (h.rd LN_ATT_RESP_T_RESP a))

/-- The staging deadline lies 12 µs before the first PSBu bit (R88). -/
def stagingLead : Int := 786432000

/-! ### Planning (R58, R80, R82, R86, R88, R115) -/

/-- R58: whether the activation state accepts a grant of upstream channel k. -/
def Hw.grantTaken (h : Hw) (a : Nat) (g : Grant) : Bool :=
  match g.kind with
  | 0 => h.hasId a && ((h.actAt a).allocs.contains g.alloc || g.alloc == h.rd LN_ATT_STATUS_TERM_ID a)
  | 1 => h.actState a == aO23
  | 2 => h.actState a == aO4 && g.alloc == h.rd LN_ATT_STATUS_TERM_ID a
  | _ => false

/-- Allocations joined into bursts: a continuation joins the burst before it (R88). -/
def groupGrants : List Grant → List (List Grant)
  | [] => []
  | g :: t =>
    match groupGrants t with
    | [] => [[g]]
    | b :: bs =>
      match b with
      | x :: _ => if x.cont && x.kind == g.kind then (g :: b) :: bs else [g] :: b :: bs
      | [] => [g] :: bs

/-- R80: the burst of channel 2a + u for grants whose map came on channel c at `tfb` in tick `t`; timed by
StartTime `s` at rate `r` with EqD `e`. -/
def Hw.planAt (h : Hw) (a u c t : Nat) (tfb : Int) (gs : List Grant) (kind s r e : Nat) : Burst :=
  let hdr := tfb - ((h.rd LN_OPT_RXDLY_D_RX a c : Nat) : Int) - ((h.rd LN_OPT_TXDLY_D_TX a u : Nat) : Int) +
    ((h.tResp a + e : Nat) : Int) + bitSpan r (32 * s)
  let p := h.profileAt a u ((gs.head?.map (fun g => g.prof)).getD 0) t
  let lead := match p with
    | some x => bitSpan ((h.txRate (2 * a + u)).getD 0) (8 * x.len)
    | none => 0
  { hdr := hdr, launch := hdr - lead, stop := hdr, grants := gs, kind := kind, prof := p.isSome }

/-- A burst joins the channel's bursts in order of launch. -/
def Hw.addBurst (h : Hw) (k : Nat) (b : Burst) : Hw :=
  h.setUp k (fun s => { s with bursts := insertBy (fun x y => decide (x.launch < y.launch)) b s.bursts })

/-- R80, R86: one group of allocations planned. A channel without a valid EqD sends only serial-number responses and
registrations (R85); the random delay of R86 is a free value (log entry 4, DESIGN CHOICE). -/
def Hw.planGroup (h : Hw) (a u c t : Nat) (tfb : Int) (gs : List Grant) : Hw :=
  match gs, h.txRate (2 * a + u) with
  | g :: _, some r =>
    if g.kind = 0 then
      match h.eqdFor a u t with
      | some e => h.addBurst (2 * a + u) (h.planAt a u c t tfb gs 0 g.start r e)
      | none => h
    else
      let (d, h) := if g.kind = 1 then h.takeFree else (0, h)
      h.addBurst (2 * a + u) (h.planAt a u c t tfb gs g.kind (g.start + d) r 0)
  | _, _ => h

/-- The twin Alloc-ID of the descriptor in force (R115). -/
def Hw.twinAlloc (h : Hw) (a : Nat) : Option Nat :=
  if h.formed a then ((h.herdAt a).desc.map (fun d => d.twin)).bind (fun t => if t = 0xFFFF then none else some t) else none

/-- R115: the grants of a pair: two bursts timed from the U0 grant `g0`, whose map came on channel c. -/
def Hw.planPair (h : Hw) (a c t : Nat) (tfb : Int) (g0 g1 : Grant) : Hw :=
  match h.txRate (2 * a), h.txRate (2 * a + 1), h.eqdFor a 0 t with
  | some r, some _, some e =>
    (h.addBurst (2 * a) (h.planAt a 0 c t tfb [g0] 3 g0.start r e)).addBurst (2 * a + 1) (h.planAt a 1 c t tfb [g1] 3 g0.start r e)
  | _, _, _ => h

/-- A twin grant without a partner yet: planned as an ordinary idle allocation. -/
def Hw.planTwinAlone (h : Hw) (a u c t sfc : Nat) (tfb : Int) (g : Grant) : Hw :=
  match h.txRate (2 * a + u), h.eqdFor a u t with
  | some r, some e =>
    let b := h.planAt a u c t tfb [g] 0 g.start r e
    (h.addBurst (2 * a + u) b).setUp (2 * a + u) (fun s => { s with twin := some (sfc, b) })
  | _, _ => h

/-- R115: a twin grant of channel u in a frame with superframe count `sfc`: it waits as an ordinary idle allocation
until its partner arrives, and then both become a pair. -/
def Hw.twinGrant (h : Hw) (a u c t sfc : Nat) (tfb : Int) (g : Grant) : Hw :=
  let k := 2 * a + u
  let o := 2 * a + (1 - u)
  match (h.upAt o).twin with
  | some (n, b) =>
    if n = sfc ∧ (h.upAt o).bursts.contains b then
      let h := h.setUp o (fun s => { s with twin := none, bursts := s.bursts.erase b })
      if u = 1 then
        match b.grants with
        | g0 :: _ =>
          let h := h.addBurst o { b with kind := 3 }
          match h.txRate k with
          | some _ =>
            let d := ((h.rd LN_OPT_TXDLY_D_TX a 0 : Nat) : Int) - ((h.rd LN_OPT_TXDLY_D_TX a 1 : Nat) : Int)
            let p := h.profileAt a 1 g.prof t
            let lead := match p with
              | some x => bitSpan ((h.txRate k).getD 0) (8 * x.len)
              | none => 0
            h.addBurst k { hdr := b.hdr + d, launch := b.hdr + d - lead, stop := b.hdr + d, grants := [{ g with start := g0.start }]
                           kind := 3, prof := p.isSome }
          | none => h
        | [] => h
      else
        match b.grants with
        | g1 :: _ => h.planPair a c t tfb g g1
        | [] => h
    else h.planTwinAlone a u c t sfc tfb g
  | none => h.planTwinAlone a u c t sfc tfb g

/-- BWMAP (R58, R88): the allocations of a frame received on channel c of attachment a for upstream channel u. -/
def Hw.bwmapFor (h : Hw) (a u c : Nat) (f : FrameIn) (gs : List Grant) : Hw :=
  let k := 2 * a + u
  let t := h.tick
  let sums := gs.foldl (fun m g => store m g.alloc (look m g.alloc 0 + g.size)) []
  let h := h.setUp k (fun s => { s with totals := sums })
  let isTwin (g : Grant) : Bool := g.kind == 0 && some g.alloc == h.twinAlloc a
  let h := h.each (groupGrants (gs.filter (fun g => !isTwin g))) (fun h l => h.planGroup a u c t f.t l)
  h.each (gs.filter isTwin) (fun h g => h.twinGrant a u c t f.sfc f.t g)

/-- R57, R58: the map of a frame on channel c: structures with a bad HEC are discarded alone, those beyond 512 of the
accepted ones are discarded; an upstream channel takes those that name it where one map serves both. -/
def Hw.bwmap (h : Hw) (a c : Nat) (f : FrameIn) : Hw :=
  let h := h.when (f.badAllocs != 0) (fun h => h.inc LN_MAP_STAT_HEC_DISC a 0 f.badAllocs)
  let acc := f.map.filter (h.grantTaken a)
  let h := h.when (decide (512 < acc.length)) (fun h => h.inc LN_MAP_STAT_TRUNC a 0 (acc.length - 512))
  let acc := acc.take 512
  let both := (h.mapAt (2 * a)).chan == c && (h.mapAt (2 * a + 1)).chan == c
  h.each [0, 1] (fun h u =>
    if (h.mapAt (2 * a + u)).chan = c then h.bwmapFor a u c f (if both then acc.filter (fun g => g.u == u) else acc) else h)

/-- Table 1-7: the BWMAP job of attachment a overran: allocations not yet handed over are missed. -/
def Hw.bwmapHeld (h : Hw) (a : Nat) : Hw :=
  h.each (upsOf a) (fun h k => h.setUp k (fun s => { s with
    bursts := (s.bursts.map (fun b => if b.staged then b else { b with grants := b.grants.filter (fun g => decide (g.handed ≤ h.now16)) })).filter
      (fun b => b.staged || !b.grants.isEmpty) }))

/-! ### Staging (R83, R85, R87 to R90, R114, R115) -/

/-- R85, R93: whether channel k may send a burst of a kind. -/
def Hw.maySend (h : Hw) (k kind : Nat) : Bool :=
  let a := k / 2
  let st := h.actState a
  h.runs rgLine && decide (h.rd PW_STATUS_PSTATE < 3) && h.on LN_TX_CTRL_ENABLE a (k % 2) && !h.on LN_TX_STATUS_ROGUE a (k % 2) &&
  (match kind with
   | 1 => st == aO23
   | 2 => st == aO4 || st == aO5
   | _ => st == aO5)

/-- The first burst of channel k that is not staged. -/
def Hw.nextUnstaged (h : Hw) (k : Nat) : Option Burst := (h.upAt k).bursts.find? (fun b => !b.staged)

/-- Drop a planned burst of channel k. -/
def Hw.unplan (h : Hw) (k : Nat) (b : Burst) : Hw := h.setUp k (fun s => { s with bursts := s.bursts.erase b })

/-- R87, R88: the allocations in time, with what LATE_GRANT and NOPROF count; none where nothing is left to send. -/
def Hw.stageIn (h : Hw) (k : Nat) (b : Burst) : Hw × Option Burst :=
  let a := k / 2
  let u := k % 2
  let dl := b.launch - stagingLead
  let late := b.grants.filter (fun g => decide (dl < g.handed))
  let gs := b.grants.filter (fun g => decide (g.handed ≤ dl))
  let h := h.when (!late.isEmpty) (fun h => h.inc LN_TX_CNT_LATE_GRANT a u late.length)
  if gs.isEmpty then (h, none)
  else if !b.prof then (h.inc LN_TX_CNT_NOPROF a u gs.length, none)
  else if h.maySend k b.kind then (h, some { b with grants := gs })
  else (h, none)

/-- R83: the first PSBu bit would fall earlier than one core cycle after the last bit of the burst before it. -/
def Hw.overlaps (h : Hw) (k : Nat) (b : Burst) : Bool := decide (b.launch < (h.upAt k).lastEnd + cycles16 1)

/-- R89, R90, R114: one data allocation is filled from the staging area of its slot. -/
def Hw.fillGrant (h : Hw) (a : Nat) (b : Burst) (g : Grant) (u : Nat) : Hw × Burst :=
  if h.rd SF_LEVEL_HELD = 2 then (h, { b with occ := if g.dbru then b.occ ++ [(g.alloc, 0)] else b.occ })
  else
    match h.slotOfAlloc a g.alloc with
    | none => (h.inc LN_TX_CNT_NOMAP a u, { b with occ := if g.dbru then b.occ ++ [(g.alloc, 0)] else b.occ })
    | some s =>
      let occ := if g.dbru then b.occ ++ [(g.alloc, h.bufOcc s)] else b.occ
      let h := h.wr TM_UP_CNT_BUFOCC (h.bufOcc s) (s / 64) (s % 64)
      let bond := (h.herdAt a).bonded.any (fun x => x.1 == g.alloc)
      let (h, took, n) := h.fillAlloc s (g.size - (if g.dbru then 4 else 0)) (if bond then 4 else 0)
      let h := if bond then h.setHerd a (fun e => { e with
          bonded := e.bonded.map (fun x => if x.1 = g.alloc then (x.1, (x.2 + n) % 65536) else x) }) else h
      (h, { b with occ := occ, took := b.took ++ [took] })

/-- R79, R89: what the burst carries: the PLOAM message that it takes, and its allocations. `len` is its length from
the FS burst header to its last bit, in bits. -/
def Hw.fillBurst (h : Hw) (k : Nat) (b : Burst) (len : Nat) : Hw × Burst :=
  let a := k / 2
  let u := k % 2
  let stop := b.hdr + bitSpan ((h.txRate k).getD 0) len
  let b := { b with staged := true, stop := stop }
  match b.kind with
  | 0 =>
    let (h, b) :=
      if u = 0 ∧ b.grants.any (fun g => g.ploam) then
        match (h.actAt a).ploamQ with
        | m :: t => (h.setAct a (fun s => { s with ploamQ := t }), { b with ploam := some m })
        | [] => (h, b)
      else (h, b)
    b.grants.foldl (fun (x : Hw × Burst) g => x.1.fillGrant a x.2 g u) (h, b)
  | 1 => (h, { b with ploam := some { kind := 3, body := (beBytes 8 (h.serial a)).map (fun x => x.toNat) } })
  | 2 => (h, { b with ploam := some { kind := 1, body := (List.range 36).map (fun i => bits (h.rd LN_ATT_REGID_REGID a) (8 * i) 8) } })
  | _ => (h, b)

/-- A burst that passed its checks is staged. -/
def Hw.stageCommit (h : Hw) (k : Nat) (old b : Burst) (len : Nat) : Hw :=
  let (h, b') := (h.unplan k old).fillBurst k b len
  (h.addBurst k b').setUp k (fun s => { s with lastEnd := b'.stop })

/-- BURST_STAGING (R88, R83, R115): the staging deadline of the next burst of channel k. `len` and `len1` are the
lengths in bits of the burst and, for a pair, of its partner (log entry 43, DESIGN CHOICE). -/
def Hw.burstStaging (h : Hw) (k len len1 : Nat) : Hw :=
  match h.nextUnstaged k with
  | none => h
  | some b =>
    if b.kind = 3 then
      let o := 2 * (k / 2) + (1 - k % 2)
      match ((h.upAt o).bursts.find? (fun x => !x.staged && x.kind == 3)) with
      | none => h.unplan k b
      | some p =>
        match h.stageIn k b with
        | (h, none) => (h.unplan k b).unplan o p
        | (h, some b') =>
          match h.stageIn o p with
          | (h, none) => (h.unplan k b).unplan o p
          | (h, some p') =>
            if h.overlaps k b' || h.overlaps o p' then
              ((h.unplan k b).unplan o p).inc HD_HERD_CNT_TWIN_SKIP (k / 2)
            else (h.stageCommit k b b' len).stageCommit o p p' len1
    else
      match h.stageIn k b with
      | (h, none) => h.unplan k b
      | (h, some b') =>
        if h.overlaps k b' then (h.unplan k b).inc LN_TX_CNT_OVERLAP (k / 2) (k % 2) else h.stageCommit k b b' len

/-! ### Launch and BURST_EN (R91, R92) -/

/-- The first staged burst of channel k. -/
def Hw.nextStaged (h : Hw) (k : Nat) : Option Burst := (h.upAt k).bursts.find? (fun b => b.staged)

/-- BURST_EN_ASSERT (R91). -/
def Hw.burstAssert (h : Hw) (k : Nat) : Hw :=
  match h.nextStaged k with
  | some b => if h.maySend k b.kind then h.burstEn k true else h
  | none => h

/-- BURST_LAUNCH (R80, R92): the burst's first bit crosses the transmit ball; the frames that it carries whole leave
their buffers. -/
def Hw.burstLaunch (h : Hw) (k : Nat) : Hw :=
  match h.nextStaged k with
  | none => h
  | some b =>
    let h := h.unplan k b
    if h.maySend k b.kind then
      let h := (h.setUp k (fun s => { s with cur := some b.stop, strobe := b.launch })).inc LN_TX_CNT_BURSTS (k / 2) (k % 2)
      let h := h.each (b.took.flatMap (fun t => t.2.1.map Prod.snd)) (fun h f => h.freed f)
      h.emit (.burst k b)
    else h.burstReturn k b

/-- BURST_EN_DEASSERT (R91): LAG after the last bit, unless the lead of the next burst begins before. -/
def Hw.burstDeassert (h : Hw) (k : Nat) : Hw :=
  let s := h.upAt k
  let off := (s.cur.getD s.lastEnd) + cycles16 (h.rd LN_TX_BURST_LAG (k / 2) (k % 2))
  let keep : Bool := match h.nextStaged k with
    | some b => decide (b.launch - cycles16 (h.rd LN_TX_BURST_LEAD (k / 2) (k % 2)) ≤ off)
    | none => false
  let h := h.setUp k (fun s => { s with cur := none })
  if keep then h else h.burstEn k false

/-- BURST_WATCHDOG_TRIP (R92): the ball is forced deasserted and the channel is silent until ROGUE is cleared. -/
def Hw.burstTrip (h : Hw) (k : Nat) : Hw :=
  let h := (h.burstDrop k).burstEn k false
  let h := h.setUp k (fun s => { s with cur := none })
  (h.wr LN_TX_STATUS_ROGUE 1 (k / 2) (k % 2)).recordOther sevMajor (0x1010 + k) 8

/-- R481, Table 3-17: a write of LN_TX_CTRL: RATE is kept while ENABLE reads 1. -/
def Hw.txCtrlWrite (h : Hw) (a u v : Nat) : Hw :=
  let was := h.on LN_TX_CTRL_ENABLE a u
  let h := (RegName.LN_TX_CTRL).fields.foldl (fun h f =>
    if f == LN_TX_CTRL_RATE && was then h else h.writeFld f 0 v a u) h
  if was && !bitOf v 0 then h.burstDrop (2 * a + u) else h

/-- R93: LINE stops: every BURST_EN ball is deasserted. -/
def Hw.burstsSilence (h : Hw) : Hw := h.each [0, 1, 2, 3] (fun h k => h.burstEn k false)

end Sys2Proof.Machine
end

