-- ==== Sys2Proof/Machine/Line.lean ====
section
/-! DEFINITION. The downstream receivers (chapter 2): enables, loss of signal, frame alignment, captures, header
extraction, map loss, error handling and performance monitoring (R38 to R68). -/

namespace Sys2Proof.Machine

/-! ### Status -/

/-- R53: the effective iteration limit for n decoder cells. -/
def Hw.iterCap (h : Hw) (a c n : Nat) : Nat := min (max 1 (h.rd LN_FEC_CFG_MAX_ITER a c)) (if 4 ≤ n then 10 else if n = 3 then 7 else 5)

/-- LN_RX_STATUS.DEC_CELLS and ITER_CAP. -/
def Hw.rxCells (h : Hw) (a c cells : Nat) : Hw :=
  (h.wr LN_RX_STATUS_DEC_CELLS cells a c).wr LN_RX_STATUS_ITER_CAP (h.iterCap a c (popCount 4 cells)) a c

/-- A write of LN_FEC_CFG (R53): ITER_CAP follows MAX_ITER while the receiver runs. -/
def Hw.fecCfgWrite (h : Hw) (a c w v : Nat) : Hw :=
  let h := h.writeWord .LN_FEC_CFG w v a c
  if h.rd LN_RX_STATUS_STATE a c = rxOff then h else h.rxCells a c (h.rd LN_RX_STATUS_DEC_CELLS a c)

/-- The candidate slots and SLOTS_BUSY. -/
def Hw.rxSlots (h : Hw) (a c : Nat) (l : List Cand) : Hw :=
  (h.setRx (4 * a + c) (fun r => { r with cands := l })).wr LN_RX_STATUS_SLOTS_BUSY l.length a c

/-- The miss count and MISS2. -/
def Hw.rxMiss (h : Hw) (a c n : Nat) : Hw := (h.wr LN_RX_STATUS_MISS_CNT n a c).wrB LN_RX_STATUS_MISS2 (decide (2 ≤ n)) a c

/-- The channel leaves SYNC, if it is in it, for state `st`: LODS on the activation channel (R71), pointer
processing ends (Table 4-5). -/
def Hw.rxGo (h : Hw) (a c st : Nat) : Hw :=
  let was := h.inSync a c
  let h := ((h.rxSlots a c []).rxMiss a c 0).wr LN_RX_STATUS_STATE st a c
  if was then
    let h := if h.actChan a = c then h.lods a else h
    h.ptrDrop a c
  else h

/-- R38: the receiver is powered down. -/
def Hw.rxPowerDown (h : Hw) (a c : Nat) : Hw :=
  let h := h.rxGo a c rxOff
  let h := h.setRx (4 * a + c) (fun r => { r with selftest := false, newlat := false })
  ((h.wr LN_RX_STATUS_LOS 0 a c).wr LN_RX_STATUS_CDR_LOCK 0 a c).wr LN_RX_STATUS_EQ_CONV 0 a c

/-- R62: the receiver is isolated by LINE: it behaves as if ENABLE were 0. -/
def Hw.rxIsolate (h : Hw) (a c : Nat) : Hw := ((h.rxPowerDown a c).wr LN_RX_STATUS_ISOLATED 1 a c).isolate (0x1000 + 4 * a + c)

/-! ### Enables (R38, R60, R63) -/

/-- The self-test of the receiver's cells starts (R38, R401). -/
def Hw.rxStart (h : Hw) (a c : Nat) : Hw := h.setRx (4 * a + c) (fun r => { r with selftest := true })

/-- A write of LN_RX_CTRL (R38, R60): MODE is kept while ENABLE reads 1, and is D0's only. -/
def Hw.rxCtrlWrite (h : Hw) (a c v : Nat) : Hw :=
  let was := h.on LN_RX_CTRL_ENABLE a c
  let rej := was && c == 0 && (b2n (bitOf v 1) != h.rd LN_RX_CTRL_MODE a c)
  let h := h.writeKeep .LN_RX_CTRL 0 v a c (fun f => f == LN_RX_CTRL_MODE && (was || c != 0))
  let h := h.when rej (fun h => h.wr LN_RX_STATUS_MODE_REJ 1 a c)
  if !was && bitOf v 0 then h.rxStart a c
  else if was && !bitOf v 0 then h.rxPowerDown a c
  else h

/-- RX_SELFTEST_DONE (R38): a pass enters LOS, with every decoder cell in service; a failure isolates. -/
def Hw.rxSelftest (h : Hw) (a c : Nat) (pass : Bool) : Hw :=
  if (h.rxAt (4 * a + c)).selftest then
    let h := h.setRx (4 * a + c) (fun r => { r with selftest := false, cellErr := [], parTicks := [], extTicks := [] })
    if pass then
      (((h.rxCells a c 15).wr LN_RX_STATUS_ISOLATED 0 a c).wr LN_RX_STATUS_STATE rxLos a c).wr LN_RX_STATUS_LOS 1 a c
    else h.rxIsolate a c
  else h

/-- EQ_RESET (R41): a write of LN_RX_EQ; EQ_RESET is dropped while the channel is in SYNC. -/
def Hw.eqReset (h : Hw) (a c v : Nat) : Hw :=
  let h := h.writeWord .LN_RX_EQ 0 v a c
  if bitOf v 12 && !h.inSync a c then h.setRx (4 * a + c) (fun r => { r with warm := false }) else h

/-! ### Loss of signal and lock (R41 to R43, R49) -/

/-- LOS cleared and EQ_CONV = 1: the scanner starts (Table 2-2). -/
def Hw.rxHuntIf (h : Hw) (a c : Nat) : Hw :=
  if h.rd LN_RX_STATUS_STATE a c = rxLos ∧ h.on LN_RX_STATUS_LOS a c = false ∧ h.on LN_RX_STATUS_EQ_CONV a c = true then
    h.wr LN_RX_STATUS_STATE rxHunt a c
  else h

/-- LOS_DECLARED (R42, R43); `cdr` says that the CDR has lost lock. -/
def Hw.losDeclared (h : Hw) (a c : Nat) (cdr : Bool) : Hw :=
  if h.rd LN_RX_STATUS_STATE a c = rxOff then h
  else
    let h := (h.rxGo a c rxLos).wr LN_RX_STATUS_LOS 1 a c
    let h := if cdr then (h.wr LN_RX_STATUS_CDR_LOCK 0 a c).wr LN_RX_STATUS_EQ_CONV 0 a c else h
    h.recordOther sevNotice (0x1000 + 4 * a + c) 9

/-- CDR_LOCK (R49): LN_RX_LAT is the factory value and the phase measured at lock. -/
def Hw.cdrLock (h : Hw) (a c phase : Nat) : Hw :=
  if h.rd LN_RX_STATUS_STATE a c = rxOff then h
  else
    let lat := look h.pw.factory (0, 4 * a + c) 0 + phase
    ((h.wr LN_RX_LAT_LAT lat a c).wr LN_RX_STATUS_CDR_LOCK 1 a c).setRx (4 * a + c) (fun r => { r with newlat := true })

/-- EQ_CONV (R41). -/
def Hw.eqConv (h : Hw) (a c : Nat) : Hw :=
  if h.on LN_RX_STATUS_CDR_LOCK a c then
    ((h.wr LN_RX_STATUS_EQ_CONV 1 a c).setRx (4 * a + c) (fun r => { r with warm := true })).rxHuntIf a c
  else h

/-- At a microtick boundary (R39, R42, R64): the peaking written, LOS cleared after an indication-free microtick with
the CDR locked, and a defect tick where the state is LOS or HUNT. -/
def Hw.rxMicro (h : Hw) (a c : Nat) (seen : Bool) : Hw :=
  let h := h.setRx (4 * a + c) (fun r => { r with ctle := min 24 (h.rd LN_RX_EQ_CTLE_PEAK a c) })
  let h := if h.on LN_RX_STATUS_LOS a c && h.on LN_RX_STATUS_CDR_LOCK a c && !seen then
      (h.wr LN_RX_STATUS_LOS 0 a c).rxHuntIf a c else h
  let st := h.rd LN_RX_STATUS_STATE a c
  if st = rxLos ∨ st = rxHunt then h.setRx (4 * a + c) (fun r => { r with defTick := true }) else h

/-! ### Maps (R55, R57) -/

/-- R57: a map of channel c is lost for the upstream channels that it serves. -/
def Hw.mapLost (h : Hw) (a c : Nat) : Hw :=
  let us := [0, 1].filter (fun u => (h.mapAt (2 * a + u)).chan == c)
  let h := h.when (!us.isEmpty) (fun h => h.inc LN_MAP_STAT_MAPS_LOST a)
  h.each us (fun h u =>
    let h := h.setMap (2 * a + u) (fun m => { m with lost := m.lost + 1 })
    if 2 ≤ (h.mapAt (2 * a + u)).lost then h.wr (if u = 0 then LN_MAP_CFG_MAPLOSS_U0 else LN_MAP_CFG_MAPLOSS_U1) 1 a else h)

/-- R57: a map of channel c is received whole. -/
def Hw.mapGood (h : Hw) (a c : Nat) : Hw :=
  h.each ([0, 1].filter (fun u => (h.mapAt (2 * a + u)).chan == c)) (fun h u =>
    (h.setMap (2 * a + u) (fun m => { m with lost := 0 })).wr (if u = 0 then LN_MAP_CFG_MAPLOSS_U0 else LN_MAP_CFG_MAPLOSS_U1) 0 a)

/-- LN_MAP_CFG_WRITE (R57): the change takes effect at the next tick boundary. -/
def Hw.mapCfgWrite (h : Hw) (a v : Nat) : Hw := h.writeWord .LN_MAP_CFG 0 v a 0

/-- R57, R70: map channels at a tick boundary. -/
def Hw.mapBoundary (h : Hw) (a : Nat) : Hw :=
  h.each [0, 1] (fun h u =>
    let new := h.rd (if u = 0 then LN_MAP_CFG_MAP_U0 else LN_MAP_CFG_MAP_U1) a
    if (h.mapAt (2 * a + u)).chan = new then h
    else
      let h := (h.setMap (2 * a + u) (fun _ => { chan := new, lost := 0 })).wr
        (if u = 0 then LN_MAP_CFG_MAPLOSS_U0 else LN_MAP_CFG_MAPLOSS_U1) 0 a
      if u = 0 then (if h.inSync a new then h.actSync a (h.actAt a).ponId else h.lods a) else h)

/-! ### Frames (R44 to R48, R55) -/

/-- FRAME_BOUNDARY_EVENT (R48): the capture appears in LN_FB_CAP and LN_SFC and goes to the time core (R139). -/
def Hw.frameBoundary (h : Hw) (a c : Nat) (f : FrameIn) : Hw :=
  let k := 4 * a + c
  let nl := (h.rxAt k).newlat
  let t := f.t.toNat
  let h := h.setRx k (fun r => { r with capOld := r.cap, cap := some (f.t, f.sfc, h.tick, nl), newlat := false })
  let h := ((h.wr LN_FB_CAP_SEC (t / 65536000000000) a c).wr LN_FB_CAP_NS (t / 65536 % 1000000000) a c).wr LN_FB_CAP_FRAC (t % 65536) a c
  let h := (h.wrB LN_FB_CAP_NEWLAT nl a c).wr LN_SFC_SFC f.sfc a c
  if h.sampleChan a = some c then h.todaTry a else h

/-- FS_HEADER_EXTRACT (R55): an uncorrectable FS header discards the frame's map; else the map is taken. -/
def Hw.headerExtract (h : Hw) (a c : Nat) (f : FrameIn) : Hw :=
  if f.fsOk then (h.mapGood a c).bwmap a c f
  else (h.setRx (4 * a + c) (fun r => { r with errTick := true })).mapLost a c

/-- CANDIDATE_FOUND (R44). -/
def Hw.candidate (h : Hw) (a c pos sfc : Nat) : Hw :=
  if h.rd LN_RX_STATUS_STATE a c = rxHunt then
    let r := h.rxAt (4 * a + c)
    if r.cands.length < 4 then h.rxSlots a c (r.cands ++ [{ pos := pos, sfc := sfc, tol := r.huntErr }])
    else h.inc LN_ALIGN_STAT_SLOT_FULL a c
  else h

/-- CONFIRMATION_POINT (R44, Table 2-2): one frame length after the candidate at `pos`, PSync differs in `diff` bits,
and `hec` says that the counter structure holds. -/
def Hw.confirm (h : Hw) (a c pos diff : Nat) (hec : Bool) (f : FrameIn) : Hw :=
  let r := h.rxAt (4 * a + c)
  match r.cands.find? (fun x => x.pos == pos) with
  | none => h
  | some x =>
    if h.rd LN_RX_STATUS_STATE a c = rxHunt then
      if diff ≤ x.tol ∧ hec = true ∧ f.sfc % 2 ^ 51 = (x.sfc + 1) % 2 ^ 51 then
        let h := ((h.rxSlots a c []).rxMiss a c 0).wr LN_RX_STATUS_STATE rxSync a c
        let h := h.frameBoundary a c f
        let h := if h.actChan a = c then h.actSync a f.ponId else h
        h.headerExtract a c f
      else (h.rxSlots a c (r.cands.filter (fun y => y.pos != pos))).inc LN_ALIGN_STAT_REJECT a c
    else h

/-- LOF (R46). -/
def Hw.lof (h : Hw) (a c : Nat) : Hw :=
  ((h.inc LN_ALIGN_STAT_LOF_CNT a c).rxGo a c rxHunt).recordOf sevNotice (0x1000 + 4 * a + c) LN_ALIGN_STAT_LOF_CNT a c

/-- EXPECTED_POSITION_CHECK (R45, R46): a hit, or a miss, at the expected position; out of SYNC the map expected there
is lost (R57). -/
def Hw.expected (h : Hw) (a c diff : Nat) (hec : Bool) (f : FrameIn) : Hw :=
  if h.inSync a c then
    if diff ≤ (h.rxAt (4 * a + c)).syncErr ∧ hec = true then
      ((h.rxMiss a c 0).frameBoundary a c f).headerExtract a c f
    else
      let n := h.rd LN_RX_STATUS_MISS_CNT a c + 1
      let h := (h.setRx (4 * a + c) (fun r => { r with errTick := true })).mapLost a c
      if n = 4 then h.lof a c else h.rxMiss a c n
  else h.mapLost a c

/-- Ticks within one second of the present one. -/
def Hw.inSecond (h : Hw) (l : List Nat) : List Nat := l.filter (fun t => h.tick - t < 8000)

/-- ALIGNER_PARITY_ERROR (R61, R46): slots released; in SYNC it is LOF; the third in 1 s isolates the receiver. -/
def Hw.alignerParity (h : Hw) (a c : Nat) : Hw :=
  if h.rd LN_RX_STATUS_STATE a c = rxOff then h
  else
    let h := if h.inSync a c then h.lof a c else h.rxSlots a c []
    let h := h.setRx (4 * a + c) (fun r => { r with parTicks := h.inSecond r.parTicks ++ [h.tick] })
    if 3 ≤ (h.rxAt (4 * a + c)).parTicks.length then h.rxIsolate a c else h

/-- Table 2-5: an error in the header extractor's buffer: the frame's map is lost; the third in 1 s isolates. -/
def Hw.extractorError (h : Hw) (a c : Nat) : Hw :=
  let h := (h.mapLost a c).setRx (4 * a + c) (fun r => { r with extTicks := h.inSecond r.extTicks ++ [h.tick] })
  if 3 ≤ (h.rxAt (4 * a + c)).extTicks.length then h.rxIsolate a c else h

/-- Table 2-5, R62: an error in decoder cell n: quarantined after 1 uncorrectable or 16 corrected errors in 1 s; fewer
than 2 cells isolate the receiver. -/
def Hw.decoderError (h : Hw) (a c n : Nat) (unc : Bool) : Hw :=
  let k := 4 * a + c
  let (u, v) := look (h.rxAt k).cellErr n (0, 0)
  let (u, v) := if unc then (u + 1, v) else (u, v + 1)
  let h := h.setRx k (fun r => { r with cellErr := store r.cellErr n (u, v) })
  if (1 ≤ u ∨ 16 ≤ v) ∧ bitOf (h.rd LN_RX_STATUS_DEC_CELLS a c) n = true then
    let cells := putBit (h.rd LN_RX_STATUS_DEC_CELLS a c) n false
    let h := (h.rxCells a c cells).quarantine (0x1000 + k) n
    if popCount 4 cells < 2 then h.rxIsolate a c else h
  else h

/-- CODEWORD_DECODED (R53, R54): 0 clean, 1 corrected with `n` bits, 2 uncorrectable. -/
def Hw.codeword (h : Hw) (a c outcome n : Nat) : Hw :=
  if h.inSync a c then
    let h := h.inc LN_FEC_CNT_CW_TOTAL a c
    if outcome = 1 then
      ((h.inc LN_FEC_CNT_CW_CORR a c).inc LN_FEC_CNT_BITS_CORR a c n).setRx (4 * a + c) (fun r => { r with corrBits := r.corrBits + n })
    else if outcome = 2 then
      (h.inc LN_FEC_CNT_CW_UNCORR a c).setRx (4 * a + c) (fun r => { r with errTick := true })
    else h
  else h

/-- XGEM_FRAME_RX (R54, R59, R101, R110, R255, R317, R320): an XGEM frame of channel `src`, or of the herd's container
(`src` 4), on a port with a key index. A frame that overlaps an errored codeword or a hole is dropped and counted. -/
def Hw.xgemRx (h : Hw) (a src port key : Nat) (b : List Byte) (errored err : Bool) : Hw :=
  let live : Bool := if src = 4 then h.formed a && !h.on HD_HERD_STATUS_HERD_LOST a else h.inSync a src
  if live then
    if errored then
      if src = 4 then h.inc HD_HERD_CNT_HOLE_DROP a else h.setRx (4 * a + src) (fun r => { r with xgemLost := r.xgemLost + 1 })
    else if key = 0 then
      if h.clearTaken a port then h.xgemAdmit a port b err else h.inc CX_PON_CNT_DS_CLEAR_DROP a
    else h.ponWait a src port key b err
  else h

/-! ### Performance monitoring (R64 to R68) -/

/-- R67: the conditions of accounting at a tick boundary. -/
def Hw.pmOk (h : Hw) (a c : Nat) : Bool :=
  h.on LN_RX_CTRL_ENABLE a c && h.on LN_PM_CFG_PM_EN a c && !h.on LN_RX_STATUS_ISOLATED a c

/-- R64: the tick that ends on a channel; the tolerances written take effect (Table 2-9, note (a)). -/
def Hw.rxTick (h : Hw) (a c : Nat) : Hw :=
  let ok := h.pmOk a c
  h.setRx (4 * a + c) (fun r => { r with
    defTicks := r.defTicks + b2n r.defTick, errTicks := r.errTicks + b2n (r.errTick && !r.defTick)
    defTick := false, errTick := false, acct := r.acct && ok
    huntErr := h.rd LN_ALIGN_CFG_HUNT_ERR a c, syncErr := h.rd LN_ALIGN_CFG_SYNC_ERR a c })

/-- R65: the class of a second: 0 none, 1 ES, 2 SES. -/
def Hw.pmClass (h : Hw) (a c : Nat) : Nat :=
  let r := h.rxAt (4 * a + c)
  let lim := max 1 (min 8000 (h.rd LN_PM_CFG_SES_TICKS a c))
  if 1 ≤ r.defTicks ∨ lim ≤ r.errTicks then 2 else if 1 ≤ r.errTicks then 1 else 0

/-- R66: the oldest waiting second enters the counters once ten follow it. -/
def Hw.pmEnter (h : Hw) (a c : Nat) : Hw :=
  let k := 4 * a + c
  match (h.rxAt k).window with
  | [] => h
  | x :: t =>
    if t.length < 10 then h
    else
      let ten := x :: t.take 9
      let un := if h.on LN_PM_UNAVAIL a c then !ten.all (· != 2) else ten.all (· == 2)
      let h := (h.setRx k (fun r => { r with window := t })).wrB LN_PM_UNAVAIL un a c
      let up (h : Hw) (f : Fld) : Hw := h.wr f (h.rd f a c + 1) a c
      if un then up h LN_PM_UAS
      else if x = 2 then up (up h LN_PM_ES) LN_PM_SES
      else if x = 1 then up h LN_PM_ES else h

/-- SECOND (R64 to R68, Table 1-7): the second of channel c closes; `over` says that the job overran. -/
def Hw.pmClose (h : Hw) (a c : Nat) (ovr : Bool) : Hw :=
  let k := 4 * a + c
  let r := h.rxAt k
  let cls := if ovr then r.prevCls else h.pmClass a c
  let h := h.when ovr (fun h => h.inc LN_PM_OVR_SEC a c)
  let h := h.wrB LN_PM_SDST (decide (h.rd LN_PM_SD_SD_BITS a c < r.corrBits)) a c
  let h := if r.acct then (h.setRx k (fun r => { r with window := r.window ++ [cls] })).pmEnter a c else h
  let h := if r.clearReq then
      let h := h.setRx k (fun r => { r with window := [], clearReq := false })
      (((h.wr LN_PM_ES 0 a c).wr LN_PM_SES 0 a c).wr LN_PM_UAS 0 a c).wr LN_PM_UNAVAIL 0 a c
    else h
  let ok := h.pmOk a c
  h.setRx k (fun r => { r with
    prevCls := cls, defTicks := 0, errTicks := 0, corrBits := 0, cellErr := [], acct := ok })

/-- PM_CLEAR (R66): a write of LN_PM_CFG. -/
def Hw.pmClear (h : Hw) (a c v : Nat) : Hw :=
  let h := h.writeWord .LN_PM_CFG 0 v a c
  if bitOf v 17 then h.setRx (4 * a + c) (fun r => { r with clearReq := true }) else h

end Sys2Proof.Machine
end

