-- ==== Sys2Proof/Machine/Clock.lean ====
section
/-! DEFINITION. The core PLL's reference and the tick generator (chapter 1: R20 to R25, R480; REFOSC itself is
in TimeCore). -/

namespace Sys2Proof.Machine

/-! ### References of the core PLL (R20 to R22) -/

/-- R20: the sources, in the order of the list. -/
def Hw.srcList (h : Hw) : List ClkSrc :=
  let a := h.clk.prefA
  let c := h.clk.prefC
  let near := (List.range 4).filter (fun k => k != c)
  [ClkSrc.chan a c] ++ near.map (ClkSrc.chan a) ++ (List.range 4).map (ClkSrc.chan (1 - a)) ++ [ClkSrc.free]

/-- R20: a downstream channel is usable while its frame alignment is in sync. -/
def Hw.srcUsable (h : Hw) : ClkSrc → Bool
  | .free => true
  | .chan a c => h.inSync a c

/-- R20: the first usable source. -/
def Hw.bestSrc (h : Hw) : ClkSrc := (h.srcList.find? h.srcUsable).getD .free

/-- R21, R25: the core PLL takes source `s`: a pending stretch is dropped and D is measured afresh. A move to
the reference PLL makes a NOTICE record (Table 1-5), and with REFOSC stopped the PLL holds (R480). -/
def Hw.setSrc (h : Hw) (s : ClkSrc) : Hw :=
  if h.clk.src = s then h
  else
    match s with
    | .free =>
      let h := { h with clk := { h.clk with src := .free, pendD := none, needD := false, pllHold := !h.clk.refosc } }
      let h := (h.wr GL_CLK_STATUS_SRC_FREE 1).wr GL_CLK_STATUS_ALIGNED 0
      (h.when (!h.clk.refosc) (fun h => h.wr GL_CLK_STATUS_PLL_LOCK 0)).recordOther sevNotice 0 10
    | .chan a c =>
      let h := { h with clk := { h.clk with src := .chan a c, pendD := none, needD := true, pllHold := false } }
      let h := ((h.wr GL_CLK_STATUS_SRC_FREE 0).wr GL_CLK_STATUS_SRC_ATT a).wr GL_CLK_STATUS_SRC_CH c
      (h.wr GL_CLK_STATUS_ALIGNED 0).wr GL_CLK_STATUS_PLL_LOCK 1

/-- CORE_PLL_REF_CHANGE (R21): the source in use is no longer usable, or the PLL runs free and a channel has
become usable (Table 1-5). -/
def Hw.coreRefChange (h : Hw) : Hw :=
  if !h.srcUsable h.clk.src || h.clk.src == .free then h.setSrc h.bestSrc else h

/-- CLK_REVERT (R22): a source higher in the list has stayed usable for 80,000 consecutive ticks. -/
def Hw.clkRevert (h : Hw) : Hw :=
  if h.clk.revert then
    let higher := h.srcList.takeWhile (fun s => s != h.clk.src)
    let ready (s : ClkSrc) : Bool := match s with
      | .free => false
      | .chan a c => h.inSync a c && decide (80000 ≤ look h.clk.usable (4 * a + c) 0)
    match higher.find? ready with
    | some s => h.setSrc s
    | none => h
  else h

/-- GL_CLK_CTRL_WRITE (Table 1-8, note a): the write takes effect at the next tick boundary. -/
def Hw.clkCtrlWrite (h : Hw) (v : Nat) : Hw :=
  let h := h.writeWord .GL_CLK_CTRL 0 v 0 0
  { h with clk := { h.clk with prefPend := true } }

/-- The tick boundary at which a write of GL_CLK_CTRL takes effect. -/
def Hw.prefBoundary (h : Hw) : Hw :=
  if h.clk.prefPend then
    let a := h.rd GL_CLK_CTRL_PREF_ATT
    let c := h.rd GL_CLK_CTRL_PREF_CH
    let h := { h with clk := { h.clk with prefPend := false, prefA := a, prefC := c, revert := h.on GL_CLK_CTRL_REVERT } }
    if h.inSync a c then h.setSrc (.chan a c) else h
  else h

/-- R22: the consecutive ticks for which each channel has been usable. -/
def Hw.usableTick (h : Hw) : Hw :=
  let count (k : Nat) : Nat × Nat := (k, if h.inSync (k / 4) (k % 4) then look h.clk.usable k 0 + 1 else 0)
  { h with clk := { h.clk with usable := (List.range 8).map count } }

/-! ### Ticks and microticks (R23, R25) -/

/-- R25: microticks of the running tick. -/
def Hw.microCount (h : Hw) : Nat := 80 + h.clk.stretch / 2430

/-- Core cycles of the running tick that its microticks so far have not covered. -/
def Hw.cyclesLeft (h : Hw) : Nat := 194400 + h.clk.stretch - 2430 * h.clk.micro

/-- R25: at a tick boundary the pending stretch becomes that of the tick that begins; D of a new timing channel,
`d` core cycles, is measured; after a stretched tick, or where D is 0, the boundaries are aligned. -/
def Hw.stretchBoundary (h : Hw) (d : Nat) : Hw :=
  let was := h.clk.stretch
  let st := h.clk.pendD.getD 0
  let need := h.clk.needD
  let h := { h with clk := { h.clk with
    stretch := st, micro := 0, needD := false, pendD := if need && d != 0 then some d else none } }
  let h := h.when (st != 0) (fun h => h.inc GL_CLK_STATUS_STRETCH_CNT)
  h.when (if need then d == 0 else was != 0) (fun h => h.wr GL_CLK_STATUS_ALIGNED 1)

end Sys2Proof.Machine
end

