-- ==== Sys2Proof/Machine/Servo.lean ====
section
/-! DEFINITION. The SERVO job: samples of the domains, selection, servo states, feedforward and sanity checks
(chapter 5: R136 to R143, R145, R147, R148, R150, R482, Tables 5-3 and 5-13). -/

namespace Sys2Proof.Machine

/-! ### Domain samples (R136 to R138, R145, R482) -/

/-- The capture of channel c of attachment a among the frames of tick `t` (R138). -/
def Hw.captureOf (h : Hw) (a c t : Nat) : Option (Int × Nat × Nat × Bool) :=
  let r := h.rxAt (4 * a + c)
  ([r.cap, r.capOld].filterMap id).find? (fun x => x.2.2.1 == t)

/-- R138: a channel was in SYNC for the frames of tick `t`: it is in SYNC, or gave a capture in that tick before it
left SYNC (Table 5-4, tick n; log entry 46, DEDUCED). -/
def Hw.hadSync (h : Hw) (a c t : Nat) : Bool := h.inSync a c || (h.captureOf a c t).isSome

/-- R138: the sample channel for the frames of tick `t`. -/
def Hw.tickChan (h : Hw) (a t : Nat) : Option Nat :=
  if h.hadSync a (h.actChan a) t then some (h.actChan a)
  else
    let e := h.herdAt a
    let act := match e.desc with
      | some d => d.active
      | none => 0
    (List.range 4).find? (fun c => bitOf act c && h.hadSync a c t && e.dofs.any (fun p => p.1 == c) &&
      (e.appMode == modeFull || e.appMode == modeDown))

/-- R137: RT_f, in 2^-16 ns, with its source: 2 RANGE_INFO of the last 60 s, 1 TEQD. -/
def Hw.rtOf (h : Hw) (d t : Nat) : Option (Int × Nat) :=
  let teqd : Option (Int × Nat) := match h.eqdFor d 0 t with
    | none => none
    | some e =>
      if h.cfg TC_TEQD 0 d = 0 then none
      else some (((h.cfg TC_TEQD 0 d : Nat) : Int) - (e : Int) - ((h.tResp d : Nat) : Int), 1)
  match (h.herdAt d).range with
  | some (rt, t0) => if h.tick - t0 ≤ 480000 then some ((rt : Int), 2) else teqd
  | none => teqd

/-- 2^-8 ps in 2^-16 ns. -/
def ofPs8 (x : Int) : Rat := (x : Rat) * 256 / 1000

/-- R136: θ of a capture `cap` (2^-16 ns) of superframe `m` on channel c, with the association `as` and RT_f. -/
def Hw.thetaOf (h : Hw) (d c : Nat) (cap : Int) (m : Nat) (as : Nat × Nat) (rt : Int) : Int :=
  let dofs : Rat := if c = h.actChan d then 0 else ofPs8 (look (h.herdAt d).dofs c 0)
  let ref : Rat := ((todaAt as m * 65536 : Int) : Rat) + ofPs8 (h.launchOfs d c) + (rt : Rat) / 2 + ofPs8 (h.asym d) + dofs +
    ((h.rd LN_OPT_RXDLY_D_RX d c : Nat) : Rat)
  roundRat ((cap : Rat) - ref)

/-- R138, R482: the sample of an attachment domain in tick h.tick, or the reason why it has none. `lost` says that
the HERD job of the frames' tick overran. -/
def Hw.attSample (h : Hw) (d : Nat) (lost : Bool) : Except Nat (Int × Int × Nat) :=
  let t := h.tick - 1
  if !(h.actState d == aO5 || h.actState d == aO6) || (h.eqdFor d 0 t).isNone then .error 1
  else
    match (h.tickChan d t).bind (fun c => (h.captureOf d c t).map (fun x => (c, x))) with
    | none => .error 2
    | some (c, cap, m, _, newlat) =>
      if newlat || lost || h.tick == 0 then .error 2
      else
        match (h.domAt d).toda with
        | none => .error 3
        | some as =>
          match h.rtOf d t with
          | none => .error 4
          | some (rt, src) => .ok (h.thetaOf d c cap m as rt, rt, src)

/-- A tick without a sample, for reason `r`: the second in a row makes the domain DOWN (R145). -/
def Hw.noSample (h : Hw) (d r : Nat) : Hw :=
  let n := (h.domAt d).noSample + 1
  let h := h.setDom d (fun s => { s with theta := none, noSample := min n 2, reason := r })
  if 2 ≤ n then h.domDown d else h.setDom d (fun s => { s with track := s.track + 1 })

/-- A tick with the sample `x`. -/
def Hw.takeSample (h : Hw) (d : Nat) (x : Int) : Hw :=
  let h := h.setDom d (fun s => { s with theta := some x, last := some x, noSample := 0, track := s.track + 1 })
  let h := h.wrS TC_DOM_STATUS_THETA x d
  if h.rd TC_DOM_STATUS_STATE d = 0 then h.wr TC_DOM_STATUS_STATE 1 d else h

/-- Table 5-13, note (a): a sample more than 1 µs from the previous one while LOCKED is set aside. -/
def Hw.outlier (h : Hw) (d : Nat) (x : Int) : Bool :=
  h.rd TC_STATUS_SERVO == 3 && (match (h.domAt d).last with
    | some y => decide (65536000 < (x - y).natAbs)
    | none => false)

/-- RT_F and RT_SRC of domain d. -/
def Hw.showRt (h : Hw) (d : Nat) (rt : Int) (src : Nat) : Hw := (h.wr TC_DOM_STATUS_RT_F (unsigned 64 rt) d).wr TC_DOM_STATUS_RT_SRC src d

/-- DOMAIN_SAMPLE (R136, R146): domain d takes its sample of the tick. -/
def Hw.sampleDomain (h : Hw) (lost : Bool) (d : Nat) : Hw :=
  let src := h.cfg TC_SRC 0 d
  if src = 0 then
    ((h.setDom d (fun s => { s with theta := none, noSample := 2, reason := 8 })).domDown d).showRt d 0 0
  else if src = 2 then
    let h := h.showRt d 0 0
    match (h.domAt d).ppsNew with
    | some x => (h.setDom d (fun s => { s with ppsNew := none })).takeSample d x
    | none =>
      let up := h.rd TC_DOM_STATUS_STATE d != 0
      h.setDom d (fun s => { s with theta := none, reason := 6, track := if up then s.track + 1 else 0 })
  else
    match h.attSample d lost with
    | .error r => (h.showRt d 0 0).noSample d r
    | .ok (x, rt, s) => if h.outlier d x then (h.showRt d rt s).noSample d 5 else (h.showRt d rt s).takeSample d x

/-- R145: qualification, and the ticks for which it has held (R147, WTR). -/
def Hw.qualify (h : Hw) (d : Nat) : Hw :=
  let q := h.domCanQualify d
  (h.wrB TC_DOM_STATUS_QUAL q d).setDom d (fun s => { s with qualFor := if q then s.qualFor + 1 else 0 })

/-! ### Selection and switch (R147, R148) -/

def Hw.qual (h : Hw) (sel : Nat) : Bool := (sel == 1 || sel == 2) && h.on TC_DOM_STATUS_QUAL (sel - 1)

/-- R147: the domain that the steps select, and the step that SWITCH_MAX may govern: 4, 5, or 0. -/
def Hw.selWant (h : Hw) : Nat × Nat :=
  let mode := h.cfg TC_MODE
  let req := h.rd TC_CTRL_SEL_REQ
  let old := h.rd TC_STATUS_SEL
  let hi := if h.cfg TC_PRIO = 1 then 2 else 1
  if mode = 1 ∨ mode = 2 then (if h.qual mode then mode else 0, 0)
  else if mode = 3 ∨ h.on TC_CTRL_HOLD_REQ then (0, 0)
  else if (req = 1 ∨ req = 2) ∧ h.qual req then (req, 0)
  else if h.qual old then
    if h.cfg TC_REVERT != 0 && old != hi && h.qual hi && decide (h.cfg TC_WTR_S * 8000 ≤ (h.domAt (hi - 1)).qualFor) then (hi, 4)
    else (old, 0)
  else if h.qual hi then (hi, 5)
  else if h.qual (3 - hi) then (3 - hi, 5)
  else (0, 0)

/-- R147: |θ| of a domain exceeds SWITCH_MAX. -/
def Hw.tooFar (h : Hw) (sel : Nat) : Bool :=
  decide (h.cfg TC_SWITCH_MAX * 65536 < (h.rdS TC_DOM_STATUS_THETA (sel - 1)).natAbs)

/-- R147: a refusal that has ended is forgotten. -/
def Hw.refusalEnd (h : Hw) : Hw :=
  match h.time.refusal with
  | some (d, _) => if !h.qual d || !h.tooFar d then { h with time := { h.time with refusal := none } } else h
  | none => h

/-- R147: SWITCH_MAX refuses a selection that it governs; each refusal writes one WARN record at its start. -/
def Hw.selRefuse (h : Hw) (new step old : Nat) : Hw × Nat :=
  let servo := h.rd TC_STATUS_SERVO
  if step ≠ 0 ∧ new ≠ old ∧ 2 ≤ servo ∧ h.tooFar new = true then
    let again : Bool := match h.time.refusal with
      | some (d, _) => d == new
      | none => false
    let h := h.when (!again) (fun h => h.recordOther sevWarn 0x2000 11 (leBytes 1 new ++ leBytes 1 old))
    ({ h with time := { h.time with refusal := some (new, old) } }, if step = 4 then old else 0)
  else (if new ≠ 0 ∧ new ≠ old then { h with time := { h.time with refusal := none } } else h, new)

/-- R148: s moves towards 0 by SWITCH_SLEW per second in equal steps each tick. -/
def Hw.switchSlew (h : Hw) : Hw :=
  let st : Rat := ((h.cfg TC_SWITCH_SLEW : Nat) : Rat) * 65536 / 8000000
  let s := h.time.sOfs
  let s' : Rat := if s ≤ st ∧ -st ≤ s then 0 else if 0 < s then s - st else s + st
  { h with time := { h.time with sOfs := s' } }

/-- DOMAIN_SELECTION, DOMAIN_SWITCH (R147, R148). -/
def Hw.selectDomain (h : Hw) : Hw :=
  let h := h.switchSlew.refusalEnd
  let old := h.rd TC_STATUS_SEL
  let (want, step) := h.selWant
  let (h, new) := h.selRefuse want step old
  let h :=
    if new ≠ 0 ∧ old ≠ 0 ∧ new ≠ old then
      { h with time := { h.time with sOfs := ((h.rdS TC_DOM_STATUS_THETA (new - 1) : Int) : Rat) } }.recordOther sevNotice 0x2000 12
        (leBytes 1 old ++ leBytes 1 new)
    else if new = 0 then { h with time := { h.time with sOfs := 0 } }
    else h
  let h := if new ≠ 0 then { h with time := { h.time with lastSel := new } } else h
  let h := (h.wr TC_STATUS_SEL new).wrB TC_STATUS_SWITCHING (h.time.sOfs != 0)
  h.each [0, 1] (fun h d => (if h.rd TC_DOM_STATUS_STATE d = 0 then h else h.wr TC_DOM_STATUS_STATE (if new = d + 1 then 2 else 1) d).domCause d)

/-- The error of the tick in 2^-16 ns: θ − s of the selected domain (R148). -/
def Hw.servoErr (h : Hw) : Option Rat :=
  match h.rd TC_STATUS_SEL with
  | 0 => none
  | n + 1 => (h.domAt n).theta.map (fun x => ((x : Int) : Rat) - h.time.sOfs)

/-! ### Servo states (Table 5-3, R134, R150) -/

def svFreerun : Nat := 0
def svAcquire : Nat := 1
def svLocking : Nat := 2
def svLocked : Nat := 3
def svHoldover : Nat := 4

/-- Every entry to a servo state. LOCKING starts the count of whole seconds anew; LOCKED begins a period, and
ELAPSED_S stops (R150). -/
def Hw.servoEnter (h : Hw) (st : Nat) : Hw :=
  let t := h.time
  let t : TimeSt :=
    if st = svAcquire then { t with acq := [] }
    else if st = svLocking then { t with lockOpen := false, lockRun := 0, secSum := 0, secN := 0, unlockRun := 0 }
    else if st = svLocked then
      { t with unlockRun := 0, lockedFor := 0, sinceLock := 0, rHist := [], lockedSet := true, fromHold := false, holdFrom := none }
    else t
  { h with time := t }.wr TC_STATUS_SERVO st

/-- R150: r_hold: the mean of r over the ticks of the last LOCKED period at least 80,000 ticks back, the latest
8,000,000 at most; I where there is none. -/
def Hw.rHoldNow (h : Hw) : Rat :=
  let l := (h.time.rHist.drop (79999 - h.time.sinceLock)).take 8000000
  if l.isEmpty then h.time.iAcc else l.foldl (· + ·) 0 / ((l.length : Nat) : Rat)

/-- HOLDOVER_ENTRY (R150), as of the instant `t` of the counter. -/
def Hw.holdoverEnter (h : Hw) (t : Int) : Hw :=
  let r := h.rHoldNow
  let h := { h with time := { h.time with rHold := r, iAcc := r, holdFrom := some t, fromHold := false } }
  ((h.wr TC_HOLD_LEARNED_S (h.time.lockedFor / 8000)).wr TC_HOLD_ELAPSED_S 0).servoEnter svHoldover

/-- R134: the 16th consecutive valid sample: the step, if one is permitted and wanted, in 2^-44 ns. -/
def Hw.acquired (h : Hw) : Hw :=
  let sum := h.time.acq.foldl (· + ·) 0
  let permit := !h.on TC_STATUS_SET || h.on TC_CTRL_STEP_ARM
  if permit && decide (h.cfg TC_STEP_MIN * 65536 * 16 < sum.natAbs) then { h with time := { h.time with step := some (-sum * 2 ^ 24) } } else h

/-- ACQUIRE with the sample of the tick; between two pulses a 1PPS domain is not without a sample (log entry 45, DEDUCED). -/
def Hw.acquireTick (h : Hw) : Hw :=
  let sel := h.rd TC_STATUS_SEL
  match (h.domAt (sel - 1)).theta with
  | some x =>
    let h := { h with time := { h.time with acq := x :: h.time.acq } }
    if h.time.acq.length = 16 then h.acquired else h
  | none => if h.cfg TC_SRC 0 (sel - 1) = 2 then h else { h with time := { h.time with acq := [] } }

/-- SERVO_STATE_CHANGE (Table 5-3) in the SERVO job. -/
def Hw.servoState (h : Hw) : Hw :=
  let sel := h.rd TC_STATUS_SEL
  match h.rd TC_STATUS_SERVO with
  | 0 => if sel = 0 then h else h.servoEnter svAcquire
  | 1 => if sel = 0 then h.servoEnter svFreerun else h.acquireTick
  | 2 =>
    if sel = 0 then h.holdoverEnter h.now16
    else
      match h.servoErr with
      | none => h
      | some e => { h with time := { h.time with secSum := h.time.secSum + roundRat e, secN := h.time.secN + 1 } }
  | 3 =>
    if sel = 0 then h.holdoverEnter h.now16
    else
      match h.servoErr with
      | none => h
      | some e =>
        let lim : Rat := ((h.cfg TC_UNLOCK_THR * 65536 : Nat) : Rat)
        let n := if lim < e ∨ lim < -e then h.time.unlockRun + 1 else 0
        let h := { h with time := { h.time with unlockRun := n } }
        if 8 ≤ n then (h.recordOther sevNotice 0x2000 13).servoEnter svLocking else h
  | 4 => if sel = 0 then h else { h with time := { h.time with fromHold := true } }.servoEnter svLocking
  | _ => h

/-- The end of ACQUIRE at the tick boundary after the 16th sample (R134, Table 5-2). -/
def Hw.acquireEnd (h : Hw) : Hw :=
  if h.rd TC_STATUS_SERVO = svAcquire ∧ h.time.acq.length = 16 then
    let h := match h.time.step with
      | none => h
      | some d =>
        let h := { h with time := { h.time with step := none } }.stepCounter d
        (h.inc TC_STATUS_STEP_CNT).recordOf sevWarn 0x2000 TC_STATUS_STEP_CNT 0 0 (leBytes 8 (unsigned 64 (roundDiv d (2 ^ 28))))
    let h := if h.on TC_STATUS_SET then h else { h with time := { h.time with iAcc := 0, lockedSet := false } }
    let h := ((h.wr TC_STATUS_SET 1).wr TC_CTRL_STEP_ARM 0).servoEnter svLocking
    { h with time := { h.time with acq := [] } }
  else h

/-- LOCKING at a SECOND job: ten whole seconds in a row with |mean| ≤ LOCK_THR make LOCKED. -/
def Hw.servoSecond (h : Hw) : Hw :=
  if h.rd TC_STATUS_SERVO = svLocking then
    let t := h.time
    let lim : Nat := h.cfg TC_LOCK_THR * 65536 * t.secN
    let good := t.lockOpen && decide (0 < t.secN) && decide (t.secSum.natAbs * 1000 ≤ lim)
    let n := if good then t.lockRun + 1 else 0
    let h := { h with time := { t with lockOpen := true, lockRun := n, secSum := 0, secN := 0 } }
    if 10 ≤ n then h.servoEnter svLocked else h
  else h

/-! ### Update, feedforward and sanity (R141 to R143) -/

/-- R142: q, where `drift` is the measured drift of the sample channel against the core-cycle count, filtered over
8,000 ticks. -/
def Hw.feedforward (h : Hw) (drift : Rat) : Rat :=
  let sel := h.rd TC_STATUS_SEL
  let d := if sel = 0 then h.time.lastSel else sel
  let pps := d == 2 && h.cfg TC_SRC 0 1 == 2
  if d = 0 then 0
  else
    match h.clk.src with
    | .free => h.oscPredict h.nowSec
    | .chan a _ =>
      if pps then h.oscPredict h.nowSec
      else if a = d - 1 then 0
      else if sel ≠ 0 ∨ (h.sampleChan (d - 1)).isSome then drift
      else h.oscPredict h.nowSec

/-- R141: BW of the state, in mHz. -/
def Hw.bandwidth (h : Hw) (pps : Bool) : Nat :=
  let b := if h.rd TC_STATUS_SERVO = svLocked then h.cfg TC_BW_LOCK else h.cfg TC_BW_ACQ
  if pps then min b 20 else b

/-- R141: r and I after the tick's update. -/
def Hw.servoStep (h : Hw) : Rat × Rat :=
  let i := h.time.iAcc
  let st := h.rd TC_STATUS_SERVO
  if st = svHoldover then (h.time.rHold, i)
  else if st = svLocking ∨ st = svLocked then
    match h.servoErr with
    | none => (i, i)
    | some e16 =>
      let pps := h.rd TC_STATUS_SEL == 2 && h.cfg TC_SRC 0 1 == 2
      let e : Rat := e16 / 65536000000000
      let w : Rat := 2 * Config.pi * ((h.bandwidth pps : Nat) : Rat) / 1000
      let t : Rat := if pps then 1 else 1 / 8000
      (2 * w * e + i, i + w * w * t * e)
  else (i, i)

/-- `x` held within ±`l`. -/
def clampRat (l x : Rat) : Rat := if l < x then l else if x < -l then -l else x

/-- R141: INC_nom × (1 − r − q) as the register holds it. -/
def incOf (r q : Rat) : Nat := min (2 ^ 48 - 1) (roundRat (625 / 486 * ((2 ^ 44 : Nat) : Rat) * (1 - r - q))).toNat

/-- R141: the update of the tick; the increment takes effect at the boundary that ends it. -/
def Hw.servoUpdate (h : Hw) (drift : Rat) : Hw :=
  let (r0, i) := h.servoStep
  let r := clampRat (((h.cfg TC_SLEW_LIM : Nat) : Rat) / 1000000000) r0
  let q := h.feedforward drift
  let locked := h.rd TC_STATUS_SERVO = svLocked
  let t := h.time
  let h := { h with time := { t with
    iAcc := i, r := r, q := q, drift := drift, incNext := incOf r q
    lockedFor := if locked then t.lockedFor + 1 else t.lockedFor
    sinceLock := if locked then 0 else t.sinceLock + 1
    rHist := if locked then (r :: t.rHist).take 8080000 else t.rHist } }
  (h.wrS TC_HOLD_R_PPT (roundRat (r * 1000000000000))).wrS TC_HOLD_Q_PPT (roundRat (q * 1000000000000))

/-- ELAPSED_S (R150). -/
def Hw.holdElapsed (h : Hw) : Hw :=
  match h.time.holdFrom with
  | none => h
  | some t => h.wr TC_HOLD_ELAPSED_S (min (2 ^ 32 - 1) ((h.now16 - t) / sec16).toNat)

/-- SANITY_FAULT (R143): a rate sanity fault is class 4; a phase sanity fault is judged with the cross-check
(R412). Injection 5 forces the first (R418). -/
def Hw.sanity (h : Hw) : Hw :=
  let s := h.time.r + h.time.q
  let lim : Rat := ((h.cfg TC_RATE_LIM : Nat) : Rat) / 1000000000
  let rate : Bool := decide (lim < s) || decide (s < -lim) || (match h.sf.inject with
    | some (5, _) => true
    | _ => false)
  let sel := h.rd TC_STATUS_SEL
  let phase : Bool := rungUsable h.rung && (match (if sel = 0 then none else (h.domAt (sel - 1)).theta) with
    | some x => decide (h.cfg TC_PHASE_LIM * 65536 < x.natAbs)
    | none => false)
  let n := if phase then (if h.sf.phaseDom = sel then h.sf.phaseRun + 1 else 1) else 0
  let h := { h with sf := { h.sf with phaseRun := n, phaseDom := sel } }
  h.when rate (fun h => h.detect 4 scopeGlobal 0)

/-- SERVO (R141): the job of the tick that begins. `lost`: the HERD job of the tick before overran. -/
def Hw.servoJob (h : Hw) (lost : Bool) (drift : Rat) : Hw :=
  let h := h.each [0, 1] (fun h d => (h.sampleDomain lost d).qualify d)
  (h.selectDomain.servoState.servoUpdate drift).sanity

/-- SERVO overruns (Table 1-7, R138): the increment is held, and an attachment domain has no sample. -/
def Hw.servoHeld (h : Hw) : Hw :=
  let t := h.time
  let locked := h.rd TC_STATUS_SERVO = svLocked
  let h := { h with time := { t with
    acq := if h.rd TC_STATUS_SERVO = svAcquire then [] else t.acq
    lockedFor := if locked then t.lockedFor + 1 else t.lockedFor
    sinceLock := if locked then 0 else t.sinceLock + 1
    rHist := if locked then (t.r :: t.rHist).take 8080000 else t.rHist } }
  h.each [0, 1] (fun h d =>
    if h.cfg TC_SRC 0 d = 1 then
      let r := match h.attSample d true with
        | .error r => r
        | .ok _ => 2
      ((h.noSample d r).qualify d).domCause d
    else h.setDom d (fun s => { s with theta := none }))

/-- The boundary's part of the time core: an association comes into force (R139), the increment of the last SERVO
job (R131), a step or TC_SET, and LS_RESYNC. -/
def Hw.timeBoundary (h : Hw) : Hw :=
  let h := h.each [0, 1] (fun h d =>
    match (h.domAt d).adopt with
    | none => h
    | some x => (h.setDom d (fun s => { s with toda := some x, adopt := none })).wr TC_DOM_STATUS_SFC_N x.1 d)
  let h := h.wr TC_INCR_INC h.time.incNext
  h.runSet.acquireEnd.runResync

end Sys2Proof.Machine
end

