-- ==== Sys2Proof/Machine/TimeService.lean ====
section
/-! DEFINITION. Time service on station ports: PTP, NTP, ESMC and ARP instances, latencies, self-test and the
responder's commit (chapter 6: R162 to R190). -/

namespace Sys2Proof.Machine

/-! ### Instances and their conditions (R162, R166, R172, R187) -/

def Hw.tsAt (h : Hw) (i : Nat) : TsSt := look h.ts i {}
def Hw.setTs (h : Hw) (i : Nat) (f : TsSt → TsSt) : Hw := { h with ts := store h.ts i (f (h.tsAt i)) }

/-- R162: the region of instance i. -/
def tsRegion (i : Nat) : Nat := if i < 64 then rgPortW else if i < 128 then rgPortE else rgControl

/-- ENABLES bits of Table 6-11. -/
def enPtp : Nat := 0
def enNtp : Nat := 1
def enEsmc : Nat := 2
def enArp : Nat := 3

/-- A service of instance i in the epoch in force. -/
def Hw.tsEn (h : Hw) (i k : Nat) : Bool := bitOf (h.cfg TS_PORT_ENABLES i) k

/-- R162: an instance that serves a port: not one of the other three of a four-lane port. -/
def Hw.tsServes (h : Hw) (i : Nat) : Bool := decide (128 ≤ i ∧ i < 130) || (decide (i < 128) && h.portBase i == i)

/-- Link up and lane in L0 (Table 6-7); a virtual port has no lane (log entry 47, DEDUCED). -/
def Hw.tsLink (h : Hw) (i : Nat) : Bool :=
  decide (128 ≤ i) || (h.on PF_LANE_STATUS_LINK i && h.rd PF_LANE_STATUS_PWR i == 0 && !h.on PW_PAD_CFG_HELD (tsRegion i))

/-- R166: latencies valid. -/
def Hw.tsLat (h : Hw) (i : Nat) : Bool := decide (128 ≤ i) || h.on TS_LAT_VALID i

def Hw.tsState (h : Hw) (i : Nat) : Nat := h.rd TS_PORT_STATUS_STATE i

def tsDisabled : Nat := 0
def tsMaster : Nat := 1
def tsFaulty : Nat := 2

/-- R175 (note a), R187: the effective rung of instance i. -/
def Hw.tsRung (h : Hw) (i : Nat) : Nat :=
  if (h.tsAt i).faulty || bitOf (h.rd SF_DIAG_PORT_FAULT) i then rungDegraded else h.rung

/-- R187: SUPPRESS with an unusable rung. -/
def Hw.tsSuppress (h : Hw) (i : Nat) (usable : Bool) : Bool := !usable && h.cfg TS_PORT_FAULT_ACTION i == 0

/-- Table 6-2: the conditions of MASTER. -/
def Hw.tsReady (h : Hw) (i : Nat) : Bool :=
  h.tsServes i && h.tsEn i enPtp && h.tsLink i && h.tsLat i && h.runs (tsRegion i)

/-- Entry to a PTP state: pending PTP frames are discarded on the way to DISABLED. -/
def Hw.tsGo (h : Hw) (i st : Nat) : Hw :=
  let h := if st = tsDisabled then h.setTs i (fun s => { s with reqs := s.reqs.filter (fun r => decide (3 ≤ r.kind)) }) else h
  h.wr TS_PORT_STATUS_STATE st i

/-- PTP_PORT_STATE_CHANGE (R172): MASTER and FAULTY end at once. -/
def Hw.tsLeave (h : Hw) (i : Nat) : Hw :=
  if h.tsState i ≠ tsDisabled ∧ h.tsReady i = false then h.tsGo i tsDisabled else h

/-- Table 6-2 at a tick boundary. -/
def Hw.tsBoundary (h : Hw) (i : Nat) : Hw :=
  let h := h.tsLeave i
  if h.tsReady i then
    let st := if (h.tsAt i).faulty then tsFaulty else tsMaster
    if h.tsState i = st then h else h.tsGo i st
  else h

/-- The instances that an epoch configures or that hold state. -/
def Hw.tsActive (h : Hw) : List Nat := (instances h.ep.cur .TS_PORT ++ h.ts.map Prod.fst).eraseDups

/-- R167, R170, R413, Table 8-6: instance i becomes FAULTY and is named; `fixed` until its region reloads. -/
def Hw.tsFault (h : Hw) (i : Nat) (fixed : Bool) : Hw :=
  let h := h.setTs i (fun s => { s with faulty := true, fixed := s.fixed || fixed, passes := 0 })
  let h := h.wr SF_DIAG_PORT_FAULT (putBit (h.rd SF_DIAG_PORT_FAULT) i true)
  if h.tsState i = tsMaster then h.tsGo i tsFaulty else h

/-- FAULTY clears. -/
def Hw.tsClear (h : Hw) (i : Nat) : Hw :=
  let h := h.setTs i (fun s => { s with faulty := false })
  let h := h.wr SF_DIAG_PORT_FAULT (putBit (h.rd SF_DIAG_PORT_FAULT) i false)
  if h.tsState i = tsFaulty then h.tsGo i tsMaster else h

/-! ### Latency, replicas and the self-test (R166, R167, R170) -/

/-- R166: TS_LAT of lane n. -/
def Hw.tsLatSet (h : Hw) (n tx rx : Nat) : Hw := ((h.wr TS_LAT_TX tx n).wr TS_LAT_RX rx n).wr TS_LAT_VALID 1 n

/-- R166: the lane unlocks or leaves L0. -/
def Hw.tsLatClear (h : Hw) (n : Nat) : Hw := (h.wr TS_LAT_VALID 0 n).tsLeave (h.portBase n)

/-- STATION_LANE_LOCK (R166): the factory latencies of lane n and the parts measured at the lock. -/
def Hw.laneLock (h : Hw) (n tx rx : Nat) : Hw :=
  if n < 128 ∧ h.runs (tsRegion n) = true ∧ h.rd PF_LANE_STATUS_PWR n = 0 then
    h.tsLatSet n (look h.pw.factory (1, n) 0 + tx) (look h.pw.factory (2, n) 0 + rx)
  else h

/-- The ports whose replica comparison finds a difference: those of `l`, and the port that injection 9 names (R418). -/
def Hw.replicasBad (h : Hw) (l : List Nat) : List Nat :=
  match h.sf.inject with
  | some (9, p) => l ++ [p]
  | _ => l

/-- REPLICA_COMPARE (R167): the replica of instance i differs by more than one count, or injection 9 says so. -/
def Hw.replicaFault (h : Hw) (i : Nat) : Hw := (h.tsFault i false).detect 9 scopePort i

/-- TS_SELFTEST (R170): a measured deviation, in 2^-4 ps, of port p. -/
def Hw.selfTestResult (h : Hw) (p : Nat) (dev : Int) : Hw :=
  let h := h.wr TS_SELFTEST_DEV (unsigned 16 (max (-32767) (min 32767 dev))) p
  if 4800 < dev.natAbs then
    ((h.wr TS_PORT_STATUS_ST_PASS 0 p).inc TS_SELFTEST_FAILS p).tsFault p false
  else
    let h := (h.wr TS_PORT_STATUS_ST_PASS 1 p).setTs p (fun s => { s with passes := s.passes + 1 })
    if (h.tsAt p).faulty ∧ (h.tsAt p).fixed = false ∧ 2 ≤ (h.tsAt p).passes then h.tsClear p else h

/-- TS_SELFTEST (R170): the job tests the next port, or skips it. -/
def Hw.selfTest (h : Hw) (dev : Int) : Hw :=
  let p := h.time.selfPort
  let h := { h with time := { h.time with selfPort := (p + 1) % 128 } }
  if !h.runs (tsRegion p) then h
  else if h.portEnabled p && h.rd PF_LANE_STATUS_PWR p == 0 && h.tsLat p && !h.on PF_LANE_STATUS_RECAL p then h.selfTestResult p dev
  else h.inc TS_CNT_ST_SKIP p

/-! ### Requests (R174, R176 to R182, R185) -/

/-- A frame waits for its commit. -/
def Hw.tsQueue (h : Hw) (i : Nat) (r : TsReq) : Hw :=
  h.setTs i (fun s => { s with reqs := s.reqs ++ [{ r with since := h.clk.ut, epoch := h.rd HI_EPOCH_STATUS_CURRENT }] })

/-- R179: a queue of `n` requests of a kind. -/
def Hw.tsQueueMax (h : Hw) (i n : Nat) (r : TsReq) : Hw :=
  if n ≤ ((h.tsAt i).reqs.filter (fun x => x.kind == r.kind)).length then h.inc TS_CNT_Q_FULL i else h.tsQueue i r

/-- Microticks since the second began (R174). -/
def Hw.secPlace (h : Hw) : Nat := h.clk.ut - h.clk.secUt

/-- R174: a message placed from microtick `base`, every `per` microticks, in seconds that are multiples of `2^log`. -/
def Hw.placed (h : Hw) (base per : Nat) (log : Int) : Bool :=
  decide (base ≤ h.secPlace) && (h.secPlace - base) % per == 0 && (decide (log ≤ 0) || h.clk.secWhole % 2 ^ log.toNat == 0)

/-- R172: the responder of instance i sends PTP messages. -/
def Hw.ptpLive (h : Hw) (i : Nat) : Bool := h.runs (tsRegion i) && h.tsState i != tsDisabled

/-- SYNC (R174). -/
def Hw.syncRequest (h : Hw) (i : Nat) : Hw :=
  let l := h.cfgS TS_PORT_LOG_SYNC i
  if h.ptpLive i && h.placed (5 * i) (5000 * 2 ^ (l + 7).toNat) l then h.tsQueue i { kind := 0, since := 0 } else h

/-- ANNOUNCE (R174, R175). -/
def Hw.announceRequest (h : Hw) (i : Nat) : Hw :=
  let l := h.cfgS TS_PORT_LOG_ANNOUNCE i
  if h.ptpLive i && h.placed (5 * i + 2500) (5000 * 2 ^ (l + 7).toNat) l then h.tsQueue i { kind := 2, since := 0 } else h

/-- One token in bucket units (R178). -/
def tokenUnit : Nat := 1555200000

/-- R178, R182: a bucket of `cap` tokens that gains `rate` tokens per second, `cyc` core cycles after the last
arrival: what is taken then, and whether a whole token is left. -/
def bucketLevel (used cap rate cyc : Nat) : Nat × Bool :=
  let u := min (used - cyc * rate) (cap * tokenUnit)
  (u, decide (u + tokenUnit ≤ cap * tokenUnit))

/-- R163, R166: what every request meets first: a running region, a service that is enabled, and valid latency. -/
def Hw.tsArrive (h : Hw) (i svc : Nat) (f : Hw → Hw) : Hw :=
  if h.tsServes i && h.runs (tsRegion i) && h.tsEn i svc then (if h.tsLat i then f h else h.inc TS_CNT_NOLAT i) else h

/-- R178: the checks of a delay request. -/
def Hw.ptpOk (h : Hw) (i : Nat) (p2p : Bool) (m : PtpIn) : Bool :=
  h.tsState i != tsDisabled && (h.cfg TS_PORT_DELAY_MECH i == b2n p2p) && m.dom == h.cfg TS_PORT_DOMAIN i && m.ver == 2 &&
  m.sdo == 0 && m.whole

/-- DELAY_REQ, PDELAY_REQ (R176 to R179). -/
def Hw.delayRequest (h : Hw) (i : Nat) (p2p : Bool) (m : PtpIn) : Hw :=
  h.tsArrive i enPtp (fun h =>
    if h.ptpOk i p2p m then
      let (u, ok) := bucketLevel (h.tsAt i).dUsed 16 (h.cfg TS_PORT_DREQ_LIMIT i) m.cyc
      if ok then
        (h.setTs i (fun s => { s with dUsed := u + tokenUnit })).tsQueueMax i 16
          { kind := 1, sub := b2n p2p, since := 0, t := m.t, corr := m.corr, ident := m.port, seq := m.seq, uni := m.uni
            mac := m.mac, ip := m.ip, udp := m.udp }
      else (h.setTs i (fun s => { s with dUsed := u })).inc TS_CNT_DREQ_LIMIT i
    else h.inc TS_CNT_PTP_DISC i)

/-- NTP_REQUEST (R180, R182). -/
def Hw.ntpRequest (h : Hw) (i : Nat) (m : NtpIn) : Hw :=
  h.tsArrive i enNtp (fun h =>
    if m.mode = 3 ∧ (m.vn = 3 ∨ m.vn = 4) ∧ m.len = 48 then
      let r : TsReq := { kind := 3, since := 0, t := m.t, ident := m.orig, vn := m.vn, poll := m.poll, mac := m.mac, ip := m.ip, udp := m.udp }
      let s := h.tsAt i
      let (u, ok) := bucketLevel s.nUsed (h.cfg TS_PORT_NTP_BURST i) (h.cfg TS_PORT_NTP_RATE i) m.cyc
      let (k, kod) := bucketLevel s.kUsed 1000 1000 m.cyc
      if ok then (h.setTs i (fun s => { s with nUsed := u + tokenUnit, kUsed := k })).tsQueueMax i 64 r
      else
        let h := (h.setTs i (fun s => { s with nUsed := u, kUsed := k })).inc TS_CNT_NTP_LIMIT i
        if h.cfg TS_PORT_NTP_KOD i = 1 ∧ kod = true then
          (h.setTs i (fun s => { s with kUsed := k + tokenUnit })).tsQueueMax i 64 { r with sub := 1 }
        else h
    else h.inc TS_CNT_NTP_DISC i)

/-- ARP_REQUEST (R164): an ARP request, or a Neighbor Solicitation (`v6`), for the port's own address. -/
def Hw.arpRequest (h : Hw) (i : Nat) (v6 : Bool) (mac ip : Nat) : Hw :=
  h.tsArrive i enArp (fun h =>
    if h.cfg (if v6 then TS_PORT_IPV6 else TS_PORT_IPV4) i = 0 then h
    else h.tsQueue i { kind := 5, sub := b2n v6, since := 0, mac := mac, ip := ip })

/-- ESMC_RX (R183). -/
def Hw.esmcRx (h : Hw) (i : Nat) : Hw :=
  if h.tsServes i && h.runs (tsRegion i) && h.tsEn i enEsmc then h.inc TS_CNT_ESMC_RX i else h

/-- R185: an instance sends ESMC. -/
def Hw.esmcLive (h : Hw) (i : Nat) : Bool := h.tsServes i && h.runs (tsRegion i) && h.tsEn i enEsmc && h.tsLink i

/-- ESMC_INFO_PDU (R185). -/
def Hw.esmcInfo (h : Hw) (i : Nat) : Hw :=
  if h.esmcLive i && h.secPlace == 5 * i + 1250 then h.tsQueue i { kind := 4, since := 0 } else h

/-- ESMC_EVENT_PDU (R185): the event PDU of a change of the quality level. -/
def Hw.esmcEvent (h : Hw) (i : Nat) : Hw :=
  if (h.tsAt i).evDue then
    let h := h.setTs i (fun s => { s with evDue := false })
    if h.esmcLive i then h.tsQueue i { kind := 4, sub := 1, since := 0 } else h
  else h

/-- R184: the quality level at a tick boundary; a change makes event PDUs due. -/
def Hw.qlBoundary (h : Hw) : Hw :=
  let q := if h.on GL_CLK_STATUS_SRC_FREE then h.cfg TS_CLOCK_QL_FREERUN else h.cfg TS_CLOCK_QL_LOCKED
  if q = h.time.ql then h
  else
    { h with time := { h.time with ql := q } }.each h.tsActive (fun h i =>
      if h.esmcLive i then h.setTs i (fun s => { s with evDue := true }) else h)

/-- R179: a Sync or Announce not committed within 1,000 µs (640 microticks) of its request is late. -/
def Hw.tsLate (h : Hw) (r : TsReq) : Bool := (r.kind == 0 || r.kind == 2) && decide (r.since + 640 < h.clk.ut)

/-- TX_LATE (R179). -/
def Hw.txLate (h : Hw) (i : Nat) : Hw :=
  let n := ((h.tsAt i).reqs.filter h.tsLate).length
  if n = 0 then h
  else (h.setTs i (fun s => { s with reqs := s.reqs.filter (fun r => !h.tsLate r) })).inc TS_CNT_TX_LATE i 0 n

/-! ### What a responder sends (Tables 6-3 and 6-4) -/

/-- Seconds, whole nanoseconds and fraction of an instant. -/
def tsParts (t : Int) : Nat × Nat × Nat :=
  let n := t.toNat
  (n / 65536000000000, n / 65536 % 1000000000, n % 65536)

/-- Table 6-12: clockIdentity as a number in network order; 0 takes the base MAC address with FF-FE inserted. -/
def Hw.clockId (h : Hw) : Nat :=
  let c := h.cfg TS_CLOCK_CLOCK_ID
  if c = 0 then h.pw.baseMac / 2 ^ 24 * 2 ^ 40 + 0xFFFE * 2 ^ 24 + h.pw.baseMac % 2 ^ 24 else netOrder 8 c

/-- R163: the unicast MAC address of instance i. -/
def Hw.portMac (h : Hw) (i : Nat) : Nat := (h.pw.baseMac + i) % 2 ^ 48

/-- R181: an instant on the NTP time scale: 32 bits of seconds and 32 of fraction. -/
def Hw.ntpTime (h : Hw) (t : Int) : Nat :=
  let (s, ns, fr) := tsParts t
  let f := (roundDiv (((ns * 65536 + fr) * 2 ^ 32 : Nat) : Int) 65536000000000).toNat
  let sec : Int := (s : Int) - h.utcOfs s + 2208988800 + ((f / 2 ^ 32 : Nat) : Int)
  unsigned 32 sec * 2 ^ 32 + f % 2 ^ 32

/-- The common fields of a PTP frame: clockIdentity, portNumber, domainNumber, sequenceId, correctionField and
logMessageInterval (R171, R173). -/
def Hw.ptpHead (h : Hw) (i ep seq : Nat) (corr log : Int) : List Nat :=
  [h.clockId, i + 1, h.cfgFor ep TS_PORT_DOMAIN i, seq % 65536, unsigned 64 corr, unsigned 8 log]

/-- Table 6-1, note (a): the group address of a PTP message on an instance: 0 on L2. -/
def Hw.ptpGroup (h : Hw) (i ep : Nat) : Nat × Nat :=
  match h.cfgFor ep TS_PORT_TRANSPORT i with
  | 1 => (0xE0000181, 320)
  | 2 => (0xFF0E * 2 ^ 112 + 0x181, 320)
  | _ => (0, 0)

/-- A PTP frame of instance i to the group: over L2 to 01-1B-19-00-00-00 or 01-80-C2-00-00-0E (Table 6-1). -/
def Hw.ptpMulti (h : Hw) (i ep kind sub : Nat) (event : Bool) (fields : List Nat) : TsMsg :=
  let (ip, udp) := h.ptpGroup i ep
  let l2 := if sub = 1 ∨ (h.cfgFor ep TS_PORT_PROFILE i = 1 ∧ h.cfgFor ep TS_PORT_L2_DA i = 1) then 0x0180C200000E else 0x011B19000000
  { kind := kind, sub := sub, dst := if ip = 0 then some l2 else none, ip := ip, udp := if event && ip != 0 then 319 else udp
    vlan := h.cfgFor ep TS_PORT_VLAN i, fields := fields }

/-- R174: a Sync with departure time `dep`: head, originTimestamp seconds and nanoseconds. -/
def Hw.syncMsg (h : Hw) (i ep : Nat) (dep : Int) : TsMsg :=
  let (s, ns, fr) := tsParts dep
  h.ptpMulti i ep 0 0 true (h.ptpHead i ep (h.tsAt i).seqSync fr (h.cfgS TS_PORT_LOG_SYNC i) ++ [s, ns])

/-- Table 6-3: flags PTP_TIMESCALE 1, TIME_TRACEABLE 2, FREQUENCY_TRACEABLE 4, UTC_OFFSET_VALID 8, LEAP61 16, LEAP59 32. -/
def Hw.announceFlags (h : Hw) (r : Nat) (dep : Int) : Nat :=
  let s := (tsParts dep).1
  let u := rungUsable r
  1 + 2 * b2n u + 4 * b2n (u && !h.on GL_CLK_STATUS_SRC_FREE) + 8 * h.cfg TC_UTC_VALID + 16 * b2n (h.leapFlag TC_LEAP61 s) +
    32 * b2n (h.leapFlag TC_LEAP59 s)

/-- R175: an Announce: head, currentUtcOffset, priority1, class, accuracy, variance, priority2, grandmasterIdentity,
stepsRemoved, timeSource and flags. -/
def Hw.announceMsg (h : Hw) (i ep : Nat) (dep : Int) : TsMsg :=
  let r := h.tsRung i
  let gm := h.cfg TS_CLOCK_GM_MODE = 1
  let cls := if h.cfgFor ep TS_PORT_PROFILE i = 1 then h.cfg TC_CLASS_8275 0 r else h.cfg TC_CLASS_DEF 0 r
  let body := [unsigned 16 (h.utcOfs (tsParts dep).1), if gm then h.cfg TS_CLOCK_GM_PRIORITY1 else h.cfg TS_CLOCK_PRIORITY1
    , cls, h.rungAcc r, h.cfg TC_VAR 0 r, if gm then h.cfg TS_CLOCK_GM_PRIORITY2 else h.cfg TS_CLOCK_PRIORITY2
    , if gm then netOrder 8 (h.cfg TS_CLOCK_GM_ID) else h.clockId, if gm then h.cfg TS_CLOCK_STEPS_REMOVED else 0
    , if rungUsable r then h.cfg TS_CLOCK_TIME_SOURCE else 0xA0, h.announceFlags r dep]
  h.ptpMulti i ep 2 0 false (h.ptpHead i ep (h.tsAt i).seqAnn 0 (h.cfgS TS_PORT_LOG_ANNOUNCE i) ++ body)

/-- R176, R177: a Delay_Resp: head, receiveTimestamp, requestingPortIdentity; a Pdelay_Resp: head,
requestReceiptTimestamp 0, requestingPortIdentity. -/
def Hw.delayMsg (h : Hw) (i : Nat) (r : TsReq) (dep : Int) : TsMsg :=
  let (s, ns, fr) := tsParts r.t
  let m : TsMsg :=
    if r.sub = 1 then h.ptpMulti i r.epoch 1 1 true (h.ptpHead i r.epoch r.seq (r.corr + dep - r.t) 127 ++ [0, 0, r.ident])
    else h.ptpMulti i r.epoch 1 0 false
      (h.ptpHead i r.epoch r.seq (r.corr - fr) (signed 8 (h.cfgFor r.epoch TS_PORT_LOG_MIN_DREQ i)) ++ [s, ns, r.ident])
  if r.uni then { m with dst := some r.mac, ip := r.ip, udp := if r.ip = 0 then 0 else m.udp } else m

/-- Table 6-4: LI, VN, Mode, Stratum, Poll, Precision, Root Delay, Root Dispersion, Reference ID, and the Reference,
Origin, Receive and Transmit Timestamps. -/
def Hw.ntpFields (h : Hw) (i : Nat) (r : TsReq) (dep : Int) (usable : Bool) (ref : Nat) : List Nat :=
  let s := (tsParts dep).1
  let li := if !usable then 3 else if h.leapFlag TC_LEAP61 s then 1 else if h.leapFlag TC_LEAP59 s then 2 else 0
  let disp := if !usable then 0xFFFFFFFF else if h.tsRung i = rungLocked then h.cfg TS_CLOCK_ROOTDISP_LOCKED else h.cfg TS_CLOCK_ROOTDISP_HOLD
  [li, r.vn, 4, if usable then h.cfg TS_CLOCK_NTP_STRATUM else 16, r.poll, 0x100 - 29, 0, disp, netOrder 4 (h.cfg TS_CLOCK_NTP_REFID)
  , ref, r.ident, h.ntpTime r.t, h.ntpTime dep]

/-- R182: a kiss-o'-death packet, in the order of Table 6-4: LI 3, stratum 0, Reference ID "RATE", the origin copied and
the other timestamps 0. -/
def kodFields (r : TsReq) : List Nat := [3, r.vn, 4, 0, r.poll, 0x100 - 29, 0, 0, 0x52415445, 0, r.ident, 0, 0]

/-- R180: a reply to the source of a request, from port 123. -/
def Hw.ntpMsg (h : Hw) (i : Nat) (r : TsReq) (fields : List Nat) : TsMsg :=
  { kind := 3, sub := r.sub, dst := some r.mac, ip := r.ip, udp := r.udp, vlan := h.cfgFor r.epoch TS_PORT_VLAN i, fields := fields }

/-- R185: ITU-OUI, subtype, version, event flag, SSM code, and with ENH the eSSM code and the clock identity. -/
def Hw.esmcMsg (h : Hw) (i : Nat) (r : TsReq) : TsMsg :=
  let enh := if bitOf (h.cfg TS_CLOCK_ESMC_FLAGS) 0 then [0xFF, h.clockId] else []
  { kind := 4, sub := r.sub, dst := some 0x0180C2000002, ip := 0, udp := 0, vlan := h.cfg TS_PORT_VLAN i
    fields := [0x0019A7, 0x0001, 1, r.sub, h.time.ql] ++ enh }

/-- R164: the answer carries the port's MAC address and the address asked for. -/
def Hw.arpMsg (h : Hw) (i : Nat) (r : TsReq) : TsMsg :=
  { kind := 5, sub := r.sub, dst := some r.mac, ip := r.ip, udp := 0, vlan := h.cfgFor r.epoch TS_PORT_VLAN i
    fields := [h.portMac i, if r.sub = 1 then netOrder 16 (h.cfgFor r.epoch TS_PORT_IPV6 i) else netOrder 4 (h.cfgFor r.epoch TS_PORT_IPV4 i)] }

/-! ### The commit (R169, R179, R188, R189) -/

/-- A frame leaves instance i: a station port's MAC counts it, with `len` octets; a virtual port's goes to the host
receive ring of its object (R162). -/
def Hw.tsSend (h : Hw) (i len : Nat) (f : Fld) (m : TsMsg) : Hw :=
  let h := (h.inc f i).emit (.time i m)
  if i < 128 then (h.inc PF_MAC_CNT_TX_FRAMES i).incW PF_MAC_CNT_TX_OCTETS i 0 len else h

/-- R187, R189: what becomes of one request at its commit, with departure time `dep`. -/
def Hw.commitOne (h : Hw) (i : Nat) (r : TsReq) (dep : Int) (len : Nat) : Hw :=
  let usable := rungUsable (h.tsRung i)
  let ep := h.rd HI_EPOCH_STATUS_CURRENT
  match r.kind with
  | 0 =>
    if h.tsSuppress i usable then h.inc TS_CNT_SYNC_SUPP i
    else (h.tsSend i len TS_CNT_SYNC_TX (h.syncMsg i ep dep)).setTs i (fun s => { s with seqSync := (s.seqSync + 1) % 65536 })
  | 1 =>
    if !h.tsEn i enPtp then h.inc TS_CNT_PTP_DISC i
    else if h.tsSuppress i usable then h.inc TS_CNT_PTP_SUPP i
    else h.tsSend i len TS_CNT_DRESP_TX (h.delayMsg i r dep)
  | 2 => (h.tsSend i len TS_CNT_ANN_TX (h.announceMsg i ep dep)).setTs i (fun s => { s with seqAnn := (s.seqAnn + 1) % 65536 })
  | 3 =>
    let ok := usable && h.cfg TC_UTC_VALID == 1
    if !h.tsEn i enNtp then h.inc TS_CNT_NTP_DISC i
    else if h.tsSuppress i ok then h.inc TS_CNT_NTP_SUPP i
    else if r.sub = 1 then h.tsSend i len TS_CNT_NTP_TX (h.ntpMsg i r (kodFields r))
    else
      match h.time.lockedSec with
      | some s => h.tsSend i len TS_CNT_NTP_TX (h.ntpMsg i r (h.ntpFields i r dep ok (h.ntpTime (((s : Nat) : Int) * sec16))))
      | none =>
        let (v, h) := h.takeFree
        h.tsSend i len TS_CNT_NTP_TX (h.ntpMsg i r (h.ntpFields i r dep ok (v % 2 ^ 64)))
  | 4 =>
    if h.tsEn i enEsmc then
      let h := h.emit (.time i (h.esmcMsg i r))
      let h := if i < 128 then (h.inc PF_MAC_CNT_TX_FRAMES i).incW PF_MAC_CNT_TX_OCTETS i 0 64 else h
      h.setTs i (fun s => { s with seqEsmc := (s.seqEsmc + 1) % 65536 })
    else h
  | _ =>
    if h.tsEn i enArp then
      let h := h.emit (.time i (h.arpMsg i r))
      if i < 128 then (h.inc PF_MAC_CNT_TX_FRAMES i).incW PF_MAC_CNT_TX_OCTETS i 0 len else h
    else h

/-- R179: the next request to commit: by kind, then the oldest; late Sync and Announce are not committed. -/
def Hw.tsNext (h : Hw) (i : Nat) : Option TsReq :=
  minBy? (fun a b => decide (a.kind < b.kind)) ((h.tsAt i).reqs.filter (fun r => !h.tsLate r))

/-- R166, R190, R228, R231: the MAC can grant the responder of instance i its transmit path. -/
def Hw.tsGrant (h : Hw) (i : Nat) : Bool :=
  h.tsServes i && h.runs (tsRegion i) && h.tsLink i && h.tsLat i &&
  (decide (128 ≤ i) || ((h.portAt i).pause.isNone && !h.on PF_LANE_STATUS_TEST i))

/-- RESPONDER_COMMIT (R169): at a MAC grant the responder commits one frame, of `len` octets, whose timestamp point
crosses the ball at `dep`. -/
def Hw.responderCommit (h : Hw) (i : Nat) (dep : Int) (len : Nat) : Hw :=
  if h.tsGrant i then
    match h.tsNext i with
    | none => h
    | some r => (h.setTs i (fun s => { s with reqs := s.reqs.erase r })).commitOne i r dep len
  else h

/-! ### Flips and reloads (R173, R189, R190) -/

/-- R172, R173: instance i at an epoch flip; `was` is the epoch replaced. -/
def Hw.tsFlip (h : Hw) (was : CfgStore) (i : Nat) : Hw :=
  let same (f : OFld) : Bool := cfgOf was f i 0 == h.cfg f i
  let h := if same TS_PORT_PROFILE && same TS_PORT_DOMAIN then h else h.setTs i (fun s => { s with seqSync := 0, seqAnn := 0, seqEsmc := 0 })
  h.tsLeave i

/-- R190, Table 15-1: a reload of the region of instance i loses its queues and its fault. -/
def Hw.tsReset (h : Hw) (r : Nat) : Hw :=
  let gone := (h.ts.filter (fun p => tsRegion p.1 == r && p.2.faulty)).map Prod.fst
  let h := { h with ts := h.ts.filter (fun p => tsRegion p.1 != r) }
  h.each gone (fun h i => h.wr SF_DIAG_PORT_FAULT (putBit (h.rd SF_DIAG_PORT_FAULT) i false))

end Sys2Proof.Machine
end

