-- ==== Sys2Proof/Machine/StationPort.lean ====
section
/-! DEFINITION. Station lanes and MACs: link state, loopbacks and patterns, received and sent frames, pause,
recalibration and the faults of a quad (chapter 8: R212 to R236). -/

namespace Sys2Proof.Machine

/-! ### Lanes and links (R218 to R223, R231) -/

/-- The lanes of the port whose base lane is n. -/
def Hw.portLanes (h : Hw) (n : Nat) : List Nat := if h.on PF_QUAD_CFG_MODE (n / 4) then [n, n + 1, n + 2, n + 3] else [n]

/-- R221: the conditions of the link of the port with base lane n. A lane outside L0, isolated or in test, and a port
that a FULL recalibration holds down, have none. -/
def Hw.linkConds (h : Hw) (n : Nat) : Bool :=
  (h.portLanes n).all (fun l => h.on PF_LANE_STATUS_BLOCK_LOCK l && !h.on PF_LANE_STATUS_HI_BER l &&
    !h.on PF_LANE_STATUS_LOC_FAULT_RX l && !h.on PF_LANE_STATUS_TEST l && h.rd PF_LANE_STATUS_PWR l == 0 &&
    !h.on PF_LANE_STATUS_ISOLATED l && !(h.portAt l).recalDown) &&
  (!h.on PF_QUAD_CFG_MODE (n / 4) || h.on PF_LANE_STATUS_ALIGN_LOCK n)

/-- The quad block of lane n. -/
def quadBlock (n : Nat) : Nat := if n / 4 < 16 then 0x3000 + n / 4 else 0x4000 + (n / 4 - 16)

/-- R221: every change of LINK is recorded; a port whose queues do not hold drops them (R268). -/
def Hw.linkSet (h : Hw) (n : Nat) (up : Bool) : Hw :=
  if h.on PF_LANE_STATUS_LINK n = up then h
  else
    let h := h.each (h.portLanes n) (fun h l => h.wrB PF_LANE_STATUS_LINK up l)
    let h := h.recordOther sevInfo (quadBlock n) 14 (leBytes 1 n ++ leBytes 1 (b2n up))
    let h := if up then h else h.setPort n (fun p => { p with pause := none })
    let h := if h.portFlushes n then h.flushPort n else h
    h.tsLeave n

/-- R221: LINK falls at the microtick boundary after a condition fails. -/
def Hw.linkMicro (h : Hw) (n : Nat) : Hw :=
  if h.linkConds n then h else (h.linkSet n false).setPort n (fun p => { p with upFor := 0 })

/-- R221: the count of ticks for which the conditions have held, at a tick boundary. -/
def Hw.linkTick (h : Hw) (n : Nat) : Hw :=
  h.setPort n (fun p => { p with upFor := if h.linkConds n then p.upFor + 1 else 0 })

/-- LINK_UP (R221). -/
def Hw.linkUp (h : Hw) (n : Nat) : Hw :=
  if h.portBase n = n ∧ h.linkConds n = true ∧ 80 ≤ (h.portAt n).upFor then h.linkSet n true else h

/-- Lanes that hold state: those of the ports a configuration or an event has touched. -/
def Hw.laneActive (h : Hw) : List Nat := h.port.map Prod.fst

/-- A wake event for block u of the power controller (R437). -/
def Hw.wakeEvent (h : Hw) (u : Nat) : Hw :=
  if h.pw.blks.any (fun x => x.1 == u) then
    { h with pw := { h.pw with blks := store h.pw.blks u { look h.pw.blks u {} with wakeNow := true } } }
  else h

/-- R223: a wake event of the lanes of lane n's port: they return to L0 (Table 8-3 bounds the time). -/
def Hw.laneWake (h : Hw) (n : Nat) : Hw :=
  let h := h.wakeEvent (1000 + h.portBase n)
  let h := h.each (h.portLanes (h.portBase n)) (fun h l => h.setPort l (fun p => { p with idle := false }))
  if h.rd PF_LANE_STATUS_PWR n = 0 then h
  else h.each (h.portLanes (h.portBase n)) (fun h l => h.wr PF_LANE_STATUS_PWR 0 l)

/-- R218 to R221, R232: what lane x.lane shows at a microtick boundary. -/
def Hw.laneSee (h : Hw) (x : LaneIn) : Hw :=
  let n := x.lane
  let q := n / 4
  if n < 128 ∧ h.runs (quadRegion q) = true ∧ h.on PF_LANE_STATUS_ISOLATED n = false then
    let on (k : Nat) : Bool := bitOf x.cond k
    let sig := on 0
    let h := h.setPort n (fun p => { p with quiet := if sig then none else match p.quiet with | some t => some t | none => some h.clk.ut })
    let h := h.wrB PF_LANE_STATUS_SIG_DET sig n
    let h := if sig && (h.portAt n).idle && bitOf (h.cfg PF_PORT_FLAGS (h.portBase n)) 0 then h.laneWake n else h
    let l0 := h.rd PF_LANE_STATUS_PWR n == 0
    let conv := l0 && on 2 && on 1
    let h := h.wrB PF_LANE_STATUS_CDR_LOCK (l0 && on 1) n
    let h := (h.wrB PF_LANE_STATUS_EQ_CONV conv n).setPort n (fun p => { p with warm := p.warm || conv })
    let h := h.wrB PF_LANE_STATUS_BLOCK_LOCK (l0 && on 3) n
    let h := h.wrB PF_LANE_STATUS_HI_BER (l0 && on 4) n
    let h := h.wrB PF_LANE_STATUS_LOC_FAULT_RX (l0 && on 5) n
    let h := h.wrB PF_LANE_STATUS_REM_FAULT_RX (l0 && on 6) n
    let h := if h.on PF_QUAD_CFG_MODE q then
        h.each (h.portLanes (h.portBase n)) (fun h l => h.wrB PF_LANE_STATUS_ALIGN_LOCK (l0 && on 7) l)
      else h.wr PF_LANE_STATUS_ALIGN_LOCK 0 n
    let h := if h.on PF_LANE_STATUS_BLOCK_LOCK n then h else h.tsLatClear n
    let h := if h.on PF_LANE_STATUS_PRBS_LOCK n then h.inc PF_PRBS_CNT_ERR n 0 x.prbs else h
    let fec := h.on PF_QUAD_CFG_MODE q && h.on PF_QUAD_CFG_FEC q
    let h := if fec then (h.inc PF_QUAD_CNT_CW_CORR q 0 x.cwC).inc PF_QUAD_CNT_CW_UNCORR q 0 x.cwU else h
    if h.on PF_QUAD_CFG_MODE q then
      let h := h.inc PF_QUAD_CNT_DESKEW_FAIL q 0 x.failed
      if on 7 then h.wr PF_QUAD_CNT_SKEW x.skew q else h
    else h
  else h

/-- R231, Table 8-7: LOOPBACK or PATTERN, in the word of PF_LANE_CTRL, is active. -/
def ctlTest (w : Nat) : Bool := bits w 4 2 != 0 || (decide (1 ≤ bits w 8 4) && decide (bits w 8 4 ≤ 6))

/-- The words of PF_LANE_CTRL and PF_LANE_EQ as the host sees them. -/
def Hw.laneCtl (h : Hw) (n : Nat) : Nat :=
  h.rd PF_LANE_CTRL_TX_POL n + 2 * h.rd PF_LANE_CTRL_RX_POL n + 16 * h.rd PF_LANE_CTRL_LOOPBACK n + 256 * h.rd PF_LANE_CTRL_PATTERN n
def Hw.laneEq (h : Hw) (n : Nat) : Nat :=
  h.rd PF_LANE_EQ_CTLE_PEAK n + 2 ^ 8 * h.rd PF_LANE_EQ_DFE_MODE n + 2 ^ 16 * h.rd PF_LANE_EQ_TX_AMP n +
    2 ^ 24 * h.rd PF_LANE_EQ_TX_PRE n + 2 ^ 28 * h.rd PF_LANE_EQ_TX_POST n

/-- R217, R219, R220, R231: settings of lane n that take effect at a microtick boundary. -/
def Hw.laneMicro (h : Hw) (n : Nat) : Hw :=
  let p := h.portAt n
  let ctl := h.laneCtl n
  let polChange := bitOf ctl 1 != bitOf p.ctlNow 1
  let h := h.setPort n (fun p => { p with ctlNow := ctl, eqNow := h.laneEq n, relock := false })
  let h := if polChange && h.on PF_LANE_STATUS_LINK n then h.wr PF_LANE_STATUS_BLOCK_LOCK 0 n else h
  let h := if p.relock then h.each (h.portLanes (h.portBase n)) (fun h l => h.wr PF_LANE_STATUS_ALIGN_LOCK 0 l) else h
  let h := if ctlTest ctl then h.laneWake n else h
  let h := if ctl / 256 % 16 = p.ctlNow / 256 % 16 then h else h.wr PF_LANE_STATUS_PRBS_LOCK 0 n
  let ls := h.portLanes (h.portBase n)
  let test := ls.any (fun l => ctlTest (h.portAt l).ctlNow)
  h.each ls (fun h l => h.wrB PF_LANE_STATUS_TEST test l)

/-- R222: the port of lane n is disabled, or SIG_DET has been 0 for IDLE_MS. -/
def Hw.laneQuiet (h : Hw) (n : Nat) : Bool :=
  let b := h.portBase n
  !bitOf (h.cfg PF_PORT_FLAGS b) 0 || (match (h.portAt n).quiet with
    | some t => decide (t + h.cfg PF_PORT_IDLE_MS b * 640 ≤ h.clk.ut) && !h.on PF_LANE_STATUS_SIG_DET n
    | none => false)

/-- LANE_IDLE (R222): port disabled, or SIG_DET 0 for IDLE_MS. -/
def Hw.laneIdle (h : Hw) (n : Nat) : Hw :=
  if n < 128 ∧ h.laneQuiet n = true then h.setPort n (fun p => { p with idle := true }) else h

/-- DFE_EQ_RESET (R218): a write of PF_LANE_EQ whose EQ_RESET is 1, dropped while LINK is 1. -/
def Hw.dfeReset (h : Hw) (n v : Nat) : Hw :=
  let h := (h.writeWord RegName.PF_LANE_EQ 0 v n 0).setPort n id
  if bitOf v 12 && !h.on PF_LANE_STATUS_LINK n then
    (h.setPort n (fun p => { p with warm := false })).wr PF_LANE_STATUS_EQ_CONV 0 n
  else h

/-! ### Patterns (R232) -/

/-- A pattern whose errors are counted: not off and not the square wave. -/
def Hw.prbsOn (h : Hw) (n : Nat) : Bool :=
  let k := bits (h.portAt n).ctlNow 8 4
  decide (1 ≤ k ∧ k ≤ 5)

/-- PRBS_LOCK. -/
def Hw.prbsLock (h : Hw) (n : Nat) : Hw := if h.prbsOn n then h.wr PF_LANE_STATUS_PRBS_LOCK 1 n else h

/-- PRBS_LOCK_LOSS, with the errors counted since the last boundary. -/
def Hw.prbsLoss (h : Hw) (n errs : Nat) : Hw :=
  if h.on PF_LANE_STATUS_PRBS_LOCK n then (h.inc PF_PRBS_CNT_ERR n 0 errs).wr PF_LANE_STATUS_PRBS_LOCK 0 n else h

/-! ### Received frames (R163, R224, R225, R227 to R229) -/

/-- The frame check sequence of IEEE 802.3, as its four octets leave the MAC. -/
def fcsOf (l : List Byte) : List Byte :=
  leBytes 4 ((l.foldl (fun c b => crcBits 0xEDB88320 8 (c ^^^ b.toNat)) 0xFFFFFFFF) ^^^ 0xFFFFFFFF)

/-- Whether a frame's last four octets are its FCS. -/
def fcsOk (l : List Byte) : Bool := l.drop (l.length - 4) == fcsOf (l.take (l.length - 4))

/-- R225: the receive FIFO of port n in octets. -/
def Hw.rxCap (h : Hw) (n : Nat) : Nat := if h.on PF_QUAD_CFG_MODE (n / 4) then 4 * 65536 else 65536

/-- Its fill. -/
def Hw.rxFill (h : Hw) (n : Nat) : Nat := ((h.portAt n).rx.map (fun f => f.bytes.length)).foldl (· + ·) 0

/-- R163: the octets behind a tag of TS_PORT.VLAN, from the EtherType on; none where the tag does not match. -/
def Hw.respBody (h : Hw) (i : Nat) (b : List Byte) : Option (List Byte) :=
  let v := h.cfg TS_PORT_VLAN i
  let et := beNat (slice b 12 2)
  if bitOf v 15 then
    if et = 0x8100 ∧ beNat (slice b 14 2) % 4096 = v % 4096 then some (b.drop 16) else none
  else if et = 0x8100 ∨ et = 0x88A8 then none else some (b.drop 12)

/-- R163: the UDP destination port of an IPv4 or IPv6 packet to one of the port's addresses; `ptp` admits the
multicast addresses of PTP. -/
def Hw.respUdp (h : Hw) (i : Nat) (b : List Byte) (ptp : Bool) : Option Nat :=
  let et := beNat (slice b 0 2)
  let v4 := netOrder 4 (h.cfg TS_PORT_IPV4 i)
  let v6 := netOrder 16 (h.cfg TS_PORT_IPV6 i)
  if et = 0x0800 then
    let ihl := 4 * (beNat (slice b 2 1) % 16)
    let da := beNat (slice b 18 4)
    if beNat (slice b 11 1) = 17 ∧ ((da = v4 ∧ v4 ≠ 0) ∨ (ptp = true ∧ da = 0xE0000181)) then some (beNat (slice b (2 + ihl + 2) 2)) else none
  else if et = 0x86DD then
    let da := beNat (slice b 26 16)
    let scope := da / 2 ^ 116 = 0xFF0 ∧ da % 2 ^ 112 = 0x181
    if beNat (slice b 8 1) = 17 ∧ ((da = v6 ∧ v6 ≠ 0) ∨ (ptp = true ∧ scope)) then some (beNat (slice b 44 2)) else none
  else none

/-- R163: the frame goes to the responder of instance i. -/
def Hw.toResponder (h : Hw) (i : Nat) (b : List Byte) : Bool :=
  match h.respBody i b with
  | none => false
  | some r =>
    let et := beNat (slice r 0 2)
    let da := beNat (slice b 0 6)
    let ptp := h.tsEn i enPtp && ((et == 0x88F7 && (da == h.portMac i || da == 0x011B19000000 || da == 0x0180C200000E)) ||
      (match h.respUdp i r true with | some p => p == 319 || p == 320 | none => false))
    let ntp := h.tsEn i enNtp && (match h.respUdp i r false with | some p => p == 123 | none => false)
    let esmc := h.tsEn i enEsmc && et == 0x8809 && beNat (slice r 2 1) == 0x0A
    let v4 := netOrder 4 (h.cfg TS_PORT_IPV4 i)
    let v6 := netOrder 16 (h.cfg TS_PORT_IPV6 i)
    let arp := h.tsEn i enArp && ((et == 0x0806 && beNat (slice r 8 2) == 1 && v4 != 0 && beNat (slice r 26 4) == v4) ||
      (et == 0x86DD && beNat (slice r 8 1) == 58 && beNat (slice r 42 1) == 135 && v6 != 0 && beNat (slice r 50 16) == v6))
    ptp || ntp || esmc || arp

/-- R171: messageType of a frame that goes to the responder as PTP: over Ethernet or over UDP. -/
def Hw.ptpType (h : Hw) (i : Nat) (b : List Byte) : Option Nat :=
  match h.respBody i b with
  | none => none
  | some r =>
    if beNat (slice r 0 2) = 0x88F7 then some (beNat (slice r 2 1) % 16)
    else
      match h.respUdp i r true with
      | some p =>
        let o := if beNat (slice r 0 2) = 0x0800 then 2 + 4 * (beNat (slice r 2 1) % 16) + 8 else 50
        if p = 319 ∨ p = 320 then some (beNat (slice r o 1) % 16) else none
      | none => none

/-- R225, R276, R336: frames that wait in the FIFO of port n enter PACKET while it takes them. -/
def Hw.portAdmit (h : Hw) (n : Nat) : Nat → Hw
  | 0 => h
  | k + 1 =>
    match (h.portAt n).rx with
    | [] => h
    | f :: t =>
      if h.runs rgPacket && !h.sourceHeld n then
        Hw.portAdmit ((h.setPort n (fun p => { p with rx := t })).secEnter n f) n k
      else h

/-- R227 to R229: a MAC control frame that passed the checks. -/
def Hw.macControl (h : Hw) (n : Nat) (b : List Byte) : Hw :=
  let da := beNat (slice b 0 6)
  let f := h.cfg PF_PORT_FLAGS n
  if beNat (slice b 14 2) = 1 ∧ (da = 0x0180C2000001 ∨ da = h.portMac n) then
    let h := h.inc PF_MAC_CNT_RX_PAUSE n
    if bitOf f 1 then
      let rate := if h.on PF_QUAD_CFG_MODE (n / 4) then 100 else if h.on PF_QUAD_CFG_RATE (n / 4) then 25 else 10
      let t := beNat (slice b 16 2)
      let cyc := (t * 512 * 15552 + rate * 10000 - 1) / (rate * 10000)
      h.setPort n (fun p => { p with pause := if t = 0 then none else some cyc })
    else h
  else h.inc PF_MAC_CNT_RX_MACCTL n

/-- MAC_FRAME_RX (R224): a frame at the receive ball of port n, with its FCS; `code` says that check 1 of Table 8-4
fails, `ecc` that its buffer has an uncorrectable error (Table 8-6), `t` is the receive timestamp (R165). -/
def Hw.macFrameRx (h : Hw) (n : Nat) (t : Int) (code ecc : Bool) (b : List Byte) : Hw :=
  if n < 128 ∧ h.portBase n = n ∧ h.portEnabled n = true ∧ h.runs (tsRegion n) = true ∧ h.on PF_LANE_STATUS_LINK n = true then
    let stored := min b.length (h.cfg PF_PORT_MAX_FRAME n)
    if h.rxCap n < h.rxFill n + stored then (h.inc PF_MAC_CNT_RX_FIFO_DROP n).pmNote n 0 0 1 0
    else if ecc then (h.inc PF_MAC_CNT_RX_FIFO_DROP n).pmNote n 0 0 1 0
    else if code then (h.inc PF_MAC_CNT_RX_CODE n).pmNote n 0 0 0 1
    else if b.length < 64 then (h.inc PF_MAC_CNT_RX_RUNT n).pmNote n 0 0 0 1
    else if h.cfg PF_PORT_MAX_FRAME n < b.length then (h.inc PF_MAC_CNT_RX_OVERSIZE n).pmNote n 0 0 0 1
    else if !fcsOk b then (h.inc PF_MAC_CNT_RX_FCS n).pmNote n 0 0 0 1
    else
      let h := ((h.inc PF_MAC_CNT_RX_FRAMES n).incW PF_MAC_CNT_RX_OCTETS n 0 b.length).pmNote n 1 b.length 0 0
      if beNat (slice b 12 2) = 0x8808 then h.macControl n b
      else if h.toResponder n b then
        match h.ptpType n b with
        | some 1 | some 2 => h
        | some _ => if h.tsEn n enPtp then h.inc TS_CNT_PTP_DISC n else h
        | none => h
      else
        let (f, h) := h.newFrame b 4 n false (some t)
        (h.setPort n (fun p => { p with rx := p.rx ++ [f] })).portAdmit n 1
  else h

/-! ### Pause (R228, R230) -/

/-- PAUSE_TIMER_EXPIRY (R228). -/
def Hw.pauseExpiry (h : Hw) (n : Nat) : Hw := h.setPort n (fun p => { p with pause := none })

/-- R226: a frame at the transmit balls of port n, without its FCS. -/
def Hw.macSend (h : Hw) (n : Nat) (b : List Byte) : Hw :=
  let b := b ++ List.replicate (60 - b.length) 0
  ((h.emit (.stationTx n (b ++ fcsOf b))).inc PF_MAC_CNT_TX_FRAMES n).incW PF_MAC_CNT_TX_OCTETS n 0 (b.length + 4) |>.pmNote (128 + n) 1 (b.length + 4) 0 0

/-- R230: a generated PAUSE. -/
def Hw.pauseSend (h : Hw) (n quanta : Nat) : Hw :=
  (h.macSend n (beBytes 6 0x0180C2000001 ++ beBytes 6 (h.portMac n) ++ beBytes 2 0x8808 ++ beBytes 2 1 ++ beBytes 2 quanta)).inc
    PF_MAC_CNT_TX_PAUSE n

/-- Whether port n sends PAUSE: enabled, its link up and PAUSE_TX_EN set. -/
def Hw.pauses (h : Hw) (n : Nat) : Bool :=
  h.portEnabled n && h.on PF_LANE_STATUS_LINK n && bitOf (h.cfg PF_PORT_FLAGS n) 2 && h.runs (tsRegion n)

/-- PAUSE_GENERATE (R230): the fill rises above XOFF, or falls to XON after an XOFF. -/
def Hw.pauseGenerate (h : Hw) (n : Nat) : Hw :=
  if h.pauses n then
    if h.cfg PF_PORT_XOFF n * 256 < h.rxFill n ∧ (h.portAt n).xoff = false then
      (h.setPort n (fun p => { p with xoff := true })).pauseSend n (h.cfg PF_PORT_PAUSE_QUANTA n)
    else if h.rxFill n ≤ h.cfg PF_PORT_XON n * 256 ∧ (h.portAt n).xoff = true then
      (h.setPort n (fun p => { p with xoff := false })).pauseSend n 0
    else h
  else h

/-- PAUSE_REFRESH (R230): half of PAUSE_QUANTA since the last one, and the fill still above XON. -/
def Hw.pauseRefresh (h : Hw) (n : Nat) : Hw :=
  if h.pauses n = true ∧ (h.portAt n).xoff = true ∧ h.cfg PF_PORT_XON n * 256 < h.rxFill n then
    h.pauseSend n (h.cfg PF_PORT_PAUSE_QUANTA n)
  else h

/-! ### Sent frames (R226, Table 9-6) -/

/-- MAC_FRAME_TX (R226): the MAC of port n starts the frame at the head of its transmit buffer. -/
def Hw.macFrameTx (h : Hw) (n : Nat) : Hw :=
  match (h.portAt n).tx with
  | [] => h
  | f :: t =>
    if h.portTakes n = true ∧ h.runs (tsRegion n) = true then
      let h := (h.setPort n (fun p => { p with tx := t })).freed f
      let b := f.edited
      if f.err ∨ h.cfg PF_PORT_MAX_FRAME n < b.length + 4 ∨ 9728 < b.length + 4 then
        let h := (h.inc PF_MAC_CNT_TX_ERR_DROP n).pmNote (128 + n) 0 0 0 1
        match h.flowEntity f with
        | some e => if f.err then h.pmNote e 0 0 0 1 else h
        | none => h
      else h.macSend n b
    else h

/-! ### Recalibration (R233, R234, R373) -/

/-- RESULT of LANE_RECAL. -/
def recalResult (tx rx : Nat) (bad : Bool) : Nat := tx % 2 ^ 28 + (rx % 2 ^ 28) * 2 ^ 28 + b2n bad * 2 ^ 63

/-- LANE_RECAL (R233). -/
def Hw.laneRecal (h : Hw) (hd : CmdHdr) (lane mode : Nat) : Hw × Ans :=
  let r := tsRegion lane
  let w := r - rgPortW
  if 127 < lane ∨ 1 < mode then (h, .fail stRange)
  else if !h.runs r ∨ (mode = 0 ∧ h.rd PF_LANE_STATUS_PWR lane ≠ 0) then (h, .fail stGatedCode)
  else if h.on PF_RECAL_STATUS_BUSY w then (h, .fail stBusy)
  else
    let h := h.laneWake lane
    let h := { h with recal := store h.recal r { lane := lane, full := mode = 1, ring := hd.ring, cmd := hd.cmdId } }
    let h := ((h.wr PF_RECAL_STATUS_BUSY 1 w).wr PF_RECAL_STATUS_LANE (lane % 64) w).wr PF_LANE_STATUS_RECAL 1 lane
    let h := if mode = 1 then
        let b := h.portBase lane
        let h := h.each (h.portLanes b) (fun h l => (h.setPort l (fun p => { p with recalDown := true })).tsLatClear l)
        let h := (h.setPort lane (fun p => { p with warm := false })).wr PF_LANE_STATUS_EQ_CONV 0 lane
        h.linkSet b false
      else h
    (h, .later)

/-- LANE_RECAL_DONE (R234, R236): the recalibration of region r ends with latencies `tx`, `rx` and a loop delay
`dev` off the factory value, in 2^-4 ps. LIGHT: the latencies enter TS_LAT at the next tick boundary. -/
def Hw.recalDone (h : Hw) (r tx rx : Nat) (dev : Int) : Hw :=
  match h.recal.find? (fun x => x.1 == r) with
  | none => h
  | some (_, c) =>
    if c.lat.isSome then h
    else
      let bad := decide (4800 < dev.natAbs)
      let w := r - rgPortW
      let h := (h.wrB PF_RECAL_STATUS_FAIL bad w).wr PF_LANE_STATUS_RECAL 0 c.lane
      let h := if bad then h.tsFault c.lane false else h
      let h := (h.wr PF_RECAL_STATUS_BUSY 0 w).completeOpen (fun o => o.ring == c.ring && o.cmdId == c.cmd && o.opcode == 5) stOk 0
        (recalResult tx rx bad)
      if c.full then
        let h := { h with recal := h.recal.filter (fun x => x.1 != r) }
        let h := h.each (h.portLanes (h.portBase c.lane)) (fun h l => h.setPort l (fun p => { p with recalDown := false }))
        if bad then h else (h.wr PF_LANE_STATUS_ISOLATED 0 c.lane).tsLatSet c.lane tx rx
      else { h with recal := store h.recal r { c with lat := some (tx, rx) } }

/-- R234: the latencies of a LIGHT recalibration enter TS_LAT at a tick boundary. -/
def Hw.recalTick (h : Hw) : Hw :=
  let done := h.recal.filter (fun x => x.2.lat.isSome)
  let h := { h with recal := h.recal.filter (fun x => x.2.lat.isNone) }
  h.each done (fun h x => match x.2.lat with
    | some (tx, rx) => h.tsLatSet x.2.lane tx rx
    | none => h)

/-! ### Faults (R235, R236) -/

/-- R236: the quad isolates a lane. -/
def Hw.laneIsolate (h : Hw) (n : Nat) : Hw :=
  let h := (h.wr PF_LANE_STATUS_ISOLATED 1 n).tsLatClear n
  let h := h.linkSet (h.portBase n) false
  (h.flushPort (h.portBase n)).quarantine (quadBlock n) (n % 4)

/-- Table 8-6: an error of cell `cell` (0 to 3: lane) or of quad q itself (4). Kinds: 0 loss of a PLL, 1 and 2 an
uncorrectable error of the receive and transmit buffer, 3 of the responder, 4 self-test failure, 5 quad PLL not
relocked in 1 s or parity error. -/
def Hw.quadError (h : Hw) (q cell kind : Nat) : Hw :=
  let n := 4 * q + cell
  let recent (l : List Nat) (span : Nat) : List Nat := l.filter (fun t => decide (h.clk.ut < t + span))
  match kind with
  | 0 =>
    let l := (h.clk.ut :: recent (h.portAt n).pllLoss 640000)
    let h := (h.setPort n (fun p => { p with pllLoss := l })).wr PF_LANE_STATUS_BLOCK_LOCK 0 n
    let h := (h.tsLatClear n).linkMicro (h.portBase n)
    if 3 ≤ l.length then h.laneIsolate n else h
  | 1 | 2 =>
    let l := (h.clk.ut :: recent (h.portAt n).macErr 640000)
    let h := h.setPort n (fun p => { p with macErr := l })
    let h := h.inc (if kind = 1 then PF_MAC_CNT_RX_FIFO_DROP else PF_MAC_CNT_TX_ERR_DROP) (h.portBase n)
    if 4 ≤ l.length then h.laneIsolate n else h
  | 3 =>
    let l := (h.clk.ut :: recent (h.portAt n).respErr 640000)
    let h := (h.setPort n (fun p => { p with respErr := l })).inc TS_CNT_Q_FULL (h.portBase n)
    let h := h.setTs (h.portBase n) (fun s => { s with reqs := s.reqs.drop 1 })
    if 3 ≤ l.length then h.tsFault (h.portBase n) true else h
  | 4 => h.laneIsolate n
  | _ =>
    let h := h.each [4 * q, 4 * q + 1, 4 * q + 2, 4 * q + 3] (fun h l =>
      ((h.wr PF_LANE_STATUS_BLOCK_LOCK 0 l).wr PF_LANE_STATUS_ISOLATED 1 l).tsLatClear l |>.linkSet (h.portBase l) false)
    let h := h.isolate (quadBlock (4 * q))
    h.wr QUADS_OUT_OUT (putBit (h.rd QUADS_OUT_OUT) q true)

/-! ### Reset of a region (R213, R218) -/

/-- A reset of region r, PORTW or PORTE: its lanes start cold and its quads load their pending rate and mode. -/
def Hw.portReset (h : Hw) (r : Nat) : Hw :=
  let h := h.each (h.port.filter (fun p => tsRegion p.1 == r)) (fun h p => h.each p.2.tx (fun h f => h.freed f))
  let h := { h with port := h.port.filter (fun p => tsRegion p.1 != r), recal := h.recal.filter (fun x => x.1 != r) }
  h.each ((List.range 16).map (fun k => 16 * (r - rgPortW) + k)) (fun h q =>
    let mode := h.rd PF_QUAD_CFG_MODE_PEND q
    (h.wr PF_QUAD_CFG_MODE mode q).wr PF_QUAD_CFG_RATE (if mode = 1 then 1 else h.rd PF_QUAD_CFG_RATE_PEND q) q)

end Sys2Proof.Machine
end

