-- ==== Sys2Proof/Machine/DualAtt.lean ====
section
/-! DEFINITION. The failure monitor of the attachments (chapter 7: R193 to R195). -/

namespace Sys2Proof.Machine

/-- Table 7-1: the criteria of attachment a that hold, lowest code first. -/
def Hw.failCriteria (h : Hw) (a : Nat) : List Nat :=
  let c := h.actChan a
  let u1 := h.on LN_TX_CTRL_ENABLE a 1
  let enabled := [0, 1].filter (fun u => h.on LN_TX_CTRL_ENABLE a u)
  (if h.inSync a c then [] else [1]) ++
  (if h.on LN_RX_STATUS_MISS2 a c then [2] else []) ++
  (if h.on LN_MAP_CFG_MAPLOSS_U0 a || (h.on LN_MAP_CFG_MAPLOSS_U1 a && u1) then [3] else []) ++
  (if h.rd LN_ATT_STATUS_STATE a == aO5 then [] else [4]) ++
  (if h.on HD_HERD_STATUS_FORMED a && h.on HD_HERD_STATUS_HERD_LOST a then [5] else []) ++
  (if !enabled.isEmpty && enabled.all (fun u => h.on LN_TX_STATUS_ROGUE a u) then [6] else []) ++
  (if h.on LN_ATT_HEALTH_FORCE_FAIL a then [7] else [])

/-- HOLDOFF in ticks and WTR_S in seconds of attachment a. -/
def Hw.holdoff (h : Hw) (a : Nat) : Nat := h.cfg (if a = 0 then DUAL_ATT_HOLDOFF_A else DUAL_ATT_HOLDOFF_B)
def Hw.wtr (h : Hw) (a : Nat) : Nat := h.cfg (if a = 0 then DUAL_ATT_WTR_S_A else DUAL_ATT_WTR_S_B)

/-- The monitor at a microtick boundary: since when a criterion holds, or none does (log entry 60, DESIGN CHOICE). -/
def Hw.healthWatch (h : Hw) (a : Nat) : Hw :=
  let bad := !(h.failCriteria a).isEmpty
  let h := h.setPk (fun p => { p with
    failFrom := if bad then store p.failFrom a (look p.failFrom a h.clk.ut) else p.failFrom.filter (fun x => x.1 != a)
    okFrom := if bad then p.okFrom.filter (fun x => x.1 != a) else store p.okFrom a (look p.okFrom a h.clk.ut) })
  h.wrB LN_ATT_HEALTH_WAITING (h.on LN_ATT_HEALTH_FAILED a && !bad && !bitOf h.pk.firstOk a && h.wtr a != 0) a

/-- ATTACHMENT_FAIL (R193, R199): a criterion has held for HOLDOFF ticks. -/
def Hw.attachFail (h : Hw) (a : Nat) : Hw :=
  let since := look h.pk.failFrom a h.clk.ut
  match h.failCriteria a with
  | [] => h
  | c :: _ =>
    if a < 2 ∧ h.runs rgLine = true ∧ h.on LN_ATT_HEALTH_FAILED a = false ∧ since + 80 * h.holdoff a ≤ h.clk.ut then
      let h := ((h.wr LN_ATT_HEALTH_FAILED 1 a).wr LN_ATT_HEALTH_CAUSE c a).inc LN_ATT_HEALTH_FAIL_CNT a
      let h := h.recordOf sevWarn (0x1030 + a) LN_ATT_HEALTH_FAIL_CNT a 0 (leBytes 1 c)
      h.dropCritical a
    else h

/-- ATTACHMENT_RECOVER (R195): no criterion for WTR_S seconds; the first recovery after a reset of LINE waits not. -/
def Hw.attachRecover (h : Hw) (a : Nat) : Hw :=
  let since := look h.pk.okFrom a h.clk.ut
  if a < 2 ∧ h.runs rgLine = true ∧ h.on LN_ATT_HEALTH_FAILED a = true ∧ (h.failCriteria a).isEmpty = true ∧
      (bitOf h.pk.firstOk a = true ∨ since + 640000 * h.wtr a ≤ h.clk.ut) then
    let h := (h.wr LN_ATT_HEALTH_FAILED 0 a).wr LN_ATT_HEALTH_WAITING 0 a
    (h.setPk (fun p => { p with firstOk := putBit p.firstOk a false })).recordOther sevNotice (0x1030 + a) 15
  else h

end Sys2Proof.Machine
end

