-- ==== Sys2Proof/Machine/Memory.lean ====
section
/-! DEFINITION. Buffer memory: geometry, LPDDR6 channels, scrubbing, sparing and repair, the on-chip buffer
(chapter 11: R278 to R288), and the errors of cells and blocks (R17; Tables 2-5, 8-6, 9-11, 10-6, 11-2, 12-3, 13-3). -/

namespace Sys2Proof.Machine

/-- The errors of one kind on a cell within the last second, this one included. -/
def Hw.errCount (h : Hw) (blk cell kind : Nat) : Nat × Hw :=
  let l := h.clk.ut :: (look h.sf.errLog (blk, cell, kind) []).filter (fun t => decide (h.clk.ut < t + 640000))
  (l.length, { h with sf := { h.sf with errLog := store h.sf.errLog (blk, cell, kind) l } })

/-! ### Channels (R281 to R286) -/

/-- States of Table 11-9. -/
def chOff : Nat := 0
def chActive : Nat := 1
def chSpare : Nat := 2
def chMigrating : Nat := 3
def chRepair : Nat := 4
def chIsolated : Nat := 5
def chTrainFail : Nat := 6

def Hw.chState (h : Hw) (c : Nat) : Nat := bits (h.rd BM_MEM_STATUS_CH_STATE) (4 * c) 4
def Hw.setCh (h : Hw) (c st : Nat) : Hw := h.wr BM_MEM_STATUS_CH_STATE (putBits (h.rd BM_MEM_STATUS_CH_STATE) (4 * c) 4 st)

/-- The healthy spare. -/
def Hw.spareCh (h : Hw) : Option Nat := (List.range 8).find? (fun c => h.chState c == chSpare)

/-- Sectors of the LPDDR6 space. -/
def Hw.sectors (h : Hw) : Nat := h.rd BM_MEM_GEOM_CAP_GIB * 2 ^ 25

/-- R283: the channel of a sector of the LPDDR6 space, and its number in the channel. -/
def Hw.sectorAt (h : Hw) (s : Nat) : Nat × Nat :=
  let n := max 1 h.mem.places.length
  let g := s / 128
  (h.mem.places.getD (g % n) 0, g / n * 128 + s % 128)

/-- R284: a row with an uncorrectable sector enters the channel's repair log once, while there is room. -/
def Hw.logRow (h : Hw) (c row : Nat) : Hw :=
  let entry (i : Nat) : Nat := h.rd BM_REPAIR_LOG_ROW c i + h.rd BM_REPAIR_LOG_BANK c i * 2 ^ 18 + h.rd BM_REPAIR_LOG_SUBCH c i * 2 ^ 23
  let used := (List.range 16).filter (fun i => h.on BM_REPAIR_LOG_VALID c i)
  if used.any (fun i => entry i == row % 2 ^ 24) then h
  else
    match (List.range 16).find? (fun i => !h.on BM_REPAIR_LOG_VALID c i) with
    | none => h
    | some i =>
      let h := (((h.wr BM_REPAIR_LOG_VALID 1 c i).wr BM_REPAIR_LOG_ROW row c i).wr BM_REPAIR_LOG_BANK (row / 2 ^ 18) c i).wr
        BM_REPAIR_LOG_SUBCH (row / 2 ^ 23) c i
      if i = 15 then h.recordOther sevWarn (0x6000 + c) 17 (leBytes 1 c) else h

/-- Rows logged for a channel. -/
def Hw.rowsLogged (h : Hw) (c : Nat) : Nat := ((List.range 16).filter (fun i => h.on BM_REPAIR_LOG_VALID c i)).length

/-- R286: channel c fails. -/
def Hw.chanFail (h : Hw) (c : Nat) : Hw :=
  let st := h.chState c
  if st = chActive ∨ st = chMigrating then
    let h := h.isolate (0x6000 + c)
    match (if h.mem.migr.isSome then none else h.spareCh) with
    | some d => (h.setCh c chMigrating).setMem (fun m => { m with migr := some { src := c, dst := d, cmd := none } })
    | none =>
      let h := (h.setCh c chIsolated).setMem (fun m => { m with leftOut := putBit m.leftOut c true })
      ({ h with sf := { h.sf with memLost := true } }).askReload rgMemory 1
  else if st = chSpare then (h.isolate (0x6000 + c)).setCh c chIsolated
  else h

/-- R284: an uncorrectable read of a sector. -/
def Hw.sectorLost (h : Hw) (c s row : Nat) : Hw :=
  let h := (h.inc BM_ECC_CNT_UNCORR c).setMem (fun m => { m with poison := (c, s) :: m.poison })
  let h := h.logRow c row
  let (n, h) := h.errCount (0x6000 + c) 0 1
  if 8 ≤ n then h.chanFail c else h

/-- A read of a sector: 0 clean, 1 corrected, 2 uncorrectable. -/
def Hw.sectorRead (h : Hw) (c s row outcome : Nat) : Hw :=
  if h.mem.poison.contains (c, s) then h.inc BM_ECC_CNT_POISON_RD c
  else if outcome = 1 then h.inc BM_ECC_CNT_CORR c
  else if outcome = 2 then h.sectorLost c s row
  else h

/-- PATROL_SCRUB (R285): the next sector is read, with its row and what its ECC shows. -/
def Hw.patrolScrub (h : Hw) (row outcome : Nat) : Hw :=
  if h.runs rgMemory ∧ 0 < h.sectors then
    let (c, s) := h.sectorAt h.mem.scrubAt
    (h.sectorRead c s row outcome).setMem (fun m => { m with scrubAt := (m.scrubAt + 1) % h.sectors })
  else h

/-- ZQ_RECAL (R282): the channels whose oscillator has drifted retrain; `failed` marks those that cannot. -/
def Hw.zqRecal (h : Hw) (drift failed : Nat) : Hw :=
  if h.runs rgMemory then
    h.each ((List.range 8).filter (fun c => h.chState c == chActive && bitOf drift c && bitOf failed c)) Hw.chanFail
  else h

/-! ### Migration and repair (R287, R288) -/

/-- MIGRATION_COMPLETE (R287): the last granule is copied. -/
def Hw.migrationDone (h : Hw) : Hw :=
  h.setMem (fun m => { m with migr := m.migr.map (fun g => { g with done := true }) })

/-- R287: the switch from source to spare at a tick boundary. -/
def Hw.memTick (h : Hw) : Hw :=
  match h.mem.migr with
  | none => h
  | some g =>
    if g.done ∧ g.repair = false then
      let h := (h.setCh g.dst chActive).setCh g.src (if g.cmd.isSome then chRepair else chIsolated)
      h.setMem (fun m => { m with
        places := m.places.map (fun c => if c = g.src then g.dst else c)
        poison := m.poison.map (fun x => if x.1 = g.src then (g.dst, x.2) else x)
        migr := if g.cmd.isSome then some { g with repair := true } else none })
    else h

/-- MEM_REPAIR (R288, Table 11-7). -/
def Hw.memRepair (h : Hw) (hd : CmdHdr) (c : Nat) (rows : List Nat) : Hw × Ans :=
  if !h.runs rgMemory then (h, .fail stGatedCode)
  else if 7 < c ∨ 4 < rows.length ∨ h.chState c ≠ chActive then (h, .fail stRange)
  else
    match (if h.mem.migr.isSome then none else h.spareCh) with
    | none => (h, .fail stBusy)
    | some d =>
      ((h.setCh c chMigrating).setMem (fun m => { m with migr := some { src := c, dst := d, cmd := some (hd.ring, hd.cmdId, rows.length) } }), .later)

/-- MEM_REPAIR_DONE (R288): the pattern test has passed, or a step has failed. -/
def Hw.memRepairDone (h : Hw) (ok : Bool) : Hw :=
  match h.mem.migr with
  | none => h
  | some g =>
    match g.cmd with
    | none => h
    | some (ring, cmd, rows) =>
      let n := h.rowsLogged g.src + rows
      let h := h.setMem (fun m => { m with migr := none })
      let done (h : Hw) (st res : Nat) : Hw := h.completeOpen (fun o => o.ring == ring && o.cmdId == cmd && o.opcode == 0x23) st 0 res
      if ok ∧ g.repair = true then
        let h := h.each (List.range 16) (fun h i =>
          (((h.wr BM_REPAIR_LOG_VALID 0 g.src i).wr BM_REPAIR_LOG_ROW 0 g.src i).wr BM_REPAIR_LOG_BANK 0 g.src i).wr BM_REPAIR_LOG_SUBCH 0 g.src i)
        done ((h.setCh g.src chSpare).recordOther sevNotice (0x6000 + g.src) 18 (leBytes 1 g.src)) stOk n
      else done (h.setCh g.src chIsolated) stTimeout 0

/-! ### Reset (R205, R280 to R282) -/

/-- R205: the bridge at a reset of MEMORY. -/
def Hw.bridgeLoad (h : Hw) : Hw :=
  let want := h.rd BM_BRIDGE_CFG_SIZE_PEND
  if want ≤ 96 ∧ (want = 0 ∨ want + 8 ≤ h.rd BM_MEM_GEOM_CAP_GIB) then h.wr BM_BRIDGE_CFG_SIZE_ACT want
  else (h.wr BM_BRIDGE_CFG_SIZE_ACT 0).recordOther sevMajor 0x6030 19 (leBytes 1 want)

/-- R281 to R283: a reset of MEMORY loads the geometry; `bad` marks the channels whose training fails. The flag says
that fewer than 4 usable channels remain of 4 or more enabled. -/
def Hw.memLoad (h : Hw) (bad : Nat) : Hw × Bool :=
  let en := h.rd BM_MEM_CFG_CH_EN_PEND
  let sp := h.rd BM_MEM_CFG_SPARE_PEND
  let out := h.mem.leftOut
  let state (c : Nat) : Nat :=
    if !bitOf en c then chOff else if bitOf out c then chIsolated else if bitOf bad c then chTrainFail
    else if c = sp then chSpare else chActive
  let act := (List.range 8).filter (fun c => state c == chActive)
  let want := ((List.range 8).filter (fun c => bitOf en c && c != sp)).length
  let n := act.length
  let fits := decide (4 ≤ n)
  let dens := h.rd BM_MEM_CFG_DENS_PEND
  let h := h.wr BM_MEM_STATUS_CH_STATE ((List.range 8).foldl (fun v c => putBits v (4 * c) 4 (state c)) 0)
  let h := (h.wr BM_MEM_GEOM_DENS dens).wr BM_MEM_GEOM_SPEED (h.rd BM_MEM_CFG_SPEED_PEND)
  let h := (h.wr BM_MEM_GEOM_N_ACTIVE n).wr BM_MEM_GEOM_CAP_GIB (if fits then n * (4 * (dens + 1)) else 0)
  let h := h.wr BM_OCB_STATUS_BANKS (2 ^ 48 - 1)
  let h := h.setMem (fun m => { m with places := if fits then act else [], migr := none, poison := [], scrubAt := 0 })
  let h := if n = 0 ∨ fits then h else h.recordOther sevMajor 0x6000 20 (leBytes 1 n)
  (h.bridgeLoad, decide (4 ≤ want) && !fits)

/-- R286: a pool of the epoch in force that no longer fits is disabled. -/
def Hw.poolFits (h : Hw) (p : Nat) : Bool :=
  !bitOf (h.cfg BM_POOL_FLAGS p) 1 ||
  decide (h.cfg BM_POOL_BASE p + h.poolCount p * h.poolSize p ≤
    0x4000000000 + (h.rd BM_MEM_GEOM_CAP_GIB - h.rd BM_BRIDGE_CFG_SIZE_ACT) * 2 ^ 30)

/-- R299, R286: pools are filled again. -/
def Hw.poolsRefill (h : Hw) : Hw :=
  h.each (List.range 16) (fun h p =>
    if bitOf (h.cfg BM_POOL_FLAGS p) 0 then
      if h.poolFits p then h.poolFill p else h.recordOther sevMajor 0x6020 21 (leBytes 1 p)
    else h)

/-! ### On-chip buffer (R279, R280) -/

/-- R280: an error of on-chip bank b. -/
def Hw.ocbError (h : Hw) (b : Nat) (unc : Bool) : Hw :=
  let h := if unc then h else h.inc BM_OCB_STATUS_CORR
  if 42 ≤ b then h
  else
    let (n, h) := h.errCount 0x6010 b (b2n unc)
    if (unc ∨ 16 ≤ n) ∧ bitOf (h.rd BM_OCB_STATUS_BANKS) b = true then
      let h := (h.wr BM_OCB_STATUS_BANKS (putBit (h.rd BM_OCB_STATUS_BANKS) b false)).quarantine 0x6010 b
      if 6 < 42 - popCount 42 (h.rd BM_OCB_STATUS_BANKS) then h.askReload rgMemory 1 else h
    else h

/-! ### Errors of other blocks -/

/-- Table 9-11: parser engine e: corrected (kind 0), or uncorrectable (1). -/
def Hw.engineError (h : Hw) (e kind : Nat) : Hw :=
  let (n, h) := h.errCount (0x5000 + e / 8) (e % 8) kind
  let h := if kind = 1 then h.redispatch e else h
  if (kind = 1 ∨ 4 ≤ n) ∧ bitOf (h.rd PP_ENG_STATUS_ENG_IN_SERVICE) e = true then
    let h := (h.redispatch e).wr PP_ENG_STATUS_ENG_IN_SERVICE (putBit (h.rd PP_ENG_STATUS_ENG_IN_SERVICE) e false)
    h.quarantine (0x5000 + e / 8) (e % 8)
  else h

/-- Table 9-11: cluster k falls below 4 engines, or its program copy fails 3 times in 1 s; PACKET needs 3 clusters. -/
def Hw.parserIsolate (h : Hw) (k : Nat) : Hw :=
  if bitOf (h.rd PP_ENG_STATUS_CLU_IN_SERVICE) k then
    let h := (h.wr PP_ENG_STATUS_CLU_IN_SERVICE (putBit (h.rd PP_ENG_STATUS_CLU_IN_SERVICE) k false)).isolate (0x5000 + k)
    let h := h.each ((List.range 8).map (fun j => 8 * k + j)) Hw.redispatch
    if popCount 6 (h.rd PP_ENG_STATUS_CLU_IN_SERVICE) < 3 then h.askReload rgPacket 1 else h
  else h

/-- Table 9-11: an error in parser cluster k: cells 0 to 7 its engines, 8 its program copy. -/
def Hw.parserError (h : Hw) (k cell kind : Nat) : Hw :=
  let h := if cell < 8 then h.engineError (8 * k + cell) kind else h
  let (n, h) := if cell = 8 ∧ kind = 1 then h.errCount (0x5000 + k) 8 1 else (0, h)
  let engines := ((List.range 8).filter (fun j => bitOf (h.rd PP_ENG_STATUS_ENG_IN_SERVICE) (8 * k + j))).length
  if engines < 4 ∨ 3 ≤ n then h.parserIsolate k else h

/-- Table 10-6: an uncorrectable error of the traffic manager: kind 0 the link after frame `arg` of queue `cell`,
1 node `cell`, 2 policer `cell`, 3 staging slot `cell`. -/
def Hw.tmError (h : Hw) (cell kind arg : Nat) : Hw :=
  match kind with
  | 0 =>
    let s := h.queueAt cell
    let gone := s.frames.drop arg
    let h := (h.setQueue cell { s with frames := s.frames.take arg }).inc TM_Q_CNT_TAIL_DROP cell 0 gone.length
    let h := (h.each gone (fun h f => h.freed f)).showQueue cell
    let (n, h) := h.errCount 0x5020 0 0
    if 4 ≤ n then h.askReload rgPacket 1 else h
  | 1 =>
    let h := h.setNode cell {}
    let h := h.each (nodeQueues cell) (fun h q => h.setQueue q (h.headTime q { h.queueAt q with fPrev := 0 }))
    h.recordOther sevWarn 0x5020 22 (leBytes 2 cell)
  | 2 =>
    (h.setPk (fun p => { p with buckets := store p.buckets cell (h.cfg TM_POLICER_CBS cell * 64 * 65536, h.cfg TM_POLICER_PBS cell * 64 * 65536) })).recordOther
      sevWarn 0x5020 23 (leBytes 2 cell)
  | _ =>
    let s := h.stageAt cell
    let h := match s.frames with
      | [] => h
      | (_, f) :: t => ((h.setStage cell { frames := t, sent := 0 }).freed f).showStage cell
    let (n, h) := h.errCount 0x5020 cell 3
    if n = 3 then
      ({ h with sf := { h.sf with errLog := store h.sf.errLog (0x5020, cell, 4) [h.clk.ut] } }).recordOther sevMajor 0x5020 24 (leBytes 1 cell)
    else h

/-- Table 12-3: cipher lane l: 4 corrected errors in 1 s quarantine it. -/
def Hw.laneError (h : Hw) (l : Nat) : Hw :=
  let (n, h) := h.errCount (0x5030 + l / 16) (l % 16) 0
  if 4 ≤ n ∧ bitOf (h.rd CX_LANE_STATUS_IN_SERVICE) l = true then
    ((h.wr CX_LANE_STATUS_IN_SERVICE (putBit (h.rd CX_LANE_STATUS_IN_SERVICE) l false)).quarantine (0x5030 + l / 16) (l % 16)).clusterCheck (l / 16)
  else h

/-- Table 12-3: an uncorrectable word of slot s: the slot is erased. -/
def Hw.slotError (h : Hw) (s : Nat) : Hw := ((h.slotErase s).recordOther sevMajor 0x5040 25 (leBytes 2 s)).ksSettle

/-- CELL_ERROR (R17): cell `cell` of block `blk` finds an error; `kind` 0 corrected, 1 uncorrectable, else as the
block's table numbers it; `arg` says where (a sector, a frame's place in its queue) and `row` the row of memory. -/
def Hw.cellError (h : Hw) (blk cell kind arg row : Nat) : Hw :=
  if !h.runs (blk / 0x1000) then h
  else if 0x1000 ≤ blk ∧ blk < 0x1008 then
    let a := (blk - 0x1000) / 4
    let c := (blk - 0x1000) % 4
    if cell < 4 then h.decoderError a c cell (kind == 1)
    else if cell = 4 ∧ kind = 1 then h.extractorError a c
    else if cell = 5 then h.rxIsolate a c
    else h
  else if blk = 0x2000 then (if kind = 1 then h.detect 7 scopeGlobal 0 else h)
  else if 0x3000 ≤ blk ∧ blk < 0x3010 then h.quadError (blk - 0x3000) cell kind
  else if 0x4000 ≤ blk ∧ blk < 0x4010 then h.quadError (16 + (blk - 0x4000)) cell kind
  else if 0x5000 ≤ blk ∧ blk < 0x5006 then h.parserError (blk - 0x5000) cell kind
  else if blk = 0x5020 then h.tmError cell kind arg
  else if 0x5030 ≤ blk ∧ blk < 0x5038 then (if kind = 0 then h.laneError (16 * (blk - 0x5030) + cell % 16) else h)
  else if blk = 0x5040 then (if kind = 1 then h.slotError (cell % 8192) else h)
  else if 0x6000 ≤ blk ∧ blk < 0x6008 then
    let c := blk - 0x6000
    if kind = 2 then
      let (n, h) := h.errCount blk 0 2
      if 2 ≤ n then h.chanFail c else h
    else h.sectorRead c arg row (kind + 1)
  else if blk = 0x6010 then h.ocbError cell (kind == 1)
  else if blk = 0x6020 then
    if kind = 1 then
      let s := h.poolAt cell
      if s.cache.isEmpty then h else ((h.setPool cell { s with cache := s.cache.drop 1 }).wr BM_POOL_STATUS_LEAKED (h.rd BM_POOL_STATUS_LEAKED cell + 1) cell).poolSettle cell
    else h
  else if 0x7010 ≤ blk ∧ blk < 0x7020 then
    let k := blk - 0x7010
    if kind = 1 then (if k < 2 then h.detect 11 scopeGlobal 0 else (h.againItem (48 + k)).coreFail k) else h
  else h

end Sys2Proof.Machine
end

