-- ==== Sys2Proof/Machine/Validate.lean ====
section
/-! DEFINITION. The checks of a commit (R385): the ranges of every object (chapters 5 to 13 and 15), the resource
totals, the ownership table (R381), the cross-object rules and R290. `e` is the store of the pending epoch. -/

namespace Sys2Proof.Machine

/-- A check's outcome: the status and RESULT of its failure. -/
abbrev Check := Option (Nat × Nat)

/-- R385, step 2: RANGE with the type, instance and byte offset. -/
def rangeAt (t : ObjType) (i o : Nat) : Check := some (stRange, t.code + i * 2 ^ 16 + o * 2 ^ 32)

/-- R381: CONFLICT with two features, the resource type and index. -/
def conflictAt (f g typ i : Nat) : Check :=
  some (stConflict, f % 2 ^ 16 + (g % 2 ^ 16) * 2 ^ 16 + typ * 2 ^ 32 + i * 2 ^ 40)

/-- The first failure. -/
def firstBad (l : List Check) : Check := l.findSome? id

/-- The first failure over a list. -/
def firstOf {α : Type} (l : List α) (f : α → Check) : Check := l.findSome? f

/-- Fails where `bad` holds. -/
def failIf (bad : Bool) (c : Check) : Check := if bad then c else none

/-! ### Ranges (R385, step 2) -/

/-- A stated range of a field: least, greatest, and whether it is signed. -/
structure Lim where
  f   : OFld
  lo  : Int
  hi  : Int
  sgn : Bool := false

/-- The value of a field as its range reads it. -/
def Lim.val (l : Lim) (e : CfgStore) (i k : Nat) : Int :=
  if l.sgn then signed l.f.width (cfgOf e l.f i k) else ((cfgOf e l.f i k : Nat) : Int)

/-- The byte of its object at which repetition `k` of a field begins. -/
def OFld.byteAt (f : OFld) (k : Nat := 0) : Nat := (f.lsb + f.stride * k) / 8

/-- Every repetition of a field lies in its range. -/
def Lim.check (l : Lim) (e : CfgStore) (i : Nat) : Check :=
  firstOf (List.range l.f.reps) (fun k =>
    failIf (!decide (l.lo ≤ l.val e i k ∧ l.val e i k ≤ l.hi)) (rangeAt l.f.typ i (l.f.byteAt k)))

/-- A condition that fails at a field. -/
def failAt (bad : Bool) (f : OFld) (i : Nat) (k : Nat := 0) : Check := failIf bad (rangeAt f.typ i (f.byteAt k))

/-- Tables 5-17, 5-19 and 15-7: ranges of TIME_CORE. -/
def timeLims : List Lim :=
  [⟨TC_BW_LOCK, 10, 1000, false⟩, ⟨TC_BW_ACQ, 100, 5000, false⟩, ⟨TC_UNLOCK_THR, 5, 1000, false⟩,
   ⟨TC_LOCK_THR, 100, 65535, false⟩, ⟨TC_SLEW_LIM, 100, 50000, false⟩, ⟨TC_SRC, 0, 2, false⟩,
   ⟨TC_SWITCH_SLEW, 100, 65535, false⟩, ⟨TC_XCHK_OSC, 10, 1000, false⟩, ⟨TC_XCHK_AB, 10, 1000, false⟩,
   ⟨TC_XCHK_N, 1, 3, false⟩, ⟨TC_XCHK_PPS, 10, 1000, false⟩, ⟨TC_SELFCHK_H, 1, 168, false⟩,
   ⟨TC_MON_LIM, 500, 20000, false⟩, ⟨TC_PIN_MODE, 0, 4, false⟩, ⟨TC_PIN_BAUD, 9600, 921600, false⟩,
   ⟨TC_PIN_TOD_DELAY, 1, 900, false⟩]

/-- Tables 6-11 and 6-12. -/
def portLims : List Lim :=
  [⟨TS_PORT_PROFILE, 0, 1, false⟩, ⟨TS_PORT_TRANSPORT, 0, 2, false⟩, ⟨TS_PORT_L2_DA, 0, 1, false⟩,
   ⟨TS_PORT_DELAY_MECH, 0, 1, false⟩, ⟨TS_PORT_LOG_SYNC, -7, 1, true⟩, ⟨TS_PORT_LOG_ANNOUNCE, -3, 3, true⟩,
   ⟨TS_PORT_LOG_MIN_DREQ, -7, 6, true⟩, ⟨TS_PORT_FAULT_ACTION, 0, 1, false⟩, ⟨TS_PORT_NTP_BURST, 1, 4096, false⟩,
   ⟨TS_PORT_DREQ_LIMIT, 1, 1024, false⟩, ⟨TS_PORT_NTP_RATE, 0, 1000000, false⟩, ⟨TS_PORT_NTP_KOD, 0, 1, false⟩]

/-- The stated ranges of an object type. -/
def ObjType.lims : ObjType → List Lim
  | .TIME_CORE => timeLims
  | .TS_PORT => portLims
  | .TS_CLOCK =>
    [⟨TS_CLOCK_GM_MODE, 0, 1, false⟩, ⟨TS_CLOCK_NTP_STRATUM, 1, 15, false⟩, ⟨TS_CLOCK_QL_NET_OPT, 1, 2, false⟩,
     ⟨TS_CLOCK_QL_LOCKED, 0, 15, false⟩, ⟨TS_CLOCK_QL_FREERUN, 0, 15, false⟩]
  | .DUAL_ATT =>
    [⟨DUAL_ATT_WTR_S_A, 0, 3600, false⟩, ⟨DUAL_ATT_WTR_S_B, 0, 3600, false⟩, ⟨DUAL_ATT_RETURN_MS, 1, 10000, false⟩,
     ⟨DUAL_ATT_BRIDGE_MAX_GIB, 0, 96, false⟩]
  | .FRER_GEN => []
  | .FRER_RCV => [⟨FRER_RCV_HISTORY, 1, 16, false⟩, ⟨FRER_RCV_RESET_MS, 1, 65535, false⟩]
  | .PF_PORT =>
    [⟨PF_PORT_MAX_FRAME, 1518, 9728, false⟩, ⟨PF_PORT_PAUSE_QUANTA, 1, 65535, false⟩, ⟨PF_PORT_IDLE_MS, 1, 65535, false⟩]
  | .PARSER_PROG => []
  | .PARSER_CFG => [⟨PARSER_CFG_EXC_RATE, 0, 10000000, false⟩, ⟨PARSER_CFG_EXC_BURST, 1, 65535, false⟩]
  | .TM_QUEUE =>
    [⟨TM_QUEUE_LEN_ADJ, -32, 63, true⟩, ⟨TM_QUEUE_WEIGHT, 1, 65535, false⟩, ⟨TM_QUEUE_QLIMIT, 1, 65535, false⟩]
  | .TM_SHAPER => [⟨TM_SHAPER_BURST, 9791, 16777215, false⟩]
  | .TM_PORT => []
  | .TM_ALLOC => []
  | .TM_INGRESS => []
  | .TM_POLICER => []
  | .BM_POOL => [⟨BM_POOL_SIZE_LOG2, 8, 16, false⟩]
  | .CX_PON => [⟨CX_PON_NBCAST, 0, 64, false⟩]
  | .CX_SC =>
    [⟨CX_SC_SUITE, 0, 3, false⟩, ⟨CX_SC_PORT, 0, 127, false⟩, ⟨CX_SC_VALIDATE, 0, 2, false⟩,
     ⟨CX_SC_REPLAY_WIN, 0, 1073741824, false⟩]
  | .SV_DISPATCH => [⟨SV_DISPATCH_SRC_LEVEL, 0, 7, false⟩, ⟨SV_DISPATCH_CLASS_LEVEL, 0, 7, false⟩, ⟨SV_DISPATCH_TAG_BITS, 0, 11, false⟩]
  | .PC_CFG =>
    [⟨PC_CFG_INTERVAL, 1, 65535, false⟩, ⟨PC_CFG_SAMPLE_RING, 0, 7, false⟩, ⟨PC_CFG_SAMPLE_P, 65536, 1073741824, false⟩]

/-- Whether comparator k of a store is enabled. -/
def cmpOn (e : CfgStore) (k : Nat) : Bool := bitOf (cfgOf e TC_CMP_ACTION 0 k) 0

/-- Whether it drives a pin. -/
def cmpPulses (e : CfgStore) (k : Nat) : Bool := cmpOn e k && bitOf (cfgOf e TC_CMP_ACTION 0 k) 1

/-- R156: the limits of comparator k. -/
def cmpCheck (e : CfgStore) (k : Nat) : Check :=
  let v (f : OFld) : Nat := cfgOf e f 0 k
  let bad (b : Bool) (f : OFld) : Check := failAt b f 0 k
  let per := v TC_CMP_PERIOD_NS * 65536 + v TC_CMP_PERIOD_FRAC
  let ns (n : Nat) : Nat := n * 65536
  let w := ns (v TC_CMP_WIDTH_NS)
  if cmpOn e k then
    firstBad [
      bad (decide (1000000000 ≤ v TC_CMP_START_NS)) TC_CMP_START_NS,
      bad (per != 0 && !decide (ns 100 ≤ per ∧ per ≤ ns 1000000000)) TC_CMP_PERIOD_NS,
      bad (bitOf (v TC_CMP_ACTION) 2 && per != 0 && decide (per < ns 1000000)) TC_CMP_PERIOD_NS,
      bad (cmpPulses e k && !(decide (ns 20 ≤ w) &&
        (if per = 0 then decide (w ≤ ns 1000000000) else decide (w + ns 20 ≤ per)))) TC_CMP_WIDTH_NS,
      bad (decide (8 ≤ v TC_CMP_PIN) && (v TC_CMP_PIN != 0xFF || cmpPulses e k)) TC_CMP_PIN]
  else none

/-- R153, R156 and the sources of Table 5-17. -/
def timeCheck (e : CfgStore) : Check :=
  firstBad [failAt (cfgOf e TC_SRC 0 0 == 2) TC_SRC 0,
    failAt (cfgOf e TC_LEAP59 != 0 && cfgOf e TC_LEAP61 != 0) TC_LEAP59 0,
    firstOf (List.range 32) (cmpCheck e)]

/-- R171 and Table 6-1, notes of Table 6-11: instance i. -/
def tsPortCheck (e : CfgStore) (i : Nat) : Check :=
  let v (f : OFld) : Nat := cfgOf e f i
  let g := v TS_PORT_PROFILE == 1
  let en (k : Nat) : Bool := bitOf (v TS_PORT_ENABLES) k
  firstBad [
    failAt (if g then !decide (24 ≤ v TS_PORT_DOMAIN ∧ v TS_PORT_DOMAIN ≤ 43) else decide (127 < v TS_PORT_DOMAIN))
      TS_PORT_DOMAIN i,
    failAt (g && v TS_PORT_TRANSPORT != 0) TS_PORT_TRANSPORT i,
    failAt (g && v TS_PORT_DELAY_MECH != 0) TS_PORT_DELAY_MECH i,
    failAt (g && signed 8 (v TS_PORT_LOG_SYNC) != -4) TS_PORT_LOG_SYNC i,
    failAt (g && signed 8 (v TS_PORT_LOG_ANNOUNCE) != -3) TS_PORT_LOG_ANNOUNCE i,
    failAt (g && signed 8 (v TS_PORT_LOG_MIN_DREQ) != -4) TS_PORT_LOG_MIN_DREQ i,
    failAt (en 0 && v TS_PORT_TRANSPORT == 1 && v TS_PORT_IPV4 == 0) TS_PORT_IPV4 i,
    failAt (en 0 && v TS_PORT_TRANSPORT == 2 && v TS_PORT_IPV6 == 0) TS_PORT_IPV6 i,
    failAt (en 1 && v TS_PORT_IPV4 == 0 && v TS_PORT_IPV6 == 0) TS_PORT_IPV4 i,
    failAt (decide (128 ≤ i) && decide (63 < v TS_PORT_RX_RING)) TS_PORT_RX_RING i]

/-- R261: whether `q` is an upstream queue of attachment a. -/
def upQueueOf (a q : Nat) : Bool := isUpQueue a q

/-- R261, Table 7-5: queue sets, and the reserve against the bridge in force. -/
def dualCheck (h : Hw) (e : CfgStore) : Check :=
  let setBad (a : Nat) (q : Nat) : Bool := q != 0xFFFF && !(upQueueOf a q && (q - upBase a) % 8 == 0)
  firstBad [
    failAt (decide (h.rd BM_BRIDGE_CFG_SIZE_ACT < cfgOf e DUAL_ATT_CRIT_RESERVE_GIB)) DUAL_ATT_CRIT_RESERVE_GIB 0,
    firstOf (List.range 16) (fun g => firstBad [
      failAt (setBad 0 (cfgOf e DUAL_ATT_QSET_A 0 g)) DUAL_ATT_QSET_A 0 g,
      failAt (setBad 1 (cfgOf e DUAL_ATT_QSET_B 0 g)) DUAL_ATT_QSET_B 0 g])]

/-- Table 7-8, R261: stream s. -/
def genCheck (e : CfgStore) (s : Nat) : Check :=
  let on := bitOf (cfgOf e FRER_GEN_FLAGS s) 0
  let bad (a q : Nat) : Bool := if q = 0xFFFF then on else !upQueueOf a q
  firstBad [failAt (bad 0 (cfgOf e FRER_GEN_QUEUE_A s)) FRER_GEN_QUEUE_A s,
    failAt (bad 1 (cfgOf e FRER_GEN_QUEUE_B s)) FRER_GEN_QUEUE_B s]

/-- Table 8-15: lane n. -/
def pfCheck (h : Hw) (e : CfgStore) (n : Nat) : Check :=
  let top := if h.on PF_QUAD_CFG_MODE (n / 4) then 1024 else 256
  firstBad [failAt (decide (top < cfgOf e PF_PORT_XOFF n)) PF_PORT_XOFF n,
    failAt (decide (cfgOf e PF_PORT_XOFF n ≤ cfgOf e PF_PORT_XON n)) PF_PORT_XON n]

/-- A shaper number, or none. -/
def shaperOk (s : Nat) : Bool := s == 0xFFFF || decide (s < 4096)

/-- The entries of a free ring (R289). -/
def ringEntries (count : Nat) : Nat := if count ≤ 1 then count else 2 ^ (Nat.log2 (count - 1) + 1)

/-- A pool's buffers and free ring as start and length. -/
def poolSpans (e : CfgStore) (p : Nat) : List (Nat × Nat) :=
  [(cfgOf e BM_POOL_BASE p, cfgOf e BM_POOL_COUNT p * 2 ^ cfgOf e BM_POOL_SIZE_LOG2 p),
   (cfgOf e BM_POOL_RING_BASE p, 8 * ringEntries (cfgOf e BM_POOL_COUNT p))]

/-- Table 11-1: the pool area of a location. -/
def Hw.poolArea (h : Hw) (lpddr : Bool) : Nat × Nat :=
  if lpddr then (0x4010000000, 0x4000000000 + (h.rd BM_MEM_GEOM_CAP_GIB - h.rd BM_BRIDGE_CFG_SIZE_ACT) * 2 ^ 30)
  else (0, 0x05400000)

/-- R289, R293: pool p. -/
def poolCheck (h : Hw) (e : CfgStore) (p : Nat) : Check :=
  let v (f : OFld) : Nat := cfgOf e f p
  let lp := bitOf (v BM_POOL_FLAGS) 1
  let (lo, hi) := h.poolArea lp
  let out (x : Nat × Nat) : Bool := !decide (lo ≤ x.1 ∧ x.1 + x.2 ≤ hi)
  let sp := poolSpans e p
  firstBad [
    failAt (!decide (64 ≤ v BM_POOL_LOW_WM ∧ v BM_POOL_LOW_WM < v BM_POOL_HIGH_WM)) BM_POOL_LOW_WM p,
    failAt (decide (448 < v BM_POOL_HIGH_WM)) BM_POOL_HIGH_WM p,
    if bitOf (v BM_POOL_FLAGS) 0 then
      firstBad [
        failAt (lp && h.rd BM_MEM_GEOM_CAP_GIB == 0) BM_POOL_FLAGS p,
        failAt (v BM_POOL_BASE % 2 ^ v BM_POOL_SIZE_LOG2 != 0 || out (sp.getD 0 (0, 0))) BM_POOL_BASE p,
        failAt (v BM_POOL_RING_BASE % 8 != 0 || out (sp.getD 1 (0, 0))) BM_POOL_RING_BASE p]
    else none]

/-- Table 13-13, R328 and Table 13-2 note a. -/
def dispCheck (e : CfgStore) : Check :=
  firstBad [
    firstOf (List.range 16) (fun l =>
      let c := cfgOf e SV_DISPATCH_CAP 0 l
      let on := cfgOf e SV_DISPATCH_BP_ON 0 l
      firstBad [
        failAt (if l < 8 then !decide (320 ≤ c ∧ c ≤ 16384) else !decide (64 ≤ c ∧ c ≤ 4096)) SV_DISPATCH_CAP 0 l,
        failAt (decide (c ≤ on)) SV_DISPATCH_BP_ON 0 l,
        failAt (decide (on ≤ cfgOf e SV_DISPATCH_BP_OFF 0 l)) SV_DISPATCH_BP_OFF 0 l]),
    firstOf (List.range 195) (fun i => failAt (cfgOf e SV_DISPATCH_SRC_LEVEL 0 i == 6) SV_DISPATCH_SRC_LEVEL 0 i),
    firstOf (List.range 32) (fun c => failAt (cfgOf e SV_DISPATCH_CLASS_LEVEL 0 c == 6) SV_DISPATCH_CLASS_LEVEL 0 c),
    firstOf (List.range 32) (fun c =>
      let b := cfgOf e SV_DISPATCH_TAG_BASE 0 c
      failAt (decide (b < 195 ∨ 4064 < b + 2 ^ cfgOf e SV_DISPATCH_TAG_BITS 0 c)) SV_DISPATCH_TAG_BASE 0 c)]

/-- The conditions of one instance beside its ranges. -/
def extraCheck (h : Hw) (e : CfgStore) (t : ObjType) (i : Nat) : Check :=
  match t with
  | .TIME_CORE => timeCheck e
  | .TS_PORT => tsPortCheck e i
  | .TS_CLOCK => none
  | .DUAL_ATT => dualCheck h e
  | .FRER_GEN => genCheck e i
  | .FRER_RCV => none
  | .PF_PORT => pfCheck h e i
  | .PARSER_PROG => none
  | .PARSER_CFG => none
  | .TM_QUEUE =>
    firstBad [failAt (decide (cfgOf e TM_QUEUE_QLIMIT i < cfgOf e TM_QUEUE_DP_LIMIT i)) TM_QUEUE_DP_LIMIT i,
      failAt (!shaperOk (cfgOf e TM_QUEUE_SHAPER i)) TM_QUEUE_SHAPER i]
  | .TM_SHAPER => none
  | .TM_PORT => failAt (!shaperOk (cfgOf e TM_PORT_SHAPER i)) TM_PORT_SHAPER i
  | .TM_ALLOC =>
    let s := cfgOf e TM_ALLOC_STAGE_KIB i
    failAt (decide (1 ≤ s ∧ s ≤ 3)) TM_ALLOC_STAGE_KIB i
  | .TM_INGRESS =>
    let on := cfgOf e TM_INGRESS_BP_ON i
    firstBad [failAt (decide (on ≤ cfgOf e TM_INGRESS_BP_OFF i)) TM_INGRESS_BP_OFF i,
      failAt (decide (cfgOf e TM_INGRESS_LIMIT i < on)) TM_INGRESS_BP_ON i]
  | .TM_POLICER =>
    if bitOf (cfgOf e TM_POLICER_FLAGS i) 0 then
      firstBad [failAt (decide (cfgOf e TM_POLICER_PIR i < cfgOf e TM_POLICER_CIR i)) TM_POLICER_CIR i,
        failAt (decide (cfgOf e TM_POLICER_CBS i * 64 < 9728)) TM_POLICER_CBS i,
        failAt (decide (cfgOf e TM_POLICER_PBS i * 64 < 9728)) TM_POLICER_PBS i]
    else none
  | .BM_POOL => poolCheck h e i
  | .CX_PON => none
  | .CX_SC => failAt (decide (cfgOf e CX_SC_SUITE i < 2 ∧ 2 ^ 32 ≤ cfgOf e CX_SC_PN_THR i)) CX_SC_PN_THR i
  | .SV_DISPATCH => dispCheck e
  | .PC_CFG => failAt (decide (cfgOf e PC_CFG_SAMPLE_P / 2 < cfgOf e PC_CFG_SAMPLE_J)) PC_CFG_SAMPLE_J i

/-- One instance that the epoch's store holds. -/
def instCheck (h : Hw) (e : CfgStore) (t : ObjType) (i : Nat) : Check :=
  firstBad [firstOf t.lims (fun l => l.check e i), extraCheck h e t i]

/-- R258: the program of the pending epoch: a wrong header field by its byte, an instruction by its index. -/
def Hw.progCheck (h : Hw) : Check :=
  match h.ep.progBad with
  | some o => rangeAt .PARSER_PROG 0 o
  | none =>
    firstOf (List.range h.ep.progPend.length) (fun k =>
      failIf (!pWordOk h.ep.progPend.length (h.ep.progPend.getD k 0)) (rangeAt .PARSER_PROG 0 k))

/-- R385, step 2. -/
def Hw.checkRanges (h : Hw) : Check :=
  firstBad [
    h.ep.badIdx.bind (fun x => some (stRange, x.1 + x.2 * 2 ^ 16)),
    firstOf ObjType.all (fun t =>
      if t = .PARSER_PROG then h.progCheck
      else firstOf (instances h.ep.pend t) (instCheck h h.ep.pend t))]

/-! ### Totals (R385, step 3) -/

/-- Sum of `f` over the numbers below n. -/
def sumTo (n : Nat) (f : Nat → Nat) : Nat := ((List.range n).map f).foldl (· + ·) 0

/-- Pools, staging areas, list capacities, NTP rates and PM slots. -/
def Hw.checkTotals (h : Hw) : Check :=
  let e := h.ep.pend
  let cap (a b : Nat) : Nat := ((List.range b).map (fun l => cfgOf e SV_DISPATCH_CAP 0 (a + l))).foldl (· + ·) 0
  let bad (b : Bool) (t : ObjType) : Check := failIf b (rangeAt t 0 0)
  firstBad [
    bad (decide (20000000 < sumTo 130 (fun i => cfgOf e TS_PORT_NTP_RATE i))) .TS_PORT,
    bad (decide (12288 < sumTo 128 (fun k =>
      let s := cfgOf e TM_ALLOC_STAGE_KIB k
      if s = 0 then 256 else s))) .TM_ALLOC,
    bad (decide (67108864 < sumTo 16 (fun p =>
      if bits (cfgOf e BM_POOL_FLAGS p) 0 2 = 3 then cfgOf e BM_POOL_COUNT p else 0))) .BM_POOL,
    bad (decide (16384 < cap 0 8) || decide (4096 < cap 8 8)) .SV_DISPATCH,
    bad (decide (4096 < (h.pk.tables.filter (fun t => t.tbl == 0 && bitOf t.vis 2 && t.aux == 1)).length)) .PC_CFG]

/-! ### Ownership (R381; R385, step 4) -/

/-- The first two users of one resource in a list of (index, feature). -/
def twice (typ : Nat) : List (Nat × Nat) → Check
  | [] => none
  | (i, f) :: t =>
    match t.find? (fun x => x.1 == i) with
    | some y => conflictAt f y.2 typ i
    | none => twice typ t

/-- R161, R381: TIME pins and comparators. -/
def ownTime (e : CfgStore) : Check :=
  let pf (p : Nat) : Nat := cfgOf e TC_PIN_FEATURE 0 p
  let cf (k : Nat) : Nat := cfgOf e TC_CMP_FEATURE 0 k
  let pulses := (List.range 32).filter (cmpPulses e)
  let pp := cfgOf e TC_PPS_PIN 0 1
  firstBad [
    firstOf (List.range 8) (fun p => failAt (cfgOf e TC_PIN_MODE 0 p != 0 && pf p == 0) TC_PIN_FEATURE 0 p),
    firstOf (List.range 32) (fun k => failAt (cmpOn e k && cf k == 0) TC_CMP_FEATURE 0 k),
    firstOf pulses (fun k =>
      let p := cfgOf e TC_CMP_PIN 0 k
      failIf (pf p != cf k) (conflictAt (cf k) (pf p) 1 p)),
    twice 1 (pulses.map (fun k => (cfgOf e TC_CMP_PIN 0 k, cf k))),
    failIf (cfgOf e TC_SRC 0 1 == 2 && !(decide (pp < 8) && cfgOf e TC_PIN_MODE 0 pp == 4 && pf pp == 0x8000))
      (conflictAt 0x8000 (if pp < 8 then pf pp else 0) 1 pp)]

/-- R289: the pools of an epoch that are enabled. -/
def poolsOn (e : CfgStore) : List Nat := (List.range 16).filter (fun p => bitOf (cfgOf e BM_POOL_FLAGS p) 0)

/-- Two ranges overlap. -/
def overlap (x y : Nat × Nat) : Bool := decide (x.1 < y.1 + y.2 ∧ y.1 < x.1 + x.2)

/-- R289, R381: pools and free rings. -/
def ownPools (e : CfgStore) : Check :=
  let ft (p : Nat) : Nat := cfgOf e BM_POOL_FEATURE p
  firstBad [
    firstOf (poolsOn e) (fun p => failAt (ft p == 0) BM_POOL_FEATURE p),
    firstOf (poolsOn e) (fun p =>
      firstBad [
        failIf (overlap ((poolSpans e p).getD 0 (0, 0)) ((poolSpans e p).getD 1 (0, 0))) (conflictAt (ft p) (ft p) 3 p),
        firstOf ((poolsOn e).filter (fun q => decide (p < q))) (fun q =>
          failIf ((poolSpans e p).any (fun x => (poolSpans e q).any (overlap x))) (conflictAt (ft p) (ft q) 3 q))])]

/-- Table 7-5, note a: queue sets of groups and queues of streams. -/
def ownQueues (e : CfgStore) : Check :=
  let sets := (List.range 16).flatMap (fun g =>
    ([cfgOf e DUAL_ATT_QSET_A 0 g, cfgOf e DUAL_ATT_QSET_B 0 g].filter (· != 0xFFFF)).map (fun q => (q, 0x8100 + g)))
  let gens := (instances e .FRER_GEN).filter (fun s => bitOf (cfgOf e FRER_GEN_FLAGS s) 0)
  firstBad [
    twice 4 sets,
    firstOf sets (fun x => firstOf gens (fun s =>
      firstOf [cfgOf e FRER_GEN_QUEUE_A s, cfgOf e FRER_GEN_QUEUE_B s] (fun q =>
        failIf (decide (x.1 ≤ q ∧ q < x.1 + 8)) (conflictAt x.2 (0x8200 + s) 4 q))))]

/-- R269: the users of shapers. -/
def ownShapers (e : CfgStore) : Check :=
  twice 5 ((((instances e .TM_QUEUE).map (fun q => (cfgOf e TM_QUEUE_SHAPER q, 0x8600 + q))) ++
    ((instances e .TM_PORT).map (fun n => (cfgOf e TM_PORT_SHAPER n, 0x9200 + n)))).filter (fun x => x.1 != 0xFFFF))

/-- R162, R214: lanes of four-lane ports. -/
def Hw.ownLanes (h : Hw) (e : CfgStore) : Check :=
  let inner (n : Nat) : Bool := decide (n < 128) && h.portBase n != n
  firstBad [
    firstOf ((instances e .PF_PORT).filter inner) (fun n =>
      failIf (bitOf (cfgOf e PF_PORT_FLAGS n) 0) (conflictAt (0x9500 + n) (0x9500 + h.portBase n) 8 n)),
    firstOf ((instances e .TS_PORT).filter inner) (fun n =>
      failIf (bits (cfgOf e TS_PORT_ENABLES n) 0 3 != 0) (conflictAt (0x9400 + n) (0x9400 + h.portBase n) 8 n))]

/-- Table 6-11, note b: addresses of station ports. -/
def ownAddresses (e : CfgStore) : Check :=
  let ps := (instances e .TS_PORT).filter (fun i => decide (i < 128))
  let users (f : OFld) (fam : Nat) : Check :=
    match twice 7 ((ps.map (fun i => (cfgOf e f i, 0x9400 + i))).filter (fun x => x.1 != 0)) with
    | some (st, r) => some (st, r % 2 ^ 40 + fam * 2 ^ 40)
    | none => none
  firstBad [users TS_PORT_IPV4 4, users TS_PORT_IPV6 6]

/-- R322: receive channels of one port with one SCI, or both IMPLICIT. -/
def ownChannels (e : CfgStore) : Check :=
  let rx := (instances e .CX_SC).filter (fun k => bits (cfgOf e CX_SC_FLAGS k) 0 2 == 3)
  firstOf rx (fun k => firstOf (rx.filter (fun j => decide (k < j))) (fun j =>
    failIf (cfgOf e CX_SC_PORT k == cfgOf e CX_SC_PORT j && (cfgOf e CX_SC_SCI k == cfgOf e CX_SC_SCI j ||
        (bitOf (cfgOf e CX_SC_FLAGS k) 5 && bitOf (cfgOf e CX_SC_FLAGS j) 5)))
      (conflictAt (0x9600 + k) (0x9600 + j) 9 j)))

/-- R275: Alloc-IDs of each attachment. -/
def ownAllocs (e : CfgStore) : Check :=
  let of (a : Nat) : List (Nat × Nat) :=
    (((instances e .TM_ALLOC).filter (fun k => k / 64 == a)).map (fun k => (cfgOf e TM_ALLOC_ALLOC_ID k, 0x9F00 + k))).filter
      (fun x => x.1 != 0xFFFF)
  firstBad [twice 10 (of 0), twice 10 (of 1)]

/-- R385, step 4. -/
def Hw.checkOwners (h : Hw) : Check :=
  let e := h.ep.pend
  firstBad [ownTime e, ownPools e, ownQueues e, ownShapers e, ownAddresses e, h.ownLanes e, ownChannels e, ownAllocs e]

/-! ### Cross-object rules and live pools (R385, steps 5 and 6) -/

/-- R158: TOD_OUT pin p. -/
def todCheck (e : CfgStore) (p : Nat) : Check :=
  let c := cfgOf e TC_PIN_COMPANION 0 p
  let v (f : OFld) (k : Nat) : Nat := cfgOf e f 0 k
  let drives (k : Nat) : Bool :=
    cmpPulses e k && v TC_CMP_PIN k == c && v TC_CMP_PERIOD_NS k == 1000000000 && v TC_CMP_PERIOD_FRAC k == 0 &&
      v TC_CMP_START_NS k == 0 && v TC_CMP_START_FRAC k == 0
  let chars := if bitOf (cfgOf e TC_PIN_FLAGS 0 p) 5 then (zdaBytes 0).length else 16
  if cfgOf e TC_PIN_MODE 0 p = pinTod then
    firstBad [
      failAt (decide (8 ≤ c) || !(List.range 32).any drives || cfgOf e TC_PIN_FEATURE 0 c != cfgOf e TC_PIN_FEATURE 0 p)
        TC_PIN_COMPANION 0 p,
      failAt (!decide (10 * chars * 1000 < (1000 - cfgOf e TC_PIN_TOD_DELAY 0 p) * cfgOf e TC_PIN_BAUD 0 p)) TC_PIN_BAUD 0 p]
  else none

/-- R339: each role has an active core; the cores of a start stand in while none is active. -/
def Hw.rolesCheck (h : Hw) : Check :=
  let act := match h.coresIn coreActive with
    | [] => (List.range 12).map (· + 2)
    | l => l
  firstOf (List.range 4) (fun r =>
    failAt (!act.any (fun k => bitOf (cfgOf h.ep.pend SV_DISPATCH_ROLE 0 k) r)) SV_DISPATCH_ROLE 0 r)

/-- R253: a wildcard index staged that another entry of a live epoch holds: the table and the position. -/
def Hw.wildCheck (h : Hw) : Check :=
  firstOf h.ep.wilds (fun w =>
    failIf (h.pk.tables.any (fun t => t.tbl == 1 && t.slot == w.1 && (bitOf t.vis 0 || bitOf t.vis 1)))
      (some (stRange, w.2 % 2 ^ 32 + 1 * 2 ^ 32)))

/-- R385, step 5; Table 6-1: priority1 is 128 with the G.8275.1 profile. -/
def Hw.checkCross (h : Hw) : Check :=
  let e := h.ep.pend
  firstBad [
    firstOf (List.range 8) (todCheck e),
    firstOf (instances e .TS_PORT) (fun i =>
      failAt (bitOf (cfgOf e TS_PORT_ENABLES i) 0 && cfgOf e TS_PORT_PROFILE i == 1 && cfgOf e TS_CLOCK_PRIORITY1 != 128)
        TS_PORT_PROFILE i),
    h.rolesCheck,
    h.wildCheck]

/-- R290: pools that are enabled or still draining. -/
def Hw.checkLive (h : Hw) : Check :=
  firstOf (List.range 16) (fun p =>
    let same (f : OFld) : Bool := cfgOf h.ep.pend f p == h.cfg f p
    failIf ((h.poolOn p || h.poolDrains p) &&
        !(bitOf (cfgOf h.ep.pend BM_POOL_FLAGS p) 1 == bitOf (h.cfg BM_POOL_FLAGS p) 1 && same BM_POOL_SIZE_LOG2 &&
          same BM_POOL_BASE && same BM_POOL_COUNT && same BM_POOL_RING_BASE))
      (conflictAt (h.cfg BM_POOL_FEATURE p) (cfgOf h.ep.pend BM_POOL_FEATURE p) 3 p))

/-- R385: the first failure of the pending epoch. -/
def Hw.validate (h : Hw) : Check :=
  firstBad [h.ep.unkType.bind (fun t => some (stUnsupported, t)), h.checkRanges, h.checkTotals, h.checkOwners,
    h.checkCross, h.checkLive]

end Sys2Proof.Machine
end

