-- ==== Sys2Proof/Machine/Epoch.lean ====
section
/-! DEFINITION. Configuration images, table commands and configuration epochs (R250, R253, R378 to R395). The
numbers and states of the epochs stand in HI_EPOCH_STATUS. -/

namespace Sys2Proof.Machine

/-- No epoch. -/
def noEpoch : Nat := 0xFFFFFFFF

/-- PSTATE: none, OPEN, VALIDATING, ARMED. -/
def psNone : Nat := 0
def psOpen : Nat := 1
def psValidating : Nat := 2
def psArmed : Nat := 3

/-- HI_EPOCH_STATUS.PSTATE. -/
def Hw.pstate (h : Hw) : Nat := h.rd HI_EPOCH_STATUS_PSTATE

/-- The pending epoch's number. -/
def Hw.pendNum (h : Hw) : Nat := h.rd HI_EPOCH_STATUS_PENDING

/-- R388: a drain runs. -/
def Hw.drains (h : Hw) : Bool := h.on HI_EPOCH_STATUS_DRAINING

def Hw.setEp (h : Hw) (f : EpochSt → EpochSt) : Hw := { h with ep := f h.ep }

/-! ### Images (R378, R384) -/

/-- One record of an image: type code, instance and payload. -/
structure ImgRec where
  code : Nat
  idx  : Nat
  data : List Byte

/-- R378: the records of an image from byte `o`; none where a record header is wrong. `n` is the number that
NOBJ still allows. -/
def imgRecs (img : List Byte) (o : Nat) : Nat → Option (List ImgRec)
  | 0 => if o = img.length then some [] else none
  | n + 1 =>
    let w (k l : Nat) : Nat := leNat (slice img (o + k) l)
    let size := w 8 4
    let next := o + 16 + (size + 7) / 8 * 8
    if img.length < o + 16 ∨ w 4 2 = 0 ∨ w 6 2 ≠ 0 ∨ w 12 4 ≠ 0 ∨ img.length < next then none
    else
      let here : Option (List ImgRec) :=
        match ObjType.ofCode (w 0 2) with
        | none => some [⟨w 0 2, w 2 2, []⟩]
        | some .PARSER_PROG => if size < 64 ∨ (size - 64) % 4 ≠ 0 then none else some [⟨w 0 2, w 2 2, slice img (o + 16) size⟩]
        | some t =>
          if size ≠ w 4 2 * t.size then none
          else some ((List.range (w 4 2)).map (fun j => ⟨w 0 2, w 2 2 + j, slice img (o + 16 + j * t.size) t.size⟩))
      match here, imgRecs img next n with
      | some a, some b => some (a ++ b)
      | _, _ => none

/-- R378, R384: the records of an image whose header and CRC hold. -/
def imgParse (img : List Byte) : Option (List ImgRec) :=
  let w (k l : Nat) : Nat := leNat (slice img k l)
  if img.length < 64 ∨ w 0 4 ≠ 0x43474645 ∨ w 4 2 ≠ 1 ∨ w 6 2 = 0 ∨ 4096 < w 6 2 ∨ w 8 4 ≠ img.length ∨
      img.length % 8 ≠ 0 ∨ 2 ^ 24 < img.length ∨ allEq (slice img 16 48) 0 = false ∨
      w 12 4 ≠ crc32c 0xFFFFFFFF (img.drop 64) then none
  else imgRecs img 64 (w 6 2)

/-- The 32-bit words of an octet list. -/
def wordsOf (l : List Byte) : List Nat := (List.range (l.length / 4)).map (fun k => leNat (slice l (4 * k) 4))

/-- R258: the first byte of a wrong header field of a program image. -/
def progHeadBad (d : List Byte) : Option Nat :=
  let w (k l : Nat) : Nat := leNat (slice d k l)
  let n := (d.length - 64) / 4
  let ovr (o : Nat) : Bool := decide (n ≤ w o 2)
  if w 0 4 ≠ 0x50504C48 then some 0
  else if w 4 2 ≠ 1 then some 4
  else if w 6 2 ≠ n ∨ n = 0 ∨ 8192 < n then some 6
  else
    match [8, 10, 12, 14, 16].find? ovr with
    | some o => some o
    | none =>
      if w 18 2 ≠ 0xFFFF ∧ ovr 18 = true then some 18
      else if w 20 4 ≠ crc32c 0xFFFFFFFF (d.drop 64) then some 20
      else if allEq (slice d 24 40) 0 = false then some 24
      else none

/-- R379: one record staged into the pending epoch. -/
def Hw.stageRec (h : Hw) (r : ImgRec) : Hw :=
  match ObjType.ofCode r.code with
  | none => h.setEp (fun e => { e with unkType := some (e.unkType.getD r.code) })
  | some t =>
    if t.count ≤ r.idx then h.setEp (fun e => { e with badIdx := some (e.badIdx.getD (r.code, r.idx)) })
    else if t = .PARSER_PROG then
      h.setEp (fun e => { e with
        progPend := wordsOf (r.data.drop 64)
        headPend := (wordsOf (r.data.take 64)).drop 2
        progBad := progHeadBad r.data })
    else h.setEp (fun e => { e with pend := store e.pend (t, r.idx) (leNat r.data) })

/-! ### Completions of staging commands -/

/-- Table 14-14 note a, R384: why a staging command cannot act on the epoch that it names. -/
def Hw.stageStop (h : Hw) (hd : CmdHdr) : Option Ans :=
  if h.pstate = psNone ∨ hd.epoch ≠ h.pendNum then some (.fail stStale)
  else if h.pstate ≠ psOpen then some (.fail stStale 0 10)
  else none

/-- EPOCH_OPEN (R379, R382, R383). -/
def Hw.epochOpen (h : Hw) (hd : CmdHdr) : Hw × Ans :=
  if h.pstate ≠ psNone ∨ h.ep.rollback = true ∨ (h.drains = true ∧ h.rd HI_EPOCH_STATUS_PREVIOUS = noEpoch) then
    (h, .fail stBusy h.pendNum)
  else if hd.epoch ≠ h.rd HI_EPOCH_STATUS_CURRENT then (h, .fail stStale)
  else
    let n := h.ep.highest + 1
    let h := h.setEp (fun e => { e with
      highest := n, pend := e.cur, progPend := e.progCur, headPend := e.headCur, flipTick := 0, valid := false
      unkType := none, badIdx := none, progBad := none, wilds := [] })
    let h := h.setPk (fun p => { p with tables := p.tables.map (fun t => { t with vis := bits t.vis 0 2 + 4 * bits t.vis 0 1 }) })
    ((h.wr HI_EPOCH_STATUS_PENDING n).wr HI_EPOCH_STATUS_PSTATE psOpen, .ok n)

/-- CFG_LOAD (R378, R384): LEN, ADDR and the octets of the image at ADDR. -/
def Hw.cfgLoad (h : Hw) (hd : CmdHdr) (len addr : Nat) (img : List Byte) : Hw × Ans :=
  match h.stageStop hd with
  | some a => (h, a)
  | none =>
    if addr % 8 ≠ 0 then (h, .fail stAlign)
    else
      match (if img.length = len then imgParse img else none) with
      | none => (h, .fail stRange 0 1)
      | some rs => (h.each rs Hw.stageRec, .ok)

/-! ### Table entries (R252, R253, R384) -/

/-- PP_TBL_STAT[t].USED shows the slots in use. -/
def Hw.showTables (h : Hw) : Hw :=
  h.each (List.range 5) (fun h t => h.wr PP_TBL_STAT_USED (h.pk.tables.filter (fun e => e.tbl == t)).length t)

/-- Octets of one entry in the host list (Tables 9-7 to 9-9), by TBL_WRITE's TABLE. -/
def entryBytes (table : Nat) : Nat := if table = 0 then 56 else if table = 1 then 112 else 16

/-- An entry of the host list: table 0 to 4, key, mask, PRIO, wildcard index, results and PM flag or ACTION. -/
def listEntry (table : Nat) (b : List Byte) : TblEntry :=
  let w (o l : Nat) : Nat := leNat (slice b o l)
  match table with
  | 0 => { tbl := 0, key := slice b 0 40, slot := 0, r0 := w 40 4, r1 := w 44 4, aux := w 48 1 % 2, vis := 4 }
  | 1 => { tbl := 1, key := slice b 0 48, mask := slice b 48 48, prio := w 96 2 % 4096, slot := w 98 2,
           r0 := w 100 4, r1 := w 104 4, vis := 4 }
  | 2 => { tbl := 2, key := beBytes 3 (w 0 1 * 4096 + w 1 2 % 4096), slot := 0, r0 := w 4 4, r1 := w 8 4, vis := 4 }
  | _ => { tbl := 3 + w 2 1 % 2, key := beBytes 2 (w 0 2), slot := 0, r0 := w 4 4, r1 := w 8 4, aux := w 3 1, vis := 4 }

/-- Two entries stand for the same key: a wildcard entry is named by its index. -/
def sameEntry (a b : TblEntry) : Bool := a.tbl == b.tbl && (if a.tbl = 1 then a.slot == b.slot else a.key == b.key)

/-- Whether slot s of table t is held. -/
def Hw.slotUsed (h : Hw) (t s : Nat) : Bool := h.pk.tables.any (fun e => e.tbl == t && e.slot == s)

/-- The first free slot of a table among `n` from `b`. -/
def Hw.freeSlot (h : Hw) (t b n : Nat) : Option Nat := ((List.range n).map (b + ·)).find? (fun s => !h.slotUsed t s)

/-- R252, R253: the slot that an entry takes: in the less occupied of its two sets, the H1 set when they are equal,
else, for a flow entry, in the stash. -/
def Hw.placeEntry (h : Hw) (e : TblEntry) : Option Nat :=
  if e.tbl = 1 then if e.slot < 4096 then some e.slot else none
  else
    let n := if e.tbl = 0 then 4096 else 512
    let key := if e.tbl = 0 then e.key else beBytes 3 (beNat e.key)
    let s1 := crc32c (h.rd PP_TBL_SEED_SEED_H1) key % n * 4
    let s2 := 4 * n + crc32c (h.rd PP_TBL_SEED_SEED_H2) key % n * 4
    let occ (b : Nat) : Nat := ((List.range 4).filter (fun k => h.slotUsed e.tbl (b + k))).length
    match h.freeSlot e.tbl (if occ s2 < occ s1 then s2 else s1) 4 with
    | some s => some s
    | none => if e.tbl = 0 then h.freeSlot 0 32768 64 else none

/-- R384: the lowest PM slot that is free at the flip: held by no entry that the current or the pending epoch sees. -/
def Hw.pmFree (h : Hw) : Option Nat :=
  let held := (h.pk.tables.filter (fun t => t.tbl == 0 && t.aux == 1 && (bitOf t.vis 0 || bitOf t.vis 2))).map (·.pm)
  (List.range 4096).find? (fun s => !held.contains s)

/-- The entries of a table that are no longer visible from the pending epoch: those named like `e` lose the pending bit. -/
def Hw.unstage (h : Hw) (e : TblEntry) : Hw :=
  let drop (t : TblEntry) : TblEntry := if sameEntry t e then { t with vis := bits t.vis 0 2 } else t
  h.setPk (fun p => { p with tables := (p.tables.map drop).filter (fun t => t.vis != 0) })

/-- R253, R384: entry `k` of a list is staged, or the answer that ends the command. -/
def Hw.stageEntry (h : Hw) (table op addr k : Nat) (b : List Byte) : Hw × Option Ans :=
  let e := listEntry table b
  if op = 1 then (h.unstage e, none)
  else
    match h.pk.tables.find? (fun t => t.vis == 4 && sameEntry t e) with
    | some t => (h, some (.fail stConflict (k + t.slot * 2 ^ 32)))
    | none =>
      let h := h.unstage e
      match h.placeEntry e with
      | none => (h, some (.fail stRange k))
      | some s =>
        let pm := if e.aux = 1 ∧ e.tbl = 0 then h.pmFree.getD 0xFFFF else 0
        let h := h.setPk (fun p => { p with tables := p.tables ++ [{ e with slot := s, pm := pm }] })
        let h := if e.tbl = 1 then h.setEp (fun x => { x with wilds := x.wilds ++ [(s, k)] }) else h
        (if e.tbl = 0 ∧ e.aux = 1 then h.emit (.hostWrite (addr + 56 * k + 52) (leBytes 2 pm)) else h, none)

/-- The entries of a list from number `k`. -/
def Hw.stageList (h : Hw) (table op addr : Nat) (list : List Byte) (k : Nat) : Nat → Hw × Ans
  | 0 => (h, .ok k)
  | n + 1 =>
    match h.stageEntry table op addr k (slice list (entryBytes table * k) (entryBytes table)) with
    | (h, some a) => (h, a)
    | (h, none) => h.stageList table op addr list (k + 1) n

/-- TBL_WRITE (R253, R384): TABLE, OP, COUNT, ADDR and the octets of the list at ADDR. -/
def Hw.tblWrite (h : Hw) (hd : CmdHdr) (table op count addr : Nat) (list : List Byte) : Hw × Ans :=
  match h.stageStop hd with
  | some a => (h, a)
  | none =>
    if 3 < table ∨ 1 < op ∨ count = 0 ∨ 65536 < count then (h, .fail stRange)
    else if h.regionState rgPacket ≠ stRun then (h, .fail stGatedCode)
    else
      let (h, a) := h.stageList table op addr list 0 count
      (h.showTables, a)

/-! ### Discarding (R385, R391, R394) -/

/-- The pending epoch and everything staged for it are discarded. -/
def Hw.epochDiscard (h : Hw) : Hw :=
  let h := h.setEp (fun e => { e with
    pend := [], progPend := [], headPend := [], flipTick := 0, valid := false, unkType := none, badIdx := none
    progBad := none, wilds := [] })
  let h := h.setPk (fun p => { p with
    tables := (p.tables.map (fun t => { t with vis := bits t.vis 0 2 })).filter (fun t => t.vis != 0) })
  ((h.wr HI_EPOCH_STATUS_PENDING noEpoch).wr HI_EPOCH_STATUS_PSTATE psNone).showTables

/-- The pending epoch is discarded, and its EPOCH_COMMIT, when there is one, completes. -/
def Hw.epochDrop (h : Hw) (status reason result : Nat) : Hw :=
  if h.pstate = psNone then h
  else
    let n := h.pendNum
    h.epochDiscard.completeOpen (fun o => o.opcode == 0x13 && o.epoch == n) status reason result

/-- R394: a region reloads. -/
def Hw.epochReload (h : Hw) : Hw := h.epochDrop stStale 9 0

/-! ### Commit, validation, abort, rollback -/

/-- EPOCH_COMMIT (R385, R386): the pending epoch enters VALIDATING. -/
def Hw.epochCommit (h : Hw) (hd : CmdHdr) (flipTick : Nat) : Hw × Ans :=
  match h.stageStop hd with
  | some a => (h, a)
  | none =>
    if h.tick + 8000000 < flipTick then (h.epochDiscard, .fail stRange)
    else ((h.setEp (fun e => { e with flipTick := flipTick, valid := false })).wr HI_EPOCH_STATUS_PSTATE psValidating, .later)

/-- EPOCH_VALIDATION_DONE (R385): the checks end; a failure discards the epoch. -/
def Hw.validationDone (h : Hw) : Hw :=
  if h.pstate = psValidating ∧ h.ep.valid = false then
    match h.validate with
    | some (st, r) => h.epochDrop st 0 r
    | none => h.setEp (fun e => { e with valid := true })
  else h

/-- EPOCH_ABORT (R391): an epoch that EPOCH_ARM has armed for the next boundary is too late. -/
def Hw.epochAbort (h : Hw) (hd : CmdHdr) : Hw × Ans :=
  if h.pstate = psNone ∨ hd.epoch ≠ h.pendNum ∨ h.pstate = psArmed then (h, .fail stStale)
  else (h.epochDrop stStale 0 0, .ok)

/-- EPOCH_ROLLBACK (R392). -/
def Hw.epochRollback (h : Hw) (hd : CmdHdr) : Hw × Ans :=
  if h.pstate ≠ psNone ∨ h.ep.rollback = true then (h, .fail stBusy)
  else if hd.epoch ≠ h.rd HI_EPOCH_STATUS_CURRENT then (h, .fail stStale)
  else if h.rd HI_EPOCH_STATUS_PREVIOUS = noEpoch then (h, .fail stRange 0 8)
  else (h.setEp (fun e => { e with rollback := true, rbArmed := false }), .later)

/-- ROLLBACK_NOW (R392): any pending epoch is discarded first. -/
def Hw.rollbackNow (h : Hw) : Hw :=
  let h := h.epochDrop stStale 0 0
  if h.rd HI_EPOCH_STATUS_PREVIOUS = noEpoch then h
  else h.setEp (fun e => { e with rollback := true, rbArmed := h.ep.rbArmed && h.ep.rollback })

/-! ### Arming and flips (R32, R386, R387, R394, R395) -/

/-- R387: region r is ready; `no` names regions that do not answer the question as ready. -/
def Hw.regionReady (h : Hw) (no : List Nat) (r : Nat) : Bool :=
  let s := h.regionState r
  s == stGated || (s == stRun && !no.contains r)

/-- EPOCH_ARM (R386, R389, R392). -/
def Hw.epochArm (h : Hw) (no : List Nat) : Hw :=
  let regs := [rgLine, rgFawn, rgPortW, rgPortE, rgPacket, rgMemory, rgControl]
  if regs.any (fun r => h.regionState r == stStopped || h.regionState r == stReloading) then h.epochReload
  else if !regs.all (h.regionReady no) then h
  else if h.ep.rollback then h.setEp (fun e => { e with rbArmed := true })
  else if h.pstate = psValidating ∧ h.ep.valid = true ∧ h.drains = false ∧ h.ep.flipTick ≤ h.tick + 1 then
    h.wr HI_EPOCH_STATUS_PSTATE psArmed
  else h

/-- The value of an object's payload from its fields; reserved bits are 0 (R12). -/
def objNat (e : CfgStore) (t : ObjType) (i : Nat) : Nat :=
  t.fields.foldl (fun a f => (List.range f.reps).foldl (fun a k => a + cfgOf e f i k * 2 ^ (f.lsb + f.stride * k)) a) 0

/-- The octets of an object. -/
def objBytes (e : CfgStore) (t : ObjType) (i : Nat) : List Byte := leBytes t.size (objNat e t i)

/-- R395: the CRC of the time configuration of a store. -/
def timeCrc (e : CfgStore) : Nat :=
  crc32c 0xFFFFFFFF (objBytes e .TIME_CORE 0 ++ (List.range 130).flatMap (objBytes e .TS_PORT) ++ objBytes e .TS_CLOCK 0)

/-- R395: TIME_CRC is shown and passed to the safety manager. -/
def Hw.showCrc (h : Hw) : Hw :=
  let c := timeCrc h.ep.cur
  (h.wr HI_EPOCH_STATUS_TIME_CRC c).wr SF_DIAG_REFERENCE c

/-- Table 9-16: the program in force. -/
def Hw.showProg (h : Hw) : Hw :=
  (h.wr PP_PROG_STATUS_CRC (h.ep.headCur.getD 3 0)).wr PP_PROG_STATUS_COUNT h.ep.progCur.length

/-- Instances of a type in either of two stores. -/
def eitherHas (a b : CfgStore) (t : ObjType) : List Nat := (instances a t ++ instances b t).eraseDups

/-- R222, R223: the station ports of region r under the objects now in force. -/
def Hw.portsFlip (h : Hw) (r : Nat) (was : CfgStore) : Hw :=
  h.each ((eitherHas was h.ep.cur .PF_PORT).filter (fun n => tsRegion n == r)) (fun h n =>
    if h.portEnabled n then
      let h := h.setPort n id
      if bitOf (cfgOf was PF_PORT_FLAGS n) 0 then h else h.laneWake n
    else if bitOf (cfgOf was PF_PORT_FLAGS n) 0 then h.flushPort n else h)

/-- What acts "at an epoch flip" in region r, whose objects were those of `was`. -/
def Hw.regionFlip (h : Hw) (r : Nat) (was : CfgStore) : Hw :=
  let ts (h : Hw) : Hw := h.each ((eitherHas was h.ep.cur .TS_PORT).filter (fun i => tsRegion i == r)) (fun h i => h.tsFlip was i)
  if r = rgFawn then (h.each (List.range 32) (fun h k => h.cmpFlip was k)).pinsRefresh
  else if r = rgPortW ∨ r = rgPortE then ts (h.portsFlip r was)
  else if r = rgPacket then
    let h := h.each (List.range 16) (fun h g => h.homingFlip g (bits (cfgOf was DUAL_ATT_GFLAGS 0 g) 0 1))
    let h := h.each (eitherHas was h.ep.cur .FRER_RCV) (fun h s => h.frerFlip was s)
    let h := h.each ((instances h.ep.cur .FRER_GEN).filter (fun s => bitOf (h.cfg FRER_GEN_FLAGS s) 1))
      (fun h s => h.setPk (fun p => { p with seqGen := store p.seqGen s 0 }))
    (h.each (eitherHas was h.ep.cur .CX_SC) (fun h k => h.scFlip was k)).showProg
  else if r = rgMemory then h.each (List.range 16) Hw.poolFlip
  else if r = rgControl then ts h.rolesInForce
  else h

/-- A flip or rollback has changed the epoch in force at the boundary that begins tick t: every running region acts,
TIME_CRC is shown and EPOCH_FLIPPED is sent. -/
def Hw.flipped (h : Hw) (was : CfgStore) (t : Nat) : Hw :=
  let h := h.eventDrop 4 0x0040 (leBytes 4 (h.rd HI_EPOCH_STATUS_CURRENT) ++ leBytes 4 t ++ leBytes 4 0) []
  let h := h.each ([rgLine, rgFawn, rgPortW, rgPortE, rgPacket, rgMemory, rgControl].filter h.runs)
    (fun h r => h.regionFlip r was)
  h.showCrc.showTables

/-- R386: the flip at the boundary that begins tick t. -/
def Hw.flip (h : Hw) (t : Nat) : Hw :=
  let was := h.ep.cur
  let old := h.rd HI_EPOCH_STATUS_CURRENT
  let new := h.pendNum
  let h := h.setEp (fun e => { e with
    cur := e.pend, prev := e.cur, pend := [], progCur := e.progPend, progPrev := e.progCur, progPend := []
    headCur := e.headPend, headPrev := e.headCur, headPend := [], valid := false, wilds := []
    drainOf := some (0x13, new), drainFrom := t, drainUt := h.clk.ut, drainNum := old })
  let turn (e : TblEntry) : TblEntry := { e with vis := bits e.vis 2 1 + 2 * bits e.vis 0 1 }
  let h := h.setPk (fun p => { p with tables := (p.tables.map turn).filter (fun e => e.vis != 0) })
  let h := ((h.wr HI_EPOCH_STATUS_PREVIOUS old).wr HI_EPOCH_STATUS_CURRENT new).wr HI_EPOCH_STATUS_PENDING noEpoch
  ((h.wr HI_EPOCH_STATUS_PSTATE psNone).wr HI_EPOCH_STATUS_DRAINING 1).flipped was t

/-- Table 14-5, R388: the completion of a commit or rollback whose drain ends at tick t. -/
def Hw.drainAnswer (h : Hw) (reason : Nat) : Hw :=
  match h.ep.drainOf with
  | some (op, n) =>
    h.completeOpen (fun o => o.opcode == op && o.epoch == n) stOk reason
      (h.ep.drainFrom % 2 ^ 32 + (h.tick - h.ep.drainFrom) * 2 ^ 32)
  | none => h

/-- R389, R392: the rollback at the boundary that begins tick t; a drain that it ends completes its commit. -/
def Hw.rollFlip (h : Hw) (t : Nat) : Hw :=
  let was := h.ep.cur
  let old := h.rd HI_EPOCH_STATUS_CURRENT
  let h := if h.drains then h.drainAnswer 0 else h
  let cmd := (h.host.opens.find? (fun o => o.opcode == 0x15)).map (fun o => (0x15, o.epoch))
  let h := (h.wr HI_EPOCH_STATUS_CURRENT (h.rd HI_EPOCH_STATUS_PREVIOUS)).wr HI_EPOCH_STATUS_PREVIOUS noEpoch
  let h := h.setEp (fun e => { e with
    cur := e.prev, prev := e.cur, progCur := e.progPrev, progPrev := e.progCur, headCur := e.headPrev
    headPrev := e.headCur, rollback := false, rbArmed := false
    drainOf := cmd, drainFrom := t, drainUt := h.clk.ut, drainNum := old })
  let turn (e : TblEntry) : TblEntry := { e with vis := bits e.vis 1 1 + 2 * bits e.vis 0 1 }
  let h := h.setPk (fun p => { p with tables := p.tables.map turn })
  (h.wr HI_EPOCH_STATUS_DRAINING 1).flipped was t

/-- The flip of the boundary that begins tick t, if one is armed. -/
def Hw.flipBoundary (h : Hw) (t : Nat) : Hw :=
  if h.ep.rbArmed then h.rollFlip t else if h.pstate = psArmed then h.flip t else h

/-- R394: region r, which has reported ready, takes the objects of the current epoch. -/
def Hw.reapply (h : Hw) (r : Nat) : Hw :=
  let n := leBytes 4 (h.rd HI_EPOCH_STATUS_CURRENT)
  let h := (h.regionFlip r []).eventDrop 4 0x0041 (leBytes 1 r ++ leBytes 3 0 ++ n ++ leBytes 4 0) []
  let h := if r = rgPacket then h.eventDrop 4 0x0042 (n ++ leBytes 8 0) [] else h
  h.showCrc

/-! ### Draining (R388 to R390) -/

/-- Whether an item of a ready list or in service holds a frame of epoch n. -/
def Work.holds (n : Nat) (w : Work) : Bool :=
  match w.frame? with
  | some f => f.epoch == n
  | none => false

/-- The frame that a release carries. -/
def Verdict.frame? : Verdict → Option Frame
  | .forward f | .except f _ _ | .drop f _ | .lenConflict f | .queue f _ | .host f _ | .reinject f => some f
  | .done f => f

/-- R210, R388: a frame tagged with epoch n remains; upstream queues and the bridge no longer hold it. -/
def Hw.framesOf (h : Hw) (n : Nat) : Bool :=
  h.pk.lists.any (fun l => l.2.any (fun i => i.work.holds n)) ||
  h.pk.svc.any (fun x => x.2.work.holds n) ||
  h.pk.passes.any (fun x => x.2.frame.epoch == n) ||
  h.pk.waits.any (fun x => (x.2.2.frame?.map (·.epoch)) == some n) ||
  h.pk.queues.any (fun q => decide (q.1 < 1088) && q.2.frames.any (fun f => f.epoch == n)) ||
  h.toHost.any (fun x => x.2.epoch == n) ||
  h.port.any (fun p => p.2.rx.any (fun f => f.epoch == n) || p.2.tx.any (fun f => f.epoch == n))

/-- The drain is over: an epoch that a rollback abandoned is released. -/
def Hw.drainOver (h : Hw) (reason : Nat) : Hw :=
  let h := (h.drainAnswer reason).wr HI_EPOCH_STATUS_DRAINING 0
  let h := h.setEp (fun e => { e with drainOf := none })
  if h.rd HI_EPOCH_STATUS_PREVIOUS = noEpoch then
    let h := h.setEp (fun e => { e with prev := [], progPrev := [], headPrev := [] })
    (h.setPk (fun p => { p with
      tables := (p.tables.map (fun t => { t with vis := t.vis - 2 * bits t.vis 1 1 })).filter (fun t => t.vis != 0) })).showTables
  else h

/-- EPOCH_DRAIN_END (R388). -/
def Hw.drainEnd (h : Hw) : Hw := if h.drains && !h.framesOf h.ep.drainNum then h.drainOver 0 else h

/-- The frames of epoch n leave every list, engine, queue and buffer; how many there were. -/
def Hw.dropEpoch (h : Hw) (n : Nat) : Hw × Nat :=
  let inLists := h.pk.lists.flatMap (fun l => (l.2.filter (fun i => i.work.holds n)).filterMap (fun i => i.work.frame?))
  let inSvc := (h.pk.svc.filter (fun x => x.2.work.holds n)).filterMap (fun x => x.2.work.frame?)
  let inWaits := (h.pk.waits.filterMap (fun x => x.2.2.frame?)).filter (fun f => f.epoch == n)
  let inQs := h.pk.queues.flatMap (fun q => if q.1 < 1088 then q.2.frames.filter (fun f => f.epoch == n) else [])
  let inHost := (h.toHost.map Prod.snd).filter (fun f => f.epoch == n)
  let inPorts := h.port.flatMap (fun p => p.2.tx.filter (fun f => f.epoch == n))
  let inRx := h.port.flatMap (fun p => p.2.rx.filter (fun f => f.epoch == n))
  let gone := inLists ++ inSvc ++ inWaits ++ inQs ++ inHost ++ inPorts
  let qs := (h.pk.queues.filter (fun q => decide (q.1 < 1088) && q.2.frames.any (fun f => f.epoch == n))).map Prod.fst
  let ids := (h.pk.lists.flatMap (fun l => (l.2.filter (fun i => i.work.holds n)).map (·.id))) ++
    ((h.pk.svc.filter (fun x => x.2.work.holds n)).map (fun x => x.2.id)) ++
    ((h.pk.waits.filter (fun x => (x.2.2.frame?.map (·.epoch)) == some n)).map Prod.fst)
  let h := h.setPk (fun p => { p with
    lists := p.lists.map (fun l => (l.1, l.2.filter (fun i => !i.work.holds n)))
    svc := p.svc.filter (fun x => !x.2.work.holds n)
    passes := p.passes.filter (fun x => x.2.frame.epoch != n)
    waits := p.waits.filter (fun x => (x.2.2.frame?.map (·.epoch)) != some n)
    order := p.order.map (fun o => (o.1, o.2.filter (fun i => !ids.contains i)))
    queues := p.queues.map (fun q =>
      if q.1 < 1088 then (q.1, { q.2 with frames := q.2.frames.filter (fun f => f.epoch != n) }) else q) })
  let keep (p : PortSt) : PortSt :=
    { p with rx := p.rx.filter (fun f => f.epoch != n), tx := p.tx.filter (fun f => f.epoch != n) }
  let h := { h with
    toHost := h.toHost.filter (fun x => x.2.epoch != n)
    port := h.port.map (fun (p : Nat × PortSt) => (p.1, keep p.2)) }
  let h := (h.each gone (fun h f => h.freed f)).each qs Hw.showQueue
  (h.each ((List.range 4096).filter (fun t => h.pk.order.any (fun o => o.1 == t))) (fun h t => h.runReleases t 4096),
    gone.length + inRx.length)

/-- R388: the drain limit in microticks. -/
def Hw.drainLimit (h : Hw) : Nat := max 1 (h.rd HI_EPOCH_CFG_DRAIN_MS) * 640

/-- EPOCH_DRAIN_TIMEOUT (R388): the frames that remain are dropped and counted. -/
def Hw.drainTimeout (h : Hw) : Hw :=
  if h.drains = true ∧ h.ep.drainUt + h.drainLimit < h.clk.ut then
    let (h, k) := h.dropEpoch h.ep.drainNum
    (h.inc HI_EPOCH_STATUS_DRAIN_DROP 0 0 k).drainOver (if k = 0 then 0 else 7)
  else h

/-! ### A chip-domain reset (R379, R380) -/

/-- The configuration store and the epoch state after a chip-domain reset; epoch 0 keeps the TIME_CORE that FAWN holds
unless the reset includes FAWN. -/
def Hw.epochReset (h : Hw) (fawn : Bool) : Hw :=
  let keep := if fawn then [] else h.ep.cur.filter (fun x => x.1.1 == .TIME_CORE)
  let h := { h with ep := { cur := keep } }
  h.setPk (fun p => { p with tables := [] })

end Sys2Proof.Machine
end

