-- ==== Sys2Proof/Machine/Host.lean ====
section
/-! DEFINITION. The rings, doorbells, descriptors, interrupts and counter dumps of the host interface (R347 to R349,
R354 to R370, R376, R377). The epochs are in Epoch; the header and completion of a command are in Operands. -/

namespace Sys2Proof.Machine

/-! ### Ring control (R359, R361) -/

/-- A write of ENABLE of ring r: from 0 to 1 both indices are 0; to 0 it stops at the next microtick boundary. -/
def Hw.ringEnable (h : Hw) (r : Nat) (on : Bool) : Hw :=
  if on then
    if h.on HI_RING_ENABLE r then h else (h.setRing r (fun _ => {})).wr HI_RING_ENABLE 1 r
  else
    let h := (h.wr HI_RING_ERR 0 r).wr HI_RING_STOPPED 0 r
    if h.on HI_RING_ENABLE r then (h.wr HI_RING_ENABLE 0 r).setRing r (fun s => { s with stopping := true }) else h

/-- RING_ENABLE_WRITE (R359, Table 14-27): the word at +0x08 of HI_RING[r]. SIZE_LOG2 holds while ENABLE is 1. -/
def Hw.ringWrite (h : Hw) (r v : Nat) : Hw :=
  let h := if h.on HI_RING_ENABLE r then h else h.wr HI_RING_SIZE_LOG2 (bits v 8 5) r
  ((h.wr HI_RING_VECTOR (bits v 24 8) r).wr HI_RING_GROUP (bits v 16 3) r).ringEnable r (bitOf v 0)

/-- The rings of Table 14-1. -/
def allRings : List Nat := List.range 216

/-- RING_STOP (Table 14-19): every ring's ENABLE set to 0. -/
def Hw.ringStopAll (h : Hw) : Hw := h.each (allRings.filter (fun r => h.on HI_RING_ENABLE r)) (fun h r => h.ringEnable r false)

/-- A write of HI_EMERG with `v` (Table 14-19). -/
def Hw.emergWrite (h : Hw) (v : Nat) : Hw :=
  let h := h.when (bitOf v 0) (fun h => { h with host := { h.host with pollNow := true } })
  let h := h.when (bitOf v 1) Hw.ringStopAll
  h.when (bitOf v 2) Hw.rollbackNow

/-- R359: the rings whose stop takes effect at this microtick boundary; the final head index is written. -/
def Hw.ringStops (h : Hw) : Hw :=
  h.each ((h.host.rings.filter (fun x => x.2.stopping)).map Prod.fst) (fun h r =>
    let s := h.ringAt r
    (h.setRing r (fun s => { s with stopping := false })).emit (.head r (if r < 64 ∨ (128 ≤ r ∧ r < 144) then s.cons else s.prod)))

/-! ### Waiting completions and events (R368, R375) -/

/-- R368: every completion that waits is tried again, in order. -/
def Hw.flushCompl (h : Hw) : Hw :=
  h.host.waiting.foldl (fun h w =>
    if 1 ≤ h.ringRoom (144 + w.1) then
      ({ h with host := { h.host with waiting := h.host.waiting.erase w } }).pushEntry w.1 (.compl w.2)
    else h) h

/-! ### The doorbell poll (R362 to R364) -/

/-- R362, R364: an index read from the doorbell slot of ring r. -/
def Hw.takeSlot (h : Hw) (r v : Nat) : Hw :=
  let s := h.ringAt r
  let host := decide (r < 144)
  if v < s.slot then h.ringError r 3
  else if host ∧ s.cons + h.ringSize r < v then h.ringError r 2
  else if !host ∧ s.prod < v then h.ringError r 2
  else h.setRing r (fun s => if host then { s with prod := v, slot := v } else { s with cons := v, slot := v })

/-- R364: the read of a changed group's doorbell lines gives the indices of every ring of those lines. -/
def Hw.pollLines (h : Hw) (p : PollIn) : Hw :=
  let changed (g : Nat) : Bool := p.groups.getD g 0 != look h.host.groups g 0
  let lines := ((allRings.filter (fun r => changed (h.rd HI_RING_GROUP r))).map (· / 8)).eraseDups
  let h := { h with host := { h.host with groups := (List.range 8).map (fun g => (g, p.groups.getD g 0)) } }
  let rings := allRings.filter (fun r => lines.contains (r / 8) && h.ringOn r)
  let h := h.each (rings.filter (fun r => p.bad.contains r)) (fun h r => h.ringError r 4)
  h.each (rings.filter (fun r => !p.bad.contains r)) (fun h r =>
    match p.slots.find? (fun x => x.1 == r) with
    | some x => h.takeSlot r x.2
    | none => h)

/-- R364: POLL_UT as it acts. -/
def Hw.pollPeriod (h : Hw) : Nat := min 80 (max 1 (h.rd HI_CFG_POLL_UT))

/-- Whether DB_POLL starts in the microtick that begins. -/
def Hw.pollDue (h : Hw) : Bool :=
  h.runs rgControl && h.on HI_CFG_RUN && (h.host.pollNow || decide (h.clk.pollLast + h.pollPeriod ≤ h.clk.ut))

/-- DB_POLL (R364); a poll that overruns fetches nothing (Table 1-7). -/
def Hw.dbPoll (h : Hw) (ovr : Bool) (p : PollIn) : Hw :=
  let h := { h with clk := { h.clk with pollLast := h.clk.ut }, host := { h.host with pollNow := false } }
  if ovr then h else if p.sumOk then h.pollLines p else h.wr HI_STATUS_SUM_ERR 1

/-- What the ring engines do at a microtick boundary. -/
def Hw.hostMicro (h : Hw) : Hw :=
  if h.runs rgControl then h.ringStops.flushCompl.flushWaiting else h

/-! ### Descriptors (R360, R366, R367) -/

/-- R366: a host transmit frame that passes the checks of its descriptor. -/
def Hw.txFrame (h : Hw) (r tflags queue : Nat) (frame : List Byte) : Hw :=
  let drop (h : Hw) : Hw := h.inc HI_RING_DROPS r
  if bitOf tflags 0 then
    if h.toResponder (128 + bits tflags 1 1) frame then h else drop h
  else if h.rd SF_LEVEL_HELD = 2 then drop h
  else if bitOf tflags 2 then
    if queue < 1024 then
      let (f, h) := h.newFrame frame 0 (130 + r)
      match h.takeBuf f with
      | (some f, h) => (h.charge f).toQueue queue f
      | (none, h) => h
    else drop h
  else
    let (f, h) := h.newFrame frame 0 (130 + r)
    h.enterFirst f

/-- TX_DESCRIPTOR (R360, R362, R366): the next descriptor of host transmit ring r, as fetched. -/
def Hw.txDescriptor (h : Hw) (r : Nat) (dmaOk phase : Bool) (len tflags queue : Nat) (frame : List Byte) : Hw :=
  let s := h.ringAt r
  if h.runs rgControl && h.ringOn r && decide (s.cons < s.prod) && !h.sourceHeld (130 + r) &&
      (bitOf tflags 0 || h.runs rgPacket || h.rd SF_LEVEL_HELD == 2) then
    if !dmaOk then h.ringError r 4
    else if phase != passPhase (h.ringSize r) s.cons then h.ringError r 1
    else
      let h := (h.setRing r (fun s => { s with cons := s.cons + 1 })).ringMoved r (s.cons + 1)
      if 14 ≤ len ∧ len ≤ 9724 ∧ frame.length = len then h.txFrame r tflags queue frame else h.inc HI_RING_DROPS r
  else h

/-- Table 14-3: the descriptor written back for a frame, CTRL apart. -/
def rxDesc (f : Frame) (len : Nat) : List Byte :=
  let t := (f.rts.getD 0).toNat
  leBytes 2 (f.md 9) ++ leBytes 2 (f.md 10) ++ leBytes 2 len ++ leBytes 1 f.src ++ leBytes 1 f.exc ++
    leBytes 6 (t / 65536 / 1000000000) ++ leBytes 4 (t / 65536 % 1000000000) ++ leBytes 2 (t % 65536) ++
    leBytes 4 f.epoch ++ leBytes 2 (if f.src = 128 ∨ f.src = 129 then f.xgem else 0) ++ leBytes 4 0 ++
    leBytes 1 (b2n f.rts.isSome)

/-- RX_WRITEBACK (R367): the oldest frame selected for host receive ring r, whose next posted buffer holds `bufLen`
bytes. -/
def Hw.rxWriteback (h : Hw) (r bufLen : Nat) : Hw :=
  let s := h.ringAt (64 + r)
  match h.toHost.find? (fun x => x.1 == 64 + r) with
  | none => h
  | some x =>
    if h.runs rgControl && h.ringOn (64 + r) && decide (s.cons < s.prod) then
      let f := x.2
      let b := f.bytes.take (f.bytes.length - f.fcs)
      let h := ({ h with toHost := h.toHost.erase x }).freed f
      if bufLen < b.length then h.inc HI_RING_DROPS (64 + r)
      else
        let ph := passPhase (h.ringSize (64 + r)) s.cons
        ((h.emit (.rxWrite (64 + r) s.cons ph (rxDesc f b.length) b)).setRing (64 + r)
          (fun s => { s with cons := s.cons + 1 })).ringMoved (64 + r) (s.cons + 1)
    else h

/-! ### Interrupts (R376) -/

/-- Vector v is masked: bit 0 of Vector Control, the fourth word of its table entry. -/
def Hw.vecMasked (h : Hw) (v : Nat) : Bool := bitOf (look h.host.msixTbl (4 * v + 3) 1) 0

/-- The message of vector v, or its pending bit while it is masked. -/
def Hw.vecSend (h : Hw) (v : Nat) : Hw :=
  if h.vecMasked v then { h with host := { h.host with pba := store h.host.pba v true } } else h.emit (.msix v)

/-- MSIX_SIGNAL (R376): vector v signals once MOD_CNT entries are pending or MOD_UT microticks have passed. -/
def Hw.msixSignal (h : Hw) (v : Nat) : Hw :=
  let s := look h.host.vecs v {}
  if s.count ≠ 0 ∧ (max 1 (h.rd HI_VEC_MOD_CNT v) ≤ s.count ∨ s.since + h.rd HI_VEC_MOD_UT v ≤ h.clk.ut) then
    ({ h with host := { h.host with vecs := store h.host.vecs v {} } }).vecSend v
  else h

/-- A write of word `w` of the MSI-X table: unmasking a vector with its pending bit set sends the message. -/
def Hw.msixWrite (h : Hw) (w v : Nat) : Hw :=
  let h := { h with host := { h.host with msixTbl := store h.host.msixTbl w v } }
  if w % 4 = 3 ∧ bitOf v 0 = false ∧ look h.host.pba (w / 4) false = true then
    ({ h with host := { h.host with pba := store h.host.pba (w / 4) false } }).vecSend (w / 4)
  else h

/-! ### Counter snapshots (R338, R347 to R349, R377) -/

/-- R345: counter i as a snapshot captures it: the event counter that mirrors its field; a counter of a status bit
is free (log entry 5, DESIGN CHOICE). -/
def Hw.counterAt (h : Hw) (i : Nat) : Nat :=
  if (Config.pcDesc i).2.1 % 2 = 1 then bits (Config.freeValue (h.free + i)) 0 48
  else
    let c := Config.counterField i
    look h.pcnt ⟨c.1, c.2.1, c.2.2.1, c.2.2.2⟩ 0

/-- R349: counter i has passed 2^48 − 1 since the last image. -/
def Hw.counterWrapped (h : Hw) (i : Nat) : Bool :=
  let c := Config.counterField i
  h.wraps.contains ⟨c.1, c.2.1, c.2.2.1, c.2.2.2⟩

/-- The WRAP bytes of an image and of PC_WRAP. -/
def Hw.wrapBytes (h : Hw) : List Byte :=
  (List.range 768).map (fun k =>
    BitVec.ofNat 8 ((List.range 8).foldl (fun a b => a + b2n (h.counterWrapped (8 * k + b)) * 2 ^ b) 0))

/-- R338: the 99th-percentile bucket of a list's waiting times. -/
def p99 (s : ListStat) : Nat :=
  if s.disp = 0 then 0
  else
    let sumTo (b : Nat) : Nat := ((List.range (b + 1)).map (fun k => look s.hist k 0)).foldl (· + ·) 0
    ((List.range 24).find? (fun b => decide ((99 * s.disp + 99) / 100 ≤ sumTo b))).getD 23

/-- R338: SV_LIST_STAT takes the figures of the interval that ends; the next one begins. -/
def Hw.showStats (h : Hw) : Hw :=
  h.each (List.range 16) (fun h l =>
    let s := h.statAt l
    let h := (h.wr SV_LIST_STAT_MAX_DEPTH (satNat 16 s.maxDepth) l).wr SV_LIST_STAT_DISPATCHED (satNat 32 s.disp) l
    let h := (h.wr SV_LIST_STAT_WAIT_MEAN (if s.disp = 0 then 0 else satNat 32 (s.sum / s.disp)) l).wr SV_LIST_STAT_WAIT_MAX (satNat 32 s.max) l
    let h := (h.wr SV_LIST_STAT_PROMOTED (satNat 16 s.promoted) l).wr SV_LIST_STAT_WAIT_P99 (p99 s) l
    let h := (h.wr SV_LIST_STAT_OVF_DROP (satNat 32 s.drops) l).wr SV_LIST_STAT_BP_TICKS (satNat 32 s.bpTicks) l
    h.setStat l (fun s => { maxDepth := (h.listAt l).length, bp := s.bp }))

/-- R338: the load of a unit that was busy for `busy` of `all` core cycles. -/
def loadOf (busy all : Nat) : Nat := if all = 0 then 0 else min 0xFFFF (busy * 65536 / all)

/-- R338: SV_LOAD and SV_CORE_STATUS.LOAD, from the busy core cycles of engines 0 to 47 and cores 0 to 15. -/
def Hw.showLoads (h : Hw) (busy : List Nat) : Hw :=
  let all := h.pk.snapCyc
  let h := h.each (List.range 48) (fun h e => h.wr SV_LOAD_LOAD (loadOf (busy.getD e 0) all) e)
  h.each (List.range 16) (fun h k => h.wr SV_CORE_STATUS_LOAD (loadOf (busy.getD (48 + k) 0) all) k)

/-- The 32 bytes of SV_LIST_STAT[l]. -/
def Hw.statBytes (h : Hw) (l : Nat) : List Byte :=
  leBytes 32 ((RegName.SV_LIST_STAT).fields.foldl (fun a f => a + h.rd f l * 2 ^ f.lsb) 0)

/-- R377: the next enabled destination, in round-robin order. -/
def Hw.nextDump (h : Hw) : Option Nat :=
  ((List.range 16).map (fun k => (h.host.dumpNext + k) % 16)).find? (fun d => h.on HI_DUMP_ENABLE d)

/-- Bytes 0 to 63 of an image (Table 13-6). -/
def Hw.dumpHead (h : Hw) : List Byte :=
  leBytes 4 0x4E534350 ++ leBytes 4 h.pk.snapSeq ++ leBytes 8 h.tick ++ leBytes 6 h.nowSec ++ leBytes 2 0 ++
    leBytes 4 h.nowNs ++ leBytes 4 (h.rd HI_EPOCH_STATUS_CURRENT) ++ leBytes 2 (h.tick - h.pk.snapTick) ++
    leBytes 2 (satNat 16 h.pk.snapSkip) ++ leBytes 1 (h.rd TC_STATUS_SET + 2 * b2n h.pk.snapNew) ++ leBytes 26 0 ++ leBytes 1 0x5A

/-- An image that is not written: the skip is counted. -/
def Hw.dumpSkip (h : Hw) : Hw := (h.inc PC_STAT_SKIPPED).setPk (fun p => { p with snapSkip := p.snapSkip + 1 })

/-- R347, R348: the SNAPSHOT job writes the image to its destination. `full` are the destinations whose VALID byte
still reads 0x5A. -/
def Hw.dumpWrite (h : Hw) (full : List Nat) : Hw :=
  match h.nextDump with
  | none => h
  | some d =>
    if full.contains d then h.dumpSkip
    else
      let seq := h.pk.snapSeq
      let loads := (List.range 48).flatMap (fun e => leBytes 2 (h.rd SV_LOAD_LOAD e)) ++
        (List.range 16).flatMap (fun k => leBytes 2 (h.rd SV_CORE_STATUS_LOAD k))
      let tail := h.wrapBytes ++ (List.range 16).flatMap h.statBytes ++ loads
      let h := h.emit (.dump d h.dumpHead ((List.range 6144).map h.counterAt) tail)
      let h := { h with wraps := [], free := h.free + 6144, host := { h.host with dumpNext := (d + 1) % 16 } }
      let h := (h.setPk (fun p => { p with snapSeq := seq + 1, snapSkip := 0, snapNew := false })).wr PC_STAT_SEQ seq
      (h.eventDrop 5 0x0050 (leBytes 1 d ++ leBytes 3 0 ++ leBytes 4 seq ++ leBytes 4 0) []).vecNote (h.rd HI_DUMP_CFG_VECTOR)

/-- Whether the tick that begins is a snapshot tick (R347). -/
def Hw.snapDue (h : Hw) : Bool :=
  h.runs rgControl && bitOf (h.cfg PC_CFG_FLAGS) 0 && h.tick % max 1 (h.cfg PC_CFG_INTERVAL) == 0

/-- SNAPSHOT (R338, R347): the figures of the interval are taken and the image is written; a run that does not
finish is a skip (Table 1-7). -/
def Hw.snapshot (h : Hw) (ovr : Bool) (full busy : List Nat) : Hw :=
  let h := h.showStats.showLoads busy
  let h := if ovr then h.dumpSkip else h.dumpWrite full
  h.setPk (fun p => { p with snapTick := h.tick, snapCyc := 0 })

/-- What every tick adds to the figures of R338, at its end: its core cycles and the lists under back-pressure. -/
def Hw.statTick (h : Hw) : Hw :=
  let n := 194400 + h.clk.stretch
  let h := h.setPk (fun p => { p with snapCyc := p.snapCyc + n })
  h.each ((List.range 16).filter (fun l => (h.statAt l).bp)) (fun h l => h.setStat l (fun s => { s with bpTicks := s.bpTicks + 1 }))

end Sys2Proof.Machine
end

