-- ==== Sys2Proof/Machine/Recorder.lean ====
section
/-! DEFINITION. The boot flash as memory, the flash half of the event recorder (R420 to R425) and the host's flash
operations (R454). The RAM ring is in Ops. -/

namespace Sys2Proof.Machine

/-! ### The boot flash as memory -/

/-- What an unlisted address of the flash reads: an erased byte. -/
def erased : Byte := 0xFF

/-- One byte of the flash. -/
def flashAt (m : List Host.Cell) (a : Nat) : Byte := look m a erased

/-- One byte of the flash set; a byte that reads as erased is not listed. -/
def flashSet (m : List Host.Cell) (a : Nat) (b : Byte) : List Host.Cell :=
  match m with
  | [] => if b = erased then [] else [(a, b)]
  | (k, v) :: t =>
    if a < k then (if b = erased then (k, v) :: t else (a, b) :: (k, v) :: t)
    else if a = k then (if b = erased then t else (a, b) :: t)
    else (k, v) :: flashSet t a b

/-- The canonical form: addresses strictly rising, and no byte listed that reads as erased. -/
def flashWf : List Host.Cell → Bool
  | [] => true
  | [(_, v)] => v != erased
  | (k, v) :: (k', v') :: t => v != erased && decide (k < k') && flashWf ((k', v') :: t)

/-- A program clears bits and sets none (log entry 62, PRESUMED). -/
def flashProg (m : List Host.Cell) (a : Nat) : List Byte → List Host.Cell
  | [] => m
  | b :: t => flashProg (flashSet m a (flashAt m a &&& b)) (a + 1) t

/-- `n` bytes from address a read as erased. -/
def flashErase (m : List Host.Cell) (a n : Nat) : List Host.Cell := m.filter (fun c => decide (c.1 < a ∨ a + n ≤ c.1))

/-- `n` bytes from address a. -/
def flashRead (m : List Host.Cell) (a n : Nat) : List Byte := (List.range n).map (fun k => flashAt m (a + k))

/-! ### Slots of the log (R421, R423) -/

/-- The 64 bytes of a record (Table 15-5). -/
def recBytes (r : Rec) : List Byte :=
  leBytes 4 r.hours ++ leBytes 4 r.cycles ++ leBytes 8 r.tick ++ leBytes 6 r.sec ++ leBytes 4 (r.ns % 2 ^ 30 + r.valid % 2 * 2 ^ 31) ++
    leBytes 1 (r.sev % 8 + r.region % 8 * 16) ++ leBytes 2 r.source ++ leBytes 2 r.code ++
    (r.data ++ List.replicate 32 0).take 32 ++ [0x5A]

/-- Slots of the log area. -/
def logSlots : Nat := 32768

/-- Flash address of slot k. -/
def Hw.slotAddr (h : Hw) (k : Nat) : Nat := h.pw.logOfs + 64 * k

/-- The cells of the flash that lie in the log area. -/
def Hw.logCells (h : Hw) (n : NonVol) : List Host.Cell :=
  n.flash.filter (fun c => decide (h.pw.logOfs ≤ c.1 ∧ c.1 < h.pw.logOfs + 64 * logSlots))

/-- The slots that hold a record: byte 63 reads 0x5A. -/
def Hw.validSlots (h : Hw) (n : NonVol) : List Nat :=
  ((h.logCells n).filter (fun c => decide ((c.1 - h.pw.logOfs) % 64 = 63 ∧ c.2 = 0x5A))).map (fun c => (c.1 - h.pw.logOfs) / 64)

/-- The slots that are not erased. -/
def Hw.dirtySlots (h : Hw) (n : NonVol) : List Nat := ((h.logCells n).map (fun c => (c.1 - h.pw.logOfs) / 64)).eraseDups

/-- The first number from k, among `n`, that a list does not contain. -/
def firstFree (used : List Nat) (k : Nat) : Nat → Option Nat
  | 0 => none
  | n + 1 => if used.contains k then firstFree used (k + 1) n else some k

/-- R423: the lowest-numbered erased slot. -/
def Hw.erasedSlot (h : Hw) (n : NonVol) : Option Nat := firstFree (h.dirtySlots n) 0 logSlots

/-- R423: the victim of a record of severity `sev`. -/
def Hw.victim (h : Hw) (n : NonVol) (sev : Nat) : Option Nat :=
  let w (k o l : Nat) : Nat := leNat (flashRead n.flash (h.slotAddr k + o) l)
  let before (a b : Nat) : Bool :=
    decide (w a 4 4 < w b 4 4) || (w a 4 4 == w b 4 4 && (decide (w a 8 8 < w b 8 8) || (w a 8 8 == w b 8 8 && decide (a < b))))
  minBy? before ((h.validSlots n).filter (fun k => decide (w k 26 1 % 8 ≤ sev)))

/-! ### The flash writer (R422 to R424) -/

def Hw.setRcd (h : Hw) (f : RecorderSt → RecorderSt) : Hw := { h with rcd := f h.rcd }

/-- The flash can be used: boot has read the header, and main power is there. -/
def Hw.flashReady (h : Hw) : Bool := h.pw.logOfs != 0 && h.rd PW_STATUS_PSTATE != 3

/-- The recorder uses the flash: a write or a rewrite, or a log erase, is in progress. -/
def Hw.logBusy (h : Hw) : Bool := h.rcd.job.isSome || h.rcd.erasing.isSome

/-- The oldest uncommitted entry. -/
def Hw.oldestOpen (h : Hw) : Option (Nat × RingRec) :=
  match oldestEntry h.rcd.ring (fun e => !e.committed) with
  | some k => h.rcd.ring.find? (fun x => x.1 == k)
  | none => none

/-- The entry with sequence number `s` is committed. -/
def Hw.commitSeq (h : Hw) (s : Nat) : Hw :=
  h.setRcd (fun r => { r with ring := r.ring.map (fun x => if x.2.seq = s then (x.1, { x.2 with committed := true }) else x) })

/-- R424, step 2: the sector in the rewrite buffer is erased. -/
def Hw.rewriteErase (h : Hw) (n : NonVol) : NonVol :=
  match h.rcd.rewrite with
  | some (s, _) => { n with flash := flashErase n.flash (h.pw.logOfs + 4096 * s) 4096 }
  | none => n

/-- FLASH_RECORD_WRITE (R423, R424): the writer takes the oldest uncommitted entry. In an erased slot its body is
programmed; for a victim the sector goes to the rewrite buffer and is erased. -/
def Hw.logWrite (h : Hw) (n : NonVol) : Hw × NonVol :=
  if !h.flashReady || h.rcd.stopped || h.logBusy || h.pw.flashOp.isSome then (h, n)
  else
    match h.oldestOpen with
    | none => (h, n)
    | some (_, e) =>
      let b := recBytes e.r
      if e.r.sev < h.rd EV_CFG_FLASH_MIN ∧ e.r.code ≠ 0x8009 then (h.commitSeq e.seq, n)
      else
        match h.erasedSlot n with
        | some k =>
          (h.setRcd (fun r => { r with job := some (e.seq, k), tries := 0 }),
            { n with flash := flashProg n.flash (h.slotAddr k) (b.take 63) })
        | none =>
          match h.victim n e.r.sev with
          | none => ((h.inc EV_STATUS_DROPPED).commitSeq e.seq, n)
          | some k =>
            let img := splice (flashRead n.flash (h.pw.logOfs + 4096 * (k / 64)) 4096) (64 * (k % 64)) b
            let h := h.setRcd (fun r => { r with job := some (e.seq, k), rewrite := some (k / 64, img), tries := 0 })
            (h, h.rewriteErase n)

/-- LOG_WRITE_DONE (R424): the write in progress ends, or a step of it has exceeded 4 times its time (`slow`): the
first time it is repeated, after the second the writer stops until the next reset. -/
def Hw.logWriteDone (h : Hw) (n : NonVol) (slow : Bool) : Hw × NonVol :=
  match h.rcd.job with
  | none => (h, n)
  | some (s, k) =>
    if slow then
      let h := h.wr EV_STATUS_FLASH_ERR 1
      if h.rcd.tries = 0 then (h.setRcd (fun r => { r with tries := 1 }), h.rewriteErase n)
      else (h.setRcd (fun r => { r with job := none, stopped := true }), n)
    else
      let flash := match h.rcd.rewrite with
        | some (sec, img) => flashProg n.flash (h.pw.logOfs + 4096 * sec) img
        | none => flashProg n.flash (h.slotAddr k + 63) [0x5A]
      ((h.setRcd (fun r => { r with job := none, rewrite := none, tries := 0 })).commitSeq s, { n with flash := flash })

/-- R424: a rewrite that a loss of main power interrupted is repeated from step 2. -/
def Hw.rewriteResume (h : Hw) (n : NonVol) : Hw × NonVol :=
  match h.rcd.rewrite with
  | some (s, _) =>
    let seq := (h.oldestOpen.map (fun x => x.2.seq)).getD h.rcd.made
    (h.setRcd (fun r => { r with job := some (seq, 64 * s), tries := 0 }), h.rewriteErase n)
  | none => (h, n)

/-! ### Reading and erasing (R425) -/

/-- EV_RECORD_READ (R425): a write of EV_RD_CTRL. -/
def Hw.recordRead (h : Hw) (v : Nat) : Hw :=
  let h := h.writeWord .EV_RD_CTRL 0 v 0 0
  if bitOf v 29 then ((h.wr EV_RD_CTRL_DONE 0).wr EV_RD_CTRL_EMPTY 0).setRcd (fun r => { r with readWait := true }) else h

/-- EV_READ_DONE (R425): the record asked for is in EV_RD_DATA; a log slot waits for the flash. An entry that has held
no record gives a free value. -/
def Hw.readDone (h : Hw) (n : NonVol) : Hw :=
  let k := h.rd EV_RD_CTRL_INDEX
  let give (h : Hw) (v : Nat) (empty : Bool) : Hw :=
    (((h.wr EV_RD_DATA_DATA v).wrB EV_RD_CTRL_EMPTY empty).wr EV_RD_CTRL_DONE 1).setRcd (fun r => { r with readWait := false })
  if !h.rcd.readWait then h
  else if h.on EV_RD_CTRL_RING then
    match h.rcd.ring.find? (fun x => x.1 == k) with
    | some e => give h (leNat (recBytes e.2.r)) false
    | none => let (v, h) := h.takeFree; give h v true
  else if h.logBusy || h.pw.flashOp.isSome then h
  else if k < logSlots then
    give h (leNat (flashRead n.flash (h.slotAddr k) 64)) (flashAt n.flash (h.slotAddr k + 63) != 0x5A)
  else let (v, h) := h.takeFree; give h v true

/-- EV_LOG_ERASE (R425): a write of EV_CTRL. -/
def Hw.logErase (h : Hw) (n : NonVol) (v : Nat) : Hw :=
  if bitOf v 0 = true ∧ bits v 16 16 = 0xE5A5 ∧ h.flashReady = true ∧ h.rcd.erasing = none then
    h.setRcd (fun r => { r with erasing := some (h.validSlots n).length })
  else h

/-- LOG_ERASE_DONE (R425): the log is erased, and LOG_ERASED stands in slot 0. -/
def Hw.logEraseDone (h : Hw) (n : NonVol) : Hw × NonVol :=
  match h.rcd.erasing with
  | none => (h, n)
  | some k =>
    if h.rcd.job.isSome then (h, n)
    else
      let r := h.mkRec sevNotice 0x2020 0x8009 (leBytes 4 k)
      let made := h.rcd.made
      let h := (h.setRcd (fun r => { r with erasing := none })).record sevNotice 0x2020 0x8009 (leBytes 4 k)
      let flash := flashErase n.flash h.pw.logOfs (64 * logSlots)
      (h.commitSeq made, { n with flash := flashProg flash (h.slotAddr 0) (recBytes r) })

/-! ### Operating hours (R420) -/

/-- OP_HOURS_TICK (R420): a unit of 1/16 h has passed; every 16 units are written to the flash. -/
def Hw.opHours (h : Hw) (n : NonVol) : Hw × NonVol :=
  if h.rcd.hourTick < 1800000 then (h, n)
  else
    let u := h.rd EV_HOURS_OP_HOURS + 1
    let h := (h.setRcd (fun r => { r with hourTick := r.hourTick - 1800000 })).wr EV_HOURS_OP_HOURS u
    (h, if u % 16 = 0 ∧ h.flashReady = true then { n with hours := u } else n)

/-! ### Host flash operations (R454) -/

/-- Size of an erase; 0 for the other operations. -/
def eraseSize (op : Nat) : Nat := if op = 2 then 4096 else if op = 3 then 65536 else 0

/-- R454: a program or erase touches the log area or the operating-data sector. -/
def Hw.flashOwn (h : Hw) (a n : Nat) : Bool :=
  let hit (o l : Nat) : Bool := decide (a < o + l ∧ o < a + n)
  hit h.pw.logOfs (64 * logSlots) || hit h.pw.opOfs 4096

/-- R454: why an operation is refused. -/
def Hw.flashDenied (h : Hw) (op key a len : Nat) : Bool :=
  let n := if op = 1 then len else eraseSize op
  (op != 0 && (key != 0xF1A5 || (!h.on PW_BOOT_STATUS_RECOVERY && h.flashOwn a n))) ||
  (op == 1 && decide (256 < a % 256 + len)) || (decide (2 ≤ op) && a % eraseSize op != 0)

/-- FLASH_READ, FLASH_PROGRAM, ERASE_4K, ERASE_64K (R454): a write of GL_FLASH_CTRL. GO while BUSY is dropped (log
entry 63, DESIGN CHOICE). -/
def Hw.flashCtrl (h : Hw) (v : Nat) : Hw :=
  let h := h.writeWord .GL_FLASH_CTRL 0 v 0 0
  let op := if h.rd GL_FLASH_CTRL_OP ≤ 3 then h.rd GL_FLASH_CTRL_OP else 0
  let a := h.rd GL_FLASH_ADDR_ADDR
  let len := h.rd GL_FLASH_CTRL_LEN + 1
  if bitOf v 15 = false ∨ h.on GL_FLASH_CTRL_BUSY = true then h
  else if h.flashDenied op (bits v 16 16) a len then h.wr GL_FLASH_CTRL_DENIED 1
  else
    let d := (leBytes 256 (h.rd GL_FLASH_BUF_BUF)).take len
    { (h.wr GL_FLASH_CTRL_BUSY 1) with pw := { h.pw with flashOp := some (op, a, len, d) } }

/-- FLASH_OP_DONE (R454): the host operation, which waits for the recorder's rewrite or erase, ends; `slow` says that
it exceeded 4 times its time. -/
def Hw.flashDone (h : Hw) (n : NonVol) (slow : Bool) : Hw × NonVol :=
  match h.pw.flashOp with
  | none => (h, n)
  | some (op, a, len, d) =>
    if h.logBusy then (h, n)
    else
      let h := { h with pw := { h.pw with flashOp := none } }
      let h := (h.wr GL_FLASH_CTRL_BUSY 0).when slow (fun h => h.wr GL_FLASH_CTRL_ERR 1)
      if op = 0 then
        (h.wr GL_FLASH_BUF_BUF (leNat (splice (leBytes 256 (h.rd GL_FLASH_BUF_BUF)) 0 (flashRead n.flash a len))), n)
      else if op = 1 then (h, { n with flash := flashProg n.flash a d })
      else (h, { n with flash := flashErase n.flash a (eraseSize op) })

end Sys2Proof.Machine
end

