-- ==== Sys2Proof/Machine/Regions.lean ====
section
/-! DEFINITION. Regions: their reset domains, stopping, reload, enable and start (R18, R397 to R402, R448 to
R450, R455). -/

namespace Sys2Proof.Machine

/-! ### Reset domains (Table 17-8, R455) -/

/-- The field that a key names. -/
def FKey.fld? (k : FKey) : Option Fld := k.reg.fields.find? (fun f => f.lsb == k.lsb)

/-- The reset domain of a stored field. -/
def FKey.dom (k : FKey) : Dom :=
  match k.fld? with
  | some f => f.dom
  | none => .none

/-- The region whose window holds instance i of a register. -/
def regionOf (r : RegName) (i : Nat) : Nat :=
  match r.spans.find? (fun s => decide (s.first ≤ i ∧ i < s.first + s.n1)) with
  | some s => s.reg
  | none => 0

/-- What a reload of CONTROL keeps of its registers (R15; log entry 64, DEDUCED): ring processing resumes from the indices,
and the epochs and the host's set-up of its rings stay. -/
def FKey.kept (k : FKey) : Bool :=
  match k.reg with
  | .HI_CFG | .HI_DB_BASE | .HI_SUM_BASE | .HI_HEAD_BASE | .HI_EPOCH_CFG | .HI_EVT_ROUTE | .HI_DUMP | .HI_DUMP_CFG | .HI_VEC => true
  | .HI_EPOCH_STATUS => k.lsb != HI_EPOCH_STATUS_DRAIN_DROP.lsb
  | .HI_RING => k.lsb != HI_RING_DROPS.lsb
  | .HD_EST_RES => true
  | _ => false

/-- The registers of the domains that `p` names read their reset values. -/
def Hw.clearRegs (h : Hw) (p : FKey → Bool) : Hw :=
  { h with
    regs := h.regs.filter (fun x => !p x.1)
    latch := h.latch.filter (fun x => !x.1.reg.fields.any (fun f => p (f.key x.1.i x.1.j)))
    stage := h.stage.filter (fun x => !p x.1) }

/-- A reset of region r: its own domain, but for what a reload keeps. -/
def Hw.clearRegion (h : Hw) (r : Nat) : Hw :=
  h.clearRegs (fun k => k.dom == .region && regionOf k.reg k.i == r && !k.kept)

/-! ### What a reset of each region loses (Table 15-1) -/

/-- LINE: receivers, maps, bursts, herds, whose members are loaded (R100); the estimator's results stay where retention banks keep them (R445). -/
def Hw.lineLose (h : Hw) (keep : Bool) : Hw :=
  let h := h.burstsSilence
  let old := h.herd
  let h := { h with rx := [], map := [], up := [], ptr := [], herd := [] }
  let h := h.setPk (fun p => { p with firstOk := 3, failFrom := [], okFrom := [] })
  h.each [0, 1] (fun h a =>
    let e := look old a {}
    let h := h.actStart a
    let h := if keep then h.setHerd a (fun x => { x with
        started := e.started, applied := e.applied, appMode := e.appMode, dofs := e.dofs, fellBack := e.fellBack
        twins := e.twins, streak := e.streak })
      else { h with regs := h.regs.filter (fun x => !(x.1.reg == .HD_EST_RES && x.1.i == a)) }
    let mem := h.rd HD_HERD_CFG_MEMBERS_PEND a
    let h := h.wr HD_HERD_CFG_MEMBERS (if h.on LN_RX_CTRL_MODE a 0 then putBit mem 0 false else mem) a
    h.overrideTake a)

/-- PORTW, PORTE: lanes, MACs and responder queues; the quads are in service again after the reset. -/
def Hw.portLose (h : Hw) (r : Nat) : Hw :=
  let h := (h.portReset r).tsReset r
  h.wr QUADS_OUT_OUT (putBits (h.rd QUADS_OUT_OUT) (16 * (r - rgPortW)) 16 0)

/-- The frames in engines, queues and staging, and those that wait for an engine, are lost. -/
def Hw.framesLose (h : Hw) : Hw :=
  let qs := h.pk.queues.map Prod.fst
  let ks := h.pk.stages.map Prod.fst
  let h := h.setPk (fun p => { p with
    lists := p.lists.map (fun l => (l.1, l.2.filter (fun i => i.work.frame?.isNone)))
    svc := p.svc.filter (fun x => decide (48 ≤ x.1)), passes := [], waits := []
    order := p.order.map (fun o => (o.1, o.2.filter (fun id => p.svc.any (fun x => decide (48 ≤ x.1) && x.2.id == id))))
    queues := [], stages := [], usage := [], copies := [] })
  let h := { h with ks := { h.ks with waits := [], works := h.ks.works.filter (fun w => w.frame.isNone) } }
  (({ h with toHost := [] }).each qs Hw.showQueue).each ks Hw.showStage

/-- PACKET: its frames, the tables and the cipher work; the key store and the bridge stay. -/
def Hw.packetLose (h : Hw) : Hw :=
  let h := h.poolsPacket.framesLose
  let h := h.setPk (fun p => { p with
    tables := [], excCred := [], nodes := [], credits := [], buckets := [], seqGen := [], rcv := [], gaps := [] })
  let h := { h with ks := { h.ks with works := [] } }
  let h := { h with sf := { h.sf with errLog := h.sf.errLog.filter (fun e => e.1.1 / 0x1000 != rgPacket) } }
  let h := (h.wr PP_TBL_SEED_SEED_H1 (h.rd PP_TBL_SEED_SEED_H1_PEND)).wr PP_TBL_SEED_SEED_H2 (h.rd PP_TBL_SEED_SEED_H2_PEND)
  h.ksSettle

/-- MEMORY: pool contents, the bridge and every frame queued in PACKET. -/
def Hw.memoryLose (h : Hw) : Hw :=
  h.poolsEmpty.bridgeLost.framesLose.ksSettle.setMem (fun m => { m with places := [], migr := none, poison := [], scrubAt := 0 })

/-- CONTROL: dispatcher lists, items in service on cores and firmware's own state. -/
def Hw.controlLose (h : Hw) : Hw :=
  let h := h.each (h.pk.lists.flatMap (fun l => l.2.filterMap (fun i => i.work.frame?))) (fun h f => h.freed f)
  let h := h.each (h.pk.svc.filterMap (fun x => if 48 ≤ x.1 then x.2.work.frame? else none)) (fun h f => h.bufFree f)
  let h := h.setPk (fun p => { p with
    lists := [], stats := [], svc := p.svc.filter (fun x => decide (x.1 < 48)), arbs := [], fwUp := none
    waits := p.waits.filter (fun w => w.2.1 == 0)
    order := p.order.map (fun o => (o.1, o.2.filter (fun id =>
      p.svc.any (fun x => decide (x.1 < 48) && x.2.id == id) || p.waits.any (fun w => w.1 == id && w.2.1 == 0))))
    snapNew := true, snapSeq := 0, samples := 0 })
  let h := h.each [0, 1] (fun h a => h.setAct a (fun s => { s with omci := [] }))
  let h := { h with host := { h.host with vecs := [], groups := [] } }
  (h.tsReset rgControl).pmSuspect

/-- What a reset of region r loses; `keep` says that its retention banks kept their state. -/
def Hw.regionLose (h : Hw) (r : Nat) (keep : Bool) : Hw :=
  let h := h.clearRegion r
  let h := h.setRegion r (fun s => { s with isolated := [], cells := [], missed := 0 })
  if r = rgLine then h.lineLose keep
  else if r = rgPortW ∨ r = rgPortE then h.portLose r
  else if r = rgPacket then h.packetLose
  else if r = rgMemory then h.memoryLose
  else if r = rgControl then h.controlLose
  else h

/-! ### Stopping and powering off -/

/-- The enable of region r (Table 17-5). -/
def Hw.regionEnabled (h : Hw) (r : Nat) : Bool :=
  if r = rgLine then h.on GL_REGION_CTRL_EN_LINE
  else if r = rgPortW then h.on GL_REGION_CTRL_EN_PORTW
  else if r = rgPortE then h.on GL_REGION_CTRL_EN_PORTE
  else if r = rgPacket then h.on GL_REGION_CTRL_EN_PACKET
  else if r = rgMemory then h.on GL_REGION_CTRL_EN_MEMORY
  else true

/-- SF_REGION[r].STATE. -/
def Hw.setState (h : Hw) (r st : Nat) : Hw := h.wr SF_REGION_STATE st r

/-- PW_STATUS.READY of region r. -/
def Hw.setReady (h : Hw) (r : Nat) (b : Bool) : Hw := h.wr PW_STATUS_READY (putBit (h.rd PW_STATUS_READY) r b)

/-! ### Balls of the general bank that the state drives (R93, R443, R461, R463) -/

/-- What INT_N shows while CONTROL drives it (Table 18-4, note b). -/
def Hw.intWant (h : Hw) : Bool := h.on SF_STATUS_GLOBAL || h.rd SF_LEVEL_LEVEL != 0 || h.on PW_STATUS_PWR_FAULT

/-- R443: the level that INT_N keeps in MODE LAST. -/
def Hw.padLatch (h : Hw) : Hw :=
  if h.on PW_PAD_CFG_HELD rgControl then h else { h with pw := { h.pw with intLast := h.intWant } }

/-- R461: VDDIO_GP is off: a rail that feeds it is switched off, or no supply is present. -/
def Hw.gpOff (h : Hw) : Bool :=
  !h.pw.vddFawn || (List.range 8).any (fun i => h.rd PW_RAIL_SUPPLY i == 6 && look h.pw.railOff i false)

/-- The level of INT_N, an open-drain ball of CONTROL. -/
def Hw.intN (h : Hw) : PadLevel :=
  let on := if h.on PW_PAD_CFG_HELD rgControl then !h.on PW_PAD_CFG_MODE rgControl && h.pw.intLast else h.intWant
  if on && !h.gpOff then .low else .open

/-- The level of BURST_EN of upstream channel k (R91, R93): held pads make no difference. -/
def Hw.burstPad (h : Hw) (k : Nat) : PadLevel :=
  let on := (look h.up k {}).en && h.runs rgLine && h.rd PW_STATUS_PSTATE != 3
  if h.gpOff then .open else if on != h.on LN_TX_CTRL_EN_POL (k / 2) (k % 2) then .high else .low

/-- R401, step 1: the region stops admitting work and its pads are held (R443). -/
def Hw.regionStop (h : Hw) (r : Nat) : Hw :=
  let h := h.when (r == rgControl) Hw.padLatch
  let h := ((h.setState r stStopped).setReady r false).wr PW_PAD_CFG_HELD 1 r
  if r = rgLine then h.burstsSilence else h

/-- R445: the banks of a logic that stops are signed: LINE owns banks 3 to 6. -/
def Hw.signBanks (h : Hw) (l : List Nat) : Hw :=
  { h with pw := { h.pw with signed := l.foldl (fun v b => putBit v b true) h.pw.signed } }

/-- A region is powered off (R448, Table 15-2): its state is GATED and its pads stay held until released (R444). -/
def Hw.regionOff (h : Hw) (r : Nat) : Hw :=
  let h := (h.regionStop r).regionLose r true
  let h := (h.setState r stGated).setRegion r (fun s => { s with powered := false, offPend := false })
  let h := { h with pw := { h.pw with padOff := putBit h.pw.padOff r true } }
  let h := { h with sf := { h.sf with wantReload := h.sf.wantReload.filter (fun x => x.1 != r) } }
  if r = rgLine then h.signBanks [3, 4, 5, 6] else h

/-- The tick boundary after a clear of an enable (R448). -/
def Hw.offBoundary (h : Hw) : Hw :=
  h.each ([rgLine, rgPortW, rgPortE, rgPacket, rgMemory].filter (fun r => (h.regionAt r).offPend)) Hw.regionOff

/-! ### Reload (R18, R401, R402) -/

/-- Ticks in 60 s. -/
def minute : Nat := 480000

/-- The automatic reloads of region r in the last 60 s. -/
def Hw.recentAutos (h : Hw) (r : Nat) : List Nat := (h.regionAt r).autos.filter (fun t => decide (h.tick < t + minute))

/-- R18: the region reports to the chip. -/
def Hw.regionFail (h : Hw) (r : Nat) : Hw := (h.regionStop r).setState r stFailed

/-- A reload that was asked for begins at a microtick boundary: a host request (cause 2) always, an automatic one
within R18. The region stops and the pending epoch is discarded (R394). -/
def Hw.reloadStart (h : Hw) (r cause : Nat) : Hw :=
  let st := h.regionState r
  let ovr := cause != 2 && (decide (2 ≤ (h.recentAutos r).length) || h.on SF_REGION_AUTO_DIS r)
  if r = rgFawn ∨ r = 0 ∨ r > 7 ∨ (h.regionAt r).offPend = true then h
  else if st ≠ stRun ∧ ¬ (cause = 2 ∧ st = stFailed) then h
  else if ovr then h.regionFail r
  else
    let h := (h.regionStop r).setRegion r (fun s => { s with
      began := h.tick, cause := cause, autos := if cause = 2 then h.recentAutos r else h.recentAutos r ++ [h.tick] })
    let h := if r = rgControl then { h with sf := { h.sf with ctlFrom := some h.clk.ut } } else h
    h.epochReload

/-- The reloads asked for begin, in order of their requests. -/
def Hw.reloadsStart (h : Hw) : Hw :=
  let l := h.sf.wantReload
  ({ h with sf := { h.sf with wantReload := [] } }).each l (fun h x => h.reloadStart x.1 x.2)

/-- A region is reset, loads its pending fields (R450) and its blocks run their self-tests: a reload (causes 1 to 4) is
counted and recorded, a start (cause 0) is not. `bad` marks the LPDDR6 channels whose training fails. -/
def Hw.regionBegin (h : Hw) (r cause bad : Nat) (keep : Bool) : Hw :=
  let (h, fail) := if r = rgMemory then (h.regionLose r keep).memLoad bad else (h.regionLose r keep, false)
  let want := (List.range 8).filter (fun c => bitOf (h.rd BM_MEM_CFG_CH_EN_PEND) c && c != h.rd BM_MEM_CFG_SPARE_PEND)
  let h := if r = rgMemory then { h with sf := { h.sf with memLost := decide (h.rd BM_MEM_GEOM_N_ACTIVE < want.length) } } else h
  let h := h.setRegion r (fun s => { s with began := if cause = 0 ∨ cause = 4 then h.tick else s.began, cause := cause, powered := true, wake := none })
  let n := (h.regionAt r).all.filter (fun t => decide (h.tick < t + minute)) ++ [h.tick]
  let h := if cause = 0 then h
    else (((h.setRegion r (fun s => { s with all := n })).inc SF_REGION_RELOADS r).wr SF_REGION_LAST_CAUSE cause r).record
      sevMajor (0x1000 * r) 0x8005 (leBytes 1 r ++ leBytes 1 cause ++ leBytes 1 (min 255 n.length))
  if fail then h.regionFail r else h.setState r stReloading

/-- REGION_RELOAD (R401, step 2): region r, which has stopped, is reset. -/
def Hw.regionReload (h : Hw) (r bad : Nat) : Hw :=
  if h.rd SF_REGION_STATE r = stStopped ∧ (h.regionAt r).offPend = false ∧ 1 ≤ r ∧ r ≤ 7 ∧ r ≠ rgFawn then
    h.regionBegin r (h.regionAt r).cause bad false
  else h

/-- The cells that pass their self-tests are in service. -/
def Hw.inServiceAll (h : Hw) (r : Nat) : Hw :=
  if r = rgPacket then
    ((h.wr PP_ENG_STATUS_ENG_IN_SERVICE (2 ^ 48 - 1)).wr PP_ENG_STATUS_CLU_IN_SERVICE 63).wr CX_LANE_STATUS_IN_SERVICE (2 ^ 128 - 1)
  else if r = rgLine then
    h.each [0, 1] (fun h a => h.each [0, 1, 2, 3] (fun h c => h.when (h.on LN_RX_CTRL_ENABLE a c) (fun h => h.rxStart a c)))
  else if r = rgControl then h.coresStart
  else h

/-- Commands in progress when CONTROL reloaded complete after it (R372), but for those of an epoch that lives on. -/
def Hw.dropOpens (h : Hw) : Hw :=
  h.completeOpen (fun o => o.opcode != 0x13 && o.opcode != 0x15) stTimeout 6 0

/-- R444: pads held for a reload without a power-off are released at ready when AUTO_REL is 1. -/
def Hw.padsReady (h : Hw) (r : Nat) : Hw :=
  if h.on PW_PAD_CFG_AUTO_REL r && !bitOf h.pw.padOff r then h.wr PW_PAD_CFG_HELD 0 r else h

/-- Whether TIME-ONLY is held. -/
def Hw.timeOnly (h : Hw) : Bool := h.rd SF_LEVEL_HELD == 2

/-- A region whose reload succeeds while TIME-ONLY is held ends the cause it gave (R405) and is switched off again. -/
def Hw.healedOff (h : Hw) (r : Nat) : Hw :=
  let c := if r = rgPacket then 3 else 4
  ({ h with sf := { h.sf with toCauses := h.sf.toCauses.filter (· != c) } }).regionOff r

/-- The region's record REGION_READY and its duration (R401, step 4). -/
def Hw.readyRecord (h : Hw) (r : Nat) : Hw :=
  let d := h.tick - (h.regionAt r).began
  let h := if (h.regionAt r).cause = 0 then h else h.wr SF_REGION_LAST_TICKS (min d (2 ^ 24 - 1)) r
  h.record sevNotice (0x1000 * r) 0x8006 (leBytes 1 r ++ leBytes 3 0 ++ leBytes 4 d)

/-- REGION_READY (R401, steps 3 and 4; R394, R434): region r, whose self-tests have passed, is ready at a tick boundary.
PACKET starts once MEMORY is ready. -/
def Hw.regionUp (h : Hw) (r : Nat) : Hw :=
  if h.rd SF_REGION_STATE r ≠ stReloading ∨ (r = rgPacket ∧ h.runs rgMemory = false ∧ h.timeOnly = false) then h
  else
    let h := ((h.setState r stRun).setReady r true).readyRecord r
    if h.timeOnly && (r == rgPacket || r == rgMemory) then h.healedOff r
    else
      let h := (h.padsReady r).inServiceAll r
      let h := if r = rgControl then ({ h with sf := { h.sf with ctlFrom := none } }).dropOpens else h
      let h := if r = rgMemory then h.poolsRefill else h
      let h := if r = rgPacket then h.groupsRestart else h
      h.reapply r

/-- Table 15-1: the bound to ready of region r in ticks. -/
def reloadBound (r : Nat) : Nat :=
  if r = rgLine then 800 else if r = rgPortW ∨ r = rgPortE then 400 else if r = rgPacket then 1600
  else if r = rgMemory then 480 else 4000

/-- RELOAD_TIMEOUT (R401): a reload that is not ready within its bound has failed. -/
def Hw.reloadTimeout (h : Hw) (r : Nat) : Hw :=
  let st := h.rd SF_REGION_STATE r
  if (st = stReloading ∨ st = stStopped) ∧ (h.regionAt r).offPend = false ∧ (h.regionAt r).began + reloadBound r < h.tick then
    h.regionFail r
  else h

/-- SF_REGION_RELOAD_WRITE (R402, Table 15-11): a write of the word that holds RELOAD and AUTO_DIS. -/
def Hw.reloadWrite (h : Hw) (r v : Nat) : Hw :=
  let h := h.writeWord .SF_REGION 2 v r 0
  let st := h.regionState r
  if bitOf v 0 && r != rgFawn && st != stReloading && st != stGated then h.askReload r 2 else h

/-- REGION_WATCHDOG_TRIP (R398): region r has missed 2 acknowledgements in a row; FAWN cannot reload. -/
def Hw.watchdogTrip (h : Hw) (r : Nat) : Hw :=
  if r = rgFawn then h.detect 8 scopeGlobal 0
  else if h.runs r && 1 ≤ r && r ≤ 7 then (h.setRegion r (fun s => { s with missed := 2 })).askReload r 3
  else h

/-! ### Enables (R448, R449) -/

/-- A clear of the enable of region r: it stops, a reload of it is abandoned, and it is off at the tick boundary. -/
def Hw.disableRegion (h : Hw) (r : Nat) : Hw :=
  let s := h.regionAt r
  let st := h.rd SF_REGION_STATE r
  let h := { h with sf := { h.sf with wantReload := h.sf.wantReload.filter (fun x => x.1 != r) } }
  let h := if (st = stStopped ∨ st = stReloading) ∧ s.began = h.tick ∧ s.cause ≠ 0 then
      let h := if st = stReloading then h.wr SF_REGION_RELOADS (h.rd SF_REGION_RELOADS r - 1) r else h
      h.setRegion r (fun s => { s with autos := if s.cause = 2 then s.autos else s.autos.dropLast })
    else h
  if s.powered then (h.regionStop r).setRegion r (fun s => { s with offPend := true, wake := none })
  else h.setRegion r (fun s => { s with wake := none })

/-- A set of the enable of region r: it wakes, unless TIME-ONLY sheds it. -/
def Hw.enableRegion (h : Hw) (r : Nat) : Hw := h.setRegion r (fun s => { s with wake := some 0 })

/-- REGION_ENABLE_WRITE (R448, Table 17-5). -/
def Hw.enableWrite (h : Hw) (v : Nat) : Hw :=
  let h' := h.writeFld GL_REGION_CTRL_EN_REJ 0 v 0 0
  if bitOf v rgPacket && !bitOf v rgMemory then h'.wr GL_REGION_CTRL_EN_REJ 1
  else
    let rs := [rgLine, rgPortW, rgPortE, rgPacket, rgMemory]
    let off := rs.filter (fun r => h.regionEnabled r && !bitOf v r)
    let on := rs.filter (fun r => !h.regionEnabled r && bitOf v r)
    ((h.writeWord .GL_REGION_CTRL 0 v 0 0).each off Hw.disableRegion).each on Hw.enableRegion

/-- A region may wake: it is enabled, powered off, and not shed by TIME-ONLY. -/
def Hw.mayWake (h : Hw) (r : Nat) : Bool :=
  h.regionEnabled r && !(h.regionAt r).powered && !(h.timeOnly && (r == rgPacket || r == rgMemory))

end Sys2Proof.Machine
end

