-- ==== Sys2Proof/Machine/Supervision.lean ====
section
/-! DEFINITION. The safety manager: reactions, recovery, operating levels, the cross-check, the self-check and
injections (R397 to R418). -/

namespace Sys2Proof.Machine

/-- Replace the safety manager's state. -/
def Hw.setSf (h : Hw) (f : SafetySt → SafetySt) : Hw := { h with sf := f h.sf }

/-! ### Detections at a tick boundary (R408, R409, R413, R414) -/

/-- R409: the finding of the tick that ends becomes that of the previous tick. -/
def Hw.rollDetections (h : Hw) : Hw :=
  h.setSf (fun s => { s with dets := s.dets.map (fun (x : (Nat × Nat) × DetSt) =>
    (x.1, { x.2 with now := false, last := x.2.now, absent := if x.2.now then 0 else x.2.absent + 1 })) })

/-- Classes latched in SF_STATUS. -/
def Hw.latched (h : Hw) : List Nat := ((List.range 14).drop 1).filter (fun k => bitOf (h.rd SF_STATUS_CLASS) (k - 1))

/-- R414: class k has been absent for 8,000 consecutive ticks. -/
def Hw.classAbsent (h : Hw) (k : Nat) : Bool :=
  (h.sf.dets.filter (fun x => x.1.1 == k)).all (fun x => !x.2.now && decide (8000 ≤ x.2.absent)) &&
  (if k = 1 then !h.on TC_STATUS_LS_FAULT else if k = 6 then h.rd SF_DIAG_COMPUTED == h.rd SF_DIAG_REFERENCE else true)

/-- SF_ACK (R414): an ACK while a latched class is still present is dropped and sets ACK_REJ. -/
def Hw.sfAck (h : Hw) : Hw :=
  if h.latched.any (fun k => !h.classAbsent k) then h.wr SF_STATUS_ACK_REJ 1
  else if h.on SF_STATUS_GLOBAL || h.sf.hostSafe then h.setSf (fun s => { s with acked := true })
  else h

/-- R414: an acknowledged reaction, or a SAFE of the host, ends at the tick boundary; SF_CLEARED is written. -/
def Hw.reactionEnd (h : Hw) : Hw :=
  if h.sf.acked then
    let c := h.rd SF_STATUS_CLASS
    let h := h.setSf (fun s => { s with acked := false, hostSafe := false })
    ((h.wr SF_STATUS_CLASS 0).wr SF_STATUS_GLOBAL 0).record sevNotice 0x2003 0x8003 (leBytes 2 (2 * c))
  else h

/-- R413: the reactions asked for take effect: a global one is latched, a port is FAULTY, a pin goes to high impedance. -/
def Hw.reactions (h : Hw) : Hw :=
  let q := h.sf.reactReq
  let ports := h.sf.reactPorts
  let pins := h.sf.reactPins
  let h := h.setSf (fun s => { s with reactReq := 0, reactPorts := [], reactPins := [] })
  let h := h.when (q != 0) (fun h => (h.wr SF_STATUS_GLOBAL 1).wr SF_STATUS_CLASS (h.rd SF_STATUS_CLASS ||| (q / 2)))
  let h := h.each ports (fun h i => h.tsFault i false)
  h.each pins (fun h p => ((h.wr SF_DIAG_PIN_FAULT (putBit (h.rd SF_DIAG_PIN_FAULT) p true)).setSf
    (fun s => { s with pinHiZ := putBit s.pinHiZ p true })).pinRefresh p)

/-! ### Operating levels (R403 to R406, Table 15-2) -/

/-- The entries of a power state in the counters of R438. -/
def Hw.countEntry (h : Hw) (s : Nat) : Hw := h.inc PW_ENTRY_CNT_ENTERED s

/-- PW_STATUS.PSTATE (Table 16-6); P3 stays until a start. -/
def Hw.showPstate (h : Hw) : Hw :=
  if h.rd PW_STATUS_PSTATE = 3 then h
  else if h.timeOnly then h.wr PW_STATUS_PSTATE 2
  else h.wr PW_STATUS_PSTATE (if (List.range 50).any (fun k => h.rd PW_BLK_STATE_STATE k != 0) then 1 else 0)

/-- R404: the attachment kept in TIME-ONLY. -/
def Hw.keptAtt (h : Hw) : Nat :=
  let sel := h.rd TC_STATUS_SEL
  if (sel = 1 ∨ sel = 2) ∧ h.cfg TC_SRC 0 (sel - 1) = 1 then sel - 1 else h.clk.prefA

/-- The blocks of attachment a in LINE are switched off (Table 15-2). -/
def Hw.attOff (h : Hw) (a : Nat) : Hw :=
  let h := (h.burstsStop a).each (upsOf a) (fun h k => h.burstEn k false)
  h.each [0, 1, 2, 3] (fun h c => h.when (h.rd LN_RX_STATUS_STATE a c != rxOff) (fun h => h.rxPowerDown a c))

/-- They are switched on again: the enabled receivers run their self-tests. -/
def Hw.attOn (h : Hw) (a : Nat) : Hw :=
  h.each [0, 1, 2, 3] (fun h c => h.when (h.on LN_RX_CTRL_ENABLE a c && h.runs rgLine) (fun h => h.rxStart a c))

/-- A voltage request or OPERATION write is queued; the first is sent at once (R440). -/
def Hw.vreq (h : Hw) (v : VReq) : Hw :=
  let first := h.pw.vreqs.isEmpty
  let h := { h with pw := { h.pw with vreqs := h.pw.vreqs ++ [{ v with due := h.clk.ut + 1280 }] } }
  h.when first (fun h => h.emit (.pmbus v.rail v.kind v.mv))

/-- The regulator that takes AVS requests. -/
def Hw.avsRail (h : Hw) : Nat := ((List.range 8).find? (fun i => h.on PW_RAIL_AVS i)).getD 0

/-- R440: VDD_CORE goes to the target of an operating point, for `waiter`. -/
def Hw.coreTarget (h : Hw) (mv waiter : Nat) : Hw :=
  if h.rd PW_AVS_TARGET_MV = mv then h
  else (h.wr PW_AVS_TARGET_MV mv).vreq { rail := h.avsRail, mv := mv, kind := 0, waiter := waiter }

/-- TIME-ONLY is entered: PACKET, MEMORY and the other attachment are switched off, then the voltage is lowered. -/
def Hw.enterTimeOnly (h : Hw) (cause : Nat) : Hw :=
  let a := h.keptAtt
  let h := (h.setSf (fun s => { s with toCause := cause, retReq := false })).wr SF_LEVEL_TO_ATT a
  let h := h.attOff (1 - a)
  let h := h.each [rgPacket, rgMemory] (fun h r =>
    if h.rd SF_REGION_STATE r = stFailed then
      (h.regionLose r false).setRegion r (fun s => { s with powered := false })
    else if (h.regionAt r).powered then h.regionOff r else h)
  let h := ((h.wr SF_LEVEL_HELD 2).wr SF_LEVEL_CAUSE cause).countEntry 10
  h.coreTarget h.pw.mvTo 16

/-- TIME-ONLY is left: the voltage is raised, the other attachment and the enabled regions start (R405, R448). -/
def Hw.leaveTimeOnly (h : Hw) : Hw :=
  let h := (h.setSf (fun s => { s with retReq := false })).wr SF_LEVEL_HELD 0
  let h := h.coreTarget h.pw.mvFull 16
  let h := h.attOn (1 - h.rd SF_LEVEL_TO_ATT)
  h.each ([rgPacket, rgMemory].filter h.regionEnabled) (fun h r => h.setRegion r (fun s => { s with wake := some 4 }))

/-- The attachments out of service: LINE has failed, or the receiver of the activation channel is isolated; in TIME-ONLY
also the attachment that is shed. -/
def Hw.attOut (h : Hw) : Nat :=
  let lost := if h.rd SF_REGION_STATE rgLine = stFailed then 3
    else b2n (h.on LN_RX_STATUS_ISOLATED 0 (h.actChan 0)) + 2 * b2n (h.on LN_RX_STATUS_ISOLATED 1 (h.actChan 1))
  if h.timeOnly then lost ||| (2 - h.rd SF_LEVEL_TO_ATT) else lost

/-- The cause of REDUCED (Table 15-8), if a part is lost. -/
def Hw.reducedCause (h : Hw) : Option Nat :=
  let lost (r : Nat) : Bool := h.rd SF_REGION_STATE r == stFailed
  let att := b2n (h.on LN_RX_STATUS_ISOLATED 0 (h.actChan 0)) + b2n (h.on LN_RX_STATUS_ISOLATED 1 (h.actChan 1))
  if lost rgLine then some 9
  else if lost rgControl then some 10
  else if att ≠ 0 then some 7
  else if lost rgPortW || lost rgPortE || h.rd QUADS_OUT_OUT != 0 then some 8
  else if h.sf.memLost then some 11
  else none

/-- Causes of TIME-ONLY that a region gives by its state (R403). -/
def Hw.failCauses (h : Hw) : Hw :=
  let add (h : Hw) (c : Nat) : Hw := h.setSf (fun s => { s with toCauses := if s.toCauses.contains c then s.toCauses else s.toCauses ++ [c] })
  let h := h.when (h.rd SF_REGION_STATE rgPacket == stFailed) (fun h => add h 3)
  h.when (h.rd SF_REGION_STATE rgMemory == stFailed) (fun h => add h 4)

/-- A cause of TIME-ONLY arises or ends. -/
def Hw.toCause (h : Hw) (c : Nat) (on : Bool) : Hw :=
  h.setSf (fun s => { s with toCauses := (s.toCauses.filter (· != c)) ++ (if on then [c] else []) })

/-- R405: TIME-ONLY is left on a command, or by itself after a thermal or power cause. -/
def Hw.mayLeave (h : Hw) : Bool :=
  h.sf.toCauses.isEmpty && (h.sf.retReq || (h.on SF_LEVEL_CFG_AUTO_RESUME && (h.sf.toCause == 1 || h.sf.toCause == 2)))

/-- The level held at the boundary (R406), before SAFE is laid over it. -/
def Hw.levelHeld (h : Hw) : Hw :=
  let h := h.failCauses
  let h := if h.timeOnly then (if h.mayLeave then h.leaveTimeOnly else h)
    else match h.sf.toCauses with
      | c :: _ => h.enterTimeOnly c
      | [] => h
  let h := h.setSf (fun s => { s with retReq := false })
  if h.timeOnly then h else h.wr SF_LEVEL_HELD (if h.reducedCause.isSome then 1 else 0)

/-- R403, R406: the level at a tick boundary, with its LEVEL_CHANGE record. -/
def Hw.levelBoundary (h : Hw) : Hw :=
  let oldL := h.rd SF_LEVEL_LEVEL
  let oldH := h.rd SF_LEVEL_HELD
  let h := h.levelHeld
  let held := h.rd SF_LEVEL_HELD
  let safe := h.on SF_STATUS_GLOBAL || h.sf.hostSafe
  let lvl := if safe then 3 else held
  let h := h.wr SF_LEVEL_ATT_OUT h.attOut
  let h := if lvl = oldL ∧ held = oldH then h
    else
      let cause := if lvl = 3 ∧ oldL ≠ 3 then (if h.on SF_STATUS_GLOBAL then 6 else 5)
        else if held = 2 then h.sf.toCause else h.reducedCause.getD 0
      let h := (h.wr SF_LEVEL_LEVEL lvl).wr SF_LEVEL_CAUSE cause
      h.record sevCritical 0x2003 0x8001 (leBytes 1 oldL ++ leBytes 1 lvl ++ leBytes 1 held ++ leBytes 1 cause ++
        leBytes 4 (h.rd QUADS_OUT_OUT) ++ leBytes 1 (h.rd SF_LEVEL_ATT_OUT))
  h.showPstate

/-- The temperature of a tick (Table 15-2, R405): TJ_MAX, the run at or above THERM_EMERG, and since when it has stayed
below THERM_EMERG − THERM_HYST. -/
def Hw.thermTick (h : Hw) (tj : Int) : Hw :=
  let e : Int := (h.rd SF_LEVEL_CFG_THERM_EMERG : Nat)
  let y : Int := (h.rd SF_LEVEL_CFG_THERM_HYST : Nat)
  let h := h.wrS SF_LEVEL_CFG_TJ_MAX tj
  h.setSf (fun s => { s with
    hotRun := if e ≤ tj then s.hotRun + 1 else 0
    coolFrom := if tj < e - y then some (s.coolFrom.getD h.clk.ut) else none })

/-- THERMAL_EMERGENCY (R403). -/
def Hw.thermalEmergency (h : Hw) : Hw := if 8 ≤ h.sf.hotRun then h.toCause 1 true else h

/-- THERMAL_CLEAR (R405). -/
def Hw.thermalClear (h : Hw) : Hw :=
  match h.sf.coolFrom with
  | some t => if t + 38400000 ≤ h.clk.ut then h.toCause 1 false else h
  | none => h

/-- LEVEL_CMD_RETURN (R405): dropped while a cause other than the host's own is present. -/
def Hw.levelReturn (h : Hw) : Hw :=
  if h.sf.toCauses.all (· == 5) then h.setSf (fun s => { s with toCauses := [], retReq := s.retReq || h.timeOnly }) else h

/-- LEVEL_CMD_TIME_ONLY (R403). -/
def Hw.levelTimeOnly (h : Hw) : Hw := h.toCause 5 true

/-- LEVEL_CMD_SAFE (R406): SAFE at the next tick boundary. -/
def Hw.levelSafe (h : Hw) : Hw := h.setSf (fun s => { s with hostSafe := true })

/-! ### The cross-check (R410 to R412) -/

/-- The sources of the cross-check that have a value: 0 TD-A, 1 TD-B, 2 the PPS monitor, 3 the model, in 2^-16 ns. -/
def Hw.xchkSources (h : Hw) : List (Nat × Int) :=
  let ofs (d : Nat) : Int := if h.rd TC_STATUS_SEL = d + 1 then (match h.sf.inject with
    | some (4, _) => 65536000
    | _ => 0) else 0
  let dom (d : Nat) : List (Nat × Int) := match (h.domAt d).theta with
    | some x => [(d, x + ofs d)]
    | none => []
  let pps := if h.rd TC_HOLD_THETA_PPS = 0x8000000000000000 then [] else [(2, h.rdS TC_HOLD_THETA_PPS)]
  let osc := if h.rd TC_STATUS_SERVO = svLocked ∧ 8000000 ≤ h.time.lockedFor then [(3, h.rdS TC_HOLD_THETA_OSC)] else []
  dom 0 ++ dom 1 ++ pps ++ osc

/-- The limit of a pair, in ns; a pair with two limits takes the smaller (log entry 65, DEDUCED). -/
def Hw.xchkLim (h : Hw) (x y : Nat) : Nat :=
  if x < 2 ∧ y < 2 then h.cfg TC_XCHK_AB
  else if x ≠ 2 ∧ y ≠ 2 then h.cfg TC_XCHK_OSC
  else if x = 3 ∨ y = 3 then min (h.cfg TC_XCHK_PPS) (h.cfg TC_XCHK_OSC)
  else h.cfg TC_XCHK_PPS

/-- Two sources disagree. -/
def Hw.disagree (h : Hw) (p q : Nat × Int) : Bool := decide (h.xchkLim p.1 q.1 * 65536 < (p.2 - q.2).natAbs)

/-- R411: source p is suspect among `all`. -/
def Hw.suspects (h : Hw) (all : List (Nat × Int)) (p : Nat × Int) : Bool :=
  let o := all.filter (fun q => q.1 != p.1)
  decide (2 ≤ o.length) && o.all (h.disagree p) && o.all (fun q => o.all (fun r => q.1 == r.1 || !h.disagree q r))

/-- Whether source k is marked faulty. -/
def Hw.srcFaulty (h : Hw) (k : Nat) : Bool :=
  if k < 2 then bitOf (h.rd SF_STATUS_DOM_FAULTY) k
  else if k = 2 then h.on SF_STATUS_PPS_FAULTY else h.on SF_STATUS_MODEL_FAULTY

/-- R411: the faulty mark of source k. -/
def Hw.markFaulty (h : Hw) (k : Nat) (b : Bool) : Hw :=
  let h := h.setSf (fun s => { s with agree := store s.agree k 0 })
  if k < 2 then
    let h := (h.wr SF_STATUS_DOM_FAULTY (putBit (h.rd SF_STATUS_DOM_FAULTY) k b)).domCause k
    if b then (h.wr TC_DOM_STATUS_QUAL 0 k).setDom k (fun s => { s with qualFor := 0 }) else h
  else if k = 2 then h.wrB SF_STATUS_PPS_FAULTY b
  else h.wrB SF_STATUS_MODEL_FAULTY b

/-- One source of the cross-check: its run of suspect ticks, and its mark. -/
def Hw.xchkSource (h : Hw) (all : List (Nat × Int)) (k : Nat) : Hw :=
  let here := all.find? (fun p => p.1 == k)
  let sus := match here with
    | some p => h.suspects all p
    | none => false
  let dis := match here with
    | some p => all.any (fun q => q.1 != k && h.disagree p q)
    | none => false
  let n := if sus then look h.sf.suspect k 0 + 1 else 0
  let h := h.setSf (fun s => { s with suspect := store s.suspect k n })
  if h.srcFaulty k then
    let g := if dis then 0 else look h.sf.agree k 0 + 1
    if 80000 ≤ g then h.markFaulty k false else h.setSf (fun s => { s with agree := store s.agree k g })
  else if h.cfg TC_XCHK_N ≤ n then h.markFaulty k true
  else h

/-- SF_XCHK.DIFF (Table 15-14): differences in ns, saturating; 0 where a source has no value. -/
def Hw.xchkDiff (h : Hw) (all : List (Nat × Int)) : Hw :=
  let v (x y : Nat) : Nat := match all.find? (fun p => p.1 == x), all.find? (fun p => p.1 == y) with
    | some p, some q => unsigned 16 (satSigned 16 (nsOf (p.2 - q.2)))
    | _, _ => 0
  h.wr SF_DIAG_DIFF (v 0 1 * 2 ^ 48 + v 0 3 * 2 ^ 32 + v 1 3 * 2 ^ 16 + v 2 3)

/-- TIME_XCHK (R410 to R412): the verdicts, then the detections that persist. -/
def Hw.xchkJob (h : Hw) : Hw :=
  let all := h.xchkSources
  let sel := h.rd TC_STATUS_SEL
  let had := sel != 0 && h.srcFaulty (sel - 1)
  let h := h.each [0, 1, 2, 3] (fun h k => h.xchkSource all k)
  let now := sel != 0 && h.srcFaulty (sel - 1)
  let dis := match (if sel = 0 then none else all.find? (fun p => p.1 == sel - 1)) with
    | some p => all.any (fun q => q.1 != p.1 && h.disagree p q && !h.srcFaulty q.1)
    | none => false
  let n := if dis then h.sf.disagree + 1 else 0
  let h := h.setSf (fun s => { s with disagree := n })
  let forced := match h.sf.inject with
    | some (3, _) => true
    | _ => false
  let h := if now && !had then h.detectResolved 3 (sel - 1)
    else if (decide (h.cfg TC_XCHK_N ≤ n) && !now && look h.sf.suspect (sel - 1) 0 == 0) || forced then h.detect 3 scopeGlobal 0
    else h
  let h := h.when (decide (h.cfg TC_XCHK_N ≤ h.sf.phaseRun) && !(h.sf.phaseDom != 0 && h.srcFaulty (h.sf.phaseDom - 1)))
    (fun h => h.detect 5 scopeGlobal 0)
  h.xchkDiff all

/-! ### Checks of every tick (Table 15-3) -/

/-- What the diagnostics of FAWN and of the supervision pair find in a tick: `ppm` the worst frequency error that the
monitor oscillator counts, `crcBad` an error of the readback of the time configuration, `diverse` a verdict of the
cross-check that the supervision pair does not confirm. -/
def Hw.checkTick (h : Hw) (ppm : Nat) (crcBad diverse : Bool) : Hw :=
  let inj := (h.sf.inject.getD (0, 0)).1
  let h := h.when (h.on TC_STATUS_LS_FAULT) (fun h => h.detect 1 scopeGlobal 0)
  let h := h.when (decide (h.cfg TC_MON_LIM < ppm) || !h.clk.refosc || inj == 2) (fun h => h.detect 2 scopeGlobal 0)
  let h := if h.runs rgControl then
      let (v, h) := if crcBad then h.takeFree else (h.rd HI_EPOCH_STATUS_TIME_CRC, h)
      let h := h.wr SF_DIAG_COMPUTED v
      let h := h.when (h.rd SF_DIAG_COMPUTED != h.rd SF_DIAG_REFERENCE) (fun h => h.detect 6 scopeGlobal 0)
      let h := h.when diverse (fun h => h.detect 12 scopeGlobal 0)
      h.when (inj == 8) (fun h => h.detect 11 scopeGlobal 0)
    else h
  let h := h.when (inj == 11) (fun h => h.detect 7 scopeGlobal 0)
  let miss := if inj = 7 then (h.regionAt rgFawn).missed + 1 else 0
  let h := (h.setRegion rgFawn (fun s => { s with missed := miss })).when (decide (2 ≤ miss)) (fun h => h.detect 8 scopeGlobal 0)
  let late := match h.sf.ctlFrom with
    | some t => decide (t + 1280000 < h.clk.ut)
    | none => false
  let h := h.when (h.rd SF_REGION_STATE rgControl == stFailed || late) (fun h => h.detect 13 scopeGlobal 0)
  h.setSf (fun s => { s with chkTicks := s.chkTicks + 1, passTicks := s.passTicks + 1 })

/-- CONTROL_LOST (R401, Table 15-1 note b): a reload of CONTROL is not ready within 2 s. -/
def Hw.controlLost (h : Hw) : Hw :=
  match h.sf.ctlFrom with
  | some t => if t + 1280000 < h.clk.ut then h.detect 13 scopeGlobal 0 else h
  | none => h

/-! ### Self-check and injections (R417, R418) -/

/-- R417: the self-check of classes 1 to 12; `fails` marks the checkers that do not fire. -/
def Hw.selfCheck (h : Hw) (fails : Nat) : Hw :=
  if h.runs rgControl then
    let bad := ((List.range 13).drop 1).filter (bitOf fails)
    let h := h.wr SF_DIAG_SELFCHK_RES (bad.foldl (fun v k => putBit v k true) 0)
    let h := h.when bad.isEmpty (fun h => (h.wr SF_DIAG_SELFCHK_AGE 0).setSf (fun s => { s with passTicks := 0 }))
    h.each bad (fun h k => h.detect k scopeGlobal 0)
  else h

/-- SELFCHK_PERIODIC (R417): SELFCHK_H hours have passed since the last periodic self-check. -/
def Hw.selfCheckDue (h : Hw) (fails : Nat) : Hw :=
  if h.cfg TC_SELFCHK_H * 28800000 ≤ h.sf.chkTicks ∧ h.runs rgControl = true then
    (h.setSf (fun s => { s with chkTicks := 0 })).selfCheck fails
  else h

/-- SF_DIAG.SELFCHK_AGE counts hours since the last self-check that passed. -/
def Hw.checkAge (h : Hw) : Hw :=
  if h.sf.passTicks ≠ 0 ∧ h.sf.passTicks % 28800000 = 0 then h.wr SF_DIAG_SELFCHK_AGE (min 65535 (h.sf.passTicks / 28800000)) else h

/-- SF_DIAG.SF_HB counts the seconds of the supervision pair: 8,000 ticks in which CONTROL runs (log entry 81, DEDUCED). -/
def Hw.heartbeat (h : Hw) : Hw :=
  if h.runs rgControl then
    if 8000 ≤ h.sf.hbTicks + 1 then
      (h.setSf (fun s => { s with hbTicks := 0 })).wr SF_DIAG_SF_HB ((h.rd SF_DIAG_SF_HB + 1) % 2 ^ 32)
    else h.setSf (fun s => { s with hbTicks := s.hbTicks + 1 })
  else h

/-- INJECT (R418, Table 15-13): the injection part of a write of SF_CTRL. -/
def Hw.inject (h : Hw) (v : Nat) : Hw :=
  if bits v 16 16 = 0x5AFE then
    let code := bits v 4 4
    let arg := bits v 8 8
    let h := h.when ((h.sf.inject.getD (0, 0)).1 == 6) (fun h => h.wr SF_DIAG_REFERENCE (h.rd HI_EPOCH_STATUS_TIME_CRC))
    if 1 ≤ code ∧ code ≤ 11 then
      let h := (h.setSf (fun s => { s with inject := some (code, arg) })).wr SF_STATUS_INJ_ACTIVE 1
      let h := h.record sevNotice 0x2003 0x8004 (leBytes 1 code ++ leBytes 1 arg)
      if code = 1 then
        let (n, h) := h.takeFree
        h.lockstepMismatch (h.time.shadowOfs + (2 : Int) ^ (n % 92))
      else if code = 6 then
        h.wr SF_DIAG_REFERENCE (h.rd HI_EPOCH_STATUS_TIME_CRC ^^^ 1)
      else h
    else (h.setSf (fun s => { s with inject := none })).wr SF_STATUS_INJ_ACTIVE 0
  else h

end Sys2Proof.Machine
end

