-- ==== Sys2Proof/Machine/Access.lean ====
section
/-! DEFINITION. BAR0 (R12, R13, R35, R355, R399, R481): which register, object or vector word an offset names, what a
read returns and changes, what a write does, and access to gated blocks. Accesses are words of 32 bits; an 8-byte
access is two of them (log entry 66, DEDUCED). -/

namespace Sys2Proof.Machine

/-! ### What an offset names -/

/-- The target of a BAR0 word: word `w` of register (i, j) or of object instance `i`, or of the MSI-X structures. -/
inductive BarTgt where
  | reg (r : RegName) (i j w : Nat)
  | obj (t : ObjType) (i w : Nat)
  | msix (w : Nat)
  | pba (w : Nat)
  | none
  deriving DecidableEq, Repr

/-- The instance of a span of registers of `n` bytes that holds an offset, and the byte within it. -/
def Span.hit (s : Span) (n off : Nat) : Option (Nat × Nat × Nat) :=
  let base := s.reg * 2 ^ 20 + s.off
  let x := off - base
  let i := x / s.s1
  let j := (x % s.s1) / s.s2
  let b := (x % s.s1) % s.s2
  if base ≤ off ∧ i < s.n1 ∧ j < s.n2 ∧ b < n then some (s.first + i, j, b) else none

/-- Tables 15-11, 15-14, 16-16 and 16-21 begin at index 1. -/
def RegName.fromOne : RegName → Bool
  | .SF_REGION | .SF_CNT | .PW_ENTRY_CNT | .PW_PAD_CFG => true
  | _ => false

/-- The register word at an offset. -/
def RegName.at? (r : RegName) (off : Nat) : Option BarTgt :=
  match r.spans.findSome? (fun s => s.hit r.bytes off) with
  | some (i, j, b) =>
    if r.fields.any (fun f => f.inWord (b / 4)) && !(r.fromOne && i == 0) then some (.reg r i j (b / 4)) else none
  | none => none

/-- The object word at an offset. -/
def ObjType.at? (t : ObjType) (off : Nat) : Option BarTgt :=
  match t.spans.findSome? (fun s => s.hit t.size off) with
  | some (i, _, b) => some (.obj t i (b / 4))
  | none => none

/-- What the word at an offset is (Tables 17-1 and 17-2). -/
def barAt (off : Nat) : BarTgt :=
  let off := off / 4 * 4
  if 0x8000 ≤ off ∧ off < 0x9000 then .msix ((off - 0x8000) / 4)
  else if 0x9000 ≤ off ∧ off < 0x9020 then .pba ((off - 0x9000) / 4)
  else
    match RegName.all.findSome? (fun r => r.at? off) with
    | some t => t
    | none =>
      match ObjType.all.findSome? (fun t => t.at? off) with
      | some t => t
      | none => .none

/-! ### Owning blocks (R452; log entry 67, DEDUCED) -/

/-- The block that owns register (i, j). -/
def regBlock (r : RegName) (i j : Nat) : Nat :=
  let port (n : Nat) : Nat := if n < 128 then quadBlock n else 0x7000
  match r with
  | .LN_RX_CTRL | .LN_RX_EQ | .LN_ALIGN_CFG | .LN_RX_STATUS | .LN_ALIGN_STAT | .LN_RX_LAT | .LN_FB_CAP | .LN_SFC
  | .LN_FEC_CFG | .LN_FEC_CNT | .LN_PM_CFG | .LN_PM_SD | .LN_PM => 0x1000 + 4 * i + j
  | .LN_TX_CTRL | .LN_TX_BURST | .LN_EQD | .LN_TX_LAT | .LN_TX_STATUS | .LN_TX_CNT => 0x1010 + 2 * i + j
  | .HD_EST_CFG | .HD_EST_LIM | .HD_GROUP_DLY | .HD_TABLE | .HD_ASYM_OVR | .HD_EST_RES => 0x1022 + i
  | .HD_HERD_CFG | .HD_GRID | .HD_SWIDAN_CFG | .HD_SWIDAN_CTRL | .HD_LAMBDA | .HD_HERD_STATUS | .HD_HERD_CNT
  | .HD_PTR_STATUS | .HD_PTR_CNT | .HD_SKEW | .HD_LAUNCH_OFS => 0x1020 + i
  | .PF_LANE_CTRL | .PF_LANE_EQ | .PF_LANE_STATUS | .PF_PRBS_CNT | .PF_MAC_CNT | .TS_PORT_STATUS | .TS_LAT | .TS_SELFTEST
  | .TS_CNT => port i
  | .PF_QUAD_CFG | .PF_QUAD_CNT => quadBlock (4 * i)
  | .PF_RECAL_STATUS => 0x3000 + 0x1000 * i
  | .PP_TBL_STAT | .PP_TBL_SEED => 0x5010
  | .PP_XGEM_CNT => 0x5013
  | .CX_KS_STATUS | .CX_KS_CTRL | .CX_SLOT_ATTR => 0x5040
  | .CX_LANE_STATUS | .CX_CLU_STATUS | .CX_LANE_CNT | .CX_PON_CNT | .CX_PORT_CNT | .CX_SC_CNT => 0x5030
  | .TM_REPL_STAT | .TM_FRER_CNT => 0x5050
  | .TM_Q_STATUS | .TM_Q_CNT | .TM_UP_CNT | .TM_POL_CNT | .TM_BP_STATUS | .TM_ING_DROP | .TM_HOME_STATUS => 0x5020
  | .BM_OCB_STATUS => 0x6010
  | .BM_POOL_STATUS | .BM_REJ_LAST => 0x6020
  | .BM_BRIDGE_CFG | .BM_BRIDGE_STATUS | .BM_BRIDGE_FIFO => 0x6030
  | .BM_ECC_CNT | .BM_REPAIR_LOG => 0x6000 + i
  | .SV_CORE_STATUS => 0x7010 + i
  | .PC_DESC | .PC_VALUE | .PC_WRAP | .PC_STAT => 0x7030
  | .HI_CFG | .HI_EMERG | .HI_DB_BASE | .HI_SUM_BASE | .HI_HEAD_BASE | .HI_STATUS | .HI_EPOCH_STATUS | .HI_EPOCH_CFG
  | .HI_EVT_ROUTE | .HI_EVT_DROP | .HI_DUMP | .HI_DUMP_CFG | .HI_VEC | .HI_RING => 0x7020
  | .LN_MAP_CFG | .LN_MAP_STAT | .LN_ATT_CTRL | .LN_ATT_STATUS | .LN_ATT_SN | .LN_ATT_TMR | .LN_ATT_RESP | .LN_OPT_RXDLY
  | .LN_OPT_TXDLY | .LN_ATT_REGID | .LN_ATT_STAT | .LN_ATT_STAT2 | .LN_ATT_HEALTH => 0x1030 + i
  | r => 0x1000 * regionOf r i

/-- The block that owns instance i of an object. -/
def objBlock (t : ObjType) (i : Nat) : Nat :=
  match t with
  | .TIME_CORE => 0x2000
  | .TS_PORT => if i < 128 then quadBlock i else 0x7000
  | .TS_CLOCK | .SV_DISPATCH => 0x7000
  | .DUAL_ATT | .FRER_GEN | .FRER_RCV => 0x5050
  | .PF_PORT => quadBlock i
  | .PARSER_PROG | .PARSER_CFG => 0x5000
  | .TM_QUEUE | .TM_SHAPER | .TM_PORT | .TM_ALLOC | .TM_INGRESS | .TM_POLICER => 0x5020
  | .BM_POOL => 0x6020
  | .CX_PON | .CX_SC => 0x5030
  | .PC_CFG => 0x7030

/-- The block that owns a target. -/
def BarTgt.block : BarTgt → Nat
  | .reg r i j _ => regBlock r i j
  | .obj t i _ => objBlock t i
  | _ => 0

/-! ### Gated access (R399, R400) -/

/-- A block whose clock or power is off: a cipher cluster in state GATED or OFF, or a LINE block of the attachment that
TIME-ONLY sheds. -/
def Hw.blockOff (h : Hw) (b : Nat) : Bool :=
  if 0x5030 ≤ b ∧ b < 0x5038 then decide (3 ≤ h.rd PW_BLK_STATE_STATE (32 + (b - 0x5030)))
  else if 0x1000 ≤ b ∧ b < 0x1040 then
    let a := if b < 0x1010 then (b - 0x1000) / 4 else if b < 0x1020 then (b - 0x1010) / 2 else b % 2
    h.timeOnly && a != h.rd SF_LEVEL_TO_ATT
  else false

/-- Whether an access to a block is gated; GLOBAL, FAWN and the key store never are. -/
def Hw.gatedBlock (h : Hw) (b : Nat) : Bool :=
  let r := b / 0x1000
  let st := h.regionState r
  if r = 0 ∨ r = rgFawn ∨ b = 0x5040 then false
  else st == stStopped || st == stReloading || st == stGated || !(h.regionAt r).powered || h.blockOff b

/-- R399: a gated access is shown in SF_REGION. -/
def Hw.gatedAccess (h : Hw) (b : Nat) : Hw :=
  let r := b / 0x1000
  let h := h.when (!h.on SF_REGION_GATED_ACCESS r) (fun h => h.wr SF_REGION_GATED_BLOCK b r)
  (h.wr SF_REGION_GATED_ACCESS 1 r).inc SF_REGION_GATED_CNT r

/-- R399: what a gated read returns. -/
def gatedWord (b : Nat) : Nat := 0xFA110000 + b

/-- R3, R433: BAR0 answers: the link is up, the identity is loaded, and the chip is neither in P3 nor in P4. -/
def Hw.barOn (h : Hw) : Bool := h.pw.link && (h.pw.product || h.pw.recovery) && h.pw.vddFawn && h.rd PW_STATUS_PSTATE != 3

/-- Table 16-5, note (a): in recovery boot only the GLOBAL and FAWN windows decode. -/
def Hw.decodes (h : Hw) (b : Nat) : Bool := !h.pw.recovery || decide (b / 0x1000 = 0) || decide (b / 0x1000 = 2)

/-- A write of one of block b's registers, unless it is gated (R399) or BAR0 does not answer. -/
def Hw.barGate (h : Hw) (b : Nat) (f : Hw → Hw) : Hw :=
  if !h.barOn || !h.decodes b then h else if h.gatedBlock b then h.gatedAccess b else f h

/-! ### Reads -/

/-- The value that a read gives of a field: most fields are stored; the others are what the parts they show hold. -/
def Hw.view (h : Hw) (n : NonVol) (f : Fld) (i j : Nat) : Nat :=
  if f = TC_TIME_SEC then h.nowSec
  else if f = TC_TIME_NS then h.nowNs
  else if f = TC_TIME_FRAC then h.time.now / 2 ^ 12 % 2 ^ 32
  else if f = TC_TODA_IN_SEC then ((h.domAt i).toda.getD (0, 0)).2 / 1000000000
  else if f = TC_TODA_IN_NS then ((h.domAt i).toda.getD (0, 0)).2 % 1000000000
  else if f = TC_TODA_IN_SFC_LO then ((h.domAt i).toda.getD (0, 0)).1 % 2 ^ 32
  else if f = EV_STATUS_USED then (h.validSlots n).length
  else if f = EV_STATUS_FULL then b2n ((h.dirtySlots n).length == logSlots)
  else if f = EV_STATUS_PENDING then (h.rcd.ring.filter (fun x => !x.2.committed)).length
  else if f = EV_STATUS_REWRITING then b2n (h.rcd.rewrite.isSome || h.rcd.erasing.isSome)
  else if f = TM_Q_STATUS_ELIG then b2n (h.eligible i)
  else if f = PC_DESC_OFFSET then (Config.pcDesc i).1
  else if f = PC_DESC_STATUS then (Config.pcDesc i).2.1
  else if f = PC_DESC_BIT then (Config.pcDesc i).2.2
  else if f = PC_VALUE_VALUE then h.counterAt i
  else if f = PC_WRAP_WRAP then leNat h.wrapBytes
  else if f = PW_DIE_ID_DIE_ID then Config.dieId
  else if f = TS_PORT_STATUS_RUNG then h.tsRung i
  else if f = TS_PORT_STATUS_ACTION_ON then b2n (h.tsState i == tsMaster && !rungUsable (h.tsRung i))
  else if f = TS_PORT_STATUS_LINK then b2n (h.tsLink i)
  else if f = HI_STATUS_RING_ERR then b2n (allRings.any (fun r => h.on HI_RING_STOPPED r))
  else if f.acc = .wo then 0
  else h.rd f i j

/-- Word `w` of register (i, j) as it stands. -/
def Hw.regWord (h : Hw) (n : NonVol) (r : RegName) (i j w : Nat) : Nat :=
  r.fields.foldl (fun a f =>
    if f.inWord w then
      let lo := max f.lsb (32 * w)
      let hi := min (f.lsb + f.width) (32 * w + 32)
      a + bits (h.view n f i j) (lo - f.lsb) (hi - lo) * 2 ^ (lo - 32 * w)
    else a) 0

/-- The words that a read of word `w` of a register latches: the last of them (the notes on latching). -/
def RegName.latchTo (r : RegName) (w : Nat) : Nat :=
  if !r.latches then
    if r = .SF_DIAG then (if w = 0 then 4 else if w = 6 then 7 else if w = 30 then 31 else w)
    else if (r = .TC_SET ∨ r = .TC_TODA_IN) ∧ w = 0 then 3
    else w
  else if r = .HI_EPOCH_STATUS then (if w = 0 then 3 else w)
  else if r = .TC_HOLD ∨ r = .PF_MAC_CNT then
    if r.fields.any (fun f => f.lsb == 32 * w && f.width == 64) ∨ (r = .TC_HOLD ∧ w % 2 = 0) then w + 1 else w
  else if w = 0 then r.bytes / 4 - 1 else w

/-- The words 0 to `n` − 1 of a register latched from word `w` on. -/
def Hw.latchWords (h : Hw) (n : NonVol) (r : RegName) (i j w : Nat) : Hw :=
  h.each ((List.range (r.latchTo w - w)).map (fun k => w + 1 + k)) (fun h k =>
    { h with latch := store h.latch ⟨r, k, i, j⟩ (h.regWord n r i j k) })

/-- R12, R13, R355: a read of word `w` of register (i, j): a latched word is returned once; a live read of a lowest word
latches the others (Table 2-14, note a: with LN_FB_CAP also LN_SFC); the read clears the RC fields that it returns. -/
def Hw.regRead (h : Hw) (n : NonVol) (r : RegName) (i j w : Nat) : Hw × Nat :=
  match h.latch.find? (fun x => x.1 == ⟨r, w, i, j⟩) with
  | some (_, v) => ({ h with latch := h.latch.filter (fun x => x.1 != ⟨r, w, i, j⟩) }, v)
  | none =>
    let v := h.regWord n r i j w
    let h := h.latchWords n r i j w
    let h := if r = .LN_FB_CAP ∧ w = 0 then
        ({ h with latch := store h.latch ⟨.LN_SFC, 0, i, j⟩ (h.regWord n .LN_SFC i j 0) }).latchWords n .LN_SFC i j 0
      else h
    (h.each (r.fields.filter (fun f => f.acc == .rc && f.inWord w)) (fun h f => h.wr f 0 i j), v)

/-- DEBUG_READ (R451): a read of GL_DBG_DATA; `prot` says that the word holds key material. -/
def Hw.debugRead (h : Hw) (prot : Bool) : Hw × Nat :=
  let b := h.rd GL_DBG_ADDR_BLOCK
  let w := h.rd GL_DBG_ADDR_WORD
  let step (h : Hw) : Hw := h.when (h.on GL_DBG_CTRL_AUTO_INC) (fun h => h.wr GL_DBG_ADDR_WORD (w + 1))
  if !h.on GL_DBG_CTRL_ENABLE then (step h, 0)
  else if h.gatedBlock b then (step (h.wr GL_DBG_CTRL_GATED 1), gatedWord b)
  else if b = 0x5040 ∨ prot = true then (step (h.wr GL_DBG_CTRL_DENIED 1), 0)
  else
    let v := Config.debugWord b w h.free % 2 ^ 32
    (step { h with free := h.free + 1 }, v)

/-- A read of the BAR0 word at an offset (R35, R355, R399). -/
def Hw.barRead (h : Hw) (n : NonVol) (off : Nat) : Hw :=
  let t := barAt off
  if !h.barOn then h
  else if !h.decodes t.block then h.emit (.bar off 0)
  else if h.gatedBlock t.block then (h.gatedAccess t.block).emit (.bar off (gatedWord t.block))
  else
    match t with
    | .reg .GL_DBG_DATA _ _ _ => let (h, v) := h.debugRead false; h.emit (.bar off v)
    | .reg r i j w => let (h, v) := h.regRead n r i j w; h.emit (.bar off v)
    | .obj t i w => h.emit (.bar off (leNat (slice (objBytes h.ep.cur t i) (4 * w) 4)))
    | .msix w => h.emit (.bar off (look h.host.msixTbl w (if w % 4 = 3 then 1 else 0)))
    | .pba w => h.emit (.bar off ((List.range 32).foldl (fun a k => a + b2n (look h.host.pba (32 * w + k) false) * 2 ^ k) 0))
    | .none => h.emit (.bar off 0)

/-! ### Writes -/

/-- Table 17-6: a write of GL_DBG_CTRL; ENABLE changes only with KEY. -/
def Hw.dbgCtrlWrite (h : Hw) (v : Nat) : Hw :=
  h.writeKeep .GL_DBG_CTRL 0 v 0 0 (fun f => f == GL_DBG_CTRL_ENABLE && bits v 16 16 != 0xDB60)

/-- R435: a write of PW_CTRL; STANDBY takes effect at the next tick boundary. -/
def Hw.pwCtrlWrite (h : Hw) (v : Nat) : Hw :=
  let h := h.writeWord .PW_CTRL 0 v 0 0
  if bits v 16 16 = 0x5B1D ∧ bitOf v 0 = true then { h with pw := { h.pw with standby := true } } else h

/-- R444: a write of PW_PAD_RELEASE. -/
def Hw.padRelease (h : Hw) (v : Nat) : Hw :=
  let h := h.writeWord .PW_PAD_RELEASE 0 v 0 0
  h.each ([1, 3, 4, 5, 6, 7].filter (bitOf v)) (fun h r =>
    if h.runs r then ({ (h.wr PW_PAD_CFG_HELD 0 r) with pw := { h.pw with padOff := putBit h.pw.padOff r false } })
    else h.wr PW_PAD_RELEASE_REL_REJ 1)

/-- A write of SF_CTRL (Table 15-13): injection, self-check, acknowledgement; the self-check finds every checker sound. -/
def Hw.sfCtrlWrite (h : Hw) (v : Nat) : Hw :=
  let h := h.inject v
  let h := if bitOf v 2 then h.selfCheck 0 else h
  if bitOf v 0 then h.sfAck else h

/-- A write of SF_LEVEL_CMD (Table 15-9). -/
def Hw.levelCmdWrite (h : Hw) (v : Nat) : Hw :=
  match v % 4 with
  | 1 => h.levelReturn
  | 2 => h.levelTimeOnly
  | 3 => h.levelSafe
  | _ => h

/-- A write of SF_DIAG: a PIN_FAULT bit that is written 1 clears, and the next readback decides (R413). -/
def Hw.sfDiagWrite (h : Hw) (w v : Nat) : Hw :=
  let old := h.rd SF_DIAG_PIN_FAULT
  let h := h.writeWord .SF_DIAG w v 0 0
  h.each ((List.range 8).filter (fun p => bitOf old p && !bitOf (h.rd SF_DIAG_PIN_FAULT) p))
    (fun h p => h.setPin p (fun s => { s with recheck := true }))

/-- A write of PF_QUAD_CFG: a change of FEC in a four-lane port drops ALIGN_LOCK at the next microtick (R217). -/
def Hw.quadCfgWrite (h : Hw) (q v : Nat) : Hw :=
  let old := h.rd PF_QUAD_CFG_FEC q
  let h := h.writeWord .PF_QUAD_CFG 0 v q 0
  if h.rd PF_QUAD_CFG_FEC q ≠ old ∧ h.on PF_QUAD_CFG_MODE q = true then h.setPort (4 * q) (fun p => { p with relock := true }) else h

/-- A write of BM_MEM_CFG: a channel that is enabled again takes part in the next reset (R286). -/
def Hw.memCfgWrite (h : Hw) (v : Nat) : Hw :=
  let h := h.writeWord .BM_MEM_CFG 0 v 0 0
  h.setMem (fun m => { m with leftOut := m.leftOut - (m.leftOut &&& bits v 0 8) })

/-- R359: a write of word `w` of HI_RING[r]. -/
def Hw.ringWordWrite (h : Hw) (r w v : Nat) : Hw :=
  if w = 2 then h.ringWrite r v
  else h.writeKeep .HI_RING w v r 0 (fun f => f == HI_RING_BASE && h.on HI_RING_ENABLE r)

/-- A write of the event recorder's, the key store's and the other registers that act on a write. -/
def Hw.regWrite (h : Hw) (n : NonVol) (r : RegName) (i j w v : Nat) : Hw :=
  match r with
  | .GL_CLK_CTRL => h.clkCtrlWrite v
  | .GL_REGION_CTRL => h.enableWrite v
  | .GL_DBG_CTRL => h.dbgCtrlWrite v
  | .GL_FLASH_CTRL => h.flashCtrl v
  | .SF_LEVEL_CMD => h.levelCmdWrite v
  | .SF_REGION => if w = 2 then h.reloadWrite i v else h.writeWord r w v i j
  | .LN_RX_CTRL => h.rxCtrlWrite i j v
  | .LN_RX_EQ => h.eqReset i j v
  | .LN_FEC_CFG => h.fecCfgWrite i j w v
  | .LN_MAP_CFG => h.mapCfgWrite i v
  | .LN_PM_CFG => h.pmClear i j v
  | .LN_ATT_CTRL => h.actEnWrite i v
  | .LN_ATT_RESP => h.opticsWrite i 0 0 v
  | .LN_OPT_RXDLY => h.opticsWrite i 1 j v
  | .LN_OPT_TXDLY => h.opticsWrite i 2 j v
  | .LN_ATT_REGID => h.regIdWrite i w v
  | .LN_TX_CTRL => h.txCtrlWrite i j v
  | .HD_SWIDAN_CTRL => h.swEnWrite i v
  | .HD_GRID => h.wavelengthWrite i 0 v
  | .HD_LAMBDA => h.wavelengthWrite i (j + 1) v
  | .HD_EST_CFG => h.estimatorModeWrite i v
  | .HD_ASYM_OVR => if w = 1 then h.asymOverrideWrite i v else h.writeWord r w v i j
  | .TC_CTRL => h.lsResyncWrite v
  | .TC_SET => if w = 3 then h.tcSetGo v else h.writeWord r w v i j
  | .TC_TODA_IN => if w = 3 then h.todaInGo i v else h.writeWord r w v i j
  | .PF_LANE_CTRL => (h.writeWord r w v i j).setPort i id
  | .PF_LANE_EQ => h.dfeReset i v
  | .PF_QUAD_CFG => h.quadCfgWrite i v
  | .BM_MEM_CFG => h.memCfgWrite v
  | .CX_KS_CTRL => (h.ksZeroiseWrite v).alarmClr v false
  | .HI_CFG => h.writeWord r w v i j
  | .HI_EMERG => h.emergWrite v
  | .HI_DB_BASE | .HI_SUM_BASE | .HI_HEAD_BASE => h.writeKeep r w v i j (fun _ => h.on HI_CFG_RUN)
  | .HI_RING => h.ringWordWrite i w v
  | .SF_CTRL => h.sfCtrlWrite v
  | .SF_DIAG => h.sfDiagWrite w v
  | .EV_CTRL => h.logErase n v
  | .EV_RD_CTRL => h.recordRead v
  | .PW_CTRL => h.pwCtrlWrite v
  | .PW_PAD_RELEASE => h.padRelease v
  | _ => h.writeWord r w v i j

/-- A write of the BAR0 word at an offset (R35, R355, R399). -/
def Hw.barWrite (h : Hw) (n : NonVol) (off v : Nat) : Hw :=
  let t := barAt off
  h.barGate t.block (fun h =>
    match t with
    | .reg r i j w => h.regWrite n r i j w v
    | .msix w => h.msixWrite w v
    | _ => h)

/-- A read (`data` none) or a write of the BAR0 word at an offset. -/
def Hw.barWord (h : Hw) (n : NonVol) (off : Nat) (data : Option Nat) : Hw :=
  match data with
  | none => h.barRead n off
  | some v => h.barWrite n off v

/-- The second word of an 8-byte access, at `off`: in the gated block of the first word it is one access with it, and a
read returns the same value (R399). -/
def Hw.barSecond (h : Hw) (n : NonVol) (off : Nat) (data : Option Nat) : Hw :=
  let b := (barAt off).block
  if h.decodes b && h.gatedBlock b && (barAt (off - 4)).block == b then
    match data with
    | none => h.emit (.bar off (gatedWord b))
    | some _ => h
  else h.barWord n off data

/-- BAD_ACC (R355): an access of `size` bytes at an offset that BAR0 does not accept; another acts as it says. -/
def Hw.badAccess (h : Hw) (n : NonVol) (off size : Nat) (data : Option Nat) : Hw :=
  if !h.barOn then h
  else if size = 4 ∧ off % 4 = 0 then h.barWord n off (data.map (fun v => bits v 0 32))
  else if size = 8 ∧ off % 8 = 0 then
    (h.barWord n off (data.map (fun v => bits v 0 32))).barSecond n (off + 4) (data.map (fun v => bits v 32 32))
  else
    let h := h.wr HI_PCIE_STATUS_BAD_ACC 1
    if data.isNone then h.emit (.bar off 0) else h

end Sys2Proof.Machine
end

