-- ==== Sys2Proof/Machine/Power.lean ====
section
/-! DEFINITION. Power, reset and start-up: the wake-latency controller, the retention banks, PMBus and AVS, chip power
states, reset inputs, boot and start-up (R426 to R446, R466, R478). -/

namespace Sys2Proof.Machine

def Hw.setPw (h : Hw) (f : PowerSt → PowerSt) : Hw := { h with pw := f h.pw }

/-! ### Units of the power controller (Table 16-7)

A unit is a PW_TOL index 32 to 49, or 1000 + n for the lanes of the station port with base lane n. -/

def Hw.blkAt (h : Hw) (u : Nat) : PwrBlk := look h.pw.blks u {}
def Hw.setBlk (h : Hw) (u : Nat) (f : PwrBlk → PwrBlk) : Hw := h.setPw (fun p => { p with blks := store p.blks u (f (h.blkAt u)) })

/-- Exit time of a state in µs (Table 16-7). -/
def exitUs (s : Nat) : Nat :=
  match s with
  | 1 => 2 | 2 => 1200 | 3 => 1 | 4 => 80 | 5 => 1 | 6 => 5 | 7 => 400 | 8 => 2 | 9 => 1500
  | _ => 0

/-- The states of a unit's class, the deepest first. -/
def unitStates (u : Nat) : List Nat :=
  if 1000 ≤ u then [2, 1] else if u < 40 then [4, 3] else if u < 48 then [7, 6, 5] else [9, 8]

/-- The region of a unit. -/
def unitRegion (u : Nat) : Nat :=
  if 1000 ≤ u then quadRegion ((u - 1000) / 4) else if u < 40 then rgPacket else if u < 48 then rgMemory else rgLine

/-- The block that PW_LAST_REFUSAL names. -/
def unitBlock (u : Nat) : Nat :=
  if 1000 ≤ u then quadBlock (u - 1000) else if u < 40 then 0x5030 + (u - 32) else if u < 48 then 0x6000 + (u - 40)
  else 0x1010 + 2 * (u - 48)

/-- R436: a unit's tolerance in µs, within 1 to 10,000,000. -/
def Hw.unitTol (h : Hw) (u : Nat) : Nat :=
  max 1 (min 10000000 (h.rd PW_TOL_TOL_US (if 1000 ≤ u then (u - 1000) / 4 else u)))

/-- The state of a unit. -/
def Hw.unitState (h : Hw) (u : Nat) : Nat := if 1000 ≤ u then h.rd PF_LANE_STATUS_PWR (u - 1000) else h.rd PW_BLK_STATE_STATE u

/-- A launch of attachment a is scheduled within `us` µs. -/
def Hw.launchWithin (h : Hw) (a us : Nat) : Bool :=
  (upsOf a).any (fun k => (h.upAt k).bursts.any (fun b =>
    decide (h.now16 < b.launch ∧ b.launch ≤ h.now16 + ((us * 65536000 : Nat) : Int))))

/-- The entry condition of state s (Table 16-7). -/
def Hw.mayEnter (h : Hw) (u s : Nat) : Bool :=
  let quietFor (n : Nat) : Bool := decide ((h.blkAt u).lastWork + n ≤ h.clk.ut)
  match s with
  | 1 | 2 => (h.portLanes (u - 1000)).all (fun l => (h.portAt l).idle && h.laneQuiet l)
  | 3 => quietFor 64
  | 4 => quietFor 64000
  | 5 => quietFor 64
  | 6 => quietFor 80
  | 7 => quietFor 64000 && h.mem.migr.isNone
  | 8 => !h.launchWithin (u - 48) 14
  | 9 => decide (h.rd LN_ATT_STATUS_STATE (u - 48) ∈ [aOff, aO11, aO7])
  | _ => false

/-- R436: the deepest state whose exit time the tolerance allows and whose entry condition holds; a tolerance of 1 keeps
the unit active. -/
def Hw.choose (h : Hw) (u : Nat) : Nat :=
  if h.unitTol u ≤ 1 then 0
  else ((unitStates u).find? (fun s => decide (exitUs s ≤ h.unitTol u) && h.mayEnter u s)).getD 0

/-- PW_BLK_STATE of a quad: its deepest lane, and the deepest state chosen. -/
def Hw.quadShow (h : Hw) (q : Nat) : Hw :=
  let ls := [4 * q, 4 * q + 1, 4 * q + 2, 4 * q + 3]
  let deep (f : Nat → Nat) : Nat := (ls.map f).foldl max 0
  (h.wr PW_BLK_STATE_STATE (deep (fun l => h.rd PF_LANE_STATUS_PWR l)) q).wr PW_BLK_STATE_TARGET
    (deep (fun l => if h.portBase l = l then h.choose (1000 + l) else 0)) q

/-- What a block answers to a request for state s (Table 16-8): a reason to refuse, if it has one. -/
def Hw.refuseReason (h : Hw) (u s : Nat) : Option Nat :=
  let b := h.blkAt u
  if !h.runs (unitRegion u) then some 9
  else if b.wakeNow then some 4
  else if 1000 ≤ u then
    let n := u - 1000
    if h.on PF_LANE_STATUS_LINK n then some 1
    else if h.recal.any (fun r => r.2.lane / 4 == n / 4) then some 2
    else if h.on PF_LANE_STATUS_TEST n then some 3 else none
  else if u < 40 then
    let here := h.ks.works.filter (fun w => w.lane / 16 == u - 32)
    if here.any (fun w => !w.done) then some 5
    else if h.ks.shadows.any (fun x => here.any (fun w => w.slot == x.slot && w.gen == x.gen)) then some 8 else none
  else if u < 48 then
    if h.mem.migr.any (fun m => m.src == u - 40 || m.dst == u - 40) then some 7 else none
  else if h.launchWithin (u - 48) (exitUs s + 12) then some 6 else none

/-- R438: a refusal or delay is shown. -/
def Hw.showRefusal (h : Hw) (u reason s : Nat) : Hw :=
  (((h.wr PW_LAST_REFUSAL_TICK (h.tick % 2 ^ 32)).wr PW_LAST_REFUSAL_BLOCK (unitBlock u)).wr PW_LAST_REFUSAL_REASON reason).wr
    PW_LAST_REFUSAL_STATE s

/-- R437: the answer to the request made at the previous microtick boundary. -/
def Hw.answerEntry (h : Hw) (p : PwrIn) (u s : Nat) : Hw :=
  let h' := h.setBlk u (fun b => { b with asked := none })
  match h.refuseReason u s, p.mute.contains u, p.delays.find? (fun d => d.1 == u) with
  | some r, _, _ => (((h'.setBlk u (fun b => { b with notBefore := store b.notBefore s (h.clk.ut + (h.microCount - h.clk.micro)) })).inc
      PW_ENTRY_CNT_REFUSED s).showRefusal u r s)
  | none, true, _ => (((h'.setBlk u (fun b => { b with notBefore := store b.notBefore s (h.clk.ut + (h.microCount - h.clk.micro)) })).inc
      PW_ENTRY_CNT_REFUSED s).showRefusal u 15 s)
  | none, false, some (_, r, n) => (((h'.setBlk u (fun b => { b with notBefore := store b.notBefore s (h.clk.ut + max 1 (min 65535 n)) })).inc
      PW_ENTRY_CNT_DELAYED s).showRefusal u r s)
  | none, false, none => h'.setBlk u (fun b => { b with entering := some s })

/-- One unit at a microtick boundary (R436, R437): the answer to a request, the abort of an entry, the state chosen, and a
request for it. -/
def Hw.powerUnit (p : PwrIn) (h : Hw) (u : Nat) : Hw :=
  if !h.runs (unitRegion u) then
    let h := h.setPw (fun w => { w with blks := w.blks.filter (fun x => x.1 != u) })
    if 1000 ≤ u then h.quadShow ((u - 1000) / 4) else (h.wr PW_BLK_STATE_STATE 0 u).wr PW_BLK_STATE_TARGET 0 u
  else
    let h := match (h.blkAt u).asked with
      | some s => h.answerEntry p u s
      | none => h
    let h := match (h.blkAt u).entering, (h.blkAt u).wakeNow with
      | some s, true => (h.setBlk u (fun b => { b with entering := none })).inc PW_ENTRY_CNT_ABORTED s
      | _, _ => h
    let c := h.choose u
    let b := h.blkAt u
    let ask := decide (h.unitState u < c) && b.asked.isNone && b.entering.isNone && decide (look b.notBefore c 0 ≤ h.clk.ut)
    let h := h.setBlk u (fun b => { b with wakeNow := false, asked := if ask then some c else b.asked })
    if 1000 ≤ u then
      let h := if c < h.unitState u then h.laneWake (u - 1000) else h
      h.quadShow ((u - 1000) / 4)
    else h.wr PW_BLK_STATE_TARGET c u

/-- The units that can leave their active state, or hold a handshake. -/
def Hw.powerUnits (h : Hw) : List Nat :=
  ((((List.range 128).filter (fun n => h.portBase n == n)).map (· + 1000)) ++ (List.range 18).map (· + 32)).filter
    (fun u => decide (1 < h.unitTol u) || h.pw.blks.any (fun x => x.1 == u))

/-- The power controller at a microtick boundary (R436). -/
def Hw.powerMicro (h : Hw) (p : PwrIn) : Hw :=
  let h := h.each ((List.range 8).filter (bitOf p.acc)) (fun h c => h.setBlk (40 + c) (fun b => { b with lastWork := h.clk.ut, wakeNow := true }))
  (h.each h.powerUnits (Hw.powerUnit p)).showPstate

/-- POWER_STATE_ENTERED (R437, R438): block u, which accepted, reaches the state. -/
def Hw.stateEntered (h : Hw) (u : Nat) : Hw :=
  match (h.blkAt u).entering with
  | none => h
  | some s =>
    let h := (h.setBlk u (fun b => { b with entering := none })).inc PW_ENTRY_CNT_ENTERED s
    let h := if 1000 ≤ u then
        let n := u - 1000
        (h.each (h.portLanes n) (fun h l => (h.wr PF_LANE_STATUS_PWR s l).tsLatClear l)).quadShow (n / 4)
      else h.wr PW_BLK_STATE_STATE s u
    h.showPstate

/-! ### Retention banks (R445, Table 16-10) -/

/-- The rebuild of bank b. -/
def Hw.bankRebuild (h : Hw) (n : NonVol) (b : Nat) : Hw × NonVol :=
  match b with
  | 0 =>
    let h := { h with time := { h.time with iAcc := 0, r := 0, q := 0, rHold := 0, rHist := [], lockedFor := 0, holdFrom := none, acq := [] } }
    ((((h.wr TC_HOLD_LEARNED_S 0).wr TC_HOLD_ELAPSED_S 0).servoEnter (if h.rd TC_STATUS_SEL = 0 then svFreerun else svAcquire)).setPw
      (fun p => { p with fellAt := none }), n)
  | 1 => ({ h with time := { h.time with oscMeas := [], modelClk := none } }, n)
  | 2 => (h.each [0, 1] (fun h d =>
      ((h.setDom d (fun s => { s with toda := none, adopt := none, pend := none, waiting := none, qualFor := 0 })).wr TC_DOM_STATUS_QUAL 0 d).domCause d), n)
  | 3 | 4 =>
    let a := b - 3
    (({ h with regs := h.regs.filter (fun (x : FKey × Nat) => !(x.1.reg == RegName.HD_EST_RES && x.1.i == a)) }).setHerd a (fun s => { s with
      started := false, applied := 0, appMode := 0, dofs := [], pendFit := none, applyNext := none, streak := none, fellBack := false }), n)
  | 7 => (h.each [0, 1] (fun h a => h.estopSet a (bitOf n.estop a)), n)
  | 8 =>
    match h.rcd.rewrite with
    | some (s, _) =>
      let lost := ((h.validSlots n).filter (fun k => k / 64 == s)).length
      let n' := h.rewriteErase n
      ((h.inc EV_STATUS_DROPPED 0 0 lost).setRcd (fun r => { r with rewrite := none, job := none }), n')
    | none => (h, n)
  | 9 | 10 =>
    let lost := (h.rcd.ring.filter (fun x => !x.2.committed)).length
    let h := (h.setRcd (fun r => { r with ring := [], job := none })).inc EV_STATUS_RING_LOST 0 0 lost
    (h.record sevWarn 0x2020 codeRingLoss (leBytes 4 lost), n)
  | 11 => ((h.wr EV_HOURS_OP_HOURS n.hours).wr EV_HOURS_PWR_CYCLES n.cycles, n)
  | 12 => ((({ h with regs := h.regs.filter (fun (x : FKey × Nat) => !(match x.1.fld? with
      | some f => f.acc == Acc.rw && f.dom == Dom.fawn && decide (f.reg ∈ [RegName.PW_CTRL, .PW_TOL, .PW_RAIL, .PW_AVS, .PW_PLIMIT, .PW_PAD_CFG])
      | none => false)) }).setPw (fun p => { p with mvFull := 800, mvTo := 800 })).coreTarget 800 0, n)
  | 13 => ((h.setSf (fun s => { s with suspect := [], agree := [] })).detect 7 scopeGlobal 0, n)
  | _ => (h, n)

/-- R445: the banks `l` that hold a signature are checked; those of the mask `bad` fail. -/
def Hw.bankCheck (h : Hw) (n : NonVol) (l : List Nat) (bad : Nat) : Hw × NonVol :=
  let here := l.filter (fun b => bitOf h.pw.signed b)
  let fails := here.filter (bitOf bad)
  let h := h.setPw (fun p => { p with signed := here.foldl (fun v b => putBit v b false) p.signed })
  let h := if here.isEmpty then h
    else h.wr PW_RET_STATUS_FAILED (l.foldl (fun v b => putBit v b (fails.contains b)) (h.rd PW_RET_STATUS_FAILED))
  fails.foldl (fun x b =>
    let (h, n) := x
    let h := (h.inc PW_RET_STATUS_FAIL_CNT).record sevMajor (0x2010 + b) 0x8007 (leBytes 2 (h.rd PW_RET_STATUS_FAILED))
    h.bankRebuild n b) (h, n)

/-- Banks of region LINE. -/
def lineBanks : List Nat := [3, 4, 5, 6]

/-! ### PMBus and AVS (R440 to R442) -/

/-- The first voltage request or OPERATION write is done, and the next is sent. -/
def Hw.vreqNext (h : Hw) : Hw :=
  match h.pw.vreqs.tail with
  | [] => h.setPw (fun p => { p with vreqs := [] })
  | v :: t => (h.setPw (fun p => { p with vreqs := { v with due := h.clk.ut + 1280 } :: t })).emit (.pmbus v.rail v.kind v.mv)

/-- PMBUS_REQUEST_DONE (R441): the transaction and the voltage read back acknowledge the first request, or they do not and
the wait goes on. The last rail that is switched on starts the wait for PWR_OK (R435). -/
def Hw.pmbusDone (h : Hw) (ok : Bool) : Hw :=
  match ok, h.pw.vreqs with
  | true, v :: t =>
    let h := if v.kind = 0 then h.wr PW_AVS_CUR_MV v.mv
      else h.setPw (fun p => { p with railOff := store p.railOff v.rail (v.kind == 2) })
    let h := if v.kind = 1 ∧ t.all (fun x => x.kind != 1) then h.setPw (fun p => { p with wakeFrom := some h.clk.ut, inStandby := false }) else h
    h.vreqNext
  | _, _ => h

/-- R441: what waited for a request that has failed is abandoned. -/
def Hw.vreqAbandon (h : Hw) (v : VReq) : Hw :=
  let h := if v.kind = 0 then h.wr PW_AVS_TARGET_MV (h.rd PW_AVS_CUR_MV) else h
  if v.kind = 1 then h.setPw (fun p => { p with vreqs := p.vreqs.take 1 ++ (p.vreqs.drop 1).filter (fun x => x.kind != 1) })
  else if v.waiter = 16 ∧ h.timeOnly = false ∧ h.rd PW_AVS_CUR_MV < v.mv then
    let h := (h.wr SF_LEVEL_HELD 2).attOff (1 - h.rd SF_LEVEL_TO_ATT)
    h.each [rgPacket, rgMemory] (fun h r => h.setRegion r (fun s => { s with wake := none }))
  else h

/-- PMBUS_RETRY (R441): 2 ms have passed without an acknowledgement. -/
def Hw.pmbusRetry (h : Hw) : Hw :=
  match h.pw.vreqs with
  | [] => h
  | v :: t =>
    if h.clk.ut ≤ v.due then h
    else if v.tries < 3 then
      ((h.inc PW_AVS_RETRIES).setPw (fun p => { p with vreqs := { v with tries := v.tries + 1, due := h.clk.ut + 1280 } :: t })).emit
        (.pmbus v.rail v.kind v.mv)
    else
      (((h.wr PW_STATUS_PWR_FAULT 1).inc PW_AVS_FAILS).recordOf sevMajor 0x2002 PW_AVS_FAILS 0 0 (leBytes 1 v.rail)).vreqAbandon v |>.vreqNext

/-- A target of R440: a multiple of 5 mV within 700 to 800 mV. -/
def mvOf (x : Nat) : Nat := max 700 (min 800 (x / 5 * 5))

/-- AVS_TARGET_UPDATE (R440): the targets that the AVS table gives at the temperature, for FULL and for TIME-ONLY. -/
def Hw.avsUpdate (h : Hw) (full tOnly : Nat) : Hw :=
  let h := h.setPw (fun p => { p with mvFull := mvOf full, mvTo := mvOf tOnly })
  if h.rd PW_STATUS_PSTATE = 3 then h else h.coreTarget (if h.timeOnly then mvOf tOnly else mvOf full) 0

/-- POWER_SUM_CHECK (R442): the sum of READ_POUT of this second, in W. -/
def Hw.powerSum (h : Hw) (sum : Nat) : Hw :=
  let lim := h.rd PW_PLIMIT_LIMIT_W
  let h := h.wr PW_PLIMIT_POUT_W (min 65535 sum)
  let ovr := lim != 0 && decide (lim < sum)
  let under := !h.pw.ocFault && (lim == 0 || decide (sum + h.rd PW_PLIMIT_HYST_W < lim))
  let h := h.setPw (fun p => { p with overRun := if ovr then p.overRun + 1 else 0, underRun := if under then p.underRun + 1 else 0 })
  if 3 ≤ h.pw.overRun ∨ h.pw.ocFault = true then (h.wr PW_STATUS_PLIMIT 1).toCause 2 true
  else if 60 ≤ h.pw.underRun ∧ h.on PW_STATUS_PLIMIT = true then (h.wr PW_STATUS_PLIMIT 0).toCause 2 false
  else h

/-- PMB_ALERT (R442): a regulator reports an overcurrent fault, or reports it no more. -/
def Hw.pmbAlert (h : Hw) (present : Bool) : Hw :=
  let h := h.setPw (fun p => { p with ocFault := present, underRun := if present then 0 else p.underRun })
  if present then (h.wr PW_STATUS_PLIMIT 1).toCause 2 true else h

/-! ### Resets (R427 to R429) -/

/-- The cause of a reset (Table 17-4, Table 15-6): 1 power-on, 2 PERST_N, 3 SYS_RST_N. -/
def rstPower : Nat := 1
def rstPerst : Nat := 2
def rstSys : Nat := 3

/-- Regions that a reset of the chip domain covers. -/
def chipRegions : List Nat := [rgLine, rgPortE, rgPortW, rgPacket, rgControl, rgMemory]

/-- A reset of the chip domain (R429): the GLOBAL logic and every region but FAWN and the key store. -/
def Hw.chipReset (h : Hw) (cause : Nat) : Hw :=
  let h := h.when (cause != rstPower) Hw.padLatch
  let h := h.each chipRegions (fun h r => h.regionLose r (r == rgLine && bitOf h.pw.signed 3))
  let h := h.clearRegs (fun k => (k.dom == .chip || k.dom == .region) && !(k.reg == .HD_EST_RES && bitOf h.pw.signed (3 + k.i)))
  let h := h.epochReset false
  let h := { h with
    host := {}, pcnt := [], wraps := []
    clk := { h.clk with src := .free, pendD := none, needD := false, stretch := 0, micro := 0, prefPend := false, prefA := 0
                        prefC := 0, revert := false, usable := [], jobs := [] }
    sf := { h.sf with wantReload := [], ctlFrom := none, toCauses := [], toCause := 0, retReq := false, hostSafe := false
                      hotRun := 0, coolFrom := none, memLost := false, errLog := []
                      regions := (chipRegions.map (fun r => (r, { powered := false : RegionSt }))) }
    rcd := { h.rcd with stopped := false, tries := 0, job := none, erasing := none, readWait := false }
    pw := { h.pw with blks := [], flashOp := none, product := false, recovery := false, link := false, overRun := 0, underRun := 0 } }
  let h := h.each (List.range 50) (fun h k => (h.wr PW_BLK_STATE_STATE 0 k).wr PW_BLK_STATE_TARGET 0 k)
  let h := (h.wr PW_STATUS_READY 0).when (cause != rstPower) (fun h => h.each chipRegions (fun h r => h.wr PW_PAD_CFG_HELD 1 r))
  (h.wr GL_RST_STATUS_CAUSE cause).record sevInfo 0x0001 0x8000 (leBytes 1 cause)

/-- A Fawn power-on reset (R427): the domains Fawn power-on, key store and chip; everything starts afresh. -/
def Hw.fawnReset (h : Hw) : Hw :=
  { (({} : Hw).setRcd (fun r => { r with restored := false })) with
    out := h.out, free := h.free
    sf := { regions := chipRegions.map (fun r => (r, { powered := false : RegionSt })) }
    pw := { product := false, link := false, vddFawn := true } }

/-- VDD_FAWN_RISE (R427). -/
def Hw.vddRise (h : Hw) : Hw := h.fawnReset.record sevInfo 0x0001 0x8000 (leBytes 1 rstPower)

/-- VDD_FAWN_LOSS (R427): chip power state P4. -/
def Hw.vddLoss (h : Hw) : Hw :=
  let h := h.fawnReset
  h.setPw (fun p => { p with vddFawn := false })

/-- VDD_FAWN_LOW (R466): the level of VDD_FAWN in mV. -/
def Hw.vddLow (h : Hw) (mv : Nat) : Hw :=
  let h := h.wrB PW_STATUS_FAWN_LOW (decide (mv < 1800))
  if mv < 1650 then h.wr TC_STATUS_SET 0 else h

/-! ### P3 (R428, R435, R446) -/

/-- Start order of the regions (R434). -/
def startOrder : List Nat := [rgMemory, rgControl, rgPacket, rgPortW, rgPortE, rgLine]

/-- The chip enters P3: jobs are abandoned, regions stop with their pads held, the banks are signed and the counters go to
REFOSC with an added error of `err` 2^-44 ns, at most one count. -/
def Hw.enterP3 (h : Hw) (err : Int) : Hw :=
  let h := h.each startOrder.reverse (fun h r =>
    if (h.regionAt r).powered then
      let h := h.regionStop r
      (h.setState r stGated).setRegion r (fun s => { s with powered := false, offPend := false, wake := none })
    else h)
  let h := h.signBanks (List.range 14)
  let h := { h with sf := { h.sf with wantReload := [] } }
  let e := max (-(h.rd TC_INCR_INC : Int)) (min (h.rd TC_INCR_INC : Int) err)
  let now := (h.time.now : Int) + e
  let sv := h.rd TC_STATUS_SERVO
  let h := { h with
    clk := { h.clk with jobs := [] }
    time := { h.time with now := now.toNat, step := none }
    pw := { h.pw with
      standby := false, link := false, wakeFrom := none, blks := []
      padOff := chipRegions.foldl (fun v r => putBit v r true) h.pw.padOff
      fellAt := if (sv = svLocking ∨ sv = svLocked) ∧ h.pw.fellAt = none then some h.nowSec else h.pw.fellAt } }
  let h := if h.clk.refosc then h.wr TC_STATUS_CLK_SRC 1 else (h.wr TC_STATUS_CLK_SRC 2).wr TC_STATUS_SET 0
  (h.wr PW_STATUS_PSTATE 3).countEntry 11

/-- PWR_OK_FALL (R428). -/
def Hw.pwrOkFall (h : Hw) (err : Int) : Hw :=
  let h := if h.rd PW_STATUS_PSTATE = 3 then h else h.enterP3 err
  (h.wr PW_STATUS_PWR_OK 0).setPw (fun p => { p with vreqs := [] })

/-- PWR_OK_RISE (R420, R428, R429): the counters return to their clock with an added error of at most one count. -/
def Hw.pwrOkRise (h : Hw) (err : Int) : Hw :=
  if h.on PW_STATUS_PWR_OK then h
  else
    let e := max (-(h.rd TC_INCR_INC : Int)) (min (h.rd TC_INCR_INC : Int) err)
    let e := if h.rd TC_STATUS_CLK_SRC = 0 then 0 else e
    let h := { h with time := { h.time with now := ((h.time.now : Int) + e).toNat, half := 0 } }
    let h := (h.wr PW_STATUS_PWR_OK 1).wr TC_STATUS_CLK_SRC 0
    let h := if h.rcd.restored then h.wr EV_HOURS_PWR_CYCLES (h.rd EV_HOURS_PWR_CYCLES + 1)
      else h.setRcd (fun r => { r with heldRise := r.heldRise + 1 })
    let h := (h.wr PW_STATUS_PSTATE 0).setPw (fun p => { p with wakeFrom := none, inStandby := false })
    h.chipReset rstPower

/-- Table 16-1: the step of a supply of PW_RAIL; other rails rise last. -/
def railStep (supply : Nat) : Nat :=
  match supply with
  | 6 => 2 | 1 => 3 | 2 => 4 | 3 => 5 | 4 => 6 | 5 => 7
  | _ => 8

/-- The SWITCHED rails in the order of Table 16-1. -/
def Hw.railsUp (h : Hw) : List Nat :=
  ((List.range 8).filter (fun i => h.on PW_RAIL_SWITCHED i)).foldl (fun l i =>
    insertBy (fun a b => decide (railStep (h.rd PW_RAIL_SUPPLY a) ≤ railStep (h.rd PW_RAIL_SUPPLY b))) i l) []

/-- STANDBY at the tick boundary (R435). -/
def Hw.standbyBoundary (h : Hw) : Hw :=
  if h.pw.standby then
    let h := (h.enterP3 0).setPw (fun p => { p with inStandby := true })
    h.each h.railsUp.reverse (fun h i => h.vreq { rail := i, mv := 0, kind := 2 })
  else h

/-- An assertion and deassertion of PERST_N or SYS_RST_N in P3 switches the rails on again (R435). -/
def Hw.standbyWake (h : Hw) : Hw :=
  let l := h.railsUp.filter (fun i => look h.pw.railOff i false || h.pw.vreqs.any (fun v => v.rail == i && v.kind == 2))
  if !h.pw.inStandby then h
  else if l.isEmpty then h.setPw (fun p => { p with wakeFrom := some h.clk.ut, inStandby := false })
  else h.each l (fun h i => h.vreq { rail := i, mv := 0, kind := 1 })

/-- STANDBY_WAKE_TIMEOUT (R435): 20 ms, 12,800 microticks. -/
def Hw.standbyTimeout (h : Hw) : Hw :=
  match h.pw.wakeFrom with
  | some t => if t + 12800 ≤ h.clk.ut ∧ h.on PW_STATUS_PWR_OK = false then (h.wr PW_STATUS_PWR_FAULT 1).setPw (fun p => { p with wakeFrom := none }) else h
  | none => h

/-- SYS_RST_N (R429, R435). -/
def Hw.sysRst (h : Hw) : Hw := if h.rd PW_STATUS_PSTATE = 3 then h.standbyWake else h.chipReset rstSys

/-- PERST_N (R429, R435): the endpoint, and the chip domain while PERST_SCOPE is 1. -/
def Hw.perst (h : Hw) : Hw :=
  if h.rd PW_STATUS_PSTATE = 3 then h.standbyWake
  else if h.on PW_CTRL_PERST_SCOPE then h.chipReset rstPerst
  else (h.ringStopAll).setPw (fun p => { p with link := false })

/-- PCIE_LINK_TRAINED (R3). -/
def Hw.linkTrained (h : Hw) (width speed : Nat) : Hw :=
  if h.pw.vddFawn && h.rd PW_STATUS_PSTATE != 3 then
    ((h.wr HI_PCIE_STATUS_WIDTH width).wr HI_PCIE_STATUS_SPEED speed).setPw (fun p => { p with link := true })
  else h

/-! ### Boot (R430 to R433, R420) -/

/-- One section entry of the header (Table 16-3): type, copy, offset and length. -/
structure Section where
  typ : Nat
  copy : Nat
  ofs : Nat
  len : Nat
  deriving DecidableEq, Repr

def u16 (b : List Byte) (o : Nat) : Nat := leNat (slice b o 2)
def u32 (b : List Byte) (o : Nat) : Nat := leNat (slice b o 4)

/-- The header of the boot image and its section entries. -/
def bootHeader (n : NonVol) : List Byte := flashRead n.flash 0 320

def bootSections (n : NonVol) : List Section :=
  let b := bootHeader n
  (List.range (min 16 (u16 b 6))).map (fun i =>
    { typ := u16 b (64 + 16 * i), copy := leNat (slice b (66 + 16 * i) 1), ofs := u32 b (68 + 16 * i), len := u32 b (72 + 16 * i) })

/-- Check 2 of Table 16-5: the header and where its sections lie. -/
def bootHeaderOk (n : NonVol) (size : Nat) : Bool :=
  let b := bootHeader n
  let ss := (bootSections n).map (fun s => (s.ofs, s.len))
  let own := [(u32 b 8, 2 ^ 21), (u32 b 12, 4096)]
  let hit (x y : Nat × Nat) : Bool := decide (x.1 < y.1 + y.2 ∧ y.1 < x.1 + x.2)
  let apart : List (Nat × Nat) → Bool := fun l => (l.zipIdx).all (fun x => (l.drop (x.2 + 1)).all (fun y => !hit x.1 y))
  u32 b 0 == 0x544F4F42 && u16 b 4 == 1 && decide (1 ≤ u16 b 6 ∧ u16 b 6 ≤ 16) && u32 b 8 % 4096 == 0 &&
    ss.all (fun s => decide (s.1 + s.2 ≤ size)) && ss.all (fun s => own.all (fun o => !hit s o)) && apart ss

/-- PW_BOOT_STATUS.FAIL_CODE keeps the first failure. -/
def Hw.bootFail (h : Hw) (code : Nat) : Hw := if h.on PW_BOOT_STATUS_FAIL_CODE then h else h.wr PW_BOOT_STATUS_FAIL_CODE code

/-- Recovery boot (Table 16-5, note a). -/
def Hw.bootRecovery (h : Hw) (code : Nat) : Hw :=
  ((h.bootFail code).wr PW_BOOT_STATUS_RECOVERY 1).setPw (fun p => { p with recovery := true })

/-- A register that a preset can write (R432). -/
def presetOf (off : Nat) : Option (RegName × Nat × Nat × Nat) :=
  match (if off % 4 = 0 then barAt off else .none) with
  | .reg r i j w =>
    if r.fields.any (fun f => f.inWord w && f.acc == .rw && (f.dom == .chip || f.dom == .fawn)) then some (r, i, j, w) else none
  | _ => none

/-- R432: one preset entry. -/
def Hw.preset (n : NonVol) (h : Hw) (off v : Nat) : Hw :=
  match presetOf off with
  | some (r, i, j, w) => h.regWrite n r i j w v
  | none => h.wr PW_BOOT_STATUS_PRESET_SKIP (min 65535 (h.rd PW_BOOT_STATUS_PRESET_SKIP + 1))

/-- The first section of a type that the header names. -/
def sectionOf (n : NonVol) (typ copy : Nat) : Option Section := (bootSections n).find? (fun s => s.typ == typ && s.copy == copy)

/-- The bytes of a section. -/
def sectionBytes (n : NonVol) (s : Section) : List Byte := flashRead n.flash s.ofs s.len

/-- Check 6: the presets. -/
def Hw.bootPresets (h : Hw) (n : NonVol) (ok : Bool) : Hw :=
  match sectionOf n 5 0 with
  | none => h
  | some s =>
    if ok then
      let b := sectionBytes n { s with len := s.len - 96 }
      h.each (List.range (b.length / 8)) (fun h k => h.preset n (u32 b (8 * k)) (u32 b (8 * k + 4)))
    else (h.bootFail 6).recordOther sevWarn 0x0001 26

/-- Checks 8 and 9: the first copy, in order of COPY, that passes the checks of R342. -/
def Hw.bootImage (h : Hw) (n : NonVol) (typ : Nat) (sig : List Bool) : Option (Nat × List Byte) :=
  [0, 1].findSome? (fun c => match sectionOf n typ c with
    | some s =>
      let b := sectionBytes n s
      if (h.fwCheck b (sig.getD c false)).isNone then some (c, b) else none
    | none => none)

/-- R420: what the flash restores after a Fawn power-on reset, and the write of PWR_CYCLES. -/
def Hw.bootCounts (h : Hw) (n : NonVol) : Hw × NonVol :=
  let h := if h.rcd.restored then h
    else
      let h := (h.wr EV_HOURS_OP_HOURS n.hours).wr EV_HOURS_PWR_CYCLES (n.cycles + h.rcd.heldRise)
      let h := h.each [0, 1] (fun h a => (h.setAct a (fun s => { s with estop := bitOf n.estop a })).wrB LN_ATT_STATUS_ESTOP (bitOf n.estop a) a)
      h.setRcd (fun r => { r with restored := true, heldRise := 0 })
  (h, { n with cycles := h.rd EV_HOURS_PWR_CYCLES })

/-- Checks 6 to 9, after PRODUCT has passed. -/
def Hw.bootRest (h : Hw) (n : NonVol) (x : BootIn) : Hw :=
  let h := h.bootPresets n x.presetOk
  let h := match sectionOf n 6 0, x.dkek with
    | some _, some k => ({ h with ks := { h.ks with dkek := k, imageDkek := some k } }).wr CX_KS_STATUS_DKEK_VALID 1
    | some _, none => h.bootFail 7
    | none, _ => h
  match h.bootImage n 7 x.sup with
  | none => (h.bootFail 8).setState rgControl stFailed
  | some (c, _) =>
    let h := h.wr PW_BOOT_STATUS_SUP_COPY c
    match h.bootImage n 8 x.svc with
    | none => (h.bootFail 9).setState rgControl stFailed
    | some (c, b) =>
      (((h.wr PW_BOOT_STATUS_SVC_COPY c).wr SV_FW_STATUS_FW_VERSION (leNat (slice b 8 4))).wr SV_FW_STATUS_MIN_SEC_VER x.minSec).setPk
        (fun p => { p with fwSec := leNat (slice b 12 4) })

/-- BOOT (R431): the checks of Table 16-5 in order. -/
def Hw.boot (h : Hw) (n : NonVol) (x : BootIn) : Hw × NonVol :=
  if h.pw.product || h.pw.recovery || h.rd PW_STATUS_PSTATE == 3 || !h.pw.vddFawn then (h, n)
  else if x.size < 2 ^ 24 then (h.bootRecovery 1, n)
  else if !bootHeaderOk n x.size then (h.bootRecovery 2, n)
  else
    let b := bootHeader n
    let h := h.setPw (fun p => { p with logOfs := u32 b 8, opOfs := u32 b 12 })
    let (h, n) := h.bootCounts n
    let (h, n) := h.rewriteResume n
    if !x.keysOk then (h.bootRecovery 3, n)
    else
      let h := h.wrB PW_BOOT_STATUS_UNOWNED (!n.owned)
      if !x.factoryOk then (h.bootRecovery 4, n)
      else
        let h := h.setPw (fun p => { p with factory := x.lat })
        let h := h.each x.txLat.zipIdx (fun h y => h.wr LN_TX_LAT_LAT y.1 (y.2 / 2) (y.2 % 2))
        if !x.productOk then (h.bootRecovery 5, n)
        else
          let h := h.setPw (fun p => { p with product := true, baseMac := x.baseMac, attMac := x.attMac.zipIdx.map (fun y => (y.2, y.1)) })
          let h := h.each x.sn.zipIdx (fun h y => (h.wr LN_ATT_SN_VENDOR (y.1 / 2 ^ 32) y.2).wr LN_ATT_SN_VSSN (y.1 % 2 ^ 32) y.2)
          (h.bootRest n x, n)

/-! ### Start-up and wakes (R434, R439) -/

/-- One region starts: it is enabled, powered off and has not failed. -/
def Hw.startRegion (h : Hw) (r bad : Nat) (keep : Bool) : Hw :=
  if h.regionEnabled r && !(h.regionAt r).powered && h.rd SF_REGION_STATE r != stFailed then h.regionBegin r 0 bad keep else h

/-- START_UP (R434): the banks of FAWN and LINE are checked (`banks` marks those that fail) and each enabled region
starts, after TIME_CRC has been computed (R380); `bad` marks the LPDDR6 channels whose training fails. A cold start
holds no pad. -/
def Hw.startUp (h : Hw) (n : NonVol) (bad banks : Nat) : Hw × NonVol :=
  if !h.pw.product || h.pw.recovery || h.rd PW_STATUS_PSTATE == 3 then (h, n)
  else
    let keep := bitOf h.pw.signed 3 && bitOf h.pw.signed 4
    let (h, n) := h.bankCheck n (List.range 14) banks
    (h.showCrc.each startOrder (fun h r => h.startRegion r bad (r == rgLine && keep)), n)

/-- A region that was powered off wakes (R439, R448): `pll` says that its clocks do not lock. -/
def Hw.regionWake (h : Hw) (n : NonVol) (r : Nat) (pll : Bool) (banks bad : Nat) : Hw × NonVol :=
  match (h.regionAt r).wake with
  | some cause =>
    if h.mayWake r = false ∨ h.pw.vreqs.any (fun v => v.waiter == 16) = true then (h, n)
    else if pll then ((h.setRegion r (fun s => { s with powered := true, wake := none })).regionFail r, n)
    else
      let keep := r == rgLine && bitOf h.pw.signed 3
      let (h, n) := if r = rgLine then h.bankCheck n lineBanks banks else (h, n)
      (h.regionBegin r cause bad keep, n)
  | none => (h, n)

/-- BLOCK_WAKE (R439): block u returns to its active state after its exit time, or region u − 100 wakes. For a cipher
cluster that was OFF, `bad` marks the lanes that fail their known-answer test; for a channel in DEEP_SLEEP, bit 0 says that
its exit fails (R286). -/
def Hw.blockWake (h : Hw) (n : NonVol) (u : Nat) (pll : Bool) (banks bad : Nat) : Hw × NonVol :=
  if 100 < u ∧ u < 108 then h.regionWake n (u - 100) pll banks bad
  else if 32 ≤ u ∧ u < 50 ∧ h.rd PW_BLK_STATE_TARGET u < h.rd PW_BLK_STATE_STATE u then
    let s := h.rd PW_BLK_STATE_STATE u
    let h := (h.wr PW_BLK_STATE_STATE 0 u).showPstate
    if s = 4 then
      let h := h.each ((List.range 16).filter (bitOf bad)) (fun h l =>
        h.wr CX_LANE_STATUS_IN_SERVICE (putBit (h.rd CX_LANE_STATUS_IN_SERVICE) (16 * (u - 32) + l) false))
      (h.clusterCheck (u - 32), n)
    else if s = 7 ∧ bitOf bad 0 = true then (h.chanFail (u - 40), n)
    else (h, n)
  else (h, n)

/-! ### JTAG (R478) -/

/-- IDCODE of stepping A1. -/
def jtagIdcode : Nat := 0xA912856F

/-- JTAG_INSTRUCTION (R478): the instruction that takes effect; `instr` 6 programs the fuses, among them OWNER_DIGEST
(R431) where `owner` is true, and 7 opens scan access, which zeroises the key store first (R305). The data register that
the instruction selects captures IDCODE, or 0 for BYPASS. -/
def Hw.jtagInstr (h : Hw) (n : NonVol) (instr : Nat) (owner : Bool) : Hw × NonVol :=
  let h := (h.setPw (fun p => { p with jtag := instr })).emit (.jtag instr (if instr = 1 then jtagIdcode else 0))
  if instr = 6 then (h, { n with owned := n.owned || owner })
  else if instr = 7 then (h.scanEnable, n)
  else (h, n)

end Sys2Proof.Machine
end

