-- ==== Sys2Proof/Machine/Tick.lean ====
section
/-! DEFINITION. Microtick and tick boundaries: the order of their steps (R27), the periodic jobs and their overruns
(R26, R28 to R30), and what happens at each boundary (R23 to R25, R32). -/

namespace Sys2Proof.Machine

/-! ### Periodic jobs (Table 1-6) -/

/-- Jobs of Table 1-6. -/
def jobHerd : Nat := 2
def jobServo : Nat := 3
def jobXchk : Nat := 4
def jobSelftest : Nat := 5
def jobArm : Nat := 6
def jobSnapshot : Nat := 7
def jobSecond : Nat := 8
def jobRefill : Nat := 9
def jobAgeing : Nat := 10
def jobPoll : Nat := 11

/-- The block that runs job j (Table 1-6, notes (d)); its region is its first digit. -/
def Hw.jobBlock (h : Hw) (j : Nat) : Nat :=
  match j with
  | 0 => 0x1030 | 1 => 0x1031 | 2 => 0x1020 | 3 => 0x2000 | 4 => 0x2003
  | 5 => quadBlock h.time.selfPort
  | 6 => 0x7020 | 7 => 0x7030 | 8 => 0x1000 | 9 => 0x5020 | 10 => 0x7000
  | _ => 0x7020

def Hw.jobAt (h : Hw) (j : Nat) : JobSt := look h.clk.jobs j {}
def Hw.setJob (h : Hw) (j : Nat) (s : JobSt) : Hw := { h with clk := { h.clk with jobs := store h.clk.jobs j s } }

/-- R30: a job has overrun in `n` consecutive periods. -/
def Hw.jobRepeats (h : Hw) (j n : Nat) : Hw :=
  let b := h.jobBlock j
  if j = jobServo ∨ j = jobXchk then (if 2 ≤ n then h.detect 8 scopeGlobal 0 else h)
  else if n = 8 then
    if j = jobSelftest then h.quadError (h.time.selfPort / 4) 0 5 else (h.isolate b).askReload (b / 0x1000) 1
  else h

/-- R27, step 3, and R28: the period of job j ends. -/
def Hw.jobEnd (h : Hw) (j : Nat) : Hw :=
  let s := h.jobAt j
  if !s.running then h
  else if s.ovr then
    let h := (h.setJob j { overruns := s.overruns + 1 }).inc GL_JOB_STAT_OVERRUN j
    (h.recordOf sevWarn (h.jobBlock j) GL_JOB_STAT_OVERRUN j 0 (leBytes 1 j)).jobRepeats j (s.overruns + 1)
  else
    let h := h.setJob j {}
    if s.late then h.inc GL_JOB_STAT_LATE j else h

/-- R27, step 5: job j starts, if its region runs; the output of a run that overruns is the held one (`held`), else that of
the run (`run`). -/
def Hw.jobStart (h : Hw) (ovr late : List Nat) (j : Nat) (run held : Hw → Hw) : Hw :=
  if h.runs (h.jobBlock j / 0x1000) then
    let o := ovr.contains j
    let h := h.setJob j { h.jobAt j with running := true, ovr := o, late := late.contains j }
    if o then held h else run h
  else h.setJob j {}

/-! ### What the jobs do -/

/-- The doorbell poll (R364). -/
def Hw.pollJob (h : Hw) (x : MicroIn) : Hw :=
  if h.pollDue then (h.jobEnd jobPoll).jobStart x.ovr x.late jobPoll (fun h => h.dbPoll false x.poll) (fun h => h.dbPoll true x.poll)
  else h

/-- Whether SECOND runs at this boundary (Table 1-6, note (a)). -/
def Hw.secondDue (h : Hw) : Bool :=
  if h.on TC_STATUS_SET then h.nowSec != h.clk.secWhole && decide (h.clk.secLast + 4000 ≤ h.tick)
  else decide (h.clk.secLast + 8000 ≤ h.tick)

/-- SECOND (R64 to R68, R120, R150, R352): the second closes. -/
def Hw.secondRun (h : Hw) (ovr : Bool) : Hw :=
  let h := h.each [0, 1] (fun h a => h.each [0, 1, 2, 3] (fun h c => h.pmClose a c ovr))
  let h := h.each [0, 1] (fun h a => h.blockClose a)
  if h.runs rgControl then h.pmSecond h.nowSec else h

/-- The seconds job, where it is due; the servo's second closes in the time core. -/
def Hw.secondJob (h : Hw) (x : TickIn) : Hw :=
  if h.secondDue then
    let h := { h with clk := { h.clk with secLast := h.tick, secUt := h.clk.ut, secWhole := h.nowSec } }
    ((h.jobEnd jobSecond).jobStart x.ovr x.late jobSecond (fun h => h.secondRun false) (fun h => h.secondRun true)).servoSecond
  else h

/-- SERVO (R137 to R150), after a return from P3 with the entry to HOLDOVER that R446 asks for. -/
def Hw.servoRun (h : Hw) (lost : Bool) (x : TickIn) : Hw :=
  match h.pw.fellAt with
  | some t => (((h.holdoverEnter ((t : Int) * sec16)).setPw (fun p => { p with fellAt := none })).servoJob lost x.drift)
  | none => h.servoJob lost x.drift

/-- The counter-snapshot job, where it is due (R347). -/
def Hw.snapJob (h : Hw) (x : TickIn) : Hw :=
  if h.snapDue then
    (h.jobEnd jobSnapshot).jobStart x.ovr x.late jobSnapshot (fun h => h.snapshot false x.full x.busy) (fun h => h.snapshot true x.full x.busy)
  else h

/-- The jobs whose periods begin at a tick boundary; `lost` says that the HERD job of the tick that ended overran (R103). -/
def Hw.tickJobs (h : Hw) (lost : Bool) (x : TickIn) : Hw :=
  let go (h : Hw) (j : Nat) (run held : Hw → Hw) : Hw := h.jobStart x.ovr x.late j run held
  let h := h.secondJob x
  let h := go h 0 id (fun h => h.bwmapHeld 0)
  let h := go h 1 id (fun h => h.bwmapHeld 1)
  let h := go h jobHerd (fun h => h.herdJob x.words x.skewOut) Hw.herdHeld
  let h := go h jobServo (fun h => h.servoRun lost x) Hw.servoHeld
  let h := go h jobXchk Hw.xchkJob id
  let h := go h jobSelftest (fun h => h.selfTest x.dev) id
  let h := go h jobArm (fun h => h.epochArm x.noReady) id
  h.snapJob x

/-! ### Microtick boundaries (R23, R27) -/

/-- What happens at every microtick boundary, the tick's among them. -/
def Hw.microStep (h : Hw) (x : MicroIn) : Hw :=
  let h := (h.jobEnd jobRefill).jobEnd jobAgeing
  let h := h.each x.lanes Hw.laneSee
  let h := (h.each h.laneActive Hw.laneMicro).each (h.laneActive.filter (fun n => h.portBase n == n)) Hw.linkMicro
  let h := h.each (h.rx.map Prod.fst) (fun h k => h.rxMicro (k / 4) (k % 4) (x.seen.contains k))
  let h := h.each [0, 1] Hw.healthWatch
  let h := if h.runs rgPacket then h.each (List.range 16) Hw.homingStep else h
  let h := h.reloadsStart
  let h := h.jobStart x.ovr x.late jobRefill Hw.refill id
  let h := h.jobStart x.ovr x.late jobAgeing Hw.ageing id
  let h := (h.pollJob x).hostMicro
  let h := h.each ((h.port.filter (fun p => !p.2.rx.isEmpty)).map Prod.fst) (fun h n => h.portAdmit n (h.portAt n).rx.length)
  (if h.runs rgPacket then h.backPressure else h).powerMicro x.pwr

/-- MICROTICK_BOUNDARY (R23, R27): the boundary of the next microtick of the tick; at the last of them the next boundary is
the tick's, and in P3 no core clock runs. -/
def Hw.microBoundary (h : Hw) (x : MicroIn) : Hw :=
  if !h.pw.vddFawn || h.rd PW_STATUS_PSTATE == 3 || decide (h.microCount ≤ h.clk.micro + 1) then h
  else
    let h := h.advance 2430
    ({ h with clk := { h.clk with micro := h.clk.micro + 1, ut := h.clk.ut + 1 } }).microStep x

/-! ### Tick boundaries (R23 to R25, R27, R32) -/

/-- What the tick that ends leaves: reactions and their end, findings, jobs and figures (R27, steps 1 to 3). -/
def Hw.tickEnds (h : Hw) : Hw :=
  let h := h.reactionEnd.reactions.rollDetections
  let h := h.each [0, 1, jobHerd, jobServo, jobXchk, jobSelftest, jobArm] Hw.jobEnd
  let h := h.each (h.rx.map Prod.fst) (fun h k => h.rxTick (k / 4) (k % 4))
  if h.runs rgControl then h.statTick else h

/-- R27, step 4: the flip of an armed epoch, and GL_TICK_NUM. -/
def Hw.tickFlip (h : Hw) : Hw :=
  let h := h.flipBoundary (h.tick + 1)
  let h := h.wr GL_TICK_NUM_TICK ((h.tick + 1) % 2 ^ 64)
  if h.on PW_STATUS_PWR_OK then h.setRcd (fun r => { r with hourTick := r.hourTick + 1 }) else h

/-- What takes effect at the boundary before the jobs start: power-offs, the clock's reference, maps, the time core and the
operating level. -/
def Hw.tickTakes (h : Hw) (x : TickIn) : Hw :=
  let h := h.offBoundary
  let h := (h.prefBoundary.usableTick).stretchBoundary x.d
  let h := if h.runs rgLine then h.each [0, 1] Hw.mapBoundary else h
  ((h.timeBoundary.thermTick x.tj).levelBoundary).recalTick.memTick

/-- The rung of R151 and the second in which it was last LOCKED. -/
def Hw.rungTick (h : Hw) : Hw :=
  let h := h.holdElapsed
  let h := h.wr TC_STATUS_RUNG h.rungNow
  if h.rung = rungLocked then { h with time := { h.time with lockedSec := some h.nowSec } } else h

/-- What follows the jobs: the checks of Table 15-3, the rung, pins, ports, security associations and links. -/
def Hw.tickFollows (h : Hw) (x : TickIn) : Hw :=
  let h := h.each (h.replicasBad x.replicas) (fun h i => if i < 128 ∧ h.runs (tsRegion i) = true then h.replicaFault i else h)
  let h := (h.checkTick x.ppm x.crcBad x.diverse).checkAge.rungTick.heartbeat
  let h := (h.pinsRefresh.qlBoundary).each h.tsActive Hw.tsBoundary
  let h := if h.runs rgPacket then h.saBoundaries else h
  h.each (h.laneActive.filter (fun n => h.portBase n == n)) Hw.linkTick

/-- TICK_BOUNDARY while the core clock runs: the rest of the tick passes, then the steps of R27 in order. -/
def Hw.tickRun (h : Hw) (x : TickIn) : Hw :=
  let left := h.microCount - h.clk.micro
  let h := h.advance h.cyclesLeft
  let h := { h with clk := { h.clk with ut := h.clk.ut + left } }
  let lost := (h.jobAt jobHerd).ovr
  let h := h.tickEnds.tickFlip
  if h.pw.standby then h.standbyBoundary
  else ((((h.tickTakes x).tickJobs lost x).tickFollows x).microStep x.micro)

/-- R24: in P3 the tick number advances 8,000 times per second of the time counter, and no jobs run. -/
def Hw.tickSleep (h : Hw) : Hw :=
  let h := { h with
    time := { h.time with now := h.time.now + 125000 * 2 ^ 44 }
    clk := { h.clk with ut := h.clk.ut + 80 } }
  h.wr GL_TICK_NUM_TICK ((h.tick + 1) % 2 ^ 64)

/-- TICK_BOUNDARY (R23 to R25, R27, R32). -/
def Hw.tickBoundary (h : Hw) (x : TickIn) : Hw :=
  if !h.pw.vddFawn then h else if h.rd PW_STATUS_PSTATE = 3 then h.tickSleep else h.tickRun x

end Sys2Proof.Machine
end

