-- ==== Sys2Proof/WellFormed.lean ====
section
/-! DEFINITION. Which commands are well formed: every operand within the range that its register, message or index has.
`exec` is total and does not look at this; statements about decoding and bounds do. -/

namespace Sys2Proof

/-- A command header's fields in their widths (Table 14-4). -/
def CmdHdr.wf (hd : CmdHdr) : Bool :=
  decide (hd.ring < 16 ∧ hd.cmdId < 2 ^ 16 ∧ hd.compl < 256 ∧ hd.epoch < 2 ^ 32)

/-- The opcodes of Table 14-6. -/
def cmdSet : List Nat :=
  [1, 2, 3, 4, 5] ++ [0x10, 0x11, 0x12, 0x13, 0x14, 0x15] ++ [0x20, 0x21, 0x22, 0x23] ++
    [0x30, 0x31, 0x32, 0x33, 0x34, 0x35] ++ [0x38, 0x39, 0x3A, 0x3B]

/-- R27: job numbers of Table 1-6 and receivers of a microtick. -/
def MicroIn.wf (x : MicroIn) : Bool :=
  x.ovr.all (fun j => decide (9 ≤ j ∧ j ≤ 11)) && x.seen.all (fun k => decide (k < 8)) &&
    x.lanes.all (fun l => decide (l.lane < 128 ∧ l.cond < 256)) && decide (x.pwr.acc < 256)

/-- R25, R26: D and the job numbers of a tick. -/
def TickIn.wf (x : TickIn) : Bool :=
  x.micro.wf && x.ovr.all (fun j => decide (j ≤ 8)) && decide (x.d < 194400)

/-- Whether a command is well formed. -/
def Instr.wf : Instr → Bool
  | .microtickBoundary x => x.wf
  | .tickBoundary x => x.wf
  | .corePllRefChange => true
  | .clkRevert => true
  | .glClkCtrlWrite v => decide (v < 2 ^ 32)
  | .refoscStop => true
  | .refoscRestart => true
  | .rxEnable a c v => decide (a < 2 ∧ c < 4 ∧ v < 2 ^ 32)
  | .rxDisable a c v => decide (a < 2 ∧ c < 4 ∧ v < 2 ^ 32)
  | .rxSelftestDone a c _ => decide (a < 2 ∧ c < 4)
  | .eqReset a c v => decide (a < 2 ∧ c < 4 ∧ v < 2 ^ 32)
  | .losDeclared a c _ => decide (a < 2 ∧ c < 4)
  | .cdrLock a c phase => decide (a < 2 ∧ c < 4 ∧ phase < 2 ^ 32)
  | .eqConv a c => decide (a < 2 ∧ c < 4)
  | .candidateFound a c _ sfc => decide (a < 2 ∧ c < 4 ∧ sfc < 2 ^ 51)
  | .confirmationPoint a c _ _ _ _ => decide (a < 2 ∧ c < 4)
  | .expectedPositionCheck a c _ _ _ => decide (a < 2 ∧ c < 4)
  | .alignerParityError a c => decide (a < 2 ∧ c < 4)
  | .codewordDecoded a c outcome _ => decide (a < 2 ∧ c < 4 ∧ outcome < 3)
  | .lnMapCfgWrite a v => decide (a < 2 ∧ v < 2 ^ 32)
  | .pmClear a c v => decide (a < 2 ∧ c < 4 ∧ v < 2 ^ 32)
  | .xgemFrameRx a src port key _ _ _ => decide (a < 2 ∧ src < 5 ∧ port < 2 ^ 16 ∧ key < 3)
  | .actEnWrite a v => decide (a < 2 ∧ v < 2 ^ 32)
  | .burstProfile a c _ u i _ _ => decide (a < 2 ∧ c < 4 ∧ u < 2 ∧ i < 4)
  | .assignOnuId a c _ sn id => decide (a < 2 ∧ c < 4 ∧ sn < 2 ^ 64 ∧ id < 1023)
  | .rangingTime a c _ _ _ => decide (a < 2 ∧ c < 4)
  | .deactivateOnuId a c _ _ => decide (a < 2 ∧ c < 4)
  | .disableSerialNumber a c _ _ _ => decide (a < 2 ∧ c < 4)
  | .requestRegistration a c _ => decide (a < 2 ∧ c < 4)
  | .assignAllocId a c _ id _ => decide (a < 2 ∧ c < 4 ∧ id < 2 ^ 14)
  | .keyControl a c _ _ _ => decide (a < 2 ∧ c < 4)
  | .profileMessage a c _ _ => decide (a < 2 ∧ c < 4)
  | .sleepAllow a c _ => decide (a < 2 ∧ c < 4)
  | .tuningControl a c _ => decide (a < 2 ∧ c < 4)
  | .changePowerLevel a c _ _ => decide (a < 2 ∧ c < 4)
  | .protectionControl a c _ => decide (a < 2 ∧ c < 4)
  | .otherPloam a c _ _ => decide (a < 2 ∧ c < 4)
  | .ploamIgnored a c => decide (a < 2 ∧ c < 4)
  | .to1Expiry a => decide (a < 2)
  | .to2Expiry a => decide (a < 2)
  | .estopFlashCopy a => decide (a < 2)
  | .opticsDelayWrite a w i v => decide (a < 2 ∧ w < 3 ∧ i < 4 ∧ v < 2 ^ 32)
  | .burstStaging k _ _ => decide (k < 4)
  | .burstEnAssert k => decide (k < 4)
  | .burstLaunch k => decide (k < 4)
  | .burstEnDeassert k => decide (k < 4)
  | .burstWatchdogTrip k => decide (k < 4)
  | .omciMessageRx a kind action tci cls inst _ _ => decide (a < 2 ∧ kind < 4 ∧ action < 256 ∧ tci < 2 ^ 16 ∧ cls < 2 ^ 16 ∧ inst < 2 ^ 16)
  | .omciCfgAnswer a tci => decide (a < 2 ∧ tci < 2 ^ 16)
  | .omciHoldExpiry a => decide (a < 2)
  | .memberStatus a => decide (a < 2)
  | .helloSend a => decide (a < 2)
  | .hello a mac => decide (a < 2 ∧ mac < 2 ^ 48)
  | .herdDesc a seq _ _ => decide (a < 2 ∧ seq < 2 ^ 16)
  | .herdDescSwitch a => decide (a < 2)
  | .twinReport a _ quality => decide (a < 2 ∧ quality < 256)
  | .eqdU1 a seq e => decide (a < 2 ∧ seq < 2 ^ 16 ∧ e < 2 ^ 64)
  | .rangeInfo a trt => decide (a < 2 ∧ trt < 2 ^ 64)
  | .bondAlloc a seq _ => decide (a < 2 ∧ seq < 2 ^ 16)
  | .swEnWrite a v => decide (a < 2 ∧ v < 2 ^ 32)
  | .hdWavelengthWrite a i v => decide (a < 2 ∧ i < 7 ∧ v < 2 ^ 32)
  | .estimatorModeWrite a v => decide (a < 2 ∧ v < 2 ^ 32)
  | .asymOverrideWrite a v => decide (a < 2 ∧ v < 2 ^ 32)
  | .fitComplete a _ => decide (a < 2)
  | .estimatorApply a => decide (a < 2)
  | .lockstepMismatch _ => true
  | .lsResync v => decide (v < 2 ^ 32)
  | .tcSetGo v => decide (v < 2 ^ 32)
  | .todaAttribute a lo sec ns => decide (a < 2 ∧ lo < 2 ^ 32 ∧ sec < 2 ^ 48 ∧ ns < 10 ^ 9)
  | .tcTodaInGo d v => decide (d < 2 ∧ v < 2 ^ 32)
  | .domainQualified d => decide (d < 2)
  | .holdoverTimerExpiry => true
  | .ppsEdge p _ => decide (p < 8)
  | .ppsMissing _ => true
  | .oscModelMeasure _ _ _ => true
  | .comparatorTarget k => decide (k < 32)
  | .pulseEnd k => decide (k < 32)
  | .timeCapture p edge _ => decide (p < 8 ∧ edge < 2)
  | .todMessageSend p => decide (p < 8)
  | .pinReadback p _ => decide (p < 8)
  | .stationLaneLock n tx rx => decide (n < 128 ∧ tx < 2 ^ 28 ∧ rx < 2 ^ 28)
  | .sync i => decide (i < 130)
  | .announce i => decide (i < 130)
  | .delayReq i _ => decide (i < 130)
  | .pdelayReq i _ => decide (i < 130)
  | .ntpRequest i _ => decide (i < 130)
  | .arpRequest i _ mac ip => decide (i < 130 ∧ mac < 2 ^ 48 ∧ ip < 2 ^ 128)
  | .esmcRx i => decide (i < 130)
  | .esmcInfoPdu i => decide (i < 130)
  | .esmcEventPdu i => decide (i < 130)
  | .responderCommit i _ len => decide (i < 130 ∧ len < 9729)
  | .txLate i => decide (i < 130)
  | .attachmentFail a => decide (a < 2)
  | .attachmentRecover a => decide (a < 2)
  | .returnTimeout g => decide (g < 16)
  | .fifoEmpty g => decide (g < 16)
  | .bridgeDrain => true
  | .frerResetTimeout r => decide (r < 1024)
  | .linkUp n => decide (n < 128)
  | .laneIdle n => decide (n < 128)
  | .dfeEqReset n v => decide (n < 128 ∧ v < 2 ^ 32)
  | .macFrameRx n _ _ _ _ => decide (n < 128)
  | .pauseTimerExpiry n => decide (n < 128)
  | .pauseGenerate n => decide (n < 128)
  | .pauseRefresh n => decide (n < 128)
  | .macFrameTx n => decide (n < 128)
  | .laneRecal hd lane mode => hd.wf && decide (lane < 256 ∧ mode < 256)
  | .laneRecalDone r tx rx _ => decide (tx < 2 ^ 28 ∧ rx < 2 ^ 28 ∧ (r = 3 ∨ r = 4))
  | .pNop e => (.nop : PInstr).wf && decide (e < 48)
  | .pLd e d sz off => (.ld d sz off : PInstr).wf && decide (e < 48)
  | .pLdi e d imm => (.ldi d imm : PInstr).wf && decide (e < 48)
  | .pLdih e d imm => (.ldih d imm : PInstr).wf && decide (e < 48)
  | .pExtb e d rs pos w => (.extb d rs pos w : PInstr).wf && decide (e < 48)
  | .pAlu e d a b fn => (.alu d a b fn : PInstr).wf && decide (e < 48)
  | .pAlui e d a fn imm => (.alui d a fn imm : PInstr).wf && decide (e < 48)
  | .pCmp e a b => (.cmp a b : PInstr).wf && decide (e < 48)
  | .pCmpi e a imm => (.cmpi a imm : PInstr).wf && decide (e < 48)
  | .pBf e cond target => (.bf cond target : PInstr).wf && decide (e < 48)
  | .pAdv e mode rs imm => (.adv mode rs imm : PInstr).wf && decide (e < 48)
  | .pMark e k typ => (.mark k typ : PInstr).wf && decide (e < 48)
  | .pKey e koff off len => (.key koff off len : PInstr).wf && decide (e < 48)
  | .pKeyr e koff rs sz => (.keyr koff rs sz : PInstr).wf && decide (e < 48)
  | .pHash e d c v6 koff => (.hash d c v6 koff : PInstr).wf && decide (e < 48)
  | .hashResult e d => decide (e < 48 ∧ d < 8)
  | .pLookup e d tbl koff rs => (.lookup d tbl koff rs : PInstr).wf && decide (e < 48)
  | .lookupResult e d _ => decide (e < 48 ∧ d < 8)
  | .pSetm e f rs => (.setm f rs : PInstr).wf && decide (e < 48)
  | .pSetmi e f imm => (.setmi f imm : PInstr).wf && decide (e < 48)
  | .pGetm e d f => (.getm d f : PInstr).wf && decide (e < 48)
  | .pLchk e a mode b min => (.lchk a mode b min : PInstr).wf && decide (e < 48)
  | .pFwd e => (.fwd : PInstr).wf && decide (e < 48)
  | .pExc e cls => (.exc cls : PInstr).wf && decide (e < 48)
  | .pDrop e reason => (.drop reason : PInstr).wf && decide (e < 48)
  | .pRecirc e wadv entry => (.recirc wadv entry : PInstr).wf && decide (e < 48)
  | .schedulerSelect k => decide (k < 257)
  | .stagingFill k => decide (k < 128)
  | .poolAlloc hd pool count size list => hd.wf && decide (pool < 256 ∧ count < 2 ^ 16 ∧ size < 2 ^ 32 ∧ list < 2 ^ 64)
  | .poolFree hd _ => hd.wf
  | .poolXfer hd tag ptr => hd.wf && decide (tag < 256 ∧ ptr < 2 ^ 64)
  | .memRepair hd ch _ => hd.wf && decide (ch < 256)
  | .poolFillDone p => decide (p < 16)
  | .zqRecal drift failed => decide (drift < 256 ∧ failed < 256)
  | .patrolScrub _ outcome => decide (outcome < 3)
  | .migrationComplete => true
  | .cipherWorkIssue _ stream port key _ => decide (stream < 2080 ∧ port < 2 ^ 16 ∧ key < 3)
  | .cipherFrameDone _ _ => true
  | .staleGenTimeout slot => decide (slot < 8192)
  | .keyLoad hd slot wrap kekSlot len addr _ => hd.wf && decide (slot < 2 ^ 16 ∧ wrap < 256 ∧ kekSlot < 2 ^ 16 ∧ len < 2 ^ 16 ∧ addr < 2 ^ 64)
  | .keyGen hd slot typ use flags => hd.wf && decide (slot < 2 ^ 16 ∧ typ < 256 ∧ use < 256 ∧ flags < 256)
  | .keyExport hd slot wrap kekSlot dest => hd.wf && decide (slot < 2 ^ 16 ∧ wrap < 256 ∧ kekSlot < 2 ^ 16 ∧ dest < 2 ^ 64)
  | .keyErase hd slot count => hd.wf && decide (slot < 2 ^ 16 ∧ count < 2 ^ 16)
  | .keyZeroise hd => hd.wf
  | .dkekProvision hd src dest key => hd.wf && decide (src < 2 ^ 64 ∧ dest < 2 ^ 64 ∧ key < 2 ^ 256)
  | .saInstall hd k an slot pn ssci salt => hd.wf && decide (k < 2 ^ 16 ∧ an < 256 ∧ slot < 2 ^ 16 ∧ pn < 2 ^ 64 ∧ ssci < 2 ^ 32 ∧ salt < 2 ^ 96)
  | .saSwitch hd k an => hd.wf && decide (k < 2 ^ 16 ∧ an < 256)
  | .saRead hd k an => hd.wf && decide (k < 2 ^ 16 ∧ an < 256)
  | .saRetire hd k an => hd.wf && decide (k < 2 ^ 16 ∧ an < 256)
  | .cxKsZeroise v => decide (v < 2 ^ 32)
  | .alarmClr v _ => decide (v < 2 ^ 32)
  | .zeroiseSensor cause => decide (2 ≤ cause ∧ cause ≤ 4)
  | .trngHealthFail => true
  | .dispatchSelect u _ => decide (u < 64)
  | .coreItemTimeout k => decide (k < 16)
  | .ping hd data => hd.wf && decide (data.length ≤ 40)
  | .fwInfo hd => hd.wf
  | .omciRefuse hd a tci => hd.wf && decide (a < 256 ∧ tci < 2 ^ 16)
  | .fwUpdate hd addr _ _ => hd.wf && decide (addr < 2 ^ 64)
  | .fwUpdateSwap _ => true
  | .pmDump hd kind first count dest => hd.wf && decide (kind < 256 ∧ first < 2 ^ 16 ∧ count < 2 ^ 16 ∧ dest < 2 ^ 64)
  | .ringEnableWrite r v => decide (r < 216 ∧ v < 2 ^ 32)
  | .txDescriptor r _ _ len tflags queue _ => decide (r < 64 ∧ len < 2 ^ 16 ∧ tflags < 256 ∧ queue < 2 ^ 16)
  | .rxWriteback r bufLen => decide (r < 64 ∧ bufLen < 2 ^ 16)
  | .msixSignal v => decide (v < 256)
  | .unsupportedOpcode hd op => hd.wf && !cmdSet.contains op && decide (op < 256)
  | .epochOpen hd => hd.wf
  | .cfgLoad hd len addr _ => hd.wf && decide (len < 2 ^ 32 ∧ addr < 2 ^ 64)
  | .tblWrite hd table op count addr _ => hd.wf && decide (table < 256 ∧ op < 256 ∧ count < 2 ^ 32 ∧ addr < 2 ^ 64)
  | .epochCommit hd flipTick => hd.wf && decide (flipTick < 2 ^ 64)
  | .epochValidationDone => true
  | .epochAbort hd => hd.wf
  | .epochRollback hd => hd.wf
  | .epochDrainEnd => true
  | .epochDrainTimeout => true
  | .rollbackNow => true
  | .ringStop => true
  | .pollNow => true
  | .badAcc off _ _ => decide (off < 2 ^ 24)
  | .unassignedAccess off _ => decide (off < 2 ^ 24)
  | .gatedAccess off _ => decide (off < 2 ^ 24)
  | .rcRead off => decide (off < 2 ^ 24)
  | .latchingRead off => decide (off < 2 ^ 24)
  | .registerWrite off v => decide (off < 2 ^ 24 ∧ v < 2 ^ 32)
  | .cellError blk _ _ _ _ => decide (blk < 2 ^ 16)
  | .regionWatchdogTrip r => decide (r < 8)
  | .regionReload r bad => decide (r < 8 ∧ bad < 256)
  | .sfRegionReloadWrite r v => decide (r < 8 ∧ v < 2 ^ 32)
  | .regionReady r => decide (r < 8)
  | .reloadTimeout r => decide (r < 8)
  | .thermalEmergency => true
  | .thermalClear => true
  | .levelCmdReturn => true
  | .levelCmdTimeOnly => true
  | .levelCmdSafe => true
  | .sfAck => true
  | .selfchk fails => decide (fails < 2 ^ 13)
  | .selfchkPeriodic fails => decide (fails < 2 ^ 13)
  | .inject v => decide (v < 2 ^ 32)
  | .opHoursTick => true
  | .flashRecordWrite => true
  | .evRecordRead v => decide (v < 2 ^ 32)
  | .evReadDone => true
  | .evLogErase v => decide (v < 2 ^ 32)
  | .vddFawnRise => true
  | .vddFawnLoss => true
  | .vddFawnLow _ => true
  | .pwrOkFall _ => true
  | .pwrOkRise _ => true
  | .sysRstN => true
  | .perstN => true
  | .boot _ => true
  | .startUp bad banks => decide (bad < 256 ∧ banks < 2 ^ 16)
  | .standby v => decide (v < 2 ^ 32)
  | .standbyWakeTimeout => true
  | .powerStateEntered _ => true
  | .blockWake _ _ banks _ => decide (banks < 2 ^ 16)
  | .pmbusRequestDone _ => true
  | .pmbusRetry => true
  | .avsTargetUpdate _ _ => true
  | .powerSumCheck _ => true
  | .pmbAlert _ => true
  | .padRelease v => decide (v < 2 ^ 32)
  | .regionEnableWrite v => decide (v < 2 ^ 32)
  | .debugRead _ => true
  | .flashRead v => decide (v < 2 ^ 32)
  | .flashProgram v => decide (v < 2 ^ 32)
  | .erase4k v => decide (v < 2 ^ 32)
  | .erase64k v => decide (v < 2 ^ 32)
  | .flashOpDone _ => true
  | .scanAccessEnable => true
  | .nopCmd hd => hd.wf
  | .mboxUnknownType hd typ => hd.wf && decide (typ < 256 ∧ ¬ (1 ≤ typ ∧ typ ≤ 3))
  | .coreRelease k out dest => decide (k < 16 ∧ out < 4 ∧ dest < 2 ^ 16)
  | .memRepairDone _ => true
  | .trngHealthPass => true
  | .controlLost => true
  | .logWriteDone _ => true
  | .logEraseDone => true
  | .prbsLock n => decide (n < 128)
  | .prbsLockLoss n _ => decide (n < 128)
  | .pcieLinkTrained width speed => decide (width < 64 ∧ speed < 16)
  | .jtagInstruction instr _ => decide (instr < 8)

end Sys2Proof
end

