-- ==== Sys2Proof/Machine/Effect.lean ====
section
/-! DEFINITION. The forms that the commands' meanings share: an event of a region, a write of a register, a host
command, and the next state with the block or its non-volatile memory changed. -/

namespace Sys2Proof.Machine

/-- The next state with block `h`. -/
def State.nextHw (s : State) (h : Hw) : Host.Outcome State Fault Refusal := .next { s with hw := h }

/-- The next state with a block and a non-volatile memory. -/
def State.nextNv (s : State) (x : Hw × NonVol) : Host.Outcome State Fault Refusal := .next { s with hw := x.1, nv := x.2 }

/-- An event of region r: nothing happens in a region that does not run, nor without VDD_FAWN (Table 16-6). -/
def Hw.inRegion (h : Hw) (r : Nat) (f : Hw → Hw) : Hw := if h.pw.vddFawn && h.runs r then f h else h

/-- The same for an event that also changes the non-volatile memory. -/
def Hw.inRegionNv (h : Hw) (n : NonVol) (r : Nat) (f : Hw → Hw × NonVol) : Hw × NonVol :=
  if h.pw.vddFawn && h.runs r then f h else (h, n)

/-- DEBUG_READ through BAR0: offset 0x30C. -/
def Hw.debugBar (h : Hw) (prot : Bool) : Hw :=
  if h.barOn then
    let (h, v) := h.debugRead prot
    h.emit (.bar 0x30C v)
  else h

end Sys2Proof.Machine
end

