-- ==== Sys2Proof/Machine/CmdActivation.lean ====
section
/-! DEFINITION. What each command does: Activation, PLOAM, OMCI and upstream bursts (chapter 3). -/

namespace Sys2Proof.Machine

/-- ACT_EN_WRITE (R72): A write of LN_ATT_CTRL.ACT_EN enables or disables activation of an attachment per the
activation state machine. -/
def execActEnWrite (a v : Nat) (s : State) : Host.Outcome State Fault Refusal :=
  s.nextHw (s.hw.barGate (regBlock .LN_ATT_CTRL a 0) (fun h => h.actEnWrite a v))

/-- BURST_PROFILE (R87): A Burst_Profile message stores a profile for its upstream channel and index. -/
def execBurstProfile (a c : Nat) (mic : Bool) (u i len : Nat) (fec : Bool) (s : State) : Host.Outcome State Fault Refusal :=
  s.nextHw (s.hw.inRegion rgLine (fun h => h.ploam a c mic false (fun h => h.burstProfile a u i len fec)))

/-- ASSIGN_ONU_ID (R72): Assign_ONU-ID with the attachment's serial number stores the terminal identifier, starts TO1
and enters O4. -/
def execAssignOnuId (a c : Nat) (mic : Bool) (sn id : Nat) (s : State) : Host.Outcome State Fault Refusal :=
  s.nextHw (s.hw.inRegion rgLine (fun h => h.ploam a c mic false (fun h => h.assignOnuId a sn id)))

/-- RANGING_TIME (R82): A Ranging_Time message sets or adjusts the EqD, queues an Acknowledgement and may enter O5.
-/
def execRangingTime (a c : Nat) (mic relative : Bool) (ns : Rat) (s : State) : Host.Outcome State Fault Refusal :=
  s.nextHw (s.hw.inRegion rgLine (fun h => h.ploam a c mic true (fun h => h.rangingTime a c relative ns)))

/-- DEACTIVATE_ONU_ID (R72): Deactivate_ONU-ID stops bursts and discards the attachment's identifiers, EqDs and keys,
returning to O1.1. -/
def execDeactivateOnuId (a c : Nat) (mic : Bool) (id : Option Nat) (s : State) : Host.Outcome State Fault Refusal :=
  s.nextHw (s.hw.inRegion rgLine (fun h => h.ploam a c mic false (fun h => h.deactivate a id)))

/-- DISABLE_SERIAL_NUMBER (R75): Disable_Serial_Number with disable triggers the emergency stop, or with enable
releases it. -/
def execDisableSerialNumber (a c : Nat) (mic enable : Bool) (sn : Option Nat) (s : State) : Host.Outcome State Fault Refusal :=
  s.nextHw (s.hw.inRegion rgLine (fun h => h.ploam a c mic false (fun h => h.disableSn a enable sn)))

/-- REQUEST_REGISTRATION (R77): Request_Registration queues a Registration carrying LN_ATT_REGID. -/
def execRequestRegistration (a c : Nat) (mic : Bool) (s : State) : Host.Outcome State Fault Refusal :=
  s.nextHw (s.hw.inRegion rgLine (fun h => h.ploam a c mic false (fun h => h.requestRegistration a)))

/-- ASSIGN_ALLOC_ID (R77): Assign_Alloc-ID adds or removes an Alloc-ID from the attachment's list and queues an
Acknowledgement. -/
def execAssignAllocId (a c : Nat) (mic : Bool) (id : Nat) (remove : Bool) (s : State) : Host.Outcome State Fault Refusal :=
  s.nextHw (s.hw.inRegion rgLine (fun h => h.ploam a c mic false (fun h => h.assignAlloc a id remove)))

/-- KEY_CONTROL (R94): Key_Control makes the key store generate a data key and firmware send its encrypted
Key_Report. -/
def execKeyControl (a c : Nat) (mic : Bool) (k : Nat) (gen : Bool) (s : State) : Host.Outcome State Fault Refusal :=
  s.nextHw (s.hw.inRegion rgLine (fun h => h.ploam a c mic false (fun h => h.keyControl a k gen)))

/-- PROFILE_MESSAGE (R72): A system or channel profile message is stored for use in profile learning. -/
def execProfileMessage (a c : Nat) (mic : Bool) (chan : Option Nat) (s : State) : Host.Outcome State Fault Refusal :=
  s.nextHw (s.hw.inRegion rgLine (fun h => h.ploam a c mic false (fun h => h.profileMessage a chan)))

/-- SLEEP_ALLOW (R77): Sleep_Allow is acknowledged without the terminal ever requesting sleep. -/
def execSleepAllow (a c : Nat) (mic : Bool) (s : State) : Host.Outcome State Fault Refusal :=
  s.nextHw (s.hw.inRegion rgLine (fun h => h.ploam a c mic false (fun h => h.sleepAllow a)))

/-- TUNING_CONTROL (R77): Tuning_Control or Adjust_Tx_Wavelength is refused with the standard's refusal response. -/
def execTuningControl (a c : Nat) (mic : Bool) (s : State) : Host.Outcome State Fault Refusal :=
  s.nextHw (s.hw.inRegion rgLine (fun h => h.ploam a c mic false (fun h => h.tuningControl a)))

/-- CHANGE_POWER_LEVEL (R77): Change_Power_Level is applied through the optics I2C bus when an optics control record
exists, and refused otherwise. -/
def execChangePowerLevel (a c : Nat) (mic ctl : Bool) (s : State) : Host.Outcome State Fault Refusal :=
  s.nextHw (s.hw.inRegion rgLine (fun h => h.ploam a c mic false (fun h => h.changePower a ctl)))

/-- PROTECTION_CONTROL (R77): Protection_Control is refused. -/
def execProtectionControl (a c : Nat) (mic : Bool) (s : State) : Host.Outcome State Fault Refusal :=
  s.nextHw (s.hw.inRegion rgLine (fun h => h.ploam a c mic false (fun h => h.protectionControl a)))

/-- OTHER_PLOAM (R77): Any other PLOAM message is acknowledged as unsupported where required, otherwise ignored and
counted. -/
def execOtherPloam (a c : Nat) (mic answer : Bool) (s : State) : Host.Outcome State Fault Refusal :=
  s.nextHw (s.hw.inRegion rgLine (fun h => h.ploam a c mic false (fun h => h.otherPloam a answer)))

/-- PLOAM_IGNORED (R69): A PLOAM message outside the activation channel rules is discarded before its integrity check
and counted in PLOAM_IGN. -/
def execPloamIgnored (a c : Nat) (s : State) : Host.Outcome State Fault Refusal :=
  s.nextHw (s.hw.inRegion rgLine (fun h => h.ploamIgnored a c))

/-- TO1_EXPIRY (R73): TO1 expires in O4; the identifier is discarded and the attachment returns to O1.1. -/
def execTo1Expiry (a : Nat) (s : State) : Host.Outcome State Fault Refusal :=
  s.nextHw (s.hw.inRegion rgLine (fun h => h.to1Expiry a))

/-- TO2_EXPIRY (R73): TO2 expires in O6; identifiers, EqDs, Alloc-IDs and profiles are discarded, keys erased and the
attachment returns to O1.1. -/
def execTo2Expiry (a : Nat) (s : State) : Host.Outcome State Fault Refusal :=
  s.nextHw (s.hw.inRegion rgLine (fun h => h.to2Expiry a))

/-- ESTOP_FLASH_COPY (R75): The emergency-stop flag is copied from retention memory to the boot flash within 1 s. -/
def execEstopFlashCopy (a : Nat) (s : State) : Host.Outcome State Fault Refusal :=
  s.nextNv (s.hw.inRegionNv s.nv rgFawn (fun h => let (h, e) := h.estopCopy a s.nv.estop; (h, { s.nv with estop := e })))

/-- OPTICS_DELAY_WRITE (R84): A write of LN_ATT_RESP, LN_OPT_RXDLY or LN_OPT_TXDLY is dropped with WR_REJ while the
attachment is in O4 to O6. -/
def execOpticsDelayWrite (a w i v : Nat) (s : State) : Host.Outcome State Fault Refusal :=
  s.nextHw (s.hw.barGate (regBlock .LN_ATT_RESP a 0) (fun h => h.opticsWrite a w i v))

/-- BURST_STAGING (R88): At the staging deadline, 12 us before launch, the burst engine assembles the burst from the
allocations handed over and the staged frames. -/
def execBurstStaging (k len len1 : Nat) (s : State) : Host.Outcome State Fault Refusal :=
  s.nextHw (s.hw.inRegion rgLine (fun h => h.burstStaging k len len1))

/-- BURST_EN_ASSERT (R91): BURST_EN is asserted LEAD core cycles before the first PSBu bit. -/
def execBurstEnAssert (k : Nat) (s : State) : Host.Outcome State Fault Refusal :=
  s.nextHw (s.hw.inRegion rgLine (fun h => h.burstAssert k))

/-- BURST_LAUNCH (R80): The burst's first bit crosses the transmit ball at the computed launch instant and a launch
strobe goes to the watchdog. -/
def execBurstLaunch (k : Nat) (s : State) : Host.Outcome State Fault Refusal :=
  s.nextHw (s.hw.inRegion rgLine (fun h => h.burstLaunch k))

/-- BURST_EN_DEASSERT (R91): BURST_EN is deasserted LAG core cycles after the last bit of the burst. -/
def execBurstEnDeassert (k : Nat) (s : State) : Host.Outcome State Fault Refusal :=
  s.nextHw (s.hw.inRegion rgLine (fun h => h.burstDeassert k))

/-- BURST_WATCHDOG_TRIP (R92): The burst watchdog forces BURST_EN deasserted, sets ROGUE and records a MAJOR event.
-/
def execBurstWatchdogTrip (k : Nat) (s : State) : Host.Outcome State Fault Refusal :=
  s.nextHw (s.hw.inRegion rgLine (fun h => h.burstTrip k))

/-- OMCI_MESSAGE_RX (R97): An OMCI message is answered by firmware, passed to the host as OMCI_CFG, or delivered to
the host ring in PASSTHROUGH. -/
def execOmciMessageRx (a kind action tci cls inst : Nat) (ok : Bool) (msg : List Byte)
    (s : State) : Host.Outcome State Fault Refusal :=
  s.nextHw (s.hw.inRegion rgControl (fun h => h.omciRx a kind action tci cls inst ok msg))

/-- OMCI_CFG_ANSWER (R97): When the commit of a requested configuration change completes, firmware answers the
pending OMCI request. -/
def execOmciCfgAnswer (a tci : Nat) (s : State) : Host.Outcome State Fault Refusal :=
  s.nextHw (s.hw.inRegion rgControl (fun h => h.omciCommit a tci))

/-- OMCI_HOLD_EXPIRY (R97): When OMCI_HOLD elapses without the commit, firmware answers device-busy. -/
def execOmciHoldExpiry (a : Nat) (s : State) : Host.Outcome State Fault Refusal :=
  s.nextHw (s.hw.inRegion rgControl (fun h => h.omciExpiry a))

end Sys2Proof.Machine
end

