-- ==== Sys2Proof/Machine/CmdCipher.lean ====
section
/-! DEFINITION. What each command does: Cipher lanes and the key store (chapter 12). -/

namespace Sys2Proof.Machine

/-- CIPHER_WORK_ISSUE (R302): A frame's cipher work is dealt to a free lane and bound to the slot's key and
generation. -/
def execCipherWorkIssue (wid stream port key fid : Nat) (s : State) : Host.Outcome State Fault Refusal :=
  s.nextHw (s.hw.inRegion rgPacket (fun h => h.workIssue wid stream port key fid))

/-- CIPHER_FRAME_DONE (R303): A lane finishes a frame, the checker verifies every block and the frame is released or
retried. -/
def execCipherFrameDone (wid : Nat) (ok : Bool) (s : State) : Host.Outcome State Fault Refusal :=
  s.nextHw (s.hw.inRegion rgPacket (fun h => h.frameDone wid ok))

/-- STALE_GEN_TIMEOUT (R308): Work still in progress one tick after a slot rewrite or erase is abandoned and its
frame dropped. -/
def execStaleGenTimeout (slot : Nat) (s : State) : Host.Outcome State Fault Refusal :=
  s.nextHw (s.hw.inRegion rgPacket (fun h => h.staleGen slot))

/-- KEY_LOAD (R311): The KEY_LOAD command unwraps a blob into a key slot. -/
def execKeyLoad (hd : CmdHdr) (slot wrap kekSlot len addr : Nat) (blob : List Byte)
    (s : State) : Host.Outcome State Fault Refusal :=
  s.nextHw (s.hw.hostCmd hd 0x30 (fun h => h.keyLoad hd slot wrap kekSlot len addr blob))

/-- KEY_GEN (R311): The KEY_GEN command fills a slot from the TRNG. -/
def execKeyGen (hd : CmdHdr) (slot typ use flags : Nat) (s : State) : Host.Outcome State Fault Refusal :=
  s.nextHw (s.hw.hostCmd hd 0x31 (fun h => h.keyGen hd slot typ use flags))

/-- KEY_EXPORT (R311): The KEY_EXPORT command writes the wrapped blob of an exportable slot. -/
def execKeyExport (hd : CmdHdr) (slot wrap kekSlot dest : Nat) (s : State) : Host.Outcome State Fault Refusal :=
  s.nextHw (s.hw.hostCmd hd 0x32 (fun h => h.keyExport slot wrap kekSlot dest))

/-- KEY_ERASE (R308): The KEY_ERASE command erases a range of slots. -/
def execKeyErase (hd : CmdHdr) (slot count : Nat) (s : State) : Host.Outcome State Fault Refusal :=
  s.nextHw (s.hw.hostCmd hd 0x33 (fun h => h.keyErase hd slot count))

/-- KEY_ZEROISE (R314): The KEY_ZEROISE command zeroises the key store. -/
def execKeyZeroise (hd : CmdHdr) (s : State) : Host.Outcome State Fault Refusal :=
  s.nextHw (s.hw.hostCmd hd 0x34 (fun h => h.keyZeroise))

/-- DKEK_PROVISION (R310): The DKEK_PROVISION command stores a DKEK and returns its fused-key blob. -/
def execDkekProvision (hd : CmdHdr) (src dest key : Nat) (s : State) : Host.Outcome State Fault Refusal :=
  s.nextHw (s.hw.hostCmd hd 0x35 (fun h => h.dkekProvision src dest key))

/-- SA_INSTALL (R322): The SA_INSTALL command installs a secure association on a channel. -/
def execSaInstall (hd : CmdHdr) (k an slot pn ssci salt : Nat) (s : State) : Host.Outcome State Fault Refusal :=
  s.nextHw (s.hw.hostCmd hd 0x38 (fun h => h.saInstall k an slot pn ssci salt))

/-- SA_SWITCH (R326): The SA_SWITCH command changes a transmit channel's current SA from the next tick boundary. -/
def execSaSwitch (hd : CmdHdr) (k an : Nat) (s : State) : Host.Outcome State Fault Refusal :=
  s.nextHw (s.hw.hostCmd hd 0x39 (fun h => h.saSwitch hd k an))

/-- SA_READ (R326): The SA_READ command returns an SA's next or lowest acceptable packet number and generation. -/
def execSaRead (hd : CmdHdr) (k an : Nat) (s : State) : Host.Outcome State Fault Refusal :=
  s.nextHw (s.hw.hostCmd hd 0x3A (fun h => h.saRead k an))

/-- SA_RETIRE (R322): The SA_RETIRE command retires a secure association. -/
def execSaRetire (hd : CmdHdr) (k an : Nat) (s : State) : Host.Outcome State Fault Refusal :=
  s.nextHw (s.hw.hostCmd hd 0x3B (fun h => h.saRetire k an))

/-- CX_KS_ZEROISE (R314): A write of CX_KS_CTRL.ZEROISE zeroises the key store with cause 5. -/
def execCxKsZeroise (v : Nat) (s : State) : Host.Outcome State Fault Refusal :=
  s.nextHw (s.hw.barGate (regBlock .CX_KS_CTRL 0 0) (fun h => h.ksZeroiseWrite v))

/-- ALARM_CLR (R314): A write of CX_KS_CTRL.ALARM_CLR unlocks the key store once the cause has ended and reloads the
DKEK. -/
def execAlarmClr (v : Nat) (ended : Bool) (s : State) : Host.Outcome State Fault Refusal :=
  s.nextHw (s.hw.barGate (regBlock .CX_KS_CTRL 0 0) (fun h => h.alarmClr v ended))

/-- ZEROISE_SENSOR (R314): A voltage, clock or temperature sensor outside its window zeroises every slot and locks
the store. -/
def execZeroiseSensor (cause : Nat) (s : State) : Host.Outcome State Fault Refusal :=
  s.nextHw (s.hw.inRegion rgFawn (fun h => h.zeroiseSensor cause))

/-- TRNG_HEALTH_FAIL (R312): A TRNG health test fails, TRNG_OK clears and key generation completes BUSY. -/
def execTrngHealthFail (s : State) : Host.Outcome State Fault Refusal :=
  s.nextHw (s.hw.inRegion rgFawn (fun h => h.trngFail))

/-- TRNG_HEALTH_PASS (R312): The TRNG health tests pass again, TRNG_OK is set and key generation no longer completes
BUSY. -/
def execTrngHealthPass (s : State) : Host.Outcome State Fault Refusal :=
  s.nextHw (s.hw.inRegion rgFawn (fun h => h.trngPass))

end Sys2Proof.Machine
end

