-- ==== Sys2Proof/Machine/CmdDispatch.lean ====
section
/-! DEFINITION. What each command does: The dispatcher, mailboxes and firmware (chapter 13). -/

namespace Sys2Proof.Machine

/-- DISPATCH_SELECT (R329): When an engine or core is free the group's selector takes one eligible ready-list item.
-/
def execDispatchSelect (u wait : Nat) (s : State) : Host.Outcome State Fault Refusal :=
  s.nextHw (s.hw.dispatchSelect u wait)

/-- CORE_ITEM_TIMEOUT (R340): An item in service on a core for more than one tick quarantines the core and is
dispatched again. -/
def execCoreItemTimeout (k : Nat) (s : State) : Host.Outcome State Fault Refusal :=
  s.nextHw (s.hw.inRegion rgControl (fun h => h.coreTimeout k))

/-- PING (R341): Mailbox message PING echoes its first 8 bytes. -/
def execPing (hd : CmdHdr) (data : List Byte) (s : State) : Host.Outcome State Fault Refusal :=
  s.nextHw (s.hw.hostCmd hd 0x02 (fun h => (h, mboxPing data)))

/-- FW_INFO (R341): Mailbox message FW_INFO returns the firmware and security versions. -/
def execFwInfo (hd : CmdHdr) (s : State) : Host.Outcome State Fault Refusal :=
  s.nextHw (s.hw.hostCmd hd 0x02 (fun h => (h, h.mboxInfo)))

/-- OMCI_REFUSE (R341): Mailbox message OMCI_REFUSE makes firmware answer a pending OMCI request with device-busy. -/
def execOmciRefuse (hd : CmdHdr) (a tci : Nat) (s : State) : Host.Outcome State Fault Refusal :=
  s.nextHw (s.hw.hostCmd hd 0x02 (fun h => (h.omciAnswer a tci omciBusy, .ok)))

/-- FW_UPDATE (R343): The FW_UPDATE command fetches and checks a service-core image. -/
def execFwUpdate (hd : CmdHdr) (addr : Nat) (img : List Byte) (sigOk : Bool) (s : State) : Host.Outcome State Fault Refusal :=
  s.nextHw (s.hw.hostCmd hd 0x03 (fun h => h.fwUpdate hd addr img sigOk))

/-- FW_UPDATE_SWAP (R343): A spare holding the new image takes an active core's roles and the old core is reloaded as
a spare. -/
def execFwUpdateSwap (ok : Bool) (s : State) : Host.Outcome State Fault Refusal :=
  s.nextHw (s.hw.inRegion rgControl (fun h => h.fwSwap ok))

/-- PM_DUMP (R353): The PM_DUMP command writes performance bins to host memory. -/
def execPmDump (hd : CmdHdr) (kind first count dest : Nat) (s : State) : Host.Outcome State Fault Refusal :=
  s.nextHw (s.hw.hostCmd hd 0x04 (fun h => h.pmDump kind first count dest))

/-- MBOX_UNKNOWN_TYPE (R341): An MBOX command whose TYPE is not PING, FW_INFO or OMCI_REFUSE completes with
UNSUPPORTED. -/
def execMboxUnknownType (hd : CmdHdr) (_typ : Nat) (s : State) : Host.Outcome State Fault Refusal :=
  s.nextHw (s.hw.hostCmd hd 0x02 (fun h => (h, .fail stUnsupported)))

/-- CORE_RELEASE (R332): A Diven service core finishes an item and releases it to a queue, the host or the pool
manager, freeing its ordered or atomic tag. -/
def execCoreRelease (k out dest : Nat) (s : State) : Host.Outcome State Fault Refusal :=
  s.nextHw (s.hw.inRegion rgControl (fun h => h.coreRelease k out dest))

end Sys2Proof.Machine
end

