-- ==== Sys2Proof/Machine/CmdHerd.lean ====
section
/-! DEFINITION. What each command does: Herds and the dispersion estimator (chapter 4). -/

namespace Sys2Proof.Machine

/-- MEMBER_STATUS (R111): The terminal sends MEMBER_STATUS within 2 ticks of a member change and every 8,000 ticks
while a member is down. -/
def execMemberStatus (a : Nat) (s : State) : Host.Outcome State Fault Refusal :=
  s.nextHw (s.hw.inRegion rgLine (fun h => h.memberStatus a))

/-- HELLO_SEND (R119): The terminal sends HELLO at entry to O5 and every 8,000 ticks until PEER is set. -/
def execHelloSend (a : Nat) (s : State) : Host.Outcome State Fault Refusal :=
  s.nextHw (s.hw.inRegion rgLine (fun h => h.helloSend a))

/-- HELLO (R119): A head-end HELLO sets PEER. -/
def execHello (a mac : Nat) (s : State) : Host.Outcome State Fault Refusal :=
  s.nextHw (s.hw.inRegion rgLine (fun h => h.hello a mac))

/-- HERD_DESC (R112): A HERD_DESC is checked in order and answered with HERD_ACK, and an accepted descriptor becomes
pending. -/
def execHerdDesc (a seq : Nat) (d : HerdDesc) (rowNow : Nat) (s : State) : Host.Outcome State Fault Refusal :=
  s.nextHw (s.hw.inRegion rgLine (fun h => h.herdDesc a seq d rowNow))

/-- HERD_DESC_SWITCH (R112): An accepted descriptor takes effect at the start of its START_ROW. -/
def execHerdDescSwitch (a : Nat) (s : State) : Host.Outcome State Fault Refusal :=
  s.nextHw (s.hw.inRegion rgLine (fun h => h.herdSwitch a))

/-- TWIN_REPORT (R121): A TWIN_REPORT enters the twin average. -/
def execTwinReport (a : Nat) (dv : Int) (quality : Nat) (s : State) : Host.Outcome State Fault Refusal :=
  s.nextHw (s.hw.inRegion rgLine (fun h => h.twinReport a dv quality))

/-- EQD_U1 (R116): An EQD_U1 message sets U1's EqD when the map channels are shared and is answered with EQD_ACK. -/
def execEqdU1 (a seq e : Nat) (s : State) : Host.Outcome State Fault Refusal :=
  s.nextHw (s.hw.inRegion rgLine (fun h => h.eqdU1 a seq e))

/-- RANGE_INFO (R122): A RANGE_INFO gives the fibre round trip used for length and RT_f. -/
def execRangeInfo (a trt : Nat) (s : State) : Host.Outcome State Fault Refusal :=
  s.nextHw (s.hw.inRegion rgLine (fun h => h.rangeInfo a trt))

/-- BOND_ALLOC (R113): A BOND_ALLOC names bonded Alloc-IDs, restarts their FSN and is answered with BOND_ACK. -/
def execBondAlloc (a seq : Nat) (ids : List Nat) (s : State) : Host.Outcome State Fault Refusal :=
  s.nextHw (s.hw.inRegion rgLine (fun h => h.bondAlloc a seq ids))

/-- SW_EN_WRITE (R119): A write of SW_EN to 0 clears PEER, dissolves herd and bonding and drops pointer states to
NOPTR. -/
def execSwEnWrite (a v : Nat) (s : State) : Host.Outcome State Fault Refusal :=
  s.nextHw (s.hw.barGate (regBlock .HD_SWIDAN_CTRL a 0) (fun h => h.swEnWrite a v))

/-- HD_WAVELENGTH_WRITE (R102): A write to HD_GRID or HD_LAMBDA discards the measurement block in progress and the
twin average. -/
def execHdWavelengthWrite (a i v : Nat) (s : State) : Host.Outcome State Fault Refusal :=
  s.nextHw (s.hw.barGate (regBlock .HD_GRID a 0) (fun h => h.wavelengthWrite a i v))

/-- ESTIMATOR_MODE_WRITE (R127): A write of HD_EST_CFG.MODE restarts the estimator with A at 0. -/
def execEstimatorModeWrite (a v : Nat) (s : State) : Host.Outcome State Fault Refusal :=
  s.nextHw (s.hw.barGate (regBlock .HD_EST_CFG a 0) (fun h => h.estimatorModeWrite a v))

/-- ASYM_OVERRIDE_WRITE (R128): A write of the upper word of HD_ASYM_OVR applies the override of A at once. -/
def execAsymOverrideWrite (a v : Nat) (s : State) : Host.Outcome State Fault Refusal :=
  s.nextHw (s.hw.barGate (regBlock .HD_ASYM_OVR a 0) (fun h => h.asymOverrideWrite a v))

/-- FIT_COMPLETE (R126): The dispersion fit completes within 8 ticks of its block and its result is accepted, pending
or rejected. -/
def execFitComplete (a : Nat) (sig : List Nat) (s : State) : Host.Outcome State Fault Refusal :=
  s.nextHw (s.hw.inRegion rgLine (fun h => h.fitComplete a sig))

/-- ESTIMATOR_APPLY (R126): An accepted result within STEP_LIM is applied at the next tick boundary and EST_REPORT is
sent. -/
def execEstimatorApply (a : Nat) (s : State) : Host.Outcome State Fault Refusal :=
  s.nextHw (s.hw.inRegion rgLine (fun h => h.estimatorApply a))

end Sys2Proof.Machine
end

