-- ==== Sys2Proof/Machine/CmdHostIf.lean ====
section
/-! DEFINITION. What each command does: The host interface and register access (chapters 13, 14 and 17). -/

namespace Sys2Proof.Machine

/-- RING_ENABLE_WRITE (R359): A write of HI_RING.ENABLE starts a ring with indices 0 or stops it at the next
microtick boundary. -/
def execRingEnableWrite (r v : Nat) (s : State) : Host.Outcome State Fault Refusal :=
  s.nextHw (s.hw.barGate (regBlock .HI_RING r 0) (fun h => h.ringWrite r v))

/-- TX_DESCRIPTOR (R366): A fetched host transmit descriptor admits its frame under the epoch in force, or is
dropped. -/
def execTxDescriptor (r : Nat) (dmaOk phase : Bool) (len tflags queue : Nat) (frame : List Byte)
    (s : State) : Host.Outcome State Fault Refusal :=
  s.nextHw (s.hw.inRegion rgControl (fun h => h.txDescriptor r dmaOk phase len tflags queue frame))

/-- RX_WRITEBACK (R367): A host-bound frame is written to a posted buffer and its descriptor written back. -/
def execRxWriteback (r bufLen : Nat) (s : State) : Host.Outcome State Fault Refusal :=
  s.nextHw (s.hw.inRegion rgControl (fun h => h.rxWriteback r bufLen))

/-- MSIX_SIGNAL (R376): A vector signals when MOD_CNT entries are pending or MOD_UT microticks have passed. -/
def execMsixSignal (v : Nat) (s : State) : Host.Outcome State Fault Refusal :=
  s.nextHw (s.hw.inRegion rgControl (fun h => h.msixSignal v))

/-- UNSUPPORTED_OPCODE (R370): A command with an undefined opcode completes with UNSUPPORTED. -/
def execUnsupportedOpcode (hd : CmdHdr) (op : Nat) (s : State) : Host.Outcome State Fault Refusal :=
  s.nextHw (s.hw.hostCmd hd op (fun h => (h, .fail stUnsupported)))

/-- EPOCH_OPEN (R383): The EPOCH_OPEN command opens a pending epoch on the current base. -/
def execEpochOpen (hd : CmdHdr) (s : State) : Host.Outcome State Fault Refusal :=
  s.nextHw (s.hw.hostCmd hd 0x10 (fun h => h.epochOpen hd))

/-- CFG_LOAD (R384): The CFG_LOAD command fetches an image and stages its objects. -/
def execCfgLoad (hd : CmdHdr) (len addr : Nat) (img : List Byte) (s : State) : Host.Outcome State Fault Refusal :=
  s.nextHw (s.hw.hostCmd hd 0x11 (fun h => h.cfgLoad hd len addr img))

/-- TBL_WRITE (R384): The TBL_WRITE command stages table entries into the pending epoch. -/
def execTblWrite (hd : CmdHdr) (table op count addr : Nat) (list : List Byte) (s : State) : Host.Outcome State Fault Refusal :=
  s.nextHw (s.hw.hostCmd hd 0x12 (fun h => h.tblWrite hd table op count addr list))

/-- EPOCH_COMMIT (R385): The EPOCH_COMMIT command starts validation of the pending epoch. -/
def execEpochCommit (hd : CmdHdr) (flipTick : Nat) (s : State) : Host.Outcome State Fault Refusal :=
  s.nextHw (s.hw.hostCmd hd 0x13 (fun h => h.epochCommit hd flipTick))

/-- EPOCH_VALIDATION_DONE (R385): Validation ends and the epoch is rejected or waits for arming. -/
def execEpochValidationDone (s : State) : Host.Outcome State Fault Refusal :=
  s.nextHw (s.hw.inRegion rgControl (fun h => h.validationDone))

/-- EPOCH_ABORT (R391): The EPOCH_ABORT command discards a pending epoch before its flip. -/
def execEpochAbort (hd : CmdHdr) (s : State) : Host.Outcome State Fault Refusal :=
  s.nextHw (s.hw.hostCmd hd 0x14 (fun h => h.epochAbort hd))

/-- EPOCH_ROLLBACK (R392): The EPOCH_ROLLBACK command makes the previous epoch current at the next ready boundary. -/
def execEpochRollback (hd : CmdHdr) (s : State) : Host.Outcome State Fault Refusal :=
  s.nextHw (s.hw.hostCmd hd 0x15 (fun h => h.epochRollback hd))

/-- EPOCH_DRAIN_END (R388): No frame tagged with the previous epoch remains and the commit or rollback completion is
written. -/
def execEpochDrainEnd (s : State) : Host.Outcome State Fault Refusal :=
  s.nextHw (s.hw.inRegion rgControl (fun h => h.drainEnd))

/-- EPOCH_DRAIN_TIMEOUT (R388): DRAIN_MS elapses and the frames still tagged with the previous epoch are dropped. -/
def execEpochDrainTimeout (s : State) : Host.Outcome State Fault Refusal :=
  s.nextHw (s.hw.inRegion rgControl (fun h => h.drainTimeout))

/-- ROLLBACK_NOW (R392): A write of HI_EMERG.ROLLBACK_NOW discards any pending epoch and rolls back. -/
def execRollbackNow (s : State) : Host.Outcome State Fault Refusal :=
  s.nextHw (s.hw.barGate (regBlock .HI_EMERG 0 0) (fun h => h.emergWrite 4))

/-- RING_STOP (R359): A write of HI_EMERG.RING_STOP sets every ring's ENABLE to 0. -/
def execRingStop (s : State) : Host.Outcome State Fault Refusal :=
  s.nextHw (s.hw.barGate (regBlock .HI_EMERG 0 0) (fun h => h.emergWrite 2))

/-- POLL_NOW (R364): A write of HI_EMERG.POLL_NOW runs a doorbell poll in the next microtick. -/
def execPollNow (s : State) : Host.Outcome State Fault Refusal :=
  s.nextHw (s.hw.barGate (regBlock .HI_EMERG 0 0) (fun h => h.emergWrite 1))

/-- BAD_ACC (R355): A BAR0 access of unsupported size or alignment returns 0 or is dropped and sets BAD_ACC. -/
def execBadAcc (off size : Nat) (data : Option Nat) (s : State) : Host.Outcome State Fault Refusal :=
  s.nextHw (s.hw.badAccess s.nv off size data)

/-- UNASSIGNED_ACCESS (R35): An access to an unassigned offset reads 0 or is dropped. -/
def execUnassignedAccess (off : Nat) (data : Option Nat) (s : State) : Host.Outcome State Fault Refusal :=
  s.nextHw (s.hw.barWord s.nv off data)

/-- GATED_ACCESS (R399): An access to a gated block returns 0xFA11 with the block number or is dropped and is
recorded in SF_REGION. -/
def execGatedAccess (off : Nat) (data : Option Nat) (s : State) : Host.Outcome State Fault Refusal :=
  s.nextHw (s.hw.barWord s.nv off data)

/-- RC_READ (R13): A read of an RC field returns and clears it. -/
def execRcRead (off : Nat) (s : State) : Host.Outcome State Fault Refusal :=
  s.nextHw (s.hw.barRead s.nv off)

/-- LATCHING_READ (R355): A read of the lowest word of a multi-word register latches its other words. -/
def execLatchingRead (off : Nat) (s : State) : Host.Outcome State Fault Refusal :=
  s.nextHw (s.hw.barRead s.nv off)

/-- REGISTER_WRITE (R481): A write of a register with no row of its own updates its writable fields under the access
codes and guarded-field rules. -/
def execRegisterWrite (off v : Nat) (s : State) : Host.Outcome State Fault Refusal :=
  s.nextHw (s.hw.barWrite s.nv off v)

/-- NOP_CMD (R370): The host command NOP, opcode 0x01, completes OK with no effect. -/
def execNopCmd (hd : CmdHdr) (s : State) : Host.Outcome State Fault Refusal :=
  s.nextHw (s.hw.hostCmd hd 0x01 (fun h => (h, .ok)))

/-- PCIE_LINK_TRAINED (R3): The PCI Express link completes training, WIDTH and SPEED are set and BAR0 answers. -/
def execPcieLinkTrained (width speed : Nat) (s : State) : Host.Outcome State Fault Refusal :=
  s.nextHw (s.hw.inRegion rgFawn (fun h => h.linkTrained width speed))

end Sys2Proof.Machine
end

