-- ==== Sys2Proof/Machine/CmdLine.lean ====
section
/-! DEFINITION. What each command does: The core clock's references and the downstream line (chapters 1 and 2). -/

namespace Sys2Proof.Machine

/-- CORE_PLL_REF_CHANGE (R21): Within one microtick of its source becoming unusable the core PLL moves hitlessly to
the next usable source of the list. -/
def execCorePllRefChange (s : State) : Host.Outcome State Fault Refusal :=
  s.nextHw (s.hw.inRegion rgFawn (fun h => h.coreRefChange))

/-- CLK_REVERT (R22): With REVERT set, the core PLL returns to a higher source after it has stayed usable for 80,000
consecutive ticks. -/
def execClkRevert (s : State) : Host.Outcome State Fault Refusal :=
  s.nextHw (s.hw.inRegion rgFawn (fun h => h.clkRevert))

/-- GL_CLK_CTRL_WRITE (R20): A write of the preferred timing channel takes effect at the next tick boundary and may
move the core PLL reference. -/
def execGlClkCtrlWrite (v : Nat) (s : State) : Host.Outcome State Fault Refusal :=
  s.nextHw (s.hw.barGate (regBlock .GL_CLK_CTRL 0 0) (fun h => h.clkCtrlWrite v))

/-- REFOSC_STOP (R480): REFOSC stops; the core PLL holds its frequency word, the monitor oscillator detects class
CLOCK and the counters move to the monitor oscillator. -/
def execRefoscStop (s : State) : Host.Outcome State Fault Refusal :=
  s.nextHw (s.hw.inRegion rgFawn (fun h => h.refoscStop))

/-- REFOSC_RESTART (R480): REFOSC runs again; the reference PLL relocks and the core PLL returns to it hitlessly. -/
def execRefoscRestart (s : State) : Host.Outcome State Fault Refusal :=
  s.nextHw (s.hw.inRegion rgFawn (fun h => h.refoscRestart))

/-- RX_ENABLE (R38): A write of LN_RX_CTRL.ENABLE from 0 to 1 powers the receive lane and starts the receiver
self-test. -/
def execRxEnable (a c v : Nat) (s : State) : Host.Outcome State Fault Refusal :=
  s.nextHw (s.hw.barGate (regBlock .LN_RX_CTRL a c) (fun h => h.rxCtrlWrite a c (putBit v 0 true)))

/-- RX_DISABLE (R38): A write of ENABLE to 0 powers the receiver down, releases its slots and makes the channel
unusable. -/
def execRxDisable (a c v : Nat) (s : State) : Host.Outcome State Fault Refusal :=
  s.nextHw (s.hw.barGate (regBlock .LN_RX_CTRL a c) (fun h => h.rxCtrlWrite a c (putBit v 0 false)))

/-- RX_SELFTEST_DONE (R38): The receiver self-test ends; a pass enters LOS and a failure isolates the receiver. -/
def execRxSelftestDone (a c : Nat) (pass : Bool) (s : State) : Host.Outcome State Fault Refusal :=
  s.nextHw (s.hw.inRegion rgLine (fun h => h.rxSelftest a c pass))

/-- EQ_RESET (R41): A write of 1 to LN_RX_EQ.EQ_RESET discards the held equaliser coefficients so that the next lock
is a cold start. -/
def execEqReset (a c v : Nat) (s : State) : Host.Outcome State Fault Refusal :=
  s.nextHw (s.hw.barGate (regBlock .LN_RX_EQ a c) (fun h => h.eqReset a c v))

/-- LOS_DECLARED (R43): After a selected loss indication has been present for 64 core cycles the receiver declares
LOS, releases its slots and stops capture. -/
def execLosDeclared (a c : Nat) (cdr : Bool) (s : State) : Host.Outcome State Fault Refusal :=
  s.nextHw (s.hw.inRegion rgLine (fun h => h.losDeclared a c cdr))

/-- CDR_LOCK (R49): The receive CDR locks and the terminal writes LN_RX_LAT, marking the next capture NEWLAT. -/
def execCdrLock (a c phase : Nat) (s : State) : Host.Outcome State Fault Refusal :=
  s.nextHw (s.hw.inRegion rgLine (fun h => h.cdrLock a c phase))

/-- EQ_CONV (R41): The adaptation error stays below its limit for 1,024 core cycles, EQ_CONV is set and the aligner
may leave LOS for HUNT. -/
def execEqConv (a c : Nat) (s : State) : Host.Outcome State Fault Refusal :=
  s.nextHw (s.hw.inRegion rgLine (fun h => h.eqConv a c))

/-- CANDIDATE_FOUND (R44): The scanner finds a PSync candidate and stores it in a free slot or counts it in
SLOT_FULL. -/
def execCandidateFound (a c pos sfc : Nat) (s : State) : Host.Outcome State Fault Refusal :=
  s.nextHw (s.hw.inRegion rgLine (fun h => h.candidate a c pos sfc))

/-- CONFIRMATION_POINT (R44): One frame length after a candidate, its confirmation either enters SYNC or releases the
slot and counts REJECT. -/
def execConfirmationPoint (a c pos diff : Nat) (hec : Bool) (f : FrameIn) (s : State) : Host.Outcome State Fault Refusal :=
  s.nextHw (s.hw.inRegion rgLine (fun h => h.confirm a c pos diff hec f))

/-- EXPECTED_POSITION_CHECK (R45): In SYNC the aligner checks the expected frame position and counts a hit or a miss.
-/
def execExpectedPositionCheck (a c diff : Nat) (hec : Bool) (f : FrameIn) (s : State) : Host.Outcome State Fault Refusal :=
  s.nextHw (s.hw.inRegion rgLine (fun h => h.expected a c diff hec f))

/-- ALIGNER_PARITY_ERROR (R61): A parity error in the aligner releases the slots and enters HUNT, declaring LOF when
in SYNC. -/
def execAlignerParityError (a c : Nat) (s : State) : Host.Outcome State Fault Refusal :=
  s.nextHw (s.hw.inRegion rgLine (fun h => h.alignerParity a c))

/-- CODEWORD_DECODED (R54): A decoder cell ends a codeword as clean, corrected or uncorrectable and counts it. -/
def execCodewordDecoded (a c outcome n : Nat) (s : State) : Host.Outcome State Fault Refusal :=
  s.nextHw (s.hw.inRegion rgLine (fun h => h.codeword a c outcome n))

/-- LN_MAP_CFG_WRITE (R57): A write of the map channels takes effect at the next tick boundary, restarts the lost-map
count and may change the activation channel. -/
def execLnMapCfgWrite (a v : Nat) (s : State) : Host.Outcome State Fault Refusal :=
  s.nextHw (s.hw.barGate (regBlock .LN_MAP_CFG a 0) (fun h => h.mapCfgWrite a v))

/-- PM_CLEAR (R66): A write of LN_PM_CFG.CLEAR discards the pending window at the next SECOND job and zeroes the
performance counters. -/
def execPmClear (a c v : Nat) (s : State) : Host.Outcome State Fault Refusal :=
  s.nextHw (s.hw.barGate (regBlock .LN_PM_CFG a c) (fun h => h.pmClear a c v))

/-- XGEM_FRAME_RX (R255): A delineated downstream XGEM frame is looked up in the XGEM map and dropped, sent to the
management channel or admitted. -/
def execXgemFrameRx (a src port key : Nat) (b : List Byte) (errored err : Bool) (s : State) : Host.Outcome State Fault Refusal :=
  s.nextHw (s.hw.inRegion rgLine (fun h => h.xgemRx a src port key b errored err))

end Sys2Proof.Machine
end

