-- ==== Sys2Proof/Machine/CmdPacket.lean ====
section
/-! DEFINITION. What each command does: Queues, buffer memory and pools (chapters 10 and 11). -/

namespace Sys2Proof.Machine

/-- SCHEDULER_SELECT (R265): A node selects a frame by level and weighted fair queueing when its drawer asks. -/
def execSchedulerSelect (k : Nat) (s : State) : Host.Outcome State Fault Refusal :=
  s.nextHw (s.hw.inRegion rgPacket (fun h => h.schedulerSelect k))

/-- STAGING_FILL (R273): An upstream slot's node selects frames into its staging area when it falls below its size.
-/
def execStagingFill (k : Nat) (s : State) : Host.Outcome State Fault Refusal :=
  s.nextHw (s.hw.inRegion rgPacket (fun h => h.stagingFill k (h.nodeDepth (129 + k))))

/-- POOL_ALLOC (R292): The POOL_ALLOC command allocates buffers to a host command ring. -/
def execPoolAlloc (hd : CmdHdr) (pool count size list : Nat) (s : State) : Host.Outcome State Fault Refusal :=
  s.nextHw (s.hw.hostCmd hd 0x20 (fun h => h.poolAllocCmd hd pool count size list))

/-- POOL_FREE (R296): The POOL_FREE command checks and frees up to five pointers. -/
def execPoolFree (hd : CmdHdr) (ptrs : List Nat) (s : State) : Host.Outcome State Fault Refusal :=
  s.nextHw (s.hw.hostCmd hd 0x21 (fun h => h.poolFreeCmd hd ptrs))

/-- POOL_XFER (R295): The POOL_XFER command transfers a buffer's owner tag. -/
def execPoolXfer (hd : CmdHdr) (tag ptr : Nat) (s : State) : Host.Outcome State Fault Refusal :=
  s.nextHw (s.hw.hostCmd hd 0x22 (fun h => h.poolXferCmd hd tag ptr))

/-- MEM_REPAIR (R288): The MEM_REPAIR command migrates, repairs and retests one LPDDR6 channel. -/
def execMemRepair (hd : CmdHdr) (ch : Nat) (rows : List Nat) (s : State) : Host.Outcome State Fault Refusal :=
  s.nextHw (s.hw.hostCmd hd 0x23 (fun h => h.memRepair hd ch rows))

/-- POOL_FILL_DONE (R291): An enabled pool's free ring has been written with all its pointers and FILLING clears. -/
def execPoolFillDone (p : Nat) (s : State) : Host.Outcome State Fault Refusal :=
  s.nextHw (s.hw.inRegion rgMemory (fun h => h.poolFillDone p))

/-- ZQ_RECAL (R282): Every 8,000 ticks each LPDDR6 channel repeats ZQ calibration and retrains its DQ timing if
needed. -/
def execZqRecal (drift failed : Nat) (s : State) : Host.Outcome State Fault Refusal :=
  s.nextHw (s.hw.inRegion rgMemory (fun h => h.zqRecal drift failed))

/-- PATROL_SCRUB (R285): The patrol scrubber reads and corrects LPDDR6 sectors in turn. -/
def execPatrolScrub (row outcome : Nat) (s : State) : Host.Outcome State Fault Refusal :=
  s.nextHw (s.hw.inRegion rgMemory (fun h => h.patrolScrub row outcome))

/-- MIGRATION_COMPLETE (R287): The last granule is copied and the spare replaces the source at the next tick
boundary. -/
def execMigrationComplete (s : State) : Host.Outcome State Fault Refusal :=
  s.nextHw (s.hw.inRegion rgMemory (fun h => h.migrationDone))

/-- MEM_REPAIR_DONE (R288): Post-package repair, retraining and the pattern test end; the channel becomes the spare
or ISOLATED and MEM_REPAIR completes. -/
def execMemRepairDone (ok : Bool) (s : State) : Host.Outcome State Fault Refusal :=
  s.nextHw (s.hw.inRegion rgMemory (fun h => h.memRepairDone ok))

end Sys2Proof.Machine
end

