-- ==== Sys2Proof/Machine/CmdParser.lean ====
section
/-! DEFINITION. What each command does: The parser engines (chapter 9). -/

namespace Sys2Proof.Machine

/-- NOP (R239): Parser instruction NOP does nothing. -/
def execPNop (e : Nat) (s : State) : Host.Outcome State Fault Refusal :=
  s.nextHw (s.hw.inRegion rgPacket (fun h => h.parser e .nop))

/-- LD (R239): Parser instruction LD loads bytes at the cursor into a register. -/
def execPLd (e d sz off : Nat) (s : State) : Host.Outcome State Fault Refusal :=
  s.nextHw (s.hw.inRegion rgPacket (fun h => h.parser e (.ld d sz off)))

/-- LDI (R239): Parser instruction LDI loads an immediate. -/
def execPLdi (e d imm : Nat) (s : State) : Host.Outcome State Fault Refusal :=
  s.nextHw (s.hw.inRegion rgPacket (fun h => h.parser e (.ldi d imm)))

/-- LDIH (R239): Parser instruction LDIH loads the upper half of a register. -/
def execPLdih (e d imm : Nat) (s : State) : Host.Outcome State Fault Refusal :=
  s.nextHw (s.hw.inRegion rgPacket (fun h => h.parser e (.ldih d imm)))

/-- EXTB (R239): Parser instruction EXTB extracts a bit field. -/
def execPExtb (e d rs pos w : Nat) (s : State) : Host.Outcome State Fault Refusal :=
  s.nextHw (s.hw.inRegion rgPacket (fun h => h.parser e (.extb d rs pos w)))

/-- ALU (R240): Parser instruction ALU combines two registers. -/
def execPAlu (e d a b fn : Nat) (s : State) : Host.Outcome State Fault Refusal :=
  s.nextHw (s.hw.inRegion rgPacket (fun h => h.parser e (.alu d a b fn)))

/-- ALUI (R240): Parser instruction ALUI combines a register with an immediate. -/
def execPAlui (e d a fn imm : Nat) (s : State) : Host.Outcome State Fault Refusal :=
  s.nextHw (s.hw.inRegion rgPacket (fun h => h.parser e (.alui d a fn imm)))

/-- CMP (R240): Parser instruction CMP sets flags from two registers. -/
def execPCmp (e a b : Nat) (s : State) : Host.Outcome State Fault Refusal :=
  s.nextHw (s.hw.inRegion rgPacket (fun h => h.parser e (.cmp a b)))

/-- CMPI (R240): Parser instruction CMPI sets flags against an immediate. -/
def execPCmpi (e a imm : Nat) (s : State) : Host.Outcome State Fault Refusal :=
  s.nextHw (s.hw.inRegion rgPacket (fun h => h.parser e (.cmpi a imm)))

/-- BF (R239): Parser instruction BF branches when its condition holds. -/
def execPBf (e cond target : Nat) (s : State) : Host.Outcome State Fault Refusal :=
  s.nextHw (s.hw.inRegion rgPacket (fun h => h.parser e (.bf cond target)))

/-- ADV (R242): Parser instruction ADV moves the cursor. -/
def execPAdv (e mode rs imm : Nat) (s : State) : Host.Outcome State Fault Refusal :=
  s.nextHw (s.hw.inRegion rgPacket (fun h => h.parser e (.adv mode rs imm)))

/-- MARK (R241): Parser instruction MARK sets a layer marker. -/
def execPMark (e k typ : Nat) (s : State) : Host.Outcome State Fault Refusal :=
  s.nextHw (s.hw.inRegion rgPacket (fun h => h.parser e (.mark k typ)))

/-- KEY (R239): Parser instruction KEY copies frame bytes into the key buffer. -/
def execPKey (e koff off len : Nat) (s : State) : Host.Outcome State Fault Refusal :=
  s.nextHw (s.hw.inRegion rgPacket (fun h => h.parser e (.key koff off len)))

/-- KEYR (R239): Parser instruction KEYR copies register bytes into the key buffer. -/
def execPKeyr (e koff rs sz : Nat) (s : State) : Host.Outcome State Fault Refusal :=
  s.nextHw (s.hw.inRegion rgPacket (fun h => h.parser e (.keyr koff rs sz)))

/-- HASH (R245): Parser instruction HASH starts the symmetric CRC-32C hash of an endpoint tuple. -/
def execPHash (e d c v6 koff : Nat) (s : State) : Host.Outcome State Fault Refusal :=
  s.nextHw (s.hw.inRegion rgPacket (fun h => h.parser e (.hash d c v6 koff)))

/-- HASH_RESULT (R243): The hash result arrives after its latency in the register and key buffer. -/
def execHashResult (e d : Nat) (s : State) : Host.Outcome State Fault Refusal :=
  s.nextHw (s.hw.inRegion rgPacket (fun h => h.hashResult e d))

/-- LOOKUP (R251): Parser instruction LOOKUP starts a table lookup. -/
def execPLookup (e d tbl koff rs : Nat) (s : State) : Host.Outcome State Fault Refusal :=
  s.nextHw (s.hw.inRegion rgPacket (fun h => h.parser e (.lookup d tbl koff rs)))

/-- LOOKUP_RESULT (R252): A table lookup returns its result words and sets EQ on a hit. -/
def execLookupResult (e d : Nat) (err : Bool) (s : State) : Host.Outcome State Fault Refusal :=
  s.nextHw (s.hw.inRegion rgPacket (fun h => h.lookupResult e d err))

/-- SETM (R239): Parser instruction SETM sets a metadata field from a register. -/
def execPSetm (e f rs : Nat) (s : State) : Host.Outcome State Fault Refusal :=
  s.nextHw (s.hw.inRegion rgPacket (fun h => h.parser e (.setm f rs)))

/-- SETMI (R239): Parser instruction SETMI sets a metadata field from an immediate. -/
def execPSetmi (e f imm : Nat) (s : State) : Host.Outcome State Fault Refusal :=
  s.nextHw (s.hw.inRegion rgPacket (fun h => h.parser e (.setmi f imm)))

/-- GETM (R239): Parser instruction GETM reads a metadata field. -/
def execPGetm (e d f : Nat) (s : State) : Host.Outcome State Fault Refusal :=
  s.nextHw (s.hw.inRegion rgPacket (fun h => h.parser e (.getm d f)))

/-- LCHK (R249): Parser instruction LCHK checks a claimed length and on conflict drops or punts the frame. -/
def execPLchk (e a mode b min : Nat) (s : State) : Host.Outcome State Fault Refusal :=
  s.nextHw (s.hw.inRegion rgPacket (fun h => h.parser e (.lchk a mode b min)))

/-- FWD (R247): Verdict FWD checks the destination and admits the frame to the traffic manager. -/
def execPFwd (e : Nat) (s : State) : Host.Outcome State Fault Refusal :=
  s.nextHw (s.hw.inRegion rgPacket (fun h => h.parser e .fwd))

/-- EXC (R256): Verdict EXC sends the frame to the exception path under its class credit. -/
def execPExc (e cls : Nat) (s : State) : Host.Outcome State Fault Refusal :=
  s.nextHw (s.hw.inRegion rgPacket (fun h => h.parser e (.exc cls)))

/-- DROP (R247): Verdict DROP frees the frame and counts its reason. -/
def execPDrop (e reason : Nat) (s : State) : Host.Outcome State Fault Refusal :=
  s.nextHw (s.hw.inRegion rgPacket (fun h => h.parser e (.drop reason)))

/-- RECIRC (R250): Verdict RECIRCULATE sends the frame for its second pass. -/
def execPRecirc (e wadv entry : Nat) (s : State) : Host.Outcome State Fault Refusal :=
  s.nextHw (s.hw.inRegion rgPacket (fun h => h.parser e (.recirc wadv entry)))

end Sys2Proof.Machine
end

