-- ==== Sys2Proof/Machine/CmdPower.lean ====
section
/-! DEFINITION. What each command does: Power, reset, start-up and the debug ports (chapters 15 to 18). -/

namespace Sys2Proof.Machine

/-- VDD_FAWN_RISE (R427): VDD_FAWN rising from below 1.5 V performs a Fawn power-on reset. -/
def execVddFawnRise (s : State) : Host.Outcome State Fault Refusal :=
  s.nextHw (s.hw.vddRise)

/-- VDD_FAWN_LOSS (R427): Loss of VDD_FAWN enters P4 and loses everything but the flash. -/
def execVddFawnLoss (s : State) : Host.Outcome State Fault Refusal :=
  s.nextHw (s.hw.vddLoss)

/-- VDD_FAWN_LOW (R466): VDD_FAWN below 1.65 V clears TC_STATUS.SET. -/
def execVddFawnLow (mv : Nat) (s : State) : Host.Outcome State Fault Refusal :=
  s.nextHw (s.hw.inRegion rgFawn (fun h => h.vddLow mv))

/-- PWR_OK_FALL (R428): PWR_OK falls: FAWN abandons jobs, holds pads, keeps retention banks, moves counters to REFOSC
and enters P3. -/
def execPwrOkFall (err : Int) (s : State) : Host.Outcome State Fault Refusal :=
  s.nextHw (s.hw.inRegion rgFawn (fun h => h.pwrOkFall err))

/-- PWR_OK_RISE (R429): PWR_OK rises and resets the chip domain, after which start-up follows. -/
def execPwrOkRise (err : Int) (s : State) : Host.Outcome State Fault Refusal :=
  s.nextHw (s.hw.inRegion rgFawn (fun h => h.pwrOkRise err))

/-- SYS_RST_N (R429): SYS_RST_N resets the chip domain and start-up follows its deassertion. -/
def execSysRstN (s : State) : Host.Outcome State Fault Refusal :=
  s.nextHw (s.hw.inRegion rgFawn (fun h => h.sysRst))

/-- PERST_N (R429): PERST_N resets the endpoint, and the chip domain when PERST_SCOPE is 1, and switches rails on in
P3. -/
def execPerstN (s : State) : Host.Outcome State Fault Refusal :=
  s.nextHw (s.hw.inRegion rgFawn (fun h => h.perst))

/-- BOOT (R431): The boot logic reads the flash, checks the image sections, applies presets or enters recovery boot.
-/
def execBoot (x : BootIn) (s : State) : Host.Outcome State Fault Refusal :=
  s.nextNv (s.hw.inRegionNv s.nv rgFawn (fun h => h.boot s.nv x))

/-- START_UP (R434): After the boot checks the terminal starts each enabled region in wake order. -/
def execStartUp (bad banks : Nat) (s : State) : Host.Outcome State Fault Refusal :=
  s.nextNv (s.hw.inRegionNv s.nv rgFawn (fun h => h.startUp s.nv bad banks))

/-- STANDBY (R435): A write of PW_CTRL with KEY and STANDBY stops the regions, requests L2 and switches rails off to
enter P3. -/
def execStandby (v : Nat) (s : State) : Host.Outcome State Fault Refusal :=
  s.nextHw (s.hw.barGate (regBlock .PW_CTRL 0 0) (fun h => h.pwCtrlWrite v))

/-- STANDBY_WAKE_TIMEOUT (R435): PWR_OK has not risen 20 ms after the rails were switched on; PWR_FAULT is set. -/
def execStandbyWakeTimeout (s : State) : Host.Outcome State Fault Refusal :=
  s.nextHw (s.hw.inRegion rgFawn (fun h => h.standbyTimeout))

/-- POWER_STATE_ENTERED (R437): A block that accepted reaches the requested state. -/
def execPowerStateEntered (u : Nat) (s : State) : Host.Outcome State Fault Refusal :=
  s.nextHw (s.hw.inRegion rgFawn (fun h => h.stateEntered u))

/-- BLOCK_WAKE (R439): A block or region wakes through regulator, clock, memory and logic steps. -/
def execBlockWake (u : Nat) (pll : Bool) (banks bad : Nat) (s : State) : Host.Outcome State Fault Refusal :=
  s.nextNv (s.hw.inRegionNv s.nv rgFawn (fun h => h.blockWake s.nv u pll banks bad))

/-- PMBUS_REQUEST_DONE (R441): A voltage request or OPERATION write is acknowledged or fails. -/
def execPmbusRequestDone (ok : Bool) (s : State) : Host.Outcome State Fault Refusal :=
  s.nextHw (s.hw.inRegion rgFawn (fun h => h.pmbusDone ok))

/-- PMBUS_RETRY (R441): 2 ms after an unacknowledged request it is retried, and after the fourth failure PWR_FAULT is
set. -/
def execPmbusRetry (s : State) : Host.Outcome State Fault Refusal :=
  s.nextHw (s.hw.inRegion rgFawn (fun h => h.pmbusRetry))

/-- AVS_TARGET_UPDATE (R440): Once per second the VDD_CORE target is recomputed and sent. -/
def execAvsTargetUpdate (full tOnly : Nat) (s : State) : Host.Outcome State Fault Refusal :=
  s.nextHw (s.hw.inRegion rgFawn (fun h => h.avsUpdate full tOnly))

/-- POWER_SUM_CHECK (R442): Once per second READ_POUT is summed and the power-limit condition judged. -/
def execPowerSumCheck (sum : Nat) (s : State) : Host.Outcome State Fault Refusal :=
  s.nextHw (s.hw.inRegion rgFawn (fun h => h.powerSum sum))

/-- PMB_ALERT (R442): A regulator reports an overcurrent fault on PMB_ALERT_N and the power-limit condition holds. -/
def execPmbAlert (present : Bool) (s : State) : Host.Outcome State Fault Refusal :=
  s.nextHw (s.hw.inRegion rgFawn (fun h => h.pmbAlert present))

/-- PAD_RELEASE (R444): A write of PW_PAD_RELEASE releases a running region's held pads or sets REL_REJ. -/
def execPadRelease (v : Nat) (s : State) : Host.Outcome State Fault Refusal :=
  s.nextHw (s.hw.barGate (regBlock .PW_PAD_RELEASE 0 0) (fun h => h.padRelease v))

/-- REGION_ENABLE_WRITE (R448): A write of GL_REGION_CTRL stops and powers off or wakes a region, or is dropped with
EN_REJ. -/
def execRegionEnableWrite (v : Nat) (s : State) : Host.Outcome State Fault Refusal :=
  s.nextHw (s.hw.barGate (regBlock .GL_REGION_CTRL 0 0) (fun h => h.enableWrite v))

/-- DEBUG_READ (R451): A read of GL_DBG_DATA returns a word of internal state, or 0 with DENIED or GATED. -/
def execDebugRead (prot : Bool) (s : State) : Host.Outcome State Fault Refusal :=
  s.nextHw (s.hw.debugBar prot)

/-- FLASH_READ (R454): GL_FLASH_CTRL GO with OP READ reads flash bytes into GL_FLASH_BUF. -/
def execFlashRead (v : Nat) (s : State) : Host.Outcome State Fault Refusal :=
  s.nextHw (s.hw.barGate (regBlock .GL_FLASH_CTRL 0 0) (fun h => h.flashCtrl (putBits v 0 3 0)))

/-- FLASH_PROGRAM (R454): GL_FLASH_CTRL GO with OP PROGRAM and KEY programs a flash page or is refused. -/
def execFlashProgram (v : Nat) (s : State) : Host.Outcome State Fault Refusal :=
  s.nextHw (s.hw.barGate (regBlock .GL_FLASH_CTRL 0 0) (fun h => h.flashCtrl (putBits v 0 3 1)))

/-- ERASE_4K (R454): GL_FLASH_CTRL GO with OP ERASE_4K and KEY erases a 4 KiB sector or is refused. -/
def execErase4k (v : Nat) (s : State) : Host.Outcome State Fault Refusal :=
  s.nextHw (s.hw.barGate (regBlock .GL_FLASH_CTRL 0 0) (fun h => h.flashCtrl (putBits v 0 3 2)))

/-- ERASE_64K (R454): GL_FLASH_CTRL GO with OP ERASE_64K and KEY erases a 64 KiB block or is refused. -/
def execErase64k (v : Nat) (s : State) : Host.Outcome State Fault Refusal :=
  s.nextHw (s.hw.barGate (regBlock .GL_FLASH_CTRL 0 0) (fun h => h.flashCtrl (putBits v 0 3 3)))

/-- FLASH_OP_DONE (R454): A host flash operation ends, BUSY clears and ERR is set if it overran. -/
def execFlashOpDone (slow : Bool) (s : State) : Host.Outcome State Fault Refusal :=
  s.nextNv (s.hw.inRegionNv s.nv rgFawn (fun h => h.flashDone s.nv slow))

/-- SCAN_ACCESS_ENABLE (R305): Enabling scan access to PACKET through JTAG zeroises every key slot first. -/
def execScanAccessEnable (s : State) : Host.Outcome State Fault Refusal :=
  s.nextHw (s.hw.inRegion rgFawn (fun h => h.scanEnable))

/-- JTAG_INSTRUCTION (R478): An IEEE 1149.1 instruction loaded on the JTAG port takes effect: BYPASS, IDCODE,
SAMPLE/PRELOAD, EXTEST, HIGHZ, CLAMP or a private fuse instruction. -/
def execJtagInstruction (instr : Nat) (owner : Bool) (s : State) : Host.Outcome State Fault Refusal :=
  s.nextNv (s.hw.inRegionNv s.nv rgFawn (fun h => h.jtagInstr s.nv instr owner))

end Sys2Proof.Machine
end

