-- ==== Sys2Proof/Machine/CmdSafety.lean ====
section
/-! DEFINITION. What each command does: Supervision, levels and the event recorder (chapter 15). -/

namespace Sys2Proof.Machine

/-- CELL_ERROR (R17): A cell detects an error and corrects it, or the block quarantines the cell, the region isolates
the block or reloads. -/
def execCellError (blk cell kind arg row : Nat) (s : State) : Host.Outcome State Fault Refusal :=
  s.nextHw (s.hw.inRegion (blk / 0x1000) (fun h => h.cellError blk cell kind arg row))

/-- REGION_WATCHDOG_TRIP (R398): A region misses two tick acknowledgements and its watchdog trips. -/
def execRegionWatchdogTrip (r : Nat) (s : State) : Host.Outcome State Fault Refusal :=
  s.nextHw (s.hw.inRegion rgFawn (fun h => h.watchdogTrip r))

/-- REGION_RELOAD (R401): A region stops admitting work, is reset and runs its self-tests. -/
def execRegionReload (r bad : Nat) (s : State) : Host.Outcome State Fault Refusal :=
  s.nextHw (s.hw.inRegion rgFawn (fun h => h.regionReload r bad))

/-- SF_REGION_RELOAD_WRITE (R402): A host write of SF_REGION.RELOAD requests a reload of the region. -/
def execSfRegionReloadWrite (r v : Nat) (s : State) : Host.Outcome State Fault Refusal :=
  s.nextHw (s.hw.barGate (regBlock .SF_REGION r 0) (fun h => h.reloadWrite r v))

/-- REGION_READY (R401): After its self-tests pass a region reports ready at a tick boundary and releases its
sources. -/
def execRegionReady (r : Nat) (s : State) : Host.Outcome State Fault Refusal :=
  s.nextHw (s.hw.inRegion rgFawn (fun h => h.regionUp r))

/-- RELOAD_TIMEOUT (R401): A reload not ready within its bound has failed and is reported to the chip. -/
def execReloadTimeout (r : Nat) (s : State) : Host.Outcome State Fault Refusal :=
  s.nextHw (s.hw.inRegion rgFawn (fun h => h.reloadTimeout r))

/-- THERMAL_EMERGENCY (R403): Tj at or above THERM_EMERG for 8 ticks makes TIME-ONLY a cause. -/
def execThermalEmergency (s : State) : Host.Outcome State Fault Refusal :=
  s.nextHw (s.hw.inRegion rgFawn (fun h => h.thermalEmergency))

/-- THERMAL_CLEAR (R405): Tj below THERM_EMERG minus THERM_HYST for 60 s ends the thermal cause. -/
def execThermalClear (s : State) : Host.Outcome State Fault Refusal :=
  s.nextHw (s.hw.inRegion rgFawn (fun h => h.thermalClear))

/-- LEVEL_CMD_RETURN (R405): SF_LEVEL_CMD 1 returns from TIME-ONLY once the cause has ended. -/
def execLevelCmdReturn (s : State) : Host.Outcome State Fault Refusal :=
  s.nextHw (s.hw.barGate (regBlock .SF_LEVEL_CMD 0 0) (fun h => h.levelReturn))

/-- LEVEL_CMD_TIME_ONLY (R403): SF_LEVEL_CMD 2 enters TIME-ONLY. -/
def execLevelCmdTimeOnly (s : State) : Host.Outcome State Fault Refusal :=
  s.nextHw (s.hw.barGate (regBlock .SF_LEVEL_CMD 0 0) (fun h => h.levelTimeOnly))

/-- LEVEL_CMD_SAFE (R406): SF_LEVEL_CMD 3 enters SAFE with cause HOST. -/
def execLevelCmdSafe (s : State) : Host.Outcome State Fault Refusal :=
  s.nextHw (s.hw.barGate (regBlock .SF_LEVEL_CMD 0 0) (fun h => h.levelSafe))

/-- SF_ACK (R414): A write of SF_CTRL.ACK ends the global reaction once the latched classes are absent, or sets
ACK_REJ. -/
def execSfAck (s : State) : Host.Outcome State Fault Refusal :=
  s.nextHw (s.hw.barGate (regBlock .SF_CTRL 0 0) (fun h => h.sfAck))

/-- SELFCHK (R417): A write of SF_CTRL.SELFCHK runs the supervision self-check of every checker. -/
def execSelfchk (fails : Nat) (s : State) : Host.Outcome State Fault Refusal :=
  s.nextHw (s.hw.barGate (regBlock .SF_CTRL 0 0) (fun h => h.selfCheck fails))

/-- SELFCHK_PERIODIC (R417): Every SELFCHK_H hours the supervision pair runs the self-check. -/
def execSelfchkPeriodic (fails : Nat) (s : State) : Host.Outcome State Fault Refusal :=
  s.nextHw (s.hw.inRegion rgFawn (fun h => h.selfCheckDue fails))

/-- INJECT (R418): A write of SF_CTRL with INJ_KEY injects a fault into a safety diagnostic path. -/
def execInject (v : Nat) (s : State) : Host.Outcome State Fault Refusal :=
  s.nextHw (s.hw.barGate (regBlock .SF_CTRL 0 0) (fun h => h.inject v))

/-- OP_HOURS_TICK (R420): Every 1,800,000 ticks with PWR_OK asserted OP_HOURS increments and is written to flash
every 16 units. -/
def execOpHoursTick (s : State) : Host.Outcome State Fault Refusal :=
  s.nextNv (s.hw.inRegionNv s.nv rgFawn (fun h => h.opHours s.nv))

/-- FLASH_RECORD_WRITE (R423): The flash writer commits the oldest uncommitted record to an erased slot or a victim
slot. -/
def execFlashRecordWrite (s : State) : Host.Outcome State Fault Refusal :=
  s.nextNv (s.hw.inRegionNv s.nv rgFawn (fun h => h.logWrite s.nv))

/-- EV_RECORD_READ (R425): A write of EV_RD_CTRL with GO fetches a ring entry or log slot into EV_RD_DATA. -/
def execEvRecordRead (v : Nat) (s : State) : Host.Outcome State Fault Refusal :=
  s.nextHw (s.hw.barGate (regBlock .EV_RD_CTRL 0 0) (fun h => h.recordRead v))

/-- EV_READ_DONE (R425): The requested record is in EV_RD_DATA and DONE is set. -/
def execEvReadDone (s : State) : Host.Outcome State Fault Refusal :=
  s.nextHw (s.hw.inRegion rgFawn (fun h => h.readDone s.nv))

/-- EV_LOG_ERASE (R425): A write of EV_CTRL.ERASE with KEY erases the log and writes LOG_ERASED. -/
def execEvLogErase (v : Nat) (s : State) : Host.Outcome State Fault Refusal :=
  s.nextHw (s.hw.barGate (regBlock .EV_CTRL 0 0) (fun h => h.logErase s.nv v))

/-- CONTROL_LOST (R401): A CONTROL reload that is not ready within 2 s is a class 13 CONTROL_LOST detection of
SF-TIME. -/
def execControlLost (s : State) : Host.Outcome State Fault Refusal :=
  s.nextHw (s.hw.inRegion rgFawn (fun h => h.controlLost))

/-- LOG_WRITE_DONE (R424): A flash program or sector rewrite of the event recorder ends, or exceeds 4 times its
JESD216 time and sets FLASH_ERR, releasing the waiting reads and host flash operations. -/
def execLogWriteDone (slow : Bool) (s : State) : Host.Outcome State Fault Refusal :=
  s.nextNv (s.hw.inRegionNv s.nv rgFawn (fun h => h.logWriteDone s.nv slow))

/-- LOG_ERASE_DONE (R425): The erase of the log area ends, LOG_ERASED is written in slot 0 and REWRITING clears. -/
def execLogEraseDone (s : State) : Host.Outcome State Fault Refusal :=
  s.nextNv (s.hw.inRegionNv s.nv rgFawn (fun h => h.logEraseDone s.nv))

end Sys2Proof.Machine
end

