-- ==== Sys2Proof/Machine/CmdStation.lean ====
section
/-! DEFINITION. What each command does: The station time service, dual attachment and the station ports (chapters 6 to 8). -/

namespace Sys2Proof.Machine

/-- STATION_LANE_LOCK (R166): A station lane locks and the terminal writes its TS_LAT latencies. -/
def execStationLaneLock (n tx rx : Nat) (s : State) : Host.Outcome State Fault Refusal :=
  s.nextHw (s.hw.inRegion (tsRegion n) (fun h => h.laneLock n tx rx))

/-- SYNC (R174): At its scheduled microtick an instance requests a one-step Sync. -/
def execSync (i : Nat) (s : State) : Host.Outcome State Fault Refusal :=
  s.nextHw (s.hw.inRegion (tsRegion i) (fun h => h.syncRequest i))

/-- ANNOUNCE (R175): At its scheduled microtick an instance requests an Announce carrying the effective rung. -/
def execAnnounce (i : Nat) (s : State) : Host.Outcome State Fault Refusal :=
  s.nextHw (s.hw.inRegion (tsRegion i) (fun h => h.announceRequest i))

/-- DELAY_REQ (R176): A received Delay_Req is answered with a Delay_Resp carrying its receive timestamp. -/
def execDelayReq (i : Nat) (m : PtpIn) (s : State) : Host.Outcome State Fault Refusal :=
  s.nextHw (s.hw.inRegion (tsRegion i) (fun h => h.delayRequest i false m))

/-- PDELAY_REQ (R177): A received Pdelay_Req is answered with a one-step Pdelay_Resp. -/
def execPdelayReq (i : Nat) (m : PtpIn) (s : State) : Host.Outcome State Fault Refusal :=
  s.nextHw (s.hw.inRegion (tsRegion i) (fun h => h.delayRequest i true m))

/-- NTP_REQUEST (R180): An NTP client request is answered, rate-limited, given kiss-o'-death or discarded. -/
def execNtpRequest (i : Nat) (m : NtpIn) (s : State) : Host.Outcome State Fault Refusal :=
  s.nextHw (s.hw.inRegion (tsRegion i) (fun h => h.ntpRequest i m))

/-- ARP_REQUEST (R164): An ARP request or Neighbor Solicitation for the port's address is answered with the port's
MAC address. -/
def execArpRequest (i : Nat) (v6 : Bool) (mac ip : Nat) (s : State) : Host.Outcome State Fault Refusal :=
  s.nextHw (s.hw.inRegion (tsRegion i) (fun h => h.arpRequest i v6 mac ip))

/-- ESMC_RX (R183): A received ESMC message is discarded and counted. -/
def execEsmcRx (i : Nat) (s : State) : Host.Outcome State Fault Refusal :=
  s.nextHw (s.hw.inRegion (tsRegion i) (fun h => h.esmcRx i))

/-- ESMC_INFO_PDU (R185): Once per second an instance with ESMC sends an information PDU. -/
def execEsmcInfoPdu (i : Nat) (s : State) : Host.Outcome State Fault Refusal :=
  s.nextHw (s.hw.inRegion (tsRegion i) (fun h => h.esmcInfo i))

/-- ESMC_EVENT_PDU (R185): After a quality-level change an event PDU is sent at the first MAC grant. -/
def execEsmcEventPdu (i : Nat) (s : State) : Host.Outcome State Fault Refusal :=
  s.nextHw (s.hw.inRegion (tsRegion i) (fun h => h.esmcEvent i))

/-- RESPONDER_COMMIT (R169): At a MAC grant the responder commits a frame, fixing its departure time and inserting it
as the frame streams out. -/
def execResponderCommit (i : Nat) (dep : Int) (len : Nat) (s : State) : Host.Outcome State Fault Refusal :=
  s.nextHw (s.hw.inRegion (tsRegion i) (fun h => h.responderCommit i dep len))

/-- TX_LATE (R179): A Sync or Announce not committed within 1,000 us is dropped and counted. -/
def execTxLate (i : Nat) (s : State) : Host.Outcome State Fault Refusal :=
  s.nextHw (s.hw.inRegion (tsRegion i) (fun h => h.txLate i))

/-- ATTACHMENT_FAIL (R193): A failure criterion held for HOLDOFF ticks declares the attachment failed. -/
def execAttachmentFail (a : Nat) (s : State) : Host.Outcome State Fault Refusal :=
  s.nextHw (s.hw.inRegion rgLine (fun h => h.attachFail a))

/-- ATTACHMENT_RECOVER (R195): After WTR_S seconds with no criterion the attachment is healthy again at the next tick
boundary. -/
def execAttachmentRecover (a : Nat) (s : State) : Host.Outcome State Fault Refusal :=
  s.nextHw (s.hw.inRegion rgLine (fun h => h.attachRecover a))

/-- RETURN_TIMEOUT (R203): RETURN_MS elapses in RETURN and the group's frames on O are moved and DRAIN begins towards
H. -/
def execReturnTimeout (g : Nat) (s : State) : Host.Outcome State Fault Refusal :=
  s.nextHw (s.hw.inRegion rgPacket (fun h => h.returnTimeout g))

/-- FIFO_EMPTY (R203): A draining bridge FIFO becomes empty and the group enters HOME or AWAY. -/
def execFifoEmpty (g : Nat) (s : State) : Host.Outcome State Fault Refusal :=
  s.nextHw (s.hw.inRegion rgPacket (fun h => h.fifoEmpty g))

/-- BRIDGE_DRAIN (R208): The drain engine moves frames from a bridge FIFO into its target queue set, discarding aged
frames. -/
def execBridgeDrain (s : State) : Host.Outcome State Fault Refusal :=
  s.nextHw (s.hw.inRegion rgPacket (fun h => h.bridgeDrain))

/-- FRER_RESET_TIMEOUT (R200): The recovery reset timer expires and the stream's recovery is reset. -/
def execFrerResetTimeout (r : Nat) (s : State) : Host.Outcome State Fault Refusal :=
  s.nextHw (s.hw.inRegion rgPacket (fun h => h.frerTimeout r))

/-- LINK_UP (R221): After 80 ticks with all link conditions held, LINK becomes 1. -/
def execLinkUp (n : Nat) (s : State) : Host.Outcome State Fault Refusal :=
  s.nextHw (s.hw.inRegion (tsRegion n) (fun h => h.linkUp n))

/-- LANE_IDLE (R222): SIG_DET absent for IDLE_MS makes a lane idle and eligible for lower power states. -/
def execLaneIdle (n : Nat) (s : State) : Host.Outcome State Fault Refusal :=
  s.nextHw (s.hw.inRegion (tsRegion n) (fun h => h.laneIdle n))

/-- DFE_EQ_RESET (R218): A write of PF_LANE_EQ.EQ_RESET discards the DFE coefficients, dropped while LINK is 1. -/
def execDfeEqReset (n v : Nat) (s : State) : Host.Outcome State Fault Refusal :=
  s.nextHw (s.hw.barGate (regBlock .PF_LANE_EQ n 0) (fun h => h.dfeReset n v))

/-- MAC_FRAME_RX (R224): A station MAC stores a received frame whole, checks it and passes it to the responder or
PACKET. -/
def execMacFrameRx (n : Nat) (t : Int) (code ecc : Bool) (b : List Byte) (s : State) : Host.Outcome State Fault Refusal :=
  s.nextHw (s.hw.inRegion (tsRegion n) (fun h => h.macFrameRx n t code ecc b))

/-- PAUSE_TIMER_EXPIRY (R228): The pause timer reaches 0 and the MAC may start frames again. -/
def execPauseTimerExpiry (n : Nat) (s : State) : Host.Outcome State Fault Refusal :=
  s.nextHw (s.hw.inRegion (tsRegion n) (fun h => h.pauseExpiry n))

/-- PAUSE_GENERATE (R230): The receive FIFO fill crosses XOFF or falls to XON and the MAC sends a PAUSE. -/
def execPauseGenerate (n : Nat) (s : State) : Host.Outcome State Fault Refusal :=
  s.nextHw (s.hw.inRegion (tsRegion n) (fun h => h.pauseGenerate n))

/-- PAUSE_REFRESH (R230): While the fill stays above XON the MAC resends PAUSE each half PAUSE_QUANTA. -/
def execPauseRefresh (n : Nat) (s : State) : Host.Outcome State Fault Refusal :=
  s.nextHw (s.hw.inRegion (tsRegion n) (fun h => h.pauseRefresh n))

/-- MAC_FRAME_TX (R226): The MAC starts sending a frame that is wholly in its transmit buffer, or drops it for an
error or length. -/
def execMacFrameTx (n : Nat) (s : State) : Host.Outcome State Fault Refusal :=
  s.nextHw (s.hw.inRegion (tsRegion n) (fun h => h.macFrameTx n))

/-- LANE_RECAL (R233): The LANE_RECAL command starts a LIGHT or FULL recalibration of one lane, or completes BUSY,
RANGE or GATED. -/
def execLaneRecal (hd : CmdHdr) (lane mode : Nat) (s : State) : Host.Outcome State Fault Refusal :=
  s.nextHw (s.hw.hostCmd hd 0x05 (fun h => h.laneRecal hd lane mode))

/-- LANE_RECAL_DONE (R234): A recalibration ends, new latencies enter TS_LAT and the command completes. -/
def execLaneRecalDone (r tx rx : Nat) (dev : Int) (s : State) : Host.Outcome State Fault Refusal :=
  s.nextHw (s.hw.inRegion r (fun h => h.recalDone r tx rx dev))

/-- PRBS_LOCK (R232): The pattern checker sees 64 consecutive error-free bits, sets PRBS_LOCK and starts counting bit
errors. -/
def execPrbsLock (n : Nat) (s : State) : Host.Outcome State Fault Refusal :=
  s.nextHw (s.hw.inRegion (tsRegion n) (fun h => h.prbsLock n))

/-- PRBS_LOCK_LOSS (R232): The pattern checker sees 64 errors within 64 consecutive words, clears PRBS_LOCK and hunts
again. -/
def execPrbsLockLoss (n errs : Nat) (s : State) : Host.Outcome State Fault Refusal :=
  s.nextHw (s.hw.inRegion (tsRegion n) (fun h => h.prbsLoss n errs))

end Sys2Proof.Machine
end

