-- ==== Sys2Proof/Machine/CmdTick.lean ====
section
/-! DEFINITION. What each command does: Tick and microtick boundaries (chapter 1). -/

namespace Sys2Proof.Machine

/-- MICROTICK_BOUNDARY (R27): Every 2,430 core cycles the terminal closes the arrivals of the microtick, runs
TIMEOUT, checks ending jobs and starts the jobs of the new period. -/
def execMicrotickBoundary (x : MicroIn) (s : State) : Host.Outcome State Fault Refusal :=
  s.nextHw (s.hw.microBoundary x)

/-- TICK_BOUNDARY (R23): Every 194,400 core cycles, or at the end of a stretched tick, the tick generator ends a
tick, performs any epoch flip, increments GL_TICK_NUM and starts the per-tick jobs. -/
def execTickBoundary (x : TickIn) (s : State) : Host.Outcome State Fault Refusal :=
  s.nextHw (s.hw.tickBoundary x)

end Sys2Proof.Machine
end

