-- ==== Sys2Proof/Machine/CmdTime.lean ====
section
/-! DEFINITION. What each command does: The time core (chapter 5). -/

namespace Sys2Proof.Machine

/-- LOCKSTEP_MISMATCH (R130): The primary and shadow counters disagree; LS_FAULT is set and the fault is reported to
the safety manager. -/
def execLockstepMismatch (diff : Int) (s : State) : Host.Outcome State Fault Refusal :=
  s.nextHw (s.hw.inRegion rgFawn (fun h => h.lockstepMismatch diff))

/-- LS_RESYNC (R130): A write of LS_RESYNC copies the primary counter into the shadow at the next tick boundary and
clears LS_FAULT. -/
def execLsResync (v : Nat) (s : State) : Host.Outcome State Fault Refusal :=
  s.nextHw (s.hw.barGate (regBlock .TC_CTRL 0 0) (fun h => h.lsResyncWrite v))

/-- TC_SET_GO (R135): A write of TC_SET with GO sets the counters at the next tick boundary, or is dropped with
SET_REJ while a domain is selected. -/
def execTcSetGo (v : Nat) (s : State) : Host.Outcome State Fault Refusal :=
  s.nextHw (s.hw.barGate (regBlock .TC_SET 0 0) (fun h => h.tcSetGo v))

/-- TODA_ATTRIBUTE (R139): Firmware delivers the OMCI time-of-day attribute to the time core within 2 ticks. -/
def execTodaAttribute (a lo sec ns : Nat) (s : State) : Host.Outcome State Fault Refusal :=
  s.nextHw (s.hw.inRegion rgControl (fun h => h.todaAttribute a lo sec ns))

/-- TC_TODA_IN_GO (R139): A host write of TC_TODA_IN with GO delivers a time-of-day association. -/
def execTcTodaInGo (d v : Nat) (s : State) : Host.Outcome State Fault Refusal :=
  s.nextHw (s.hw.barGate (regBlock .TC_TODA_IN d 0) (fun h => h.todaInGo d v))

/-- DOMAIN_QUALIFIED (R145): A domain that has had samples for 80,000 ticks without going DOWN becomes qualified. -/
def execDomainQualified (d : Nat) (s : State) : Host.Outcome State Fault Refusal :=
  s.nextHw (s.hw.inRegion rgFawn (fun h => h.domainQualified d))

/-- HOLDOVER_TIMER_EXPIRY (R152): ELAPSED_S passes HOLD_SPEC and the rung leaves HOLD_IN. -/
def execHoldoverTimerExpiry (s : State) : Host.Outcome State Fault Refusal :=
  s.nextHw (s.hw.inRegion rgFawn (fun h => h.holdoverExpiry))

/-- PPS_EDGE (R146): An edge on a PPS_IN pin is captured and accepted or rejected against the predicted seconds. -/
def execPpsEdge (p : Nat) (t : Int) (s : State) : Host.Outcome State Fault Refusal :=
  s.nextHw (s.hw.inRegion rgFawn (fun h => h.ppsEdge p t))

/-- PPS_MISSING (R146): A predicted second passes without an accepted edge; two in a row make the 1PPS domain DOWN.
-/
def execPpsMissing (mon : Bool) (s : State) : Host.Outcome State Fault Refusal :=
  s.nextHw (s.hw.inRegion rgFawn (fun h => h.ppsMissing mon))

/-- OSC_MODEL_MEASURE (R149): Once per second while LOCKED the REFOSC frequency is measured and the oscillator model
updated. -/
def execOscModelMeasure (freq : Rat) (adv : Int) (mon : Rat) (s : State) : Host.Outcome State Fault Refusal :=
  s.nextHw (s.hw.inRegion rgFawn (fun h => h.oscMeasure freq adv mon))

/-- COMPARATOR_TARGET (R154): The primary counter reaches a comparator target; the comparator drives its pin active
and/or writes a TIME_CMP event. -/
def execComparatorTarget (k : Nat) (s : State) : Host.Outcome State Fault Refusal :=
  s.nextHw (s.hw.inRegion rgFawn (fun h => h.comparatorTarget k))

/-- PULSE_END (R154): WIDTH after a leading edge the comparator drives its pin inactive. -/
def execPulseEnd (k : Nat) (s : State) : Host.Outcome State Fault Refusal :=
  s.nextHw (s.hw.inRegion rgFawn (fun h => h.pulseEnd k))

/-- TIME_CAPTURE (R157): An edge on a CAPTURE pin is timestamped and queued as a TIME_CAPTURE event or dropped. -/
def execTimeCapture (p edge : Nat) (t : Int) (s : State) : Host.Outcome State Fault Refusal :=
  s.nextHw (s.hw.inRegion rgFawn (fun h => h.timeCapture p edge t))

/-- TOD_MESSAGE_SEND (R158): TOD_DELAY after its companion edge a TOD_OUT pin sends its time-of-day message. -/
def execTodMessageSend (p : Nat) (s : State) : Host.Outcome State Fault Refusal :=
  s.nextHw (s.hw.inRegion rgFawn (fun h => h.todSend p))

/-- PIN_READBACK (R409): An output pin is read back at the ball after each edge and once per microtick, and a
mismatch is a PIN detection. -/
def execPinReadback (p : Nat) (ok : Bool) (s : State) : Host.Outcome State Fault Refusal :=
  s.nextHw (s.hw.inRegion rgFawn (fun h => h.pinReadback p ok))

end Sys2Proof.Machine
end

