-- ==== Sys2Proof/Machine/Dispatch.lean ====
section
/-! DEFINITION. The dispatch of a command to its meaning: one arm per constructor. -/

namespace Sys2Proof.Machine

/-- What a command does to everything but the queue. -/
def exec (i : Instr) (s : State) : Host.Outcome State Fault Refusal :=
  match i with
  | .microtickBoundary x => Sys2Proof.Machine.execMicrotickBoundary x s
  | .tickBoundary x => Sys2Proof.Machine.execTickBoundary x s
  | .corePllRefChange => Sys2Proof.Machine.execCorePllRefChange s
  | .clkRevert => Sys2Proof.Machine.execClkRevert s
  | .glClkCtrlWrite v => Sys2Proof.Machine.execGlClkCtrlWrite v s
  | .refoscStop => Sys2Proof.Machine.execRefoscStop s
  | .refoscRestart => Sys2Proof.Machine.execRefoscRestart s
  | .rxEnable a c v => Sys2Proof.Machine.execRxEnable a c v s
  | .rxDisable a c v => Sys2Proof.Machine.execRxDisable a c v s
  | .rxSelftestDone a c pass => Sys2Proof.Machine.execRxSelftestDone a c pass s
  | .eqReset a c v => Sys2Proof.Machine.execEqReset a c v s
  | .losDeclared a c cdr => Sys2Proof.Machine.execLosDeclared a c cdr s
  | .cdrLock a c phase => Sys2Proof.Machine.execCdrLock a c phase s
  | .eqConv a c => Sys2Proof.Machine.execEqConv a c s
  | .candidateFound a c pos sfc => Sys2Proof.Machine.execCandidateFound a c pos sfc s
  | .confirmationPoint a c pos diff hec f => Sys2Proof.Machine.execConfirmationPoint a c pos diff hec f s
  | .expectedPositionCheck a c diff hec f => Sys2Proof.Machine.execExpectedPositionCheck a c diff hec f s
  | .alignerParityError a c => Sys2Proof.Machine.execAlignerParityError a c s
  | .codewordDecoded a c outcome n => Sys2Proof.Machine.execCodewordDecoded a c outcome n s
  | .lnMapCfgWrite a v => Sys2Proof.Machine.execLnMapCfgWrite a v s
  | .pmClear a c v => Sys2Proof.Machine.execPmClear a c v s
  | .xgemFrameRx a src port key b errored err => Sys2Proof.Machine.execXgemFrameRx a src port key b errored err s
  | .actEnWrite a v => Sys2Proof.Machine.execActEnWrite a v s
  | .burstProfile a c mic u k len fec => Sys2Proof.Machine.execBurstProfile a c mic u k len fec s
  | .assignOnuId a c mic sn id => Sys2Proof.Machine.execAssignOnuId a c mic sn id s
  | .rangingTime a c mic relative ns => Sys2Proof.Machine.execRangingTime a c mic relative ns s
  | .deactivateOnuId a c mic id => Sys2Proof.Machine.execDeactivateOnuId a c mic id s
  | .disableSerialNumber a c mic enable sn => Sys2Proof.Machine.execDisableSerialNumber a c mic enable sn s
  | .requestRegistration a c mic => Sys2Proof.Machine.execRequestRegistration a c mic s
  | .assignAllocId a c mic id remove => Sys2Proof.Machine.execAssignAllocId a c mic id remove s
  | .keyControl a c mic k gen => Sys2Proof.Machine.execKeyControl a c mic k gen s
  | .profileMessage a c mic chan => Sys2Proof.Machine.execProfileMessage a c mic chan s
  | .sleepAllow a c mic => Sys2Proof.Machine.execSleepAllow a c mic s
  | .tuningControl a c mic => Sys2Proof.Machine.execTuningControl a c mic s
  | .changePowerLevel a c mic ctl => Sys2Proof.Machine.execChangePowerLevel a c mic ctl s
  | .protectionControl a c mic => Sys2Proof.Machine.execProtectionControl a c mic s
  | .otherPloam a c mic answer => Sys2Proof.Machine.execOtherPloam a c mic answer s
  | .ploamIgnored a c => Sys2Proof.Machine.execPloamIgnored a c s
  | .to1Expiry a => Sys2Proof.Machine.execTo1Expiry a s
  | .to2Expiry a => Sys2Proof.Machine.execTo2Expiry a s
  | .estopFlashCopy a => Sys2Proof.Machine.execEstopFlashCopy a s
  | .opticsDelayWrite a w k v => Sys2Proof.Machine.execOpticsDelayWrite a w k v s
  | .burstStaging k len len1 => Sys2Proof.Machine.execBurstStaging k len len1 s
  | .burstEnAssert k => Sys2Proof.Machine.execBurstEnAssert k s
  | .burstLaunch k => Sys2Proof.Machine.execBurstLaunch k s
  | .burstEnDeassert k => Sys2Proof.Machine.execBurstEnDeassert k s
  | .burstWatchdogTrip k => Sys2Proof.Machine.execBurstWatchdogTrip k s
  | .omciMessageRx a kind action tci cls inst ok msg => Sys2Proof.Machine.execOmciMessageRx a kind action tci cls inst ok msg s
  | .omciCfgAnswer a tci => Sys2Proof.Machine.execOmciCfgAnswer a tci s
  | .omciHoldExpiry a => Sys2Proof.Machine.execOmciHoldExpiry a s
  | .memberStatus a => Sys2Proof.Machine.execMemberStatus a s
  | .helloSend a => Sys2Proof.Machine.execHelloSend a s
  | .hello a mac => Sys2Proof.Machine.execHello a mac s
  | .herdDesc a seq d rowNow => Sys2Proof.Machine.execHerdDesc a seq d rowNow s
  | .herdDescSwitch a => Sys2Proof.Machine.execHerdDescSwitch a s
  | .twinReport a dv quality => Sys2Proof.Machine.execTwinReport a dv quality s
  | .eqdU1 a seq e => Sys2Proof.Machine.execEqdU1 a seq e s
  | .rangeInfo a trt => Sys2Proof.Machine.execRangeInfo a trt s
  | .bondAlloc a seq ids => Sys2Proof.Machine.execBondAlloc a seq ids s
  | .swEnWrite a v => Sys2Proof.Machine.execSwEnWrite a v s
  | .hdWavelengthWrite a k v => Sys2Proof.Machine.execHdWavelengthWrite a k v s
  | .estimatorModeWrite a v => Sys2Proof.Machine.execEstimatorModeWrite a v s
  | .asymOverrideWrite a v => Sys2Proof.Machine.execAsymOverrideWrite a v s
  | .fitComplete a sig => Sys2Proof.Machine.execFitComplete a sig s
  | .estimatorApply a => Sys2Proof.Machine.execEstimatorApply a s
  | .lockstepMismatch diff => Sys2Proof.Machine.execLockstepMismatch diff s
  | .lsResync v => Sys2Proof.Machine.execLsResync v s
  | .tcSetGo v => Sys2Proof.Machine.execTcSetGo v s
  | .todaAttribute a lo sec ns => Sys2Proof.Machine.execTodaAttribute a lo sec ns s
  | .tcTodaInGo d v => Sys2Proof.Machine.execTcTodaInGo d v s
  | .domainQualified d => Sys2Proof.Machine.execDomainQualified d s
  | .holdoverTimerExpiry => Sys2Proof.Machine.execHoldoverTimerExpiry s
  | .ppsEdge p t => Sys2Proof.Machine.execPpsEdge p t s
  | .ppsMissing mon => Sys2Proof.Machine.execPpsMissing mon s
  | .oscModelMeasure freq adv mon => Sys2Proof.Machine.execOscModelMeasure freq adv mon s
  | .comparatorTarget k => Sys2Proof.Machine.execComparatorTarget k s
  | .pulseEnd k => Sys2Proof.Machine.execPulseEnd k s
  | .timeCapture p edge t => Sys2Proof.Machine.execTimeCapture p edge t s
  | .todMessageSend p => Sys2Proof.Machine.execTodMessageSend p s
  | .pinReadback p ok => Sys2Proof.Machine.execPinReadback p ok s
  | .stationLaneLock n tx rx => Sys2Proof.Machine.execStationLaneLock n tx rx s
  | .sync k => Sys2Proof.Machine.execSync k s
  | .announce k => Sys2Proof.Machine.execAnnounce k s
  | .delayReq k m => Sys2Proof.Machine.execDelayReq k m s
  | .pdelayReq k m => Sys2Proof.Machine.execPdelayReq k m s
  | .ntpRequest k m => Sys2Proof.Machine.execNtpRequest k m s
  | .arpRequest k v6 mac ip => Sys2Proof.Machine.execArpRequest k v6 mac ip s
  | .esmcRx k => Sys2Proof.Machine.execEsmcRx k s
  | .esmcInfoPdu k => Sys2Proof.Machine.execEsmcInfoPdu k s
  | .esmcEventPdu k => Sys2Proof.Machine.execEsmcEventPdu k s
  | .responderCommit k dep len => Sys2Proof.Machine.execResponderCommit k dep len s
  | .txLate k => Sys2Proof.Machine.execTxLate k s
  | .attachmentFail a => Sys2Proof.Machine.execAttachmentFail a s
  | .attachmentRecover a => Sys2Proof.Machine.execAttachmentRecover a s
  | .returnTimeout g => Sys2Proof.Machine.execReturnTimeout g s
  | .fifoEmpty g => Sys2Proof.Machine.execFifoEmpty g s
  | .bridgeDrain => Sys2Proof.Machine.execBridgeDrain s
  | .frerResetTimeout r => Sys2Proof.Machine.execFrerResetTimeout r s
  | .linkUp n => Sys2Proof.Machine.execLinkUp n s
  | .laneIdle n => Sys2Proof.Machine.execLaneIdle n s
  | .dfeEqReset n v => Sys2Proof.Machine.execDfeEqReset n v s
  | .macFrameRx n t code ecc b => Sys2Proof.Machine.execMacFrameRx n t code ecc b s
  | .pauseTimerExpiry n => Sys2Proof.Machine.execPauseTimerExpiry n s
  | .pauseGenerate n => Sys2Proof.Machine.execPauseGenerate n s
  | .pauseRefresh n => Sys2Proof.Machine.execPauseRefresh n s
  | .macFrameTx n => Sys2Proof.Machine.execMacFrameTx n s
  | .laneRecal hd lane mode => Sys2Proof.Machine.execLaneRecal hd lane mode s
  | .laneRecalDone r tx rx dev => Sys2Proof.Machine.execLaneRecalDone r tx rx dev s
  | .pNop e => Sys2Proof.Machine.execPNop e s
  | .pLd e d sz off => Sys2Proof.Machine.execPLd e d sz off s
  | .pLdi e d imm => Sys2Proof.Machine.execPLdi e d imm s
  | .pLdih e d imm => Sys2Proof.Machine.execPLdih e d imm s
  | .pExtb e d rs pos w => Sys2Proof.Machine.execPExtb e d rs pos w s
  | .pAlu e d a b fn => Sys2Proof.Machine.execPAlu e d a b fn s
  | .pAlui e d a fn imm => Sys2Proof.Machine.execPAlui e d a fn imm s
  | .pCmp e a b => Sys2Proof.Machine.execPCmp e a b s
  | .pCmpi e a imm => Sys2Proof.Machine.execPCmpi e a imm s
  | .pBf e cond target => Sys2Proof.Machine.execPBf e cond target s
  | .pAdv e mode rs imm => Sys2Proof.Machine.execPAdv e mode rs imm s
  | .pMark e k typ => Sys2Proof.Machine.execPMark e k typ s
  | .pKey e koff off len => Sys2Proof.Machine.execPKey e koff off len s
  | .pKeyr e koff rs sz => Sys2Proof.Machine.execPKeyr e koff rs sz s
  | .pHash e d c v6 koff => Sys2Proof.Machine.execPHash e d c v6 koff s
  | .hashResult e d => Sys2Proof.Machine.execHashResult e d s
  | .pLookup e d tbl koff rs => Sys2Proof.Machine.execPLookup e d tbl koff rs s
  | .lookupResult e d err => Sys2Proof.Machine.execLookupResult e d err s
  | .pSetm e f rs => Sys2Proof.Machine.execPSetm e f rs s
  | .pSetmi e f imm => Sys2Proof.Machine.execPSetmi e f imm s
  | .pGetm e d f => Sys2Proof.Machine.execPGetm e d f s
  | .pLchk e a mode b min => Sys2Proof.Machine.execPLchk e a mode b min s
  | .pFwd e => Sys2Proof.Machine.execPFwd e s
  | .pExc e cls => Sys2Proof.Machine.execPExc e cls s
  | .pDrop e reason => Sys2Proof.Machine.execPDrop e reason s
  | .pRecirc e wadv entry => Sys2Proof.Machine.execPRecirc e wadv entry s
  | .schedulerSelect k => Sys2Proof.Machine.execSchedulerSelect k s
  | .stagingFill k => Sys2Proof.Machine.execStagingFill k s
  | .poolAlloc hd pool count size list => Sys2Proof.Machine.execPoolAlloc hd pool count size list s
  | .poolFree hd ptrs => Sys2Proof.Machine.execPoolFree hd ptrs s
  | .poolXfer hd tag ptr => Sys2Proof.Machine.execPoolXfer hd tag ptr s
  | .memRepair hd ch rows => Sys2Proof.Machine.execMemRepair hd ch rows s
  | .poolFillDone p => Sys2Proof.Machine.execPoolFillDone p s
  | .zqRecal drift failed => Sys2Proof.Machine.execZqRecal drift failed s
  | .patrolScrub row outcome => Sys2Proof.Machine.execPatrolScrub row outcome s
  | .migrationComplete => Sys2Proof.Machine.execMigrationComplete s
  | .cipherWorkIssue wid stream port key fid => Sys2Proof.Machine.execCipherWorkIssue wid stream port key fid s
  | .cipherFrameDone wid ok => Sys2Proof.Machine.execCipherFrameDone wid ok s
  | .staleGenTimeout slot => Sys2Proof.Machine.execStaleGenTimeout slot s
  | .keyLoad hd slot wrap kekSlot len addr blob => Sys2Proof.Machine.execKeyLoad hd slot wrap kekSlot len addr blob s
  | .keyGen hd slot typ use flags => Sys2Proof.Machine.execKeyGen hd slot typ use flags s
  | .keyExport hd slot wrap kekSlot dest => Sys2Proof.Machine.execKeyExport hd slot wrap kekSlot dest s
  | .keyErase hd slot count => Sys2Proof.Machine.execKeyErase hd slot count s
  | .keyZeroise hd => Sys2Proof.Machine.execKeyZeroise hd s
  | .dkekProvision hd src dest key => Sys2Proof.Machine.execDkekProvision hd src dest key s
  | .saInstall hd k an slot pn ssci salt => Sys2Proof.Machine.execSaInstall hd k an slot pn ssci salt s
  | .saSwitch hd k an => Sys2Proof.Machine.execSaSwitch hd k an s
  | .saRead hd k an => Sys2Proof.Machine.execSaRead hd k an s
  | .saRetire hd k an => Sys2Proof.Machine.execSaRetire hd k an s
  | .cxKsZeroise v => Sys2Proof.Machine.execCxKsZeroise v s
  | .alarmClr v ended => Sys2Proof.Machine.execAlarmClr v ended s
  | .zeroiseSensor cause => Sys2Proof.Machine.execZeroiseSensor cause s
  | .trngHealthFail => Sys2Proof.Machine.execTrngHealthFail s
  | .dispatchSelect u wait => Sys2Proof.Machine.execDispatchSelect u wait s
  | .coreItemTimeout k => Sys2Proof.Machine.execCoreItemTimeout k s
  | .ping hd data => Sys2Proof.Machine.execPing hd data s
  | .fwInfo hd => Sys2Proof.Machine.execFwInfo hd s
  | .omciRefuse hd a tci => Sys2Proof.Machine.execOmciRefuse hd a tci s
  | .fwUpdate hd addr img sigOk => Sys2Proof.Machine.execFwUpdate hd addr img sigOk s
  | .fwUpdateSwap ok => Sys2Proof.Machine.execFwUpdateSwap ok s
  | .pmDump hd kind first count dest => Sys2Proof.Machine.execPmDump hd kind first count dest s
  | .ringEnableWrite r v => Sys2Proof.Machine.execRingEnableWrite r v s
  | .txDescriptor r dmaOk phase len tflags queue frame => Sys2Proof.Machine.execTxDescriptor r dmaOk phase len tflags queue frame s
  | .rxWriteback r bufLen => Sys2Proof.Machine.execRxWriteback r bufLen s
  | .msixSignal v => Sys2Proof.Machine.execMsixSignal v s
  | .unsupportedOpcode hd op => Sys2Proof.Machine.execUnsupportedOpcode hd op s
  | .epochOpen hd => Sys2Proof.Machine.execEpochOpen hd s
  | .cfgLoad hd len addr img => Sys2Proof.Machine.execCfgLoad hd len addr img s
  | .tblWrite hd table op count addr list => Sys2Proof.Machine.execTblWrite hd table op count addr list s
  | .epochCommit hd flipTick => Sys2Proof.Machine.execEpochCommit hd flipTick s
  | .epochValidationDone => Sys2Proof.Machine.execEpochValidationDone s
  | .epochAbort hd => Sys2Proof.Machine.execEpochAbort hd s
  | .epochRollback hd => Sys2Proof.Machine.execEpochRollback hd s
  | .epochDrainEnd => Sys2Proof.Machine.execEpochDrainEnd s
  | .epochDrainTimeout => Sys2Proof.Machine.execEpochDrainTimeout s
  | .rollbackNow => Sys2Proof.Machine.execRollbackNow s
  | .ringStop => Sys2Proof.Machine.execRingStop s
  | .pollNow => Sys2Proof.Machine.execPollNow s
  | .badAcc off size data => Sys2Proof.Machine.execBadAcc off size data s
  | .unassignedAccess off data => Sys2Proof.Machine.execUnassignedAccess off data s
  | .gatedAccess off data => Sys2Proof.Machine.execGatedAccess off data s
  | .rcRead off => Sys2Proof.Machine.execRcRead off s
  | .latchingRead off => Sys2Proof.Machine.execLatchingRead off s
  | .registerWrite off v => Sys2Proof.Machine.execRegisterWrite off v s
  | .cellError blk cell kind arg row => Sys2Proof.Machine.execCellError blk cell kind arg row s
  | .regionWatchdogTrip r => Sys2Proof.Machine.execRegionWatchdogTrip r s
  | .regionReload r bad => Sys2Proof.Machine.execRegionReload r bad s
  | .sfRegionReloadWrite r v => Sys2Proof.Machine.execSfRegionReloadWrite r v s
  | .regionReady r => Sys2Proof.Machine.execRegionReady r s
  | .reloadTimeout r => Sys2Proof.Machine.execReloadTimeout r s
  | .thermalEmergency => Sys2Proof.Machine.execThermalEmergency s
  | .thermalClear => Sys2Proof.Machine.execThermalClear s
  | .levelCmdReturn => Sys2Proof.Machine.execLevelCmdReturn s
  | .levelCmdTimeOnly => Sys2Proof.Machine.execLevelCmdTimeOnly s
  | .levelCmdSafe => Sys2Proof.Machine.execLevelCmdSafe s
  | .sfAck => Sys2Proof.Machine.execSfAck s
  | .selfchk fails => Sys2Proof.Machine.execSelfchk fails s
  | .selfchkPeriodic fails => Sys2Proof.Machine.execSelfchkPeriodic fails s
  | .inject v => Sys2Proof.Machine.execInject v s
  | .opHoursTick => Sys2Proof.Machine.execOpHoursTick s
  | .flashRecordWrite => Sys2Proof.Machine.execFlashRecordWrite s
  | .evRecordRead v => Sys2Proof.Machine.execEvRecordRead v s
  | .evReadDone => Sys2Proof.Machine.execEvReadDone s
  | .evLogErase v => Sys2Proof.Machine.execEvLogErase v s
  | .vddFawnRise => Sys2Proof.Machine.execVddFawnRise s
  | .vddFawnLoss => Sys2Proof.Machine.execVddFawnLoss s
  | .vddFawnLow mv => Sys2Proof.Machine.execVddFawnLow mv s
  | .pwrOkFall err => Sys2Proof.Machine.execPwrOkFall err s
  | .pwrOkRise err => Sys2Proof.Machine.execPwrOkRise err s
  | .sysRstN => Sys2Proof.Machine.execSysRstN s
  | .perstN => Sys2Proof.Machine.execPerstN s
  | .boot x => Sys2Proof.Machine.execBoot x s
  | .startUp bad banks => Sys2Proof.Machine.execStartUp bad banks s
  | .standby v => Sys2Proof.Machine.execStandby v s
  | .standbyWakeTimeout => Sys2Proof.Machine.execStandbyWakeTimeout s
  | .powerStateEntered u => Sys2Proof.Machine.execPowerStateEntered u s
  | .blockWake u pll banks bad => Sys2Proof.Machine.execBlockWake u pll banks bad s
  | .pmbusRequestDone ok => Sys2Proof.Machine.execPmbusRequestDone ok s
  | .pmbusRetry => Sys2Proof.Machine.execPmbusRetry s
  | .avsTargetUpdate full tOnly => Sys2Proof.Machine.execAvsTargetUpdate full tOnly s
  | .powerSumCheck sum => Sys2Proof.Machine.execPowerSumCheck sum s
  | .pmbAlert present => Sys2Proof.Machine.execPmbAlert present s
  | .padRelease v => Sys2Proof.Machine.execPadRelease v s
  | .regionEnableWrite v => Sys2Proof.Machine.execRegionEnableWrite v s
  | .debugRead prot => Sys2Proof.Machine.execDebugRead prot s
  | .flashRead v => Sys2Proof.Machine.execFlashRead v s
  | .flashProgram v => Sys2Proof.Machine.execFlashProgram v s
  | .erase4k v => Sys2Proof.Machine.execErase4k v s
  | .erase64k v => Sys2Proof.Machine.execErase64k v s
  | .flashOpDone slow => Sys2Proof.Machine.execFlashOpDone slow s
  | .scanAccessEnable => Sys2Proof.Machine.execScanAccessEnable s
  | .nopCmd hd => Sys2Proof.Machine.execNopCmd hd s
  | .mboxUnknownType hd typ => Sys2Proof.Machine.execMboxUnknownType hd typ s
  | .coreRelease k out dest => Sys2Proof.Machine.execCoreRelease k out dest s
  | .memRepairDone ok => Sys2Proof.Machine.execMemRepairDone ok s
  | .trngHealthPass => Sys2Proof.Machine.execTrngHealthPass s
  | .controlLost => Sys2Proof.Machine.execControlLost s
  | .logWriteDone slow => Sys2Proof.Machine.execLogWriteDone slow s
  | .logEraseDone => Sys2Proof.Machine.execLogEraseDone s
  | .prbsLock n => Sys2Proof.Machine.execPrbsLock n s
  | .prbsLockLoss n errs => Sys2Proof.Machine.execPrbsLockLoss n errs s
  | .pcieLinkTrained width speed => Sys2Proof.Machine.execPcieLinkTrained width speed s
  | .jtagInstruction instr owner => Sys2Proof.Machine.execJtagInstruction instr owner s

end Sys2Proof.Machine
end

