-- ==== Sys2Proof/Safety.lean ====
section
/-! DEFINITION. What counts as a safe run, and the conditions in which claims about commands are stated: where an
event's region runs, where a register answers, where a host command can start, and what else may change. -/

namespace Sys2Proof.Machine

/-- The invariant of every state: the boot flash lists its bytes in rising addresses and lists none that reads as
erased. -/
def State.Inv (s : State) : Prop := flashWf s.nv.flash = true

/-- A safe outcome of a step: a next state that keeps the invariant. -/
def SafeOutcome : Host.Outcome State Fault Refusal → Prop
  | .next t => t.Inv
  | .fault _ => False
  | .refused _ => False

/-! ### Conditions on the state -/

/-- Region r runs and VDD_FAWN is present: an event of the region has its effect. -/
def Hw.Live (h : Hw) (r : Nat) : Prop := h.pw.vddFawn = true ∧ h.runs r = true

/-- BAR0 answers, and block b is neither outside a recovery boot's windows nor gated (R3, R399). -/
def Hw.Open (h : Hw) (b : Nat) : Prop := h.barOn = true ∧ h.decodes b = true ∧ h.gatedBlock b = false

/-- The ring engine can take the command now, its phase is right and its completion ring is enabled (R360, R368). -/
def Hw.Ready (h : Hw) (hd : CmdHdr) : Prop := h.cmdReady hd = true ∧ h.cmdPhaseOk hd = true ∧ h.complOk hd = true

/-- `s` with block `h`: the non-volatile memory and the queue stay. -/
def State.withHw (s : State) (h : Hw) : State := { s with hw := h }

/-! ### Frames -/

/-- The fields of registers other than `keys` read as before. -/
def SameFields (keys : List FKey) (h h' : Hw) : Prop :=
  ∀ (f : Fld) (i j : Nat), f.key i j ∉ keys → h'.rd f i j = h.rd f i j

/-- The fields of registers other than `keys` read as before, but for the counters of lost records and dropped events
that a record can move (R375, R422). -/
def SameFieldsNoted (keys : List FKey) (h h' : Hw) : Prop :=
  ∀ (f : Fld) (i j : Nat), f.key i j ∉ keys → f.reg ≠ .EV_STATUS → f.reg ≠ .HI_EVT_DROP → h'.rd f i j = h.rd f i j

end Sys2Proof.Machine
end

