-- ==== Sys2Proof/Certificates/Slice0/Obligations.lean ====
section
/-! DEFINITION. The statements about the block. The parts of namespace Sys2Proof.Spec say what one command or one rule does,
under the conditions of Sys2Proof/Safety.lean; each statement of Obligations gathers the parts of a family. -/

namespace Sys2Proof.Spec

open Sys2Proof.Machine

/-! ### The block as a whole -/

/-- A step runs the command at the front of the queue on the state with the queue's rest. -/
def frontRuns : Prop := ∀ (s : State) (c : Instr) (l : List Instr), s.pending = c :: l → step s = exec c { s with pending := l }

/-- On an empty queue the block idles (log entry 1, the model's choice). -/
def emptyQueueIdles : Prop := ∀ (s : State), s.pending = [] → step s = .next s

/-- Every command answers a next state, with the queue as it was; none faults or is refused. -/
def everyCommandAnswers : Prop := ∀ (c : Instr) (s : State), ∃ h n, exec c s = .next ⟨h, n, s.pending⟩

/-- The commands that write what survives every loss of power: the copies of the emergency-stop flags (R75), the operating hours and
power cycles (R420), the event log (R423 to R425), the boot flash (R454) and the fuses (R478). -/
def writesNonVolatile : Instr → Bool
  | .estopFlashCopy .. | .opHoursTick | .flashRecordWrite | .logWriteDone .. | .logEraseDone | .boot .. | .startUp .. | .blockWake ..
  | .flashOpDone .. | .jtagInstruction .. => true
  | _ => false

/-- Every other command leaves the flash and the fuses as they were. -/
def nonVolatileFrame : Prop := ∀ (c : Instr) (s t : State), writesNonVolatile c = false → exec c s = .next t → t.nv = s.nv

/-- The commands of those that can change a byte of the boot flash. -/
def writesFlash : Instr → Bool
  | .flashRecordWrite | .logWriteDone .. | .logEraseDone | .boot .. | .startUp .. | .blockWake .. | .flashOpDone .. => true
  | _ => false

/-- No other command changes a byte of the boot flash. -/
def flashFrame : Prop := ∀ (c : Instr) (s t : State), writesFlash c = false → exec c s = .next t → t.nv.flash = s.nv.flash

/-- The boot flash keeps its canonical form in every step. -/
def flashKept : Prop := ∀ (s t : State), s.Inv → step s = .next t → t.Inv

/-- State.reset keeps the invariant, its queue is empty, and every register field reads its reset value. The values of the fields whose
reset the manual gives are its own (Table 0-3 and the register tables); log entry 3 names the others. -/
def resetValues : Prop := State.reset.Inv ∧ State.reset.pending = [] ∧ (∀ f i j, State.reset.hw.rd f i j = f.reset) ∧
  State.reset.hw.rd ID_PART_PART = 0x9128 ∧ State.reset.hw.tick = 0 ∧ State.reset.hw.rd TC_STATUS_SET = 0 ∧
  State.reset.hw.rd GL_RST_STATUS_CAUSE = 1 ∧ State.reset.hw.rd HI_EPOCH_STATUS_CURRENT = 0 ∧
  State.reset.hw.rd HI_EPOCH_STATUS_PENDING = 0xFFFFFFFF ∧ State.reset.hw.rd HI_EPOCH_STATUS_PREVIOUS = 0xFFFFFFFF ∧
  (∀ i, State.reset.hw.rd PW_TOL_TOL_US i = 1)

/-- R427: without VDD_FAWN and with no region running, no command but the rise and the loss of that supply changes anything. -/
def noSupply : Prop := ∀ (s : State) (c : Instr), s.hw.pw.vddFawn = false → s.hw.runs rgControl = false → c ≠ .vddFawnRise → c ≠ .vddFawnLoss →
  exec c s = .next s

/-- R18, R399: an event of a region that does not run has no effect, whatever it is; a host command that CONTROL cannot take has none
either. -/
def stoppedRegion : Prop := ∀ (h : Hw) (r : Nat) (f : Hw → Hw), h.runs r = false → h.inRegion r f = h ∧
  (∀ hd op g, h.runs rgControl = false → h.hostCmd hd op g = h)

/-- R13, R344, R345, R349: a counting field stops at its greatest value; the counter that mirrors it goes on, wraps at 2^48, and a wrap
sets its bit. No other field changes. -/
def counters : Prop := ∀ (h : Hw) (f : Fld) (i j n : Nat), n < 2 ^ 48 → look h.pcnt (f.key i j) 0 < 2 ^ 48 →
  (h.inc f i j n).rd f i j = min (h.rd f i j + n) (2 ^ f.width - 1) ∧
  look (h.inc f i j n).pcnt (f.key i j) 0 = (look h.pcnt (f.key i j) 0 + n) % 2 ^ 48 ∧
  (2 ^ 48 ≤ look h.pcnt (f.key i j) 0 + n → f.key i j ∈ (h.inc f i j n).wraps) ∧
  (look h.pcnt (f.key i j) 0 + n < 2 ^ 48 → (h.inc f i j n).wraps = h.wraps) ∧
  SameFields [f.key i j] h (h.inc f i j n)

/-- R479: a value goes to the nearest step, and from halfway to the even one. -/
def rounding : Prop := ∀ (x : Int) (d : Nat), 0 < d →
  2 * (roundDiv x d * d - x).natAbs ≤ d ∧ (2 * (roundDiv x d * d - x).natAbs = d → roundDiv x d % 2 = 0) ∧ roundDiv (x * d) d = x

/-- R11: octets in host memory stand lowest first, those in network order highest first, and each reads back. -/
def byteOrder : Prop := ∀ (n v : Nat), v < 256 ^ n → leNat (leBytes n v) = v ∧ beNat (beBytes n v) = v ∧ (leBytes n v).length = n ∧
  beBytes n v = (leBytes n v).reverse

/-- R9: a signed field reads back the value that was put into it, saturated to its width. -/
def signedFields : Prop := ∀ (h : Hw) (f : Fld) (x : Int) (i j : Nat), 0 < f.width →
  (h.wrS f x i j).rdS f i j = max (-((2 ^ (f.width - 1) : Nat) : Int)) (min x (((2 ^ (f.width - 1) : Nat) : Int) - 1))

/-! ### Boundaries and clock (chapter 1) -/

/-- R23, R27: inside a tick, MICROTICK_BOUNDARY lets 2,430 core cycles pass, numbers the microtick that begins and then runs
the steps of a boundary. -/
def microtickBoundary : Prop := ∀ (s : State) (x : MicroIn), s.hw.pw.vddFawn = true → s.hw.rd PW_STATUS_PSTATE ≠ 3 →
  s.hw.clk.micro + 1 < s.hw.microCount →
  exec (.microtickBoundary x) s =
    .next (s.withHw ((({ s.hw.advance 2430 with clk := { (s.hw.advance 2430).clk with
      micro := (s.hw.advance 2430).clk.micro + 1, ut := (s.hw.advance 2430).clk.ut + 1 } }).microStep x)))

/-- R24: in power state P3 TICK_BOUNDARY adds one to GL_TICK_NUM (modulo 2^64) and 125 µs to the time counter, and runs no job:
nothing else of the block changes but the count of microticks. -/
def tickBoundaryAsleep : Prop := ∀ (s : State) (x : TickIn), s.hw.pw.vddFawn = true → s.hw.rd PW_STATUS_PSTATE = 3 →
  exec (.tickBoundary x) s =
    .next (s.withHw (({ s.hw with
      time := { s.hw.time with now := s.hw.time.now + 125000 * 2 ^ 44 }
      clk := { s.hw.clk with ut := s.hw.clk.ut + 80 } }).wr GL_TICK_NUM_TICK ((s.hw.rd GL_TICK_NUM_TICK + 1) % 2 ^ 64)))

/-- R27: while the core clock runs, TICK_BOUNDARY lets the rest of the tick pass, ends the tick, flips an armed epoch and
numbers the tick, lets staged settings take effect, starts the jobs of the new tick, and does what every microtick boundary
does, in this order. A STANDBY that waits ends the sequence after the flip (R435). -/
def tickBoundaryRunning : Prop := ∀ (s : State) (x : TickIn) (h : Hw), s.hw.pw.vddFawn = true → s.hw.rd PW_STATUS_PSTATE ≠ 3 →
  h = { s.hw.advance s.hw.cyclesLeft with clk := { (s.hw.advance s.hw.cyclesLeft).clk with
    ut := (s.hw.advance s.hw.cyclesLeft).clk.ut + (s.hw.microCount - s.hw.clk.micro) } } →
  exec (.tickBoundary x) s =
    .next (s.withHw (if h.tickEnds.tickFlip.pw.standby then h.tickEnds.tickFlip.standbyBoundary
      else (((h.tickEnds.tickFlip.tickTakes x).tickJobs (h.jobAt jobHerd).ovr x).tickFollows x).microStep x.micro))

/-- R27, step 4: the boundary flips an armed epoch, and then GL_TICK_NUM is one higher, modulo 2^64. -/
def tickFlipNumber : Prop := ∀ (h : Hw), h.tickFlip.tick = ((h.flipBoundary (h.tick + 1)).tick + 1) % 2 ^ 64

/-- R20, R21: when the source in use is not usable, or the core PLL runs free, CORE_PLL_REF_CHANGE takes the first usable
source of the list. A channel becomes the source with D still to be measured (R25) and GL_CLK_STATUS shows it. -/
def corePllRefChange : Prop := ∀ (s : State) (a c : Nat), s.hw.Live rgFawn →
  (s.hw.srcUsable s.hw.clk.src = false ∨ s.hw.clk.src = .free) → s.hw.bestSrc = .chan a c → s.hw.clk.src ≠ .chan a c →
  exec .corePllRefChange s = .next (s.withHw (((((({ s.hw with clk := { s.hw.clk with
      src := .chan a c, pendD := none, needD := true, pllHold := false } }).wr GL_CLK_STATUS_SRC_FREE 0).wr
      GL_CLK_STATUS_SRC_ATT a).wr GL_CLK_STATUS_SRC_CH c).wr GL_CLK_STATUS_ALIGNED 0).wr GL_CLK_STATUS_PLL_LOCK 1))

/-- R20, R480, Table 1-5: with no usable channel the core PLL takes the reference PLL and a NOTICE record is made; with REFOSC
stopped it holds its control word and PLL_LOCK reads 0. -/
def corePllFreeRun : Prop := ∀ (s : State) (a c : Nat), s.hw.Live rgFawn → s.hw.srcUsable s.hw.clk.src = false →
  s.hw.clk.src = .chan a c → s.hw.bestSrc = .free →
  exec .corePllRefChange s = .next (s.withHw (
    ((((({ s.hw with clk := { s.hw.clk with src := .free, pendD := none, needD := false, pllHold := !s.hw.clk.refosc } }).wr
      GL_CLK_STATUS_SRC_FREE 1).wr GL_CLK_STATUS_ALIGNED 0).when (!s.hw.clk.refosc) (fun h =>
        h.wr GL_CLK_STATUS_PLL_LOCK 0)).recordOther sevNotice 0 10)))

/-- R22: with REVERT in force, CLK_REVERT takes the highest source above the one in use that has been usable for 80,000
consecutive ticks; without such a source nothing changes. -/
def clkRevert : Prop := ∀ (s : State), s.hw.Live rgFawn → s.hw.clk.revert = true →
  exec .clkRevert s = .next (s.withHw (
    match (s.hw.srcList.takeWhile (fun x => x != s.hw.clk.src)).find? (fun x => match x with
      | .free => false
      | .chan a c => s.hw.inSync a c && decide (80000 ≤ look s.hw.clk.usable (4 * a + c) 0)) with
    | some x => s.hw.setSrc x
    | none => s.hw))

/-- Table 1-8, note a: a write of GL_CLK_CTRL sets REVERT, PREF_ATT and PREF_CH, and takes effect at the next tick boundary. -/
def glClkCtrlWrite : Prop := ∀ (s : State) (v : Nat), s.hw.Open (regBlock .GL_CLK_CTRL 0 0) →
  ∃ t, exec (.glClkCtrlWrite v) s = .next t ∧
    t = { s with hw := { s.hw with regs := t.hw.regs, clk := { s.hw.clk with prefPend := true } } } ∧
    t.hw.rd GL_CLK_CTRL_REVERT = bits v 8 1 ∧ t.hw.rd GL_CLK_CTRL_PREF_ATT = bits v 4 1 ∧
    t.hw.rd GL_CLK_CTRL_PREF_CH = bits v 0 2 ∧
    SameFields [GL_CLK_CTRL_REVERT.key 0 0, GL_CLK_CTRL_PREF_ATT.key 0 0, GL_CLK_CTRL_PREF_CH.key 0 0] s.hw t.hw

/-- R480, Table 15-3: REFOSC_STOP stops REFOSC, holds a core PLL that runs free, and is a detection of class 2. -/
def refoscStop : Prop := ∀ (s : State), s.hw.Live rgFawn → s.hw.rd PW_STATUS_PSTATE ≠ 3 →
  exec .refoscStop s = .next (s.withHw (
    if s.hw.rd GL_CLK_STATUS_SRC_FREE ≠ 0 then
      (({ s.hw with clk := { s.hw.clk with refosc := false, pllHold := true } }).wr GL_CLK_STATUS_PLL_LOCK 0).detect 2 scopeGlobal 0
    else ({ s.hw with clk := { s.hw.clk with refosc := false } }).detect 2 scopeGlobal 0))

/-- R480, R132: REFOSC_RESTART ends the hold of the core PLL, and counters that the monitor oscillator drives return to
REFOSC. -/
def refoscRestart : Prop := ∀ (s : State), s.hw.Live rgFawn →
  exec .refoscRestart s = .next (s.withHw (
    (({ s.hw with clk := { s.hw.clk with refosc := true, pllHold := false } }).when s.hw.clk.pllHold
      (fun h => h.wr GL_CLK_STATUS_PLL_LOCK 1)).when (s.hw.rd TC_STATUS_CLK_SRC == 2) (fun h => h.wr TC_STATUS_CLK_SRC 1)))

/-! ### Downstream receivers (chapter 2) -/

/-- R38: RX_ENABLE of a disabled receiver sets ENABLE and starts its self-test; a rejected MODE apart, no register but
LN_RX_CTRL changes. -/
def rxEnable : Prop := ∀ (s : State) (a c v : Nat), a < 2 → c < 4 → s.hw.Open (regBlock .LN_RX_CTRL a c) →
  s.hw.rd LN_RX_CTRL_ENABLE a c = 0 →
  ∃ t, exec (.rxEnable a c v) s = .next t ∧
    t = { s with hw := { s.hw with regs := t.hw.regs, rx := t.hw.rx } } ∧ t.hw.rd LN_RX_CTRL_ENABLE a c = 1 ∧
    t.hw.rxAt (4 * a + c) = { s.hw.rxAt (4 * a + c) with selftest := true } ∧
    (∀ k, k ≠ 4 * a + c → t.hw.rxAt k = s.hw.rxAt k) ∧
    SameFields (RegName.LN_RX_CTRL.fields.map (fun f => f.key a c)) s.hw t.hw

/-- R38, R60: RX_DISABLE of an enabled receiver writes LN_RX_CTRL but for MODE, which is kept while ENABLE reads 1 (a write of
another MODE to D0 sets MODE_REJ), and powers the receiver down. -/
def rxDisable : Prop := ∀ (s : State) (a c v : Nat), a < 2 → c < 4 → s.hw.Open (regBlock .LN_RX_CTRL a c) →
  s.hw.rd LN_RX_CTRL_ENABLE a c = 1 →
  exec (.rxDisable a c v) s = .next (s.withHw
    (((s.hw.writeKeep .LN_RX_CTRL 0 (putBit v 0 false) a c (fun f => f == LN_RX_CTRL_MODE)).when
      (c == 0 && b2n (bitOf (putBit v 0 false) 1) != s.hw.rd LN_RX_CTRL_MODE a c) (fun h => h.wr LN_RX_STATUS_MODE_REJ 1 a c)).rxPowerDown
        a c))

/-- R38: a receiver that is powered down shows STATE OFF, no loss of signal, no lock and no convergence, and holds no slot; one
that was not in SYNC leaves every other register, the activation and the herd as they were. -/
def rxPoweredDown : Prop := ∀ (h : Hw) (a c : Nat), h.inSync a c = false →
  (h.rxPowerDown a c).rd LN_RX_STATUS_STATE a c = rxOff ∧ (h.rxPowerDown a c).rd LN_RX_STATUS_LOS a c = 0 ∧
  (h.rxPowerDown a c).rd LN_RX_STATUS_CDR_LOCK a c = 0 ∧ (h.rxPowerDown a c).rd LN_RX_STATUS_EQ_CONV a c = 0 ∧
  (h.rxPowerDown a c).rd LN_RX_STATUS_SLOTS_BUSY a c = 0 ∧ ((h.rxPowerDown a c).rxAt (4 * a + c)).cands = [] ∧
  h.rxPowerDown a c = { h with regs := (h.rxPowerDown a c).regs, rx := (h.rxPowerDown a c).rx } ∧
  SameFields ([LN_RX_STATUS_STATE, LN_RX_STATUS_LOS, LN_RX_STATUS_CDR_LOCK, LN_RX_STATUS_EQ_CONV, LN_RX_STATUS_SLOTS_BUSY,
    LN_RX_STATUS_MISS_CNT, LN_RX_STATUS_MISS2].map (fun f => f.key a c)) h (h.rxPowerDown a c)

/-- R38: a passed self-test puts every decoder cell in service and enters LOS. -/
def rxSelftestPass : Prop := ∀ (s : State) (a c : Nat), s.hw.Live rgLine → (s.hw.rxAt (4 * a + c)).selftest = true →
  ∃ t, exec (.rxSelftestDone a c true) s = .next t ∧ t = { s with hw := { s.hw with regs := t.hw.regs, rx := t.hw.rx } } ∧
    t.hw.rd LN_RX_STATUS_DEC_CELLS a c = 15 ∧ t.hw.rd LN_RX_STATUS_STATE a c = rxLos ∧ t.hw.rd LN_RX_STATUS_LOS a c = 1 ∧
    t.hw.rd LN_RX_STATUS_ISOLATED a c = 0 ∧
    SameFields ([LN_RX_STATUS_DEC_CELLS, LN_RX_STATUS_ITER_CAP, LN_RX_STATUS_STATE, LN_RX_STATUS_LOS,
      LN_RX_STATUS_ISOLATED].map (fun f => f.key a c)) s.hw t.hw

/-- R38, R62: a failed self-test isolates the receiver, which then acts as if it were disabled. -/
def rxSelftestFail : Prop := ∀ (s : State) (a c : Nat), s.hw.Live rgLine → (s.hw.rxAt (4 * a + c)).selftest = true →
  exec (.rxSelftestDone a c false) s = .next (s.withHw (
    (((s.hw.setRx (4 * a + c) (fun r => { r with selftest := false, cellErr := [], parTicks := [], extTicks := [] })).rxPowerDown
      a c).wr LN_RX_STATUS_ISOLATED 1 a c).isolate (0x1000 + 4 * a + c)))

/-- R41: a write of LN_RX_EQ with EQ_RESET drops the held coefficients of a receiver that is not in SYNC. -/
def eqReset : Prop := ∀ (s : State) (a c v : Nat), s.hw.Open (regBlock .LN_RX_EQ a c) → bitOf v 12 = true →
  s.hw.inSync a c = false →
  ∃ t, exec (.eqReset a c v) s = .next t ∧ t = { s with hw := { s.hw with regs := t.hw.regs, stage := t.hw.stage, rx := t.hw.rx } } ∧
    t.hw.rxAt (4 * a + c) = { s.hw.rxAt (4 * a + c) with warm := false } ∧
    SameFields (RegName.LN_RX_EQ.fields.map (fun f => f.key a c)) s.hw t.hw

/-- R43: LOS_DECLARED in a receiver that is not in SYNC releases its slots, shows LOS and makes a NOTICE record; a lost CDR
lock is shown too. -/
def losDeclared : Prop := ∀ (s : State) (a c : Nat) (cdr : Bool), s.hw.Live rgLine → s.hw.rd LN_RX_STATUS_STATE a c ≠ rxOff →
  s.hw.inSync a c = false →
  ∃ t, exec (.losDeclared a c cdr) s = .next t ∧ t.hw.rd LN_RX_STATUS_STATE a c = rxLos ∧ t.hw.rd LN_RX_STATUS_LOS a c = 1 ∧
    (t.hw.rxAt (4 * a + c)).cands = [] ∧ t.hw.rd LN_RX_STATUS_SLOTS_BUSY a c = 0 ∧
    (cdr = true → t.hw.rd LN_RX_STATUS_CDR_LOCK a c = 0 ∧ t.hw.rd LN_RX_STATUS_EQ_CONV a c = 0) ∧
    SameFieldsNoted ([LN_RX_STATUS_STATE, LN_RX_STATUS_LOS, LN_RX_STATUS_SLOTS_BUSY, LN_RX_STATUS_MISS_CNT, LN_RX_STATUS_MISS2,
      LN_RX_STATUS_CDR_LOCK, LN_RX_STATUS_EQ_CONV].map (fun f => f.key a c)) s.hw t.hw ∧
    t.hw.time = s.hw.time ∧ t.hw.clk = s.hw.clk ∧ t.nv = s.nv ∧ t.pending = s.pending

/-- R49: CDR_LOCK shows the lock and sets LN_RX_LAT to the factory latency plus the phase measured at lock. -/
def cdrLock : Prop := ∀ (s : State) (a c phase : Nat), s.hw.Live rgLine → s.hw.rd LN_RX_STATUS_STATE a c ≠ rxOff →
  exec (.cdrLock a c phase) s = .next (s.withHw (
    ((s.hw.wr LN_RX_LAT_LAT (look s.hw.pw.factory (0, 4 * a + c) 0 + phase) a c).wr LN_RX_STATUS_CDR_LOCK 1 a c).setRx (4 * a + c)
      (fun r => { r with newlat := true })))

/-- R41, Table 2-2: EQ_CONV on a locked receiver shows convergence and keeps its coefficients; where no loss of signal is
shown in state LOS, HUNT begins. -/
def eqConv : Prop := ∀ (s : State) (a c : Nat), s.hw.Live rgLine → s.hw.rd LN_RX_STATUS_CDR_LOCK a c = 1 →
  exec (.eqConv a c) s = .next (s.withHw (
    if s.hw.rd LN_RX_STATUS_STATE a c = rxLos ∧ s.hw.rd LN_RX_STATUS_LOS a c = 0 then
      ((s.hw.wr LN_RX_STATUS_EQ_CONV 1 a c).setRx (4 * a + c) (fun r => { r with warm := true })).wr LN_RX_STATUS_STATE rxHunt a c
    else (s.hw.wr LN_RX_STATUS_EQ_CONV 1 a c).setRx (4 * a + c) (fun r => { r with warm := true })))

/-- R44: CANDIDATE_FOUND in HUNT takes a free slot of the four, and counts SLOT_FULL where none is free. -/
def candidateFound : Prop := ∀ (s : State) (a c pos sfc : Nat), s.hw.Live rgLine → s.hw.rd LN_RX_STATUS_STATE a c = rxHunt →
  exec (.candidateFound a c pos sfc) s = .next (s.withHw (
    if (s.hw.rxAt (4 * a + c)).cands.length < 4 then
      (s.hw.setRx (4 * a + c) (fun r => { r with cands := (s.hw.rxAt (4 * a + c)).cands ++
        [{ pos := pos, sfc := sfc, tol := (s.hw.rxAt (4 * a + c)).huntErr }] })).wr LN_RX_STATUS_SLOTS_BUSY
          ((s.hw.rxAt (4 * a + c)).cands.length + 1) a c
    else s.hw.inc LN_ALIGN_STAT_SLOT_FULL a c))

/-- R44: a candidate that its confirmation point does not confirm is released and counted in REJECT. -/
def confirmationReject : Prop := ∀ (s : State) (a c pos diff : Nat) (hec : Bool) (f : FrameIn) (x : Cand), s.hw.Live rgLine →
  s.hw.rd LN_RX_STATUS_STATE a c = rxHunt → (s.hw.rxAt (4 * a + c)).cands.find? (fun y => y.pos == pos) = some x →
  ¬ (diff ≤ x.tol ∧ hec = true ∧ f.sfc % 2 ^ 51 = (x.sfc + 1) % 2 ^ 51) →
  exec (.confirmationPoint a c pos diff hec f) s = .next (s.withHw (
    ((s.hw.setRx (4 * a + c) (fun r => { r with cands := (s.hw.rxAt (4 * a + c)).cands.filter (fun y => y.pos != pos) })).wr
      LN_RX_STATUS_SLOTS_BUSY ((s.hw.rxAt (4 * a + c)).cands.filter (fun y => y.pos != pos)).length a c).inc LN_ALIGN_STAT_REJECT a c))

/-- R44, Table 2-2: a confirmed candidate enters SYNC: all slots are released, the miss count is 0, the frame boundary is
captured, the activation hears of it on its channel, and the frame's header is extracted. -/
def confirmationSync : Prop := ∀ (s : State) (a c pos diff : Nat) (f : FrameIn) (x : Cand) (h : Hw), s.hw.Live rgLine →
  s.hw.rd LN_RX_STATUS_STATE a c = rxHunt → (s.hw.rxAt (4 * a + c)).cands.find? (fun y => y.pos == pos) = some x →
  diff ≤ x.tol → f.sfc % 2 ^ 51 = (x.sfc + 1) % 2 ^ 51 →
  h = ((((((s.hw.setRx (4 * a + c) (fun r => { r with cands := [] })).wr LN_RX_STATUS_SLOTS_BUSY 0 a c).wr
    LN_RX_STATUS_MISS_CNT 0 a c).wr LN_RX_STATUS_MISS2 0 a c).wr LN_RX_STATUS_STATE rxSync a c).frameBoundary a c f) →
  exec (.confirmationPoint a c pos diff true f) s = .next (s.withHw (
    (if h.actChan a = c then h.actSync a f.ponId else h).headerExtract a c f))

/-- R45, R48: a hit at the expected position clears the miss count, captures the boundary and extracts the header. -/
def expectedHit : Prop := ∀ (s : State) (a c diff : Nat) (f : FrameIn), s.hw.Live rgLine → s.hw.inSync a c = true →
  diff ≤ (s.hw.rxAt (4 * a + c)).syncErr →
  exec (.expectedPositionCheck a c diff true f) s = .next (s.withHw (
    (((s.hw.wr LN_RX_STATUS_MISS_CNT 0 a c).wr LN_RX_STATUS_MISS2 0 a c).frameBoundary a c f).headerExtract a c f))

/-- R46: the fourth miss in a row is LOF: it is counted, the channel goes to HUNT and a NOTICE record is made. -/
def expectedLof : Prop := ∀ (s : State) (a c diff : Nat) (hec : Bool) (f : FrameIn), s.hw.Live rgLine → s.hw.inSync a c = true →
  ¬ (diff ≤ (s.hw.rxAt (4 * a + c)).syncErr ∧ hec = true) → s.hw.rd LN_RX_STATUS_MISS_CNT a c = 3 →
  exec (.expectedPositionCheck a c diff hec f) s = .next (s.withHw (
    ((((s.hw.setRx (4 * a + c) (fun r => { r with errTick := true })).mapLost a c).inc LN_ALIGN_STAT_LOF_CNT a c).rxGo a c
      rxHunt).recordOf sevNotice (0x1000 + 4 * a + c) LN_ALIGN_STAT_LOF_CNT a c))

/-- R46, R61: an aligner parity error releases the slots of a channel out of SYNC; the third within one second isolates the
receiver. -/
def alignerParity : Prop := ∀ (s : State) (a c : Nat) (h : Hw), s.hw.Live rgLine → s.hw.rd LN_RX_STATUS_STATE a c ≠ rxOff →
  s.hw.inSync a c = false →
  h = ((s.hw.setRx (4 * a + c) (fun r => { r with cands := [] })).wr LN_RX_STATUS_SLOTS_BUSY 0 a c).setRx (4 * a + c)
    (fun r => { r with parTicks := s.hw.inSecond r.parTicks ++ [s.hw.tick] }) →
  exec (.alignerParityError a c) s = .next (s.withHw (if 3 ≤ (h.rxAt (4 * a + c)).parTicks.length then h.rxIsolate a c else h))

/-- R53, R54: a codeword of a channel in SYNC is counted in CW_TOTAL; a corrected one also in CW_CORR, and its bits in
BITS_CORR; an uncorrectable one in CW_UNCORR, and its tick is an errored tick. -/
def codewordDecoded : Prop := ∀ (s : State) (a c outcome n : Nat), s.hw.Live rgLine → s.hw.inSync a c = true →
  exec (.codewordDecoded a c outcome n) s = .next (s.withHw (
    if outcome = 1 then
      (((s.hw.inc LN_FEC_CNT_CW_TOTAL a c).inc LN_FEC_CNT_CW_CORR a c).inc LN_FEC_CNT_BITS_CORR a c n).setRx (4 * a + c)
        (fun r => { r with corrBits := r.corrBits + n })
    else if outcome = 2 then
      ((s.hw.inc LN_FEC_CNT_CW_TOTAL a c).inc LN_FEC_CNT_CW_UNCORR a c).setRx (4 * a + c) (fun r => { r with errTick := true })
    else s.hw.inc LN_FEC_CNT_CW_TOTAL a c))

/-- R57: a write of LN_MAP_CFG changes nothing but its fields: the map channels in force stay until the tick boundary. -/
def lnMapCfgWrite : Prop := ∀ (s : State) (a v : Nat), s.hw.Open (regBlock .LN_MAP_CFG a 0) →
  ∃ t, exec (.lnMapCfgWrite a v) s = .next t ∧ t = { s with hw := { s.hw with regs := t.hw.regs, stage := t.hw.stage } } ∧
    SameFields (RegName.LN_MAP_CFG.fields.map (fun f => f.key a 0)) s.hw t.hw

/-- R66: a write of LN_PM_CFG with CLEAR asks for the counters to be cleared when the running second closes. -/
def pmClear : Prop := ∀ (s : State) (a c v : Nat), s.hw.Open (regBlock .LN_PM_CFG a c) → bitOf v 17 = true →
  ∃ t, exec (.pmClear a c v) s = .next t ∧
    t = { s with hw := { s.hw with regs := t.hw.regs, stage := t.hw.stage, rx := t.hw.rx } } ∧
    t.hw.rxAt (4 * a + c) = { s.hw.rxAt (4 * a + c) with clearReq := true } ∧
    SameFields (RegName.LN_PM_CFG.fields.map (fun f => f.key a c)) s.hw t.hw

/-- R54, R59, R317, R320: an XGEM frame of a channel in SYNC that overlaps an errored codeword is dropped and counted; a sound one in
the clear goes to the attachment's XGEM table, or is dropped and counted where the attachment takes none in the clear on its port; a
sound one with a key index waits for its decryption with the slot of that index. -/
def xgemFrameRx : Prop := ∀ (s : State) (a c port key : Nat) (b : List Byte) (err : Bool), s.hw.Live rgLine → c < 4 →
  s.hw.inSync a c = true →
  exec (.xgemFrameRx a c port key b true err) s = .next (s.withHw (s.hw.setRx (4 * a + c) (fun r => { r with xgemLost := r.xgemLost + 1 }))) ∧
  (key = 0 → (port = s.hw.mgmtPort a ∨ bitOf (s.hw.cfg CX_PON_FLAGS a) 2 = true) →
    exec (.xgemFrameRx a c port key b false err) s = .next (s.withHw (s.hw.xgemAdmit a port b err))) ∧
  (key = 0 → port ≠ s.hw.mgmtPort a → bitOf (s.hw.cfg CX_PON_FLAGS a) 2 = false →
    exec (.xgemFrameRx a c port key b false err) s = .next (s.withHw (s.hw.inc CX_PON_CNT_DS_CLEAR_DROP a))) ∧
  (0 < key → ∃ t x, exec (.xgemFrameRx a c port key b false err) s = .next (s.withHw t) ∧ SameFields [] s.hw t ∧
    t.ks = { s.hw.ks with waits := s.hw.ks.waits ++ [x] } ∧ x.stream = 4 * a + c ∧ x.frame.bytes = b ∧ x.frame.xgem = port ∧
    x.slot = 8 * s.hw.rd LN_ATT_CTRL_KEY_BASE a + (if s.hw.isBcast a port then 2 else 0) + (key - 1))

/-! ### Activation and PLOAM (chapter 3) -/

/-- The block once a sound PLOAM message of the activation channel has been counted (R69, R78). -/
def heard (s : State) (a : Nat) : Hw := s.hw.inc LN_ATT_STAT_PLOAM_RX a

/-- LINE runs and the activation channel of attachment a is in SYNC. -/
def Hears (s : State) (a : Nat) : Prop := s.hw.Live rgLine ∧ s.hw.inSync a (s.hw.actChan a) = true

/-- R69, R78: a PLOAM message whose integrity check fails is counted in PLOAM_BAD and has no other effect; the rule is one for
all messages, and is stated for one of each shape. -/
def ploamBad : Prop := ∀ (s : State) (a : Nat), Hears s a →
  (∀ u i len fec, exec (.burstProfile a (s.hw.actChan a) false u i len fec) s = .next (s.withHw (s.hw.inc LN_ATT_STAT_PLOAM_BAD a))) ∧
  (∀ sn id, exec (.assignOnuId a (s.hw.actChan a) false sn id) s = .next (s.withHw (s.hw.inc LN_ATT_STAT_PLOAM_BAD a))) ∧
  (∀ rel ns, exec (.rangingTime a (s.hw.actChan a) false rel ns) s = .next (s.withHw (s.hw.inc LN_ATT_STAT_PLOAM_BAD a))) ∧
  (∀ en sn, exec (.disableSerialNumber a (s.hw.actChan a) false en sn) s = .next (s.withHw (s.hw.inc LN_ATT_STAT_PLOAM_BAD a)))

/-- R69: a message on a channel in SYNC other than the activation channel is only counted in PLOAM_IGN. -/
def ploamIgnored : Prop := ∀ (s : State) (a c : Nat), s.hw.Live rgLine → s.hw.inSync a c = true → c ≠ s.hw.actChan a →
  exec (.ploamIgnored a c) s = .next (s.withHw (s.hw.inc LN_ATT_STAT_PLOAM_IGN a)) ∧
  ∀ mic sn id, exec (.assignOnuId a c mic sn id) s = .next (s.withHw (s.hw.inc LN_ATT_STAT_PLOAM_IGN a))

/-- R72, R75: setting ACT_EN in state OFF enters O7 where the emergency-stop flag is set, else restarts the activation. -/
def actEnable : Prop := ∀ (s : State) (a v : Nat), s.hw.Open (regBlock .LN_ATT_CTRL a 0) → s.hw.actState a = aOff →
  bitOf v 0 = true →
  exec (.actEnWrite a v) s = .next (s.withHw
    (let h := s.hw.guardedWrite a .LN_ATT_CTRL 0 v a 0 (fun _ => false)
     if (h.actAt a).estop then h.actEnter a aO7 else h.actRestart a))

/-- R87: a Burst_Profile of a known channel and index is stored for the maps of the next tick on, before the profile that it
replaces, and PROF_VALID shows it; in O1.2 it may complete the profiles. -/
def burstProfile : Prop := ∀ (s : State) (a u i len : Nat) (fec : Bool), Hears s a → s.hw.actLive a = true → u < 2 → i < 4 →
  exec (.burstProfile a (s.hw.actChan a) true u i len fec) s = .next (s.withHw
    ((((heard s a).setAct a (fun x => { x with profs := (4 * u + i, { len := len, fec := fec, tick := s.hw.tick + 1 }) ::
      (x.profs.filter (fun y => y.1 == 4 * u + i)).take 1 ++ x.profs.filter (fun y => y.1 != 4 * u + i) })).wr
        LN_TX_STATUS_PROF_VALID (putBit (s.hw.rd LN_TX_STATUS_PROF_VALID a u) i true) a u).actProfiles a))

/-- R72, R73: Assign_ONU-ID with the attachment's serial number in O2-3 stores the identifier, starts TO1 and enters O4. -/
def assignOnuId : Prop := ∀ (s : State) (a id : Nat), Hears s a → s.hw.actState a = aO23 →
  exec (.assignOnuId a (s.hw.actChan a) true (s.hw.serial a) id) s = .next (s.withHw
    ((((heard s a).wr LN_ATT_STATUS_TERM_ID id a).setAct a (fun x => { x with
      to1 := some (s.hw.clk.ut + s.hw.attTimer a LN_ATT_TMR_TO1_MS) })).actEnter a aO4))

/-- R82: an absolute Ranging_Time in range, in O4, becomes the EqD of U0 from the next tick, is acknowledged, stops TO1, makes a
NOTICE record and enters O5. -/
def rangingTime : Prop := ∀ (s : State) (a : Nat) (ns : Rat), Hears s a → s.hw.actState a = aO4 → 0 ≤ roundRat (ns * 65536) →
  roundRat (ns * 65536) ≤ 65536000000 →
  exec (.rangingTime a (s.hw.actChan a) true false ns) s = .next (s.withHw
    (((((heard s a).eqdSet a 0 (roundRat (ns * 65536)).toNat).ploamAck a 4).setAct a (fun x => { x with to1 := none })).recordOther
      sevNotice (0x1030 + a) 4 |>.actEnter a aO5))

/-- R82: an EqD out of 0 ns to 1,000,000 ns is refused and changes no register but the message count. -/
def rangingRefused : Prop := ∀ (s : State) (a : Nat) (ns : Rat), Hears s a → s.hw.hasId a = true →
  (roundRat (ns * 65536) < 0 ∨ 65536000000 < roundRat (ns * 65536)) →
  exec (.rangingTime a (s.hw.actChan a) true false ns) s = .next (s.withHw ((heard s a).ploamRefuse a 4))

/-- R72, R76: Deactivate_ONU-ID to the terminal or to all, in O4 or O5, stops the bursts, forgets what activation assigned, is
counted and recorded, and restarts the activation. -/
def deactivateOnuId : Prop := ∀ (s : State) (a : Nat) (id : Option Nat), Hears s a →
  (s.hw.actState a = aO4 ∨ s.hw.actState a = aO5) → (id = none ∨ id = some (s.hw.rd LN_ATT_STATUS_TERM_ID a)) →
  exec (.deactivateOnuId a (s.hw.actChan a) true id) s = .next (s.withHw
    ((((((heard s a).burstsStop a).actLose a).inc LN_ATT_STAT2_DEACT a).recordOf sevNotice (0x1030 + a) LN_ATT_STAT2_DEACT
      a).actRestart a))

/-- R75: Disable_Serial_Number (disable) in a live state cuts the bursts, sets the emergency-stop flag, makes a WARN record and
enters O7. -/
def emergencyStop : Prop := ∀ (s : State) (a : Nat) (sn : Option Nat), Hears s a → s.hw.actLive a = true →
  (sn = none ∨ sn = some (s.hw.serial a)) →
  exec (.disableSerialNumber a (s.hw.actChan a) true false sn) s = .next (s.withHw
    ((((((heard s a).burstsCut a).estopSet a true).actLose a).recordOther sevWarn (0x1030 + a) 5).actEnter a aO7))

/-- R75: Disable_Serial_Number (enable) in O7 clears the flag, makes a NOTICE record, and restarts the activation where ACT_EN
is set. -/
def emergencyRelease : Prop := ∀ (s : State) (a : Nat) (sn : Option Nat), Hears s a → s.hw.actState a = aO7 →
  (sn = none ∨ sn = some (s.hw.serial a)) → s.hw.rd LN_ATT_CTRL_ACT_EN a = 1 →
  exec (.disableSerialNumber a (s.hw.actChan a) true true sn) s = .next (s.withHw
    ((((heard s a).estopSet a false).recordOther sevNotice (0x1030 + a) 6).actRestart a))

/-- R77, R79: Request_Registration queues a Registration that carries LN_ATT_REGID, its lowest byte first. -/
def requestRegistration : Prop := ∀ (s : State) (a : Nat), Hears s a → s.hw.hasId a = true →
  exec (.requestRegistration a (s.hw.actChan a) true) s = .next (s.withHw
    ((heard s a).ploamQueue a { kind := 1, body := (List.range 36).map (fun k => bits (s.hw.rd LN_ATT_REGID_REGID a) (8 * k) 8) }))

/-- R77: Assign_Alloc-ID adds an Alloc-ID to a list of fewer than 64 and acknowledges it; a full list refuses a new one. -/
def assignAllocId : Prop := ∀ (s : State) (a id : Nat), Hears s a → s.hw.hasId a = true →
  (s.hw.actAt a).allocs.contains id = false →
  exec (.assignAllocId a (s.hw.actChan a) true id false) s = .next (s.withHw
    (if (s.hw.actAt a).allocs.length < 64 then
      ((heard s a).setAct a (fun x => { x with allocs := (s.hw.actAt a).allocs ++ [id] })).ploamAck a 10
    else (heard s a).ploamRefuse a 10))

/-- R94: Key_Control without generation for key 1 or 2 queues one Key_Report. -/
def keyControl : Prop := ∀ (s : State) (a k : Nat), Hears s a → s.hw.hasId a = true → (k = 1 ∨ k = 2) →
  ∃ body, exec (.keyControl a (s.hw.actChan a) true k false) s = .next (s.withHw
    ((heard s a).ploamQueue a { kind := 2, body := body }))

/-- R72: a system profile in a live state is noted, and in O1.2 may complete the profiles. -/
def profileMessage : Prop := ∀ (s : State) (a : Nat), Hears s a → s.hw.actLive a = true →
  exec (.profileMessage a (s.hw.actChan a) true none) s = .next (s.withHw
    (((heard s a).setAct a (fun x => { x with sysProf := true })).actProfiles a))

/-- R77: Sleep_Allow is acknowledged; Tuning_Control, Protection_Control and Change_Power_Level without an optics record are
refused; with the record Change_Power_Level is acknowledged; another message is answered as unsupported where it asks for an
answer, and is otherwise only counted. -/
def ploamAnswers : Prop := ∀ (s : State) (a : Nat), Hears s a →
  exec (.sleepAllow a (s.hw.actChan a) true) s = .next (s.withHw ((heard s a).ploamAck a 18)) ∧
  exec (.tuningControl a (s.hw.actChan a) true) s = .next (s.withHw ((heard s a).ploamRefuse a 22)) ∧
  exec (.protectionControl a (s.hw.actChan a) true) s = .next (s.withHw ((heard s a).ploamRefuse a 19)) ∧
  exec (.changePowerLevel a (s.hw.actChan a) true false) s = .next (s.withHw ((heard s a).ploamRefuse a 21)) ∧
  exec (.changePowerLevel a (s.hw.actChan a) true true) s = .next (s.withHw ((heard s a).ploamAck a 21)) ∧
  exec (.otherPloam a (s.hw.actChan a) true true) s = .next (s.withHw ((heard s a).ploamRefuse a 255)) ∧
  exec (.otherPloam a (s.hw.actChan a) true false) s = .next (s.withHw
    ((heard s a).setAct a (fun x => { x with ploamIgn := x.ploamIgn + 1 })))

/-- R79: the upstream PLOAM queue never holds more than 16 messages: a message that a full queue takes replaces the oldest
Acknowledgement, and else is dropped and counted. -/
def ploamQueueBound : Prop := ∀ (h : Hw) (a : Nat) (m : PloamUp), (h.actAt a).ploamQ.length ≤ 16 →
  ((h.ploamQueue a m).actAt a).ploamQ.length ≤ 16 ∧
  ((h.actAt a).ploamQ.length = 16 → (∀ x ∈ (h.actAt a).ploamQ, x.kind ≠ 0) →
    h.ploamQueue a m = h.setAct a (fun x => { x with ploamDrop := x.ploamDrop + 1 }))

/-- R73: TO1 in O4 and TO2 in O6 expire in the first microtick after their deadline: they are counted, and the activation
restarts; TO2 also forgets what activation assigned and makes a NOTICE record. -/
def activationTimers : Prop := ∀ (s : State) (a d : Nat), s.hw.Live rgLine → d < s.hw.clk.ut →
  ((s.hw.actAt a).to1 = some d → s.hw.actState a = aO4 →
    exec (.to1Expiry a) s = .next (s.withHw
      (((s.hw.setAct a (fun x => { x with to1 := none })).inc LN_ATT_STAT2_TO_EXP a).actRestart a))) ∧
  ((s.hw.actAt a).to2 = some d → s.hw.actState a = aO6 →
    exec (.to2Expiry a) s = .next (s.withHw
      ((((s.hw.actLose a).inc LN_ATT_STAT2_TO_EXP a).recordOf sevNotice (0x1030 + a) LN_ATT_STAT2_TO_EXP a).actRestart a)))

/-- R75: ESTOP_FLASH_COPY writes the flag of its attachment into the non-volatile copy, and leaves the flash and the rest of the
non-volatile memory as they are. -/
def estopFlashCopy : Prop := ∀ (s : State) (a : Nat), s.hw.Live rgFawn → (s.hw.actAt a).estopDue.isSome = true →
  exec (.estopFlashCopy a) s = .next { s with
    hw := s.hw.setAct a (fun x => { x with estopDue := none })
    nv := { s.nv with estop := putBit s.nv.estop a (s.hw.actAt a).estop } }

/-- R84, R481: while a terminal identifier is assigned, a write of LN_ATT_RESP, LN_OPT_RXDLY or LN_OPT_TXDLY that would change a
field changes none of them and sets WR_REJ. -/
def opticsDelayRejected : Prop := ∀ (s : State) (a i v : Nat), s.hw.Open (regBlock .LN_ATT_RESP a 0) → s.hw.hasId a = true →
  bits v 0 32 ≠ s.hw.rd LN_OPT_RXDLY_D_RX a i % 2 ^ 32 →
  exec (.opticsDelayWrite a 1 i v) s = .next (s.withHw (s.hw.wr LN_ATT_STATUS_WR_REJ 1 a))

/-! ### Upstream bursts (chapter 3) -/

/-- R83, R88: the staging deadline of a burst that may be sent and that starts after the burst before it has ended commits it;
one that starts too early is dropped and counted in OVERLAP. -/
def burstStaging : Prop := ∀ (s : State) (k len len1 : Nat) (b b' : Burst) (h : Hw), s.hw.Live rgLine →
  s.hw.nextUnstaged k = some b → b.kind ≠ 3 → s.hw.stageIn k b = (h, some b') →
  exec (.burstStaging k len len1) s = .next (s.withHw
    (if h.overlaps k b' then (h.unplan k b).inc LN_TX_CNT_OVERLAP (k / 2) (k % 2) else h.stageCommit k b b' len))

/-- R91: BURST_EN_ASSERT before a staged burst that may be sent drives the ball to the level that EN_POL gives for asserted. -/
def burstEnAssert : Prop := ∀ (s : State) (k : Nat) (b : Burst), s.hw.Live rgLine → s.hw.nextStaged k = some b →
  s.hw.maySend k b.kind = true → (s.hw.upAt k).en = false →
  exec (.burstEnAssert k) s = .next (s.withHw
    (((s.hw.setUp k (fun x => { x with en := true })).wr LN_TX_STATUS_BURSTING 1 (k / 2) (k % 2)).emit
      (.burstEn k (true != (s.hw.rd LN_TX_CTRL_EN_POL (k / 2) (k % 2) != 0)))))

/-- R80, R92: BURST_LAUNCH of a staged burst that may be sent counts it, notes its end and launch, frees the buffers of the
frames that it carries whole, and puts it on the fibre. -/
def burstLaunch : Prop := ∀ (s : State) (k : Nat) (b : Burst), s.hw.Live rgLine → s.hw.nextStaged k = some b →
  (s.hw.unplan k b).maySend k b.kind = true →
  exec (.burstLaunch k) s = .next (s.withHw
    (((((s.hw.unplan k b).setUp k (fun x => { x with cur := some b.stop, strobe := b.launch })).inc LN_TX_CNT_BURSTS (k / 2)
      (k % 2)).each (b.took.flatMap (fun t => t.2.1.map Prod.snd)) (fun h f => h.freed f)).emit (.burst k b)))

/-- R91: with no burst staged, BURST_EN_DEASSERT deasserts the ball. -/
def burstEnDeassert : Prop := ∀ (s : State) (k : Nat), s.hw.Live rgLine → s.hw.nextStaged k = none →
  exec (.burstEnDeassert k) s = .next (s.withHw ((s.hw.setUp k (fun x => { x with cur := none })).burstEn k false))

/-- R92: the watchdog drops the planned bursts, deasserts BURST_EN, sets ROGUE, which keeps the channel silent, and makes a
MAJOR record. -/
def burstWatchdogTrip : Prop := ∀ (s : State) (k : Nat), s.hw.Live rgLine →
  exec (.burstWatchdogTrip k) s = .next (s.withHw
    (((((s.hw.burstDrop k).burstEn k false).setUp k (fun x => { x with cur := none })).wr LN_TX_STATUS_ROGUE 1 (k / 2)
      (k % 2)).recordOther sevMajor (0x1010 + k) 8)) ∧
  ∀ (h : Hw) (kind : Nat), h.rd LN_TX_STATUS_ROGUE (k / 2) (k % 2) = 1 → h.maySend k kind = false

/-! ### OMCI (R97, R98) -/

/-- R98: an OMCI message whose integrity check fails is discarded and counted. -/
def omciBad : Prop := ∀ (s : State) (a kind action tci cls inst : Nat) (msg : List Byte), s.hw.Live rgControl →
  s.hw.hasId a = true →
  exec (.omciMessageRx a kind action tci cls inst false msg) s =
    .next (s.withHw (s.hw.setAct a (fun x => { x with omciBad := x.omciBad + 1 })))

/-- R97: firmware in its own mode answers from the management base, and answers a class that it does not implement as unknown. -/
def omciAnswered : Prop := ∀ (s : State) (a kind action tci cls inst : Nat) (msg : List Byte), s.hw.Live rgControl →
  s.hw.hasId a = true → s.hw.rd LN_ATT_CTRL_OMCI_MODE a = 0 → kind ≠ 2 →
  exec (.omciMessageRx a kind action tci cls inst true msg) s =
    .next (s.withHw (s.hw.emit (.omci a tci (if kind = 1 then omciUnknown else omciDone))))

/-- R97: the commit of a held change answers its request and holds it no longer. -/
def omciCfgAnswer : Prop := ∀ (s : State) (a tci : Nat), s.hw.Live rgControl →
  (s.hw.actAt a).omci.any (fun x => x.1 == tci) = true →
  exec (.omciCfgAnswer a tci) s = .next (s.withHw
    ((s.hw.setAct a (fun x => { x with omci := x.omci.filter (fun y => y.1 != tci) })).emit (.omci a tci omciCommitted)))

/-- R97: a single held request whose hold has passed is answered device busy and held no longer. -/
def omciHoldExpiry : Prop := ∀ (s : State) (a tci d : Nat), s.hw.Live rgControl → (s.hw.actAt a).omci = [(tci, d)] →
  d < s.hw.clk.ut →
  exec (.omciHoldExpiry a) s = .next (s.withHw
    ((s.hw.setAct a (fun x => { x with omci := [] })).emit (.omci a tci omciBusy)))

/-! ### Herds (chapter 4) -/

/-- R111: while a herd is formed and a status is due, MEMBER_STATUS sends the herd sequence, the members that are up and the four
causes, and stays due in 8,000 ticks while a cause is present. -/
def memberStatus : Prop := ∀ (s : State) (a t : Nat), s.hw.Live rgLine → (s.hw.herdAt a).statusDue = some t →
  s.hw.formed a = true → t ≤ s.hw.tick →
  exec (.memberStatus a) s = .next (s.withHw
    (let h := s.hw.swidanSend a 4 none (leBytes 1 (s.hw.rd HD_HERD_STATUS_HSEQ a) ++ leBytes 1 (s.hw.rd HD_HERD_STATUS_UP a) ++
      (s.hw.memberCauses a).flatMap (leBytes 1))
     h.setHerd a (fun e => { e with
       statusDue := if (s.hw.memberCauses a).any (· != 0) then some (h.tick + 8000) else none })))

/-- R119: HELLO_SEND in O5 with SW_EN sends HELLO when it is due (version 1, its enabled downstream
and upstream channels, the herding and bonding capabilities and the MAC address), and again in 8,000 ticks until PEER is set. -/
def helloSend : Prop := ∀ (s : State) (a t : Nat), s.hw.Live rgLine → (s.hw.herdAt a).helloDue = some t → s.hw.swEn a = true →
  s.hw.rd LN_ATT_STATUS_STATE a = 5 → t ≤ s.hw.tick →
  exec (.helloSend a) s = .next (s.withHw
    (let h := s.hw.swidanSend a 1 none
       (leBytes 1 1 ++ leBytes 1 ((List.range 4).filter (fun c => s.hw.on LN_RX_CTRL_ENABLE a c)).length ++
        leBytes 1 ((List.range 2).filter (fun u => s.hw.on LN_TX_CTRL_ENABLE a u)).length ++ leBytes 1 3 ++
        beBytes 6 (s.hw.attMac a))
     h.setHerd a (fun e => { e with helloDue := if h.on HD_SWIDAN_CTRL_PEER a then none else some (h.tick + 8000) })))

/-- R117, R119: a HELLO of the head end sets PEER, is where answers go from then on, and ends the terminal's own HELLOs. -/
def hello : Prop := ∀ (s : State) (a mac : Nat), s.hw.Live rgLine → s.hw.swEn a = true →
  exec (.hello a mac) s = .next (s.withHw
    ((s.hw.wr HD_SWIDAN_CTRL_PEER 1 a).setHerd a (fun e => { e with peerMac := some mac, helloDue := none })))

/-- R112: a herd descriptor whose active members are configured, whose sequence follows that of the herd in force, and whose
START_ROW lies at least 20 rows ahead is answered 0 and pends; any other is answered with its code and changes no descriptor. -/
def herdDesc : Prop := ∀ (s : State) (a seq rowNow : Nat) (d : HerdDesc), s.hw.Live rgLine → s.hw.swEn a = true →
  ((List.range 4).all (fun c => !bitOf d.active c || bitOf (s.hw.rd HD_HERD_CFG_MEMBERS a) c) = true →
    (s.hw.formed a = true → d.hseq = (s.hw.rd HD_HERD_STATUS_HSEQ a + 1) % 16) → 20 ≤ (d.start + 256 - rowNow % 256) % 256 →
    exec (.herdDesc a seq d rowNow) s = .next (s.withHw
      ((s.hw.swidanSend a 3 (some seq) (leBytes 1 d.hseq ++ leBytes 1 0)).setHerd a (fun e => { e with pendDesc := some d })))) ∧
  ((List.range 4).any (fun c => bitOf d.active c && !bitOf (s.hw.rd HD_HERD_CFG_MEMBERS a) c) = true →
    exec (.herdDesc a seq d rowNow) s = .next (s.withHw (s.hw.swidanSend a 3 (some seq) (leBytes 1 d.hseq ++ leBytes 1 1))))

/-- R99, R112: where its START_ROW begins, the pending descriptor comes into force and the herd is formed with its sequence and
active members. -/
def herdDescSwitch : Prop := ∀ (s : State) (a : Nat) (d : HerdDesc), s.hw.Live rgLine → (s.hw.herdAt a).pendDesc = some d →
  s.hw.swEn a = true → s.hw.rd HD_SWIDAN_CTRL_PEER a = 1 →
  exec (.herdDescSwitch a) s = .next (s.withHw
    (((((s.hw.setHerd a (fun e => { e with desc := some d, pendDesc := none, causes := [0, 0, 0, 0] })).wr
      HD_HERD_STATUS_FORMED 1 a).wr HD_HERD_STATUS_HSEQ d.hseq a).wr HD_HERD_STATUS_ACTIVE d.active a).herdMembers a))

/-- R121, R122: with SW_EN a good TWIN_REPORT is kept with its tick, one of another quality changes nothing, and RANGE_INFO is
kept with its tick. -/
def herdReports : Prop := ∀ (s : State) (a trt : Nat) (v : Int) (q : Nat), s.hw.Live rgLine → s.hw.swEn a = true →
  exec (.twinReport a v 0) s = .next (s.withHw
    (s.hw.setHerd a (fun e => { e with twins := ((v, s.hw.tick) :: e.twins).take 256 }))) ∧
  (q ≠ 0 → exec (.twinReport a v q) s = .next s) ∧
  exec (.rangeInfo a trt) s = .next (s.withHw (s.hw.setHerd a (fun e => { e with range := some (trt, s.hw.tick) })))

/-- R116: a Swidan EqD for U1 is answered 2 where U1 has the map channel of the activation, 0 and taken where it is in range,
else 1. -/
def eqdU1 : Prop := ∀ (s : State) (a seq e : Nat), s.hw.Live rgLine → s.hw.swEn a = true →
  exec (.eqdU1 a seq e) s = .next (s.withHw
    (if s.hw.actChan a ≠ (s.hw.mapAt (2 * a + 1)).chan then s.hw.swidanSend a 7 (some seq) (leBytes 1 2)
     else if e ≤ 65536000000 then (s.hw.eqdSet a 1 e).swidanSend a 7 (some seq) (leBytes 1 0)
     else s.hw.swidanSend a 7 (some seq) (leBytes 1 1)))

/-- R113, R114: BOND_ALLOC with at most 16 Alloc-IDs that are all assigned bonds them, each with sequence number 0; more than 16
are answered 2, an unassigned one 1, and neither changes the bonding. -/
def bondAlloc : Prop := ∀ (s : State) (a seq : Nat) (ids : List Nat), s.hw.Live rgLine → s.hw.swEn a = true →
  exec (.bondAlloc a seq ids) s = .next (s.withHw
    (if 16 < ids.length then s.hw.swidanSend a 10 (some seq) (leBytes 1 2)
     else if ids.all (fun i => (s.hw.actAt a).allocs.contains i) then
       (s.hw.swidanSend a 10 (some seq) (leBytes 1 0)).setHerd a (fun e => { e with bonded := ids.map (fun i => (i, 0)) })
     else s.hw.swidanSend a 10 (some seq) (leBytes 1 1)))

/-- R119: clearing SW_EN dissolves the herd and bonding of the attachment and ends its pointer processing. -/
def swEnClear : Prop := ∀ (s : State) (a v : Nat), s.hw.Open (regBlock .HD_SWIDAN_CTRL a 0) → bitOf v 0 = false →
  exec (.swEnWrite a v) s = .next (s.withHw
    (((s.hw.writeWord .HD_SWIDAN_CTRL 0 v a 0).herdDissolve a).each (List.range 4) (fun h c => h.ptrDrop a c)))

/-- R119: after a dissolution no herd is formed, PEER is 0, and neither a descriptor nor a bonded Alloc-ID is held. -/
def herdDissolved : Prop := ∀ (h : Hw) (a : Nat),
  (h.herdDissolve a).formed a = false ∧ (h.herdDissolve a).rd HD_SWIDAN_CTRL_PEER a = 0 ∧
  (h.herdDissolve a).rd HD_HERD_STATUS_UP a = 0 ∧ ((h.herdDissolve a).herdAt a).desc = none ∧
  ((h.herdDissolve a).herdAt a).pendDesc = none ∧ ((h.herdDissolve a).herdAt a).bonded = []

/-! ### Dispersion estimator (chapter 4) -/

/-- R102: a write of the grid or of a wavelength drops the skew sums and the twin reports, which were measured with others. -/
def hdWavelengthWrite : Prop := ∀ (s : State) (a i v : Nat), s.hw.Open (regBlock .HD_GRID a 0) → i < 7 →
  ∃ h, h = (if i = 0 then s.hw.writeWord .HD_GRID 0 v a 0 else s.hw.writeWord .HD_LAMBDA 0 v a (i - 1)) ∧
    exec (.hdWavelengthWrite a i v) s = .next (s.withHw (h.setHerd a (fun e => { e with skewSum := [], twins := [] })))

/-- R126, R127: a write of HD_EST_CFG starts the estimator afresh with A = 0 and no result pending, applied or counted. -/
def estimatorModeWrite : Prop := ∀ (s : State) (a v : Nat), s.hw.Open (regBlock .HD_EST_CFG a 0) →
  exec (.estimatorModeWrite a v) s = .next (s.withHw ((s.hw.writeWord .HD_EST_CFG 0 v a 0).setHerd a (fun e => { e with
    started := false, applied := 0, appMode := 0, dofs := [], pendFit := none, applyNext := none, noFit := 0,
    fellBack := false, streak := none, blockDone := false })))

/-- R128: a write of the upper word of HD_ASYM_OVR brings the override that the register then holds into force. -/
def asymOverrideWrite : Prop := ∀ (s : State) (a v : Nat) (h : Hw), s.hw.Open (regBlock .HD_ASYM_OVR a 0) →
  h = s.hw.writeWord .HD_ASYM_OVR 1 v a 0 →
  exec (.asymOverrideWrite a v) s = .next (s.withHw (h.setHerd a (fun e => { e with
    ovr := if h.rd HD_ASYM_OVR_EN a ≠ 0 then some (h.rdS HD_ASYM_OVR_ASYM a) else none })))

/-- R123, R127: FIT_COMPLETE without a closed block changes nothing; with one it is consumed, whatever the fit gives. -/
def fitComplete : Prop := ∀ (s : State) (a : Nat) (sig : List Nat), s.hw.Live rgLine →
  ((s.hw.herdAt a).blockDone = false → exec (.fitComplete a sig) s = .next s) ∧
  ((s.hw.herdAt a).blockDone = true → ∃ t, exec (.fitComplete a sig) s = .next t ∧ (t.hw.herdAt a).blockDone = false ∧
    t.hw.clk = s.hw.clk ∧ t.hw.time = s.hw.time ∧ t.hw.act = s.hw.act ∧ t.hw.up = s.hw.up ∧ t.nv = s.nv ∧
    t.pending = s.pending)

/-- R126: the result that waits is applied at ESTIMATOR_APPLY: its A and its channel delays come into force, and are reported
where REPORT is set. -/
def estimatorApply : Prop := ∀ (s : State) (a : Nat) (f : FitRes) (h : Hw), s.hw.Live rgLine → (s.hw.herdAt a).applyNext = some f →
  h = s.hw.setHerd a (fun e => { e with
    applyNext := none, applied := ps8 f.a, appMode := f.mode, dofs := f.dofs.map (fun p => (p.1, ps8 p.2)) }) →
  exec (.estimatorApply a) s = .next (s.withHw
    (if s.hw.rd HD_SWIDAN_CTRL_REPORT a ≠ 0 then h.swidanSend a 11 none (h.estBody a) else h))

/-! ### The time core (chapter 5) -/

/-- R129, R131: core cycles advance the primary counter by one increment for every two, and the odd cycle waits. -/
def counterAdvance : Prop := ∀ (h : Hw) (n : Nat),
  (h.advance n).time.now = h.time.now + h.rd TC_INCR_INC * ((h.time.half + n) / 2) ∧
  (h.advance n).time.half = (h.time.half + n) % 2 ∧ SameFields [] h (h.advance n)

/-- R130: LOCKSTEP_MISMATCH sets LS_FAULT, keeps the shadow's difference and is a detection of class 1 that asks for the global
reaction; the first tick of a detection counts it in SF_CNT[1]. -/
def lockstepMismatch : Prop := ∀ (s : State) (d : Int), s.hw.Live rgFawn →
  exec (.lockstepMismatch d) s = .next (s.withHw
    (({ s.hw with time := { s.hw.time with shadowOfs := d } }.wr TC_STATUS_LS_FAULT 1).detect 1 scopeGlobal 0))

/-- R130: a write of TC_CTRL with LS_RESYNC asks for the copy at the next tick boundary; that copy ends the shadow's difference and
clears LS_FAULT; without LS_RESYNC nothing is asked for. -/
def lsResync : Prop := ∀ (s : State) (v : Nat), s.hw.Open (regBlock .TC_CTRL 0 0) →
  exec (.lsResync v) s = .next (s.withHw
    (if bitOf v 5 then { s.hw.writeWord .TC_CTRL 0 v 0 0 with time := { (s.hw.writeWord .TC_CTRL 0 v 0 0).time with lsResync := true } }
     else s.hw.writeWord .TC_CTRL 0 v 0 0)) ∧
  (s.hw.time.lsResync = true → s.hw.runResync.time.shadowOfs = 0 ∧ s.hw.runResync.rd TC_STATUS_LS_FAULT = 0 ∧
    s.hw.runResync.time.now = s.hw.time.now)

/-- R135: a write of TC_SET with GO while a domain is selected only sets SET_REJ; while none is, the time written is set at the next
tick boundary. -/
def tcSetGo : Prop := ∀ (s : State) (v : Nat) (h : Hw), s.hw.Open (regBlock .TC_SET 0 0) → h = s.hw.writeWord .TC_SET 3 v 0 0 →
  bitOf v 31 = true →
  (s.hw.rd TC_STATUS_SEL ≠ 0 → exec (.tcSetGo v) s = .next (s.withHw (h.wr TC_STATUS_SET_REJ 1))) ∧
  (s.hw.rd TC_STATUS_SEL = 0 → exec (.tcSetGo v) s = .next (s.withHw
    { h with time := { h.time with setGo := some (h.rd TC_SET_SEC, h.rd TC_SET_NS) } }))

/-- R135, Table 5-3: at the boundary that executes TC_SET both counters take the written second and nanosecond with fraction 0, the
integrator becomes 0 and SET is set. -/
def tcSetRuns : Prop := ∀ (h : Hw) (sec ns : Nat), h.time.setGo = some (sec, ns) →
  h.runSet.time.now = (sec * 1000000000 + ns) * 2 ^ 44 ∧ h.runSet.time.iAcc = 0 ∧ h.runSet.time.setGo = none ∧
  h.runSet.rd TC_STATUS_SET = 1 ∧ h.runSet.rd TC_STATUS_SERVO = (if h.rd TC_STATUS_SEL = 0 then 0 else 1)

/-- R139: in FIRMWARE mode the OMCI time-of-day attribute is delivered to its domain; where the host has OMCI it is not. -/
def todaAttribute : Prop := ∀ (s : State) (a lo sec ns : Nat), s.hw.Live rgControl →
  exec (.todaAttribute a lo sec ns) s = .next (s.withHw
    (if s.hw.rd LN_ATT_CTRL_OMCI_MODE a = 0 then s.hw.todaDeliver a lo (sec * 1000000000 + ns) else s.hw))

/-- R139: a write of TC_TODA_IN with GO delivers the staged count and time; without GO it delivers nothing. -/
def tcTodaInGo : Prop := ∀ (s : State) (d v : Nat) (h : Hw), s.hw.Open (regBlock .TC_TODA_IN d 0) → h = s.hw.writeWord .TC_TODA_IN 3 v d 0 →
  (bitOf v 31 = true → exec (.tcTodaInGo d v) s = .next (s.withHw (h.todaDeliver d (look h.stage (TC_TODA_IN_SFC_LO.key d 0) 0)
    (look h.stage (TC_TODA_IN_SEC.key d 0) 0 * 1000000000 + look h.stage (TC_TODA_IN_NS.key d 0) 0)))) ∧
  (bitOf v 31 = false → exec (.tcTodaInGo d v) s = .next (s.withHw h))

/-- R139: an association that disagrees with the one in force waits as pending and changes neither it nor JUMP; one that agrees is
adopted. -/
def todaChecked : Prop := ∀ (h : Hw) (d : Nat) (o x : Nat × Nat), (h.domAt d).adopt = none → (h.domAt d).toda = some o →
  (todaAgree (h.cfg TC_TODA_TOL 0 d) o x = true → ((h.todaCheck d x).domAt d).adopt = some x ∧ ((h.todaCheck d x).domAt d).pend = none) ∧
  (todaAgree (h.cfg TC_TODA_TOL 0 d) o x = false → (h.domAt d).pend = none →
    h.todaCheck d x = h.setDom d (fun s => { s with pend := some x }))

/-- R139: the count that an association is extended to has its low 32 bits and lies within half their range of the count it is
extended by, away from the ends of the 51-bit range. -/
def sfcExtended : Prop := ∀ (cur lo : Nat), 2 ^ 32 ≤ cur → cur < 2 ^ 51 - 2 ^ 32 →
  extendSfc cur lo % 2 ^ 32 = lo % 2 ^ 32 ∧ ((extendSfc cur lo : Int) - cur).natAbs ≤ 2 ^ 31

/-- R145: DOMAIN_QUALIFIED qualifies a domain that is not DOWN, has had samples for 80,000 ticks, has no JUMP and is not marked
faulty; it changes no other field. -/
def domainQualified : Prop := ∀ (s : State) (d : Nat), s.hw.Live rgFawn →
  exec (.domainQualified d) s = .next (s.withHw
    (if s.hw.rd TC_DOM_STATUS_STATE d ≠ 0 ∧ 80000 ≤ (s.hw.domAt d).track ∧ s.hw.rd TC_DOM_STATUS_JUMP d = 0 ∧
        bitOf (s.hw.rd SF_STATUS_DOM_FAULTY) d = false
     then s.hw.wr TC_DOM_STATUS_QUAL 1 d else s.hw))

/-- R152: once ELAPSED_S has passed HOLD_SPEC the rung in force is worked out again; before that the expiry changes nothing. -/
def holdoverExpiry : Prop := ∀ (s : State), s.hw.Live rgFawn →
  exec .holdoverTimerExpiry s = .next (s.withHw
    (if s.hw.cfg TC_HOLD_SPEC * 60 < s.hw.rd TC_HOLD_ELAPSED_S then s.hw.wr TC_STATUS_RUNG s.hw.rungNow else s.hw))

/-- R151: Table 5-5 in order: a global reaction or SAFE is DEGRADED, whatever else holds; else a locked servo is LOCKED; a held one
with enough learning and within HOLD_SPEC is HOLD_IN, unless the model is faulty; a locked setting is HOLD_OUT; else FREERUN. -/
def ladder : Prop := ∀ (h : Hw),
  ((h.rd SF_STATUS_GLOBAL ≠ 0 ∨ h.rd SF_LEVEL_LEVEL = 3) → h.rungNow = 4) ∧
  (h.rd SF_STATUS_GLOBAL = 0 → h.rd SF_LEVEL_LEVEL ≠ 3 →
    (h.rd TC_STATUS_SERVO = 3 → h.rungNow = 0) ∧
    (h.rd TC_STATUS_SERVO = 4 → h.cfg TC_HOLD_LEARN * 60 ≤ h.rd TC_HOLD_LEARNED_S → h.rd TC_HOLD_ELAPSED_S ≤ h.cfg TC_HOLD_SPEC * 60 →
      h.rungNow = if h.rd SF_STATUS_MODEL_FAULTY = 0 then 1 else 2) ∧
    (h.rd TC_STATUS_SERVO < 2 → h.rungNow = if h.rd TC_STATUS_SET ≠ 0 ∧ h.time.lockedSet = true then 2 else 3))

/-- R146: an accepted edge on a PPS_IN pin of the 1PPS domain sets its prediction and sample; any other edge there changes
nothing. -/
def ppsEdge : Prop := ∀ (s : State) (p : Nat) (t : Int), s.hw.Live rgFawn → s.hw.cfg TC_PIN_MODE 0 p = 4 →
  s.hw.cfg TC_PIN_FEATURE 0 p = 0x8000 →
  exec (.ppsEdge p t) s = .next (s.withHw
    (if ppsAccepts (s.hw.domAt 1) (t - s.hw.cfgS TC_PIN_ADV 0 p) then
       s.hw.setDom 1 (fun e => ppsTake e (t - s.hw.cfgS TC_PIN_ADV 0 p)) else s.hw))

/-- R146: an edge is accepted where no second is predicted, or where it lies after the last one within 1 microsecond of a whole
number of seconds. -/
def ppsAcceptance : Prop := ∀ (e : DomSt) (c : Int),
  (e.ppsPred = none → ppsAccepts e c = true) ∧
  (∀ p n, e.ppsPred = some p → 0 < n → (c - p - n * sec16).natAbs ≤ 65536000 → ppsAccepts e c = true) ∧
  (∀ p, e.ppsPred = some p → c ≤ p → ppsAccepts e c = false)

/-- R146: a predicted second without an accepted edge is missed; two in a row end the prediction and bring the 1PPS domain DOWN
without its qualification. -/
def ppsMissing : Prop := ∀ (s : State), s.hw.Live rgFawn → s.hw.cfg TC_SRC 0 1 = 2 → (s.hw.domAt 1).ppsPred.isSome = true →
  ∃ t, exec (.ppsMissing false) s = .next t ∧ t.pending = s.pending ∧ t.nv = s.nv ∧
    (t.hw.domAt 1).ppsMiss = (s.hw.domAt 1).ppsMiss + 1 ∧
    ((s.hw.domAt 1).ppsMiss = 0 → t.hw.rd TC_DOM_STATUS_STATE 1 = s.hw.rd TC_DOM_STATUS_STATE 1 ∧
      t.hw.rd TC_DOM_STATUS_QUAL 1 = s.hw.rd TC_DOM_STATUS_QUAL 1) ∧
    (1 ≤ (s.hw.domAt 1).ppsMiss → (t.hw.domAt 1).ppsPred = none ∧ t.hw.rd TC_DOM_STATUS_STATE 1 = 0 ∧
      t.hw.rd TC_DOM_STATUS_QUAL 1 = 0)

/-- R149, R132: while LOCKED a measurement is kept, none older than 86,400 s stays, and no register but THETA_OSC changes; in any other
state only the monitor's frequency is kept. -/
def oscMeasured : Prop := ∀ (s : State) (f m : Rat) (adv : Int), s.hw.Live rgFawn →
  (s.hw.rd TC_STATUS_SERVO ≠ 3 → exec (.oscModelMeasure f adv m) s = .next (s.withHw
    { s.hw with time := { s.hw.time with monFreq := m } })) ∧
  (s.hw.rd TC_STATUS_SERVO = 3 → ∃ t, exec (.oscModelMeasure f adv m) s = .next t ∧ t.pending = s.pending ∧ t.nv = s.nv ∧
    SameFields [TC_HOLD_THETA_OSC.key 0 0] s.hw t.hw ∧ t.hw.time.monFreq = m ∧ t.hw.time.now = s.hw.time.now ∧
    (s.hw.nowSec, f) ∈ t.hw.time.oscMeas ∧ ∀ x ∈ t.hw.time.oscMeas, s.hw.nowSec - x.1 ≤ 86400)

/-! ### Comparators and TIME pins (chapter 5) -/

/-- R154: at a target the comparator sends its event and drives its edge as ACTION says, and passes to the next target; a comparator
without further targets does nothing. -/
def comparatorTarget : Prop := ∀ (s : State) (k : Nat), s.hw.Live rgFawn →
  (s.hw.cmpHas k (s.hw.cmpAt k).next = false → exec (.comparatorTarget k) s = .next s) ∧
  ((s.hw.cmpAt k).on = true → s.hw.cmpHas k (s.hw.cmpAt k).next = true →
    ∃ h, h = (s.hw.when (s.hw.cmpPulse k) (fun h => h.cmpEdge k (s.hw.cmpAt k).next)) ∧
    exec (.comparatorTarget k) s = .next (s.withHw
      (((h.when (h.cmpEvent k) (fun h => h.cmpSend k (s.hw.cmpAt k).next)).setCmp k
        (fun c => { c with next := (s.hw.cmpAt k).next + 1 })).cmpShow k)))

/-- R154, R159: the leading edge makes a PULSE pin active for WIDTH, unless it is squelched or held high-impedance, where nothing is
driven. -/
def comparatorEdge : Prop := ∀ (h : Hw) (k j : Nat),
  (h.pinSquelched (h.cfg TC_CMP_PIN 0 k) = true → h.cmpEdge k j = h) ∧
  (h.cfg TC_PIN_MODE 0 (h.cfg TC_CMP_PIN 0 k) = 1 → h.pinSquelched (h.cfg TC_CMP_PIN 0 k) = false →
    bitOf h.sf.pinHiZ (h.cfg TC_CMP_PIN 0 k) = false →
    ((h.cmpEdge k j).cmpAt k).stopAt = some (h.cmpTarget k j + ((h.cfg TC_CMP_WIDTH_NS 0 k * 65536 : Nat) : Int)) ∧
    ((h.cmpEdge k j).pinAt (h.cfg TC_CMP_PIN 0 k)).level = .active ∧ SameFields [] h (h.cmpEdge k j))

/-- R154: WIDTH after its leading edge a pulse ends and its pin returns to the level it holds without an edge. -/
def pulseEnd : Prop := ∀ (s : State) (k : Nat) (t : Int), s.hw.Live rgFawn → (s.hw.cmpAt k).stopAt = some t →
  exec (.pulseEnd k) s = .next (s.withHw
    ((s.hw.setCmp k (fun c => { c with stopAt := none })).pinRefresh (s.hw.cmpAt k).stopPin))

/-- R157: on a CAPTURE pin of the edge's kind an edge within 20 ns of the last, or one that finds 64 captures waiting, is counted in
CAP_DROP and kept nowhere. -/
def captureDropped : Prop := ∀ (s : State) (p e : Nat) (t l : Int), s.hw.Live rgFawn → s.hw.cfg TC_PIN_MODE 0 p = 2 →
  bitOf (bits (s.hw.cfg TC_PIN_FLAGS 0 p) 3 2) (e - 1) = true →
  (((s.hw.pinAt p).lastCap = some l ∧ t - l < 20 * 65536) ∨ 64 ≤ (s.hw.pinAt p).fifo.length) →
  exec (.timeCapture p e t) s = .next (s.withHw (s.hw.inc TC_PIN_STAT_CAP_DROP p))

/-- R157, R375: any other edge there is timed at the ball, less the pin's ADV, numbered, put at the end of the pin's FIFO, and written
to the time-event ring as far as that takes it. -/
def captureTaken : Prop := ∀ (s : State) (p e : Nat) (t : Int), s.hw.Live rgFawn → s.hw.cfg TC_PIN_MODE 0 p = 2 →
  bitOf (bits (s.hw.cfg TC_PIN_FLAGS 0 p) 3 2) (e - 1) = true → (∀ l, (s.hw.pinAt p).lastCap = some l → 20 * 65536 ≤ t - l) →
  (s.hw.pinAt p).fifo.length < 64 →
  exec (.timeCapture p e t) s = .next (s.withHw
    (((s.hw.setPin p (fun q => { q with lastCap := some t, caps := q.caps + 1, fifo := q.fifo ++ [(e, q.caps, t - s.hw.cfgS TC_PIN_ADV 0 p)] })).wr
      TC_PIN_STAT_FIFO_LVL ((s.hw.pinAt p).fifo.length + 1) p).flushPin p ((s.hw.pinAt p).fifo.length + 1)))

/-- R158, R159: a TOD_OUT pin sends the message of its companion's second; NMEA is silent while squelched, the Henvor message is
not. -/
def todSend : Prop := ∀ (s : State) (p : Nat) (x : Int) (r : List Int), s.hw.Live rgFawn → (s.hw.pinAt p).tods = x :: r →
  s.hw.cfg TC_PIN_MODE 0 p = 3 → bitOf s.hw.sf.pinHiZ p = false →
  ∃ h, h = s.hw.setPin p (fun q => { q with tods := r }) ∧
  (bitOf (s.hw.cfg TC_PIN_FLAGS 0 p) 5 = false → exec (.todMessageSend p) s = .next (s.withHw (h.emit (.tod p (h.henvorBytes p x.toNat))))) ∧
  (bitOf (s.hw.cfg TC_PIN_FLAGS 0 p) 5 = true → h.pinSquelched p = true → exec (.todMessageSend p) s = .next (s.withHw h)) ∧
  (bitOf (s.hw.cfg TC_PIN_FLAGS 0 p) 5 = true → h.pinSquelched p = false → exec (.todMessageSend p) s = .next (s.withHw
    (h.emit (.tod p (zdaBytes (x - h.utcOfs x.toNat).toNat)))))

/-- R409, R413: a readback that differs from what the pin was driven to is a detection of class 10 of that pin; a good one changes
nothing, and where the pin waits for its recheck it ends its high impedance. -/
def pinReadback : Prop := ∀ (s : State) (p : Nat), s.hw.Live rgFawn → (s.hw.cfg TC_PIN_MODE 0 p = 1 ∨ s.hw.cfg TC_PIN_MODE 0 p = 3) →
  s.hw.sf.inject ≠ some (10, p) →
  exec (.pinReadback p false) s = .next (s.withHw ((s.hw.setPin p (fun q => { q with recheck := false })).detect 10 scopePin p)) ∧
  ((s.hw.pinAt p).recheck = false → exec (.pinReadback p true) s = .next s) ∧
  ((s.hw.pinAt p).recheck = true → exec (.pinReadback p true) s = .next (s.withHw
    (({ s.hw with sf := { s.hw.sf with pinHiZ := putBit s.hw.sf.pinHiZ p false } }.setPin p
      (fun q => { q with recheck := false })).pinRefresh p)))

/-! ### Time service on station ports (chapter 6) -/

/-- R166: a lane lock in L0 writes the lane's latencies, factory part and measured part together, each cut to its field, and makes
them valid; no other register changes. -/
def stationLaneLock : Prop := ∀ (s : State) (n tx rx : Nat), s.hw.Live (tsRegion n) → n < 128 → s.hw.rd PF_LANE_STATUS_PWR n = 0 →
  ∃ t, exec (.stationLaneLock n tx rx) s = .next (s.withHw t) ∧ t.rd TS_LAT_VALID n = 1 ∧
    t.rd TS_LAT_TX n = (look s.hw.pw.factory (1, n) 0 + tx) % 2 ^ TS_LAT_TX.width ∧
    t.rd TS_LAT_RX n = (look s.hw.pw.factory (2, n) 0 + rx) % 2 ^ TS_LAT_RX.width ∧
    SameFields [TS_LAT_TX.key n 0, TS_LAT_RX.key n 0, TS_LAT_VALID.key n 0] s.hw t ∧ t.ts = s.hw.ts ∧ t.port = s.hw.port

/-- R172, R174: a Sync is queued at its place in the second while the instance is not DISABLED, and nothing else changes; anywhere
else in the second the event has no effect. -/
def syncRequest : Prop := ∀ (s : State) (i : Nat), s.hw.Live (tsRegion i) → s.hw.rd TS_PORT_STATUS_STATE i ≠ 0 →
  exec (.sync i) s = .next (s.withHw
    (if s.hw.placed (5 * i) (5000 * 2 ^ (s.hw.cfgS TS_PORT_LOG_SYNC i + 7).toNat) (s.hw.cfgS TS_PORT_LOG_SYNC i)
     then s.hw.tsQueue i { kind := 0, since := 0 } else s.hw))

/-- R174, R175: an Announce is queued likewise, 2,500 microticks after the Sync's place. -/
def announceRequest : Prop := ∀ (s : State) (i : Nat), s.hw.Live (tsRegion i) → s.hw.rd TS_PORT_STATUS_STATE i ≠ 0 →
  exec (.announce i) s = .next (s.withHw
    (if s.hw.placed (5 * i + 2500) (5000 * 2 ^ (s.hw.cfgS TS_PORT_LOG_ANNOUNCE i + 7).toNat) (s.hw.cfgS TS_PORT_LOG_ANNOUNCE i)
     then s.hw.tsQueue i { kind := 2, since := 0 } else s.hw))

/-- R172: no PTP message is asked for while the instance is DISABLED. -/
def ptpDisabled : Prop := ∀ (s : State) (i : Nat), s.hw.rd TS_PORT_STATUS_STATE i = 0 →
  exec (.sync i) s = .next s ∧ exec (.announce i) s = .next s

/-- R163, R166: a request to a service that is enabled, on an instance without valid latency, is counted in NOLAT and nothing
more. -/
def requestsNoLat : Prop := ∀ (s : State) (i : Nat) (m : PtpIn) (q : NtpIn) (v6 : Bool) (mac ip : Nat), s.hw.Live (tsRegion i) → i < 128 →
  s.hw.portBase i = i → s.hw.rd TS_LAT_VALID i = 0 →
  (s.hw.tsEn i enPtp = true → exec (.delayReq i m) s = .next (s.withHw (s.hw.inc TS_CNT_NOLAT i)) ∧
    exec (.pdelayReq i m) s = .next (s.withHw (s.hw.inc TS_CNT_NOLAT i))) ∧
  (s.hw.tsEn i enNtp = true → exec (.ntpRequest i q) s = .next (s.withHw (s.hw.inc TS_CNT_NOLAT i))) ∧
  (s.hw.tsEn i enArp = true → exec (.arpRequest i v6 mac ip) s = .next (s.withHw (s.hw.inc TS_CNT_NOLAT i)))

/-- R163: a request to a service that is not enabled has no effect. -/
def requestsOff : Prop := ∀ (s : State) (i : Nat) (m : PtpIn) (q : NtpIn) (v6 : Bool) (mac ip : Nat),
  (s.hw.tsEn i enPtp = false → exec (.delayReq i m) s = .next s ∧ exec (.pdelayReq i m) s = .next s) ∧
  (s.hw.tsEn i enNtp = false → exec (.ntpRequest i q) s = .next s) ∧ (s.hw.tsEn i enArp = false → exec (.arpRequest i v6 mac ip) s = .next s)

/-- R176, R178, R179: a Delay_Req of the domain, to an instance with the E2E mechanism, takes a token of the bucket and is queued with
its receive timestamp where fewer than 16 wait; without a token it is counted in DREQ_LIMIT; of another domain in PTP_DISC. -/
def delayReq : Prop := ∀ (s : State) (i : Nat) (m : PtpIn), s.hw.Live (tsRegion i) → s.hw.tsServes i = true → s.hw.tsEn i enPtp = true →
  s.hw.tsLat i = true →
  (m.dom ≠ s.hw.cfg TS_PORT_DOMAIN i → exec (.delayReq i m) s = .next (s.withHw (s.hw.inc TS_CNT_PTP_DISC i))) ∧
  (s.hw.ptpOk i false m = true →
    (∀ u, bucketLevel (s.hw.tsAt i).dUsed 16 (s.hw.cfg TS_PORT_DREQ_LIMIT i) m.cyc = (u, false) →
      exec (.delayReq i m) s = .next (s.withHw ((s.hw.setTs i (fun e => { e with dUsed := u })).inc TS_CNT_DREQ_LIMIT i))) ∧
    (∀ u, bucketLevel (s.hw.tsAt i).dUsed 16 (s.hw.cfg TS_PORT_DREQ_LIMIT i) m.cyc = (u, true) →
      exec (.delayReq i m) s = .next (s.withHw ((s.hw.setTs i (fun e => { e with dUsed := u + tokenUnit })).tsQueueMax i 16
        { kind := 1, sub := 0, since := 0, t := m.t, corr := m.corr, ident := m.port, seq := m.seq, uni := m.uni
          mac := m.mac, ip := m.ip, udp := m.udp }))))

/-- R177, R178, R179: a Pdelay_Req is taken likewise by an instance with the P2P mechanism; with the other mechanism it is counted in
PTP_DISC. -/
def pdelayReq : Prop := ∀ (s : State) (i : Nat) (m : PtpIn), s.hw.Live (tsRegion i) → s.hw.tsServes i = true → s.hw.tsEn i enPtp = true →
  s.hw.tsLat i = true →
  (s.hw.cfg TS_PORT_DELAY_MECH i = 0 → exec (.pdelayReq i m) s = .next (s.withHw (s.hw.inc TS_CNT_PTP_DISC i))) ∧
  (s.hw.ptpOk i true m = true → ∀ u, bucketLevel (s.hw.tsAt i).dUsed 16 (s.hw.cfg TS_PORT_DREQ_LIMIT i) m.cyc = (u, true) →
    exec (.pdelayReq i m) s = .next (s.withHw ((s.hw.setTs i (fun e => { e with dUsed := u + tokenUnit })).tsQueueMax i 16
      { kind := 1, sub := 1, since := 0, t := m.t, corr := m.corr, ident := m.port, seq := m.seq, uni := m.uni
        mac := m.mac, ip := m.ip, udp := m.udp })))

/-- R179: a queue that holds its number of requests of a kind counts the next one in Q_FULL and does not take it. -/
def requestQueue : Prop := ∀ (h : Hw) (i n : Nat) (r : TsReq),
  (n ≤ ((h.tsAt i).reqs.filter (fun x => x.kind == r.kind)).length → h.tsQueueMax i n r = h.inc TS_CNT_Q_FULL i) ∧
  (((h.tsAt i).reqs.filter (fun x => x.kind == r.kind)).length < n → h.tsQueueMax i n r = h.tsQueue i r ∧
    ((h.tsQueue i r).tsAt i).reqs.length = (h.tsAt i).reqs.length + 1 ∧ SameFields [] h (h.tsQueue i r))

/-- R178, R182: a bucket never holds more than its capacity used, and gives a token exactly where a whole one is left. -/
def tokenBucket : Prop := ∀ (used cap rate cyc : Nat),
  (bucketLevel used cap rate cyc).1 ≤ cap * tokenUnit ∧ (bucketLevel used cap rate cyc).1 ≤ used ∧
  ((bucketLevel used cap rate cyc).2 = true → (bucketLevel used cap rate cyc).1 + tokenUnit ≤ cap * tokenUnit) ∧
  (1 ≤ cap → used ≤ cyc * rate → (bucketLevel used cap rate cyc).2 = true)

/-- R180: an NTP packet that is no client request of version 3 or 4 in 48 octets is counted in NTP_DISC and not answered. -/
def ntpDiscarded : Prop := ∀ (s : State) (i : Nat) (m : NtpIn), s.hw.Live (tsRegion i) → s.hw.tsServes i = true → s.hw.tsEn i enNtp = true →
  s.hw.tsLat i = true → (m.mode ≠ 3 ∨ (m.vn ≠ 3 ∧ m.vn ≠ 4) ∨ m.len ≠ 48) →
  exec (.ntpRequest i m) s = .next (s.withHw (s.hw.inc TS_CNT_NTP_DISC i))

/-- R180, R182: a client request that the bucket passes is queued; one that it does not is counted in NTP_LIMIT, and with NTP_KOD off
that is all. -/
def ntpRequest : Prop := ∀ (s : State) (i u k : Nat) (m : NtpIn) (kod : Bool), s.hw.Live (tsRegion i) → s.hw.tsServes i = true →
  s.hw.tsEn i enNtp = true → s.hw.tsLat i = true → m.mode = 3 → (m.vn = 3 ∨ m.vn = 4) → m.len = 48 →
  bucketLevel (s.hw.tsAt i).kUsed 1000 1000 m.cyc = (k, kod) →
  (bucketLevel (s.hw.tsAt i).nUsed (s.hw.cfg TS_PORT_NTP_BURST i) (s.hw.cfg TS_PORT_NTP_RATE i) m.cyc = (u, true) →
    exec (.ntpRequest i m) s = .next (s.withHw ((s.hw.setTs i (fun e => { e with nUsed := u + tokenUnit, kUsed := k })).tsQueueMax i 64
      { kind := 3, since := 0, t := m.t, ident := m.orig, vn := m.vn, poll := m.poll, mac := m.mac, ip := m.ip, udp := m.udp }))) ∧
  (bucketLevel (s.hw.tsAt i).nUsed (s.hw.cfg TS_PORT_NTP_BURST i) (s.hw.cfg TS_PORT_NTP_RATE i) m.cyc = (u, false) →
    s.hw.cfg TS_PORT_NTP_KOD i = 0 →
    exec (.ntpRequest i m) s = .next (s.withHw ((s.hw.setTs i (fun e => { e with nUsed := u, kUsed := k })).inc TS_CNT_NTP_LIMIT i)))

/-- R164: an ARP request or Neighbor Solicitation is queued for its answer; an address of 0 has none. -/
def arpRequest : Prop := ∀ (s : State) (i : Nat) (v6 : Bool) (mac ip : Nat), s.hw.Live (tsRegion i) → s.hw.tsServes i = true →
  s.hw.tsEn i enArp = true → s.hw.tsLat i = true →
  exec (.arpRequest i v6 mac ip) s = .next (s.withHw
    (if s.hw.cfg (if v6 then TS_PORT_IPV6 else TS_PORT_IPV4) i = 0 then s.hw
     else s.hw.tsQueue i { kind := 5, sub := b2n v6, since := 0, mac := mac, ip := ip }))

/-- R183: a received ESMC message is counted and changes nothing else. -/
def esmcRx : Prop := ∀ (s : State) (i : Nat), s.hw.Live (tsRegion i) → s.hw.tsServes i = true → s.hw.tsEn i enEsmc = true →
  exec (.esmcRx i) s = .next (s.withHw (s.hw.inc TS_CNT_ESMC_RX i))

/-- R185: the information PDU is queued at its place in the second, the event PDU when one is due, once. -/
def esmcSends : Prop := ∀ (s : State) (i : Nat), s.hw.Live (tsRegion i) → s.hw.tsServes i = true → s.hw.tsEn i enEsmc = true →
  s.hw.tsLink i = true →
  exec (.esmcInfoPdu i) s = .next (s.withHw
    (if s.hw.secPlace = 5 * i + 1250 then s.hw.tsQueue i { kind := 4, since := 0 } else s.hw)) ∧
  ((s.hw.tsAt i).evDue = true → exec (.esmcEventPdu i) s = .next (s.withHw
    ((s.hw.setTs i (fun e => { e with evDue := false })).tsQueue i { kind := 4, sub := 1, since := 0 }))) ∧
  ((s.hw.tsAt i).evDue = false → exec (.esmcEventPdu i) s = .next s)

/-- R169, R179: at a grant the next request in the order of its kind leaves the queue and is committed; without a grant, or with none
waiting, nothing happens. -/
def responderCommit : Prop := ∀ (s : State) (i len : Nat) (dep : Int), s.hw.Live (tsRegion i) →
  (s.hw.tsGrant i = false → exec (.responderCommit i dep len) s = .next s) ∧
  (s.hw.tsNext i = none → exec (.responderCommit i dep len) s = .next s) ∧
  (∀ r, s.hw.tsGrant i = true → s.hw.tsNext i = some r → exec (.responderCommit i dep len) s = .next (s.withHw
    ((s.hw.setTs i (fun e => { e with reqs := e.reqs.erase r })).commitOne i r dep len)))

/-- R187: with an action of SUPPRESS and an unusable rung a Sync is not sent but counted; otherwise it is sent, counted and numbered. -/
def syncCommit : Prop := ∀ (h : Hw) (i len : Nat) (dep : Int) (r : TsReq), r.kind = 0 →
  (h.cfg TS_PORT_FAULT_ACTION i = 0 → rungUsable (h.tsRung i) = false → h.commitOne i r dep len = h.inc TS_CNT_SYNC_SUPP i) ∧
  (rungUsable (h.tsRung i) = true → ∃ m, h.commitOne i r dep len = (h.tsSend i len TS_CNT_SYNC_TX m).setTs i
    (fun e => { e with seqSync := (e.seqSync + 1) % 65536 }) ∧ m.kind = 0)

/-- R179: a Sync or Announce that has waited more than 640 microticks is dropped and counted in TX_LATE; a response never is. -/
def txLate : Prop := ∀ (s : State) (i : Nat), s.hw.Live (tsRegion i) →
  exec (.txLate i) s = .next (s.withHw
    (if (s.hw.tsAt i).reqs.all (fun r => !s.hw.tsLate r) then s.hw
     else (s.hw.setTs i (fun e => { e with reqs := e.reqs.filter (fun r => !s.hw.tsLate r) })).inc TS_CNT_TX_LATE i 0
       ((s.hw.tsAt i).reqs.filter s.hw.tsLate).length)) ∧
  (∀ r ∈ (s.hw.tsAt i).reqs, r.kind ≠ 0 → r.kind ≠ 2 → s.hw.tsLate r = false)

/-! ### Dual attachment (chapter 7) -/

/-- R193: a healthy attachment for which a criterion has held for HOLDOFF ticks is FAILED, with the criterion of the lowest code as
its cause, and the failure is counted; before that nothing changes. -/
def attachmentFail : Prop := ∀ (s : State) (a c : Nat) (l : List Nat), s.hw.Live rgLine → a < 2 → s.hw.failCriteria a = c :: l →
  s.hw.rd LN_ATT_HEALTH_FAILED a = 0 →
  (s.hw.clk.ut < look s.hw.pk.failFrom a s.hw.clk.ut + 80 * s.hw.holdoff a → exec (.attachmentFail a) s = .next s) ∧
  (look s.hw.pk.failFrom a s.hw.clk.ut + 80 * s.hw.holdoff a ≤ s.hw.clk.ut → ∃ h, exec (.attachmentFail a) s = .next (s.withHw h) ∧
    h.rd LN_ATT_HEALTH_FAILED a = 1 ∧ h.rd LN_ATT_HEALTH_CAUSE a = c % 2 ^ LN_ATT_HEALTH_CAUSE.width ∧ h.clk = s.hw.clk ∧ h.time = s.hw.time ∧
    h.act = s.hw.act ∧ h.up = s.hw.up ∧ h.rx = s.hw.rx)

/-- R195: a failed attachment without a criterion for WTR_S seconds is healthy again and NOTICE is recorded; before that nothing
changes, but after a reset of LINE the first recovery waits not. -/
def attachmentRecover : Prop := ∀ (s : State) (a : Nat), s.hw.Live rgLine → a < 2 → s.hw.failCriteria a = [] →
  s.hw.rd LN_ATT_HEALTH_FAILED a ≠ 0 →
  exec (.attachmentRecover a) s = .next (s.withHw
    (if bitOf s.hw.pk.firstOk a = true ∨ look s.hw.pk.okFrom a s.hw.clk.ut + 640000 * s.hw.wtr a ≤ s.hw.clk.ut then
       (((s.hw.wr LN_ATT_HEALTH_FAILED 0 a).wr LN_ATT_HEALTH_WAITING 0 a).setPk
         (fun p => { p with firstOk := putBit p.firstOk a false })).recordOther sevNotice (0x1030 + a) 15
     else s.hw))

/-! ### Station lanes and MACs (chapter 8) -/

/-- R221: LINK becomes 1 on every lane of the port once its conditions have held for 80 ticks, and INFO is recorded; before that it
does not. -/
def linkUp : Prop := ∀ (s : State) (n : Nat), s.hw.Live (tsRegion n) → s.hw.portBase n = n →
  ((s.hw.portAt n).upFor < 80 → exec (.linkUp n) s = .next s) ∧ (s.hw.linkConds n = false → exec (.linkUp n) s = .next s) ∧
  (s.hw.linkConds n = true → 80 ≤ (s.hw.portAt n).upFor → s.hw.rd PF_LANE_STATUS_LINK n = 0 → s.hw.portEnabled n = true →
    ∃ h, exec (.linkUp n) s = .next (s.withHw h) ∧ (∀ l ∈ s.hw.portLanes n, h.rd PF_LANE_STATUS_LINK l = 1) ∧
      (∀ l, l ∉ s.hw.portLanes n → h.rd PF_LANE_STATUS_LINK l = s.hw.rd PF_LANE_STATUS_LINK l) ∧ h.port = s.hw.port)

/-- R222: a lane whose port is disabled, or on which SIG_DET has been 0 for IDLE_MS, is idle; no register changes. -/
def laneIdle : Prop := ∀ (s : State) (n : Nat), s.hw.Live (tsRegion n) →
  exec (.laneIdle n) s = .next (s.withHw (if n < 128 ∧ s.hw.laneQuiet n = true then s.hw.setPort n (fun p => { p with idle := true }) else s.hw)) ∧
  (bitOf (s.hw.cfg PF_PORT_FLAGS (s.hw.portBase n)) 0 = false → s.hw.laneQuiet n = true)

/-- R218: a write of PF_LANE_EQ takes its settings; with EQ_RESET and LINK 0 the DFE coefficients go and EQ_CONV falls; with LINK 1
the reset is dropped. -/
def dfeEqReset : Prop := ∀ (s : State) (n v : Nat) (h : Hw), s.hw.Open (regBlock .PF_LANE_EQ n 0) →
  h = (s.hw.writeWord RegName.PF_LANE_EQ 0 v n 0).setPort n id →
  (s.hw.rd PF_LANE_STATUS_LINK n ≠ 0 → exec (.dfeEqReset n v) s = .next (s.withHw h)) ∧
  (s.hw.rd PF_LANE_STATUS_LINK n = 0 → bitOf v 12 = true → exec (.dfeEqReset n v) s = .next (s.withHw
    ((h.setPort n (fun p => { p with warm := false })).wr PF_LANE_STATUS_EQ_CONV 0 n)))

/-- R224, Table 8-4: a received frame that fails a check is counted by the first check that it fails and enters nothing. -/
def macRxChecks : Prop := ∀ (s : State) (n : Nat) (t : Int) (code : Bool) (b : List Byte), s.hw.Live (tsRegion n) → n < 128 →
  s.hw.portBase n = n → s.hw.portEnabled n = true → s.hw.rd PF_LANE_STATUS_LINK n ≠ 0 →
  s.hw.rxFill n + min b.length (s.hw.cfg PF_PORT_MAX_FRAME n) ≤ s.hw.rxCap n →
  (code = true → exec (.macFrameRx n t code false b) s = .next (s.withHw ((s.hw.inc PF_MAC_CNT_RX_CODE n).pmNote n 0 0 0 1))) ∧
  (code = false → b.length < 64 → exec (.macFrameRx n t code false b) s = .next (s.withHw ((s.hw.inc PF_MAC_CNT_RX_RUNT n).pmNote n 0 0 0 1))) ∧
  (code = false → 64 ≤ b.length → s.hw.cfg PF_PORT_MAX_FRAME n < b.length → exec (.macFrameRx n t code false b) s =
    .next (s.withHw ((s.hw.inc PF_MAC_CNT_RX_OVERSIZE n).pmNote n 0 0 0 1))) ∧
  (code = false → 64 ≤ b.length → b.length ≤ s.hw.cfg PF_PORT_MAX_FRAME n → fcsOk b = false → exec (.macFrameRx n t code false b) s =
    .next (s.withHw ((s.hw.inc PF_MAC_CNT_RX_FCS n).pmNote n 0 0 0 1)))

/-- R225: a frame that finds no room in the receive FIFO is dropped and counted in RX_FIFO_DROP. -/
def macRxFull : Prop := ∀ (s : State) (n : Nat) (t : Int) (code ecc : Bool) (b : List Byte), s.hw.Live (tsRegion n) → n < 128 →
  s.hw.portBase n = n → s.hw.portEnabled n = true → s.hw.rd PF_LANE_STATUS_LINK n ≠ 0 →
  s.hw.rxCap n < s.hw.rxFill n + min b.length (s.hw.cfg PF_PORT_MAX_FRAME n) →
  exec (.macFrameRx n t code ecc b) s = .next (s.withHw ((s.hw.inc PF_MAC_CNT_RX_FIFO_DROP n).pmNote n 0 0 1 0))

/-- R224, R225, R227: a frame that passes the checks is counted with its octets; a MAC control frame goes to the MAC and no further;
any other that is not the responder's is put at the end of the port's FIFO, which PACKET takes from while it admits. -/
def macFrameRx : Prop := ∀ (s : State) (n : Nat) (t : Int) (b : List Byte) (h : Hw), s.hw.Live (tsRegion n) → n < 128 →
  s.hw.portBase n = n → s.hw.portEnabled n = true → s.hw.rd PF_LANE_STATUS_LINK n ≠ 0 →
  s.hw.rxFill n + min b.length (s.hw.cfg PF_PORT_MAX_FRAME n) ≤ s.hw.rxCap n → 64 ≤ b.length →
  b.length ≤ s.hw.cfg PF_PORT_MAX_FRAME n → fcsOk b = true →
  h = ((s.hw.inc PF_MAC_CNT_RX_FRAMES n).incW PF_MAC_CNT_RX_OCTETS n 0 b.length).pmNote n 1 b.length 0 0 →
  (beNat (slice b 12 2) = 0x8808 → exec (.macFrameRx n t false false b) s = .next (s.withHw (h.macControl n b))) ∧
  (beNat (slice b 12 2) ≠ 0x8808 → h.toResponder n b = false → exec (.macFrameRx n t false false b) s = .next (s.withHw
    (((h.newFrame b 4 n false (some t)).2.setPort n (fun p => { p with rx := p.rx ++ [(h.newFrame b 4 n false (some t)).1] })).portAdmit n 1)))

/-- R228: the pause timer's end lets the MAC start frames again. -/
def pauseTimerExpiry : Prop := ∀ (s : State) (n : Nat), s.hw.Live (tsRegion n) →
  exec (.pauseTimerExpiry n) s = .next (s.withHw (s.hw.setPort n (fun p => { p with pause := none })))

/-- R230: an enabled port with PAUSE_TX_EN and its link up sends one PAUSE with PAUSE_QUANTA when the fill rises above XOFF, one of 0
when it falls to XON, and refreshes while it stays above XON. -/
def pauses : Prop := ∀ (s : State) (n : Nat), s.hw.Live (tsRegion n) → s.hw.pauses n = true →
  ((s.hw.portAt n).xoff = false → s.hw.cfg PF_PORT_XOFF n * 256 < s.hw.rxFill n →
    exec (.pauseGenerate n) s = .next (s.withHw ((s.hw.setPort n (fun p => { p with xoff := true })).pauseSend n (s.hw.cfg PF_PORT_PAUSE_QUANTA n))) ∧
    exec (.pauseRefresh n) s = .next s) ∧
  ((s.hw.portAt n).xoff = true → s.hw.rxFill n ≤ s.hw.cfg PF_PORT_XON n * 256 →
    exec (.pauseGenerate n) s = .next (s.withHw ((s.hw.setPort n (fun p => { p with xoff := false })).pauseSend n 0)) ∧
    exec (.pauseRefresh n) s = .next s) ∧
  ((s.hw.portAt n).xoff = true → s.hw.cfg PF_PORT_XON n * 256 < s.hw.rxFill n →
    exec (.pauseGenerate n) s = .next s ∧
    exec (.pauseRefresh n) s = .next (s.withHw (s.hw.pauseSend n (s.hw.cfg PF_PORT_PAUSE_QUANTA n))))

/-- R226: a frame of a legal length without error at the head of the transmit buffer is sent after its edit; one with an error or too
long is dropped and counted; an empty buffer sends nothing. -/
def macFrameTx : Prop := ∀ (s : State) (n : Nat) (f : Frame) (r : List Frame), s.hw.Live (tsRegion n) → (s.hw.portAt n).tx = f :: r →
  s.hw.portTakes n = true → s.hw.runs (tsRegion n) = true →
  (f.err = false → f.edited.length + 4 ≤ s.hw.cfg PF_PORT_MAX_FRAME n → f.edited.length + 4 ≤ 9728 →
    (∀ h, h = (s.hw.setPort n (fun p => { p with tx := r })).freed f → h.cfg PF_PORT_MAX_FRAME n = s.hw.cfg PF_PORT_MAX_FRAME n →
      exec (.macFrameTx n) s = .next (s.withHw (h.macSend n f.edited)))) ∧
  (f.err = true → ∃ h, exec (.macFrameTx n) s = .next (s.withHw h) ∧ (h.portAt n).tx = r ∧
    ∀ b, Out.stationTx n b ∈ h.out → Out.stationTx n b ∈ s.hw.out)

/-- R226: a sent frame is padded to 60 octets, carries its FCS, and is counted with its octets. -/
def macSent : Prop := ∀ (h : Hw) (n : Nat) (b : List Byte), 60 ≤ b.length →
  (h.macSend n b).out = .stationTx n (b ++ fcsOf b) :: h.out ∧
  (h.macSend n b).rd PF_MAC_CNT_TX_FRAMES n = satNat PF_MAC_CNT_TX_FRAMES.width (h.rd PF_MAC_CNT_TX_FRAMES n + 1)

/-- R233: LANE_RECAL on a lane of a running region, in L0 for LIGHT, while no other runs there, occupies its unit and completes
later; a lane above 127 or a mode above 1 is refused with RANGE, a busy unit with BUSY. -/
def laneRecal : Prop := ∀ (s : State) (hd : CmdHdr) (lane mode : Nat) (h : Hw), s.hw.Ready hd → h = s.hw.cmdTake hd →
  ((127 < lane ∨ 1 < mode) → exec (.laneRecal hd lane mode) s = .next (s.withHw
    (h.complete hd.compl (cmdAnswer hd stRange 0 0)))) ∧
  (lane ≤ 127 → mode = 0 → h.runs (tsRegion lane) = true → h.rd PF_LANE_STATUS_PWR lane = 0 →
    h.rd PF_RECAL_STATUS_BUSY (tsRegion lane - rgPortW) = 0 →
    ∃ t, exec (.laneRecal hd lane 0) s = .next (s.withHw t) ∧ t.rd PF_RECAL_STATUS_BUSY (tsRegion lane - rgPortW) = 1 ∧
      t.rd PF_LANE_STATUS_RECAL lane = 1 ∧ t.rd PF_LANE_STATUS_LINK lane = s.hw.rd PF_LANE_STATUS_LINK lane)

/-- R234: at its end the unit is free, RECAL of the lane is 0 and the command that waits for it is completed; an end without a
recalibration changes nothing. -/
def laneRecalDone : Prop := ∀ (s : State) (r tx rx : Nat) (dev : Int), s.hw.Live r →
  (s.hw.recal.find? (fun x => x.1 == r) = none → exec (.laneRecalDone r tx rx dev) s = .next s) ∧
  (∀ x c, s.hw.recal.find? (fun x => x.1 == r) = some (x, c) → c.lat = none → ∃ t, exec (.laneRecalDone r tx rx dev) s = .next (s.withHw t) ∧
    t.rd PF_RECAL_STATUS_BUSY (r - rgPortW) = 0 ∧ t.rd PF_LANE_STATUS_RECAL c.lane = 0 ∧
    t.rd PF_RECAL_STATUS_FAIL (r - rgPortW) = if 4800 < dev.natAbs then 1 else 0)

/-- R232: the checker's lock sets PRBS_LOCK while a counted pattern is in force; its loss counts the errors, clears it, and without a
lock changes nothing. -/
def prbs : Prop := ∀ (s : State) (n e : Nat), s.hw.Live (tsRegion n) →
  exec (.prbsLock n) s = .next (s.withHw (if s.hw.prbsOn n then s.hw.wr PF_LANE_STATUS_PRBS_LOCK 1 n else s.hw)) ∧
  exec (.prbsLockLoss n e) s = .next (s.withHw (if s.hw.rd PF_LANE_STATUS_PRBS_LOCK n ≠ 0 then
    (s.hw.inc PF_PRBS_CNT_ERR n 0 e).wr PF_LANE_STATUS_PRBS_LOCK 0 n else s.hw))

/-! ### Parser engines (chapter 9) -/

/-- Engine e of a running PACKET holds pass p, the word at its program counter is i's, no result that i reads is awaited, and n
instructions stay in the budget after it. -/
def Issues (s : State) (e : Nat) (i : PInstr) (p : Pass) (n : Nat) : Prop :=
  s.hw.Live rgPacket ∧ s.hw.passAt? e = some p ∧ s.hw.canExec p i = true ∧ p.budget = n + 1

/-- The outcome in which engine e, having counted the instruction for sampling, goes on with pass q; nothing else of the block, and
neither the non-volatile memory nor the queue, changes. -/
def GoesOn (s : State) (e : Nat) (i : PInstr) (p q : Pass) : Host.Outcome State Fault Refusal :=
  .next (s.withHw ((s.hw.sample e p i.word).setPass e q))

/-- R350: with sampling off, counting an instruction changes nothing. -/
def sampleOff : Prop := ∀ (h : Hw) (e w : Nat) (p : Pass), bitOf (h.cfg PC_CFG_FLAGS) 1 = false → h.sample e p w = h

/-- R239: NOP only moves the program counter. -/
def pNop : Prop := ∀ (s : State) (e n : Nat) (p : Pass), Issues s e .nop p n →
  exec (.pNop e) s = GoesOn s e .nop p { p with budget := n, pc := p.pc + 1 }

/-- R239: LDI writes IMM, LDIH the upper half of the register and keeps its lower half, EXTB the field of W bits at POS. -/
def pLoads : Prop := ∀ (s : State) (e n d imm rs pos w : Nat) (p : Pass),
  (Issues s e (.ldi d imm) p n → exec (.pLdi e d imm) s =
    GoesOn s e (.ldi d imm) p { p with budget := n, pc := p.pc + 1, g := p.g.set d imm }) ∧
  (Issues s e (.ldih d imm) p n → exec (.pLdih e d imm) s =
    GoesOn s e (.ldih d imm) p { p with budget := n, pc := p.pc + 1, g := p.g.set d (imm * 65536 + p.reg d % 65536) }) ∧
  (Issues s e (.extb d rs pos w) p n → exec (.pExtb e d rs pos w) s =
    GoesOn s e (.extb d rs pos w) p { p with budget := n, pc := p.pc + 1, g := p.g.set d ((p.reg rs >>> pos) % 2 ^ (w + 1)) })

/-- R239, R242: LD writes 1, 2 or 4 bytes at cursor + OFF, the first most significant, and sets END where they lie beyond L - F; one that
would reach window byte 256 raises DEPTH with cause WINDOW and no other effect. -/
def pLd : Prop := ∀ (s : State) (e n d sz off : Nat) (p : Pass), Issues s e (.ld d sz off) p n →
  (p.cursor + off + 2 ^ sz ≤ 256 → exec (.pLd e d sz off) s = GoesOn s e (.ld d sz off) p { p with
    budget := n, pc := p.pc + 1
    g := p.g.set d (beNat ((List.range (2 ^ sz)).map (fun k => p.byte (p.cursor + off + k))))
    fin := p.fin || decide (p.frame.bytes.length - p.frame.fcs < p.wbase + (p.cursor + off) + 2 ^ sz) }) ∧
  (256 < p.cursor + off + 2 ^ sz → exec (.pLd e d sz off) s = .next (s.withHw
    ((s.hw.sample e p (PInstr.ld d sz off).word).passDepth e { p with budget := n } PP_CNT_WINDOW)))

/-- R238, R242: a window byte beyond L - F reads as 0. -/
def pWindowByte : Prop := ∀ (p : Pass) (k : Nat),
  (p.frame.bytes.length - p.frame.fcs ≤ p.wbase + k → p.byte k = 0) ∧
  (p.wbase + k < p.frame.bytes.length - p.frame.fcs → p.byte k = p.frame.bytes.getD (p.wbase + k) 0)

/-- R240: ALU writes g[A] FN g[B] and ALUI g[A] FN IMM; neither changes a flag. -/
def pAlu : Prop := ∀ (s : State) (e n d a b fn imm : Nat) (p : Pass),
  (Issues s e (.alu d a b fn) p n → exec (.pAlu e d a b fn) s =
    GoesOn s e (.alu d a b fn) p { p with budget := n, pc := p.pc + 1, g := p.g.set d (aluFn fn (p.reg a) (p.reg b)) }) ∧
  (Issues s e (.alui d a fn imm) p n → exec (.pAlui e d a fn imm) s =
    GoesOn s e (.alui d a fn imm) p { p with budget := n, pc := p.pc + 1, g := p.g.set d (aluFn fn (p.reg a) imm) })

/-- R240: CMP and CMPI clear the three flags and set the one of EQ, LT and GT that the unsigned comparison gives. -/
def pCmp : Prop := ∀ (s : State) (e n a b imm : Nat) (p : Pass),
  (Issues s e (.cmp a b) p n → exec (.pCmp e a b) s = GoesOn s e (.cmp a b) p { p with
    budget := n, pc := p.pc + 1, eq := decide (p.reg a = p.reg b), lt := decide (p.reg a < p.reg b), gt := decide (p.reg b < p.reg a) }) ∧
  (Issues s e (.cmpi a imm) p n → exec (.pCmpi e a imm) s = GoesOn s e (.cmpi a imm) p { p with
    budget := n, pc := p.pc + 1, eq := decide (p.reg a = imm), lt := decide (p.reg a < imm), gt := decide (imm < p.reg a) })

/-- R239, Table 9-4: BF goes to TARGET where its condition holds, else to the next instruction. -/
def pBf : Prop := ∀ (s : State) (e n cond target : Nat) (p : Pass), Issues s e (.bf cond target) p n →
  exec (.pBf e cond target) s = GoesOn s e (.bf cond target) p { p with
    budget := n, pc := if condHolds cond p.eq p.lt p.gt p.fin then target else p.pc + 1 }

/-- R239, R242: ADV adds or sets IMM or g[S]; a cursor above 255 raises DEPTH with cause WINDOW instead. -/
def pAdv : Prop := ∀ (s : State) (e n mode rs imm c : Nat) (p : Pass), Issues s e (.adv mode rs imm) p n →
  c = (if mode < 2 then p.cursor else 0) + (if mode % 2 = 0 then imm else p.reg rs) →
  (c ≤ 255 → exec (.pAdv e mode rs imm) s = GoesOn s e (.adv mode rs imm) p { p with budget := n, pc := p.pc + 1, cursor := c }) ∧
  (255 < c → exec (.pAdv e mode rs imm) s = .next (s.withHw
    ((s.hw.sample e p (PInstr.adv mode rs imm).word).passDepth e { p with budget := n } PP_CNT_WINDOW)))

/-- R239, R242: MARK sets marker N to (WBASE + cursor, TYPE); N from 12 up raises DEPTH with cause MARKERS instead. -/
def pMark : Prop := ∀ (s : State) (e n k typ : Nat) (p : Pass), Issues s e (.mark k typ) p n →
  (k < 12 → exec (.pMark e k typ) s = GoesOn s e (.mark k typ) p { p with
    budget := n, pc := p.pc + 1, markers := p.markers.filter (fun m => m.1 != k) ++ [(k, p.wbase + p.cursor, typ)] }) ∧
  (12 ≤ k → exec (.pMark e k typ) s = .next (s.withHw
    ((s.hw.sample e p (PInstr.mark k typ).word).passDepth e { p with budget := n } PP_CNT_MARKERS)))

/-- R239, R242: KEY copies LEN bytes at cursor + OFF over the key buffer at KOFF, or raises DEPTH with cause WINDOW; KEYR writes the low
bytes of g[S] there, most significant first. -/
def pKeys : Prop := ∀ (s : State) (e n koff off len rs sz : Nat) (p : Pass),
  (Issues s e (.key koff off len) p n → p.cursor + off + (len + 1) ≤ 256 → exec (.pKey e koff off len) s =
    GoesOn s e (.key koff off len) p { p with
      budget := n, pc := p.pc + 1
      key := splice p.key koff ((List.range (len + 1)).map (fun k => p.byte (p.cursor + off + k)))
      fin := p.fin || decide (p.frame.bytes.length - p.frame.fcs < p.wbase + (p.cursor + off) + (len + 1)) }) ∧
  (Issues s e (.key koff off len) p n → 256 < p.cursor + off + (len + 1) → exec (.pKey e koff off len) s = .next (s.withHw
    ((s.hw.sample e p (PInstr.key koff off len).word).passDepth e { p with budget := n } PP_CNT_WINDOW))) ∧
  (Issues s e (.keyr koff rs sz) p n → exec (.pKeyr e koff rs sz) s = GoesOn s e (.keyr koff rs sz) p { p with
    budget := n, pc := p.pc + 1, key := splice p.key koff (beBytes (sz + 1) (p.reg rs)) })

/-- R243, R245, R251: HASH and LOOKUP issue and their results are awaited; no register, flag, key byte or metadata changes before
they arrive. -/
def pHashLookup : Prop := ∀ (s : State) (e n d c v6 tbl koff rs : Nat) (p : Pass),
  (Issues s e (.hash d c v6 koff) p n → exec (.pHash e d c v6 koff) s = GoesOn s e (.hash d c v6 koff) p { p with
    budget := n, pc := p.pc + 1
    awaits := p.awaits ++ [.hash d
      (crc32c ((s.hw.sample e p (PInstr.hash d c v6 koff).word).cfgFor p.frame.epoch PARSER_CFG_HASH_SEED)
        (canonTuple (v6 != 0) (slice p.key koff (if v6 = 0 then 13 else 37))).1)
      (if c = 0 then none else some (koff, canonTuple (v6 != 0) (slice p.key koff (if v6 = 0 then 13 else 37))))] }) ∧
  (Issues s e (.lookup d tbl koff rs) p n → exec (.pLookup e d tbl koff rs) s = GoesOn s e (.lookup d tbl koff rs) p { p with
    budget := n, pc := p.pc + 1
    awaits := p.awaits ++ [.lookup d (p.lookupKey tbl koff rs).1 (p.lookupKey tbl koff rs).2] })

/-- R245: the canonical tuple keeps its length and its protocol byte, and is the same for the two directions of a flow: swapping both
endpoints of a tuple does not change it. -/
def canonSymmetric : Prop := ∀ (a b p q pr : List Byte), a.length = 4 → b.length = 4 → p.length = 2 → q.length = 2 → pr.length = 1 →
  (canonTuple false (a ++ b ++ p ++ q ++ pr)).1 = (canonTuple false (b ++ a ++ q ++ p ++ pr)).1 ∧
  (canonTuple false (a ++ b ++ p ++ q ++ pr)).1.length = 13

/-- R245: with the seed 0xFFFF_FFFF the hash of the ASCII bytes "123456789" is 0xE306_9283. -/
def crcCheck : Prop := crc32c 0xFFFFFFFF [49, 50, 51, 52, 53, 54, 55, 56, 57] = 0xE3069283

/-- R243, R245: a hash's arrival writes its value to its register and, with C set, the canonical tuple to the key buffer and FLOW_DIR. -/
def hashResult : Prop := ∀ (s : State) (e d v : Nat) (p : Pass) (r : List Await), s.hw.Live rgPacket → s.hw.passAt? e = some p →
  (p.awaits = .hash d v none :: r → exec (.hashResult e d) s = .next (s.withHw
    (s.hw.setPass e { p with awaits := r, g := p.g.set d v }))) ∧
  (∀ koff t sw, p.awaits = .hash d v (some (koff, t, sw)) :: r → exec (.hashResult e d) s = .next (s.withHw
    (s.hw.setPass e { p with
      awaits := r, g := p.g.set d v, key := splice p.key koff t, mdata := p.mdata.set 11 (putBit (p.mdata.getD 11 0) 0 sw) }))) ∧
  (p.awaits = [] → exec (.hashResult e d) s = .next s)

/-- R240, R251, R252: a lookup that misses writes 0 to both registers and clears EQ, LT and GT; one that hits writes the two result
words and sets EQ alone, and in the flow table also FLOW. -/
def lookupResult : Prop := ∀ (s : State) (e d tbl : Nat) (p : Pass) (k : List Byte) (r : List Await), s.hw.Live rgPacket →
  s.hw.passAt? e = some p → p.awaits = .lookup d tbl k :: r →
  (s.hw.tableHit tbl p.frame.epoch k = none → ∀ err, exec (.lookupResult e d err) s = .next (s.withHw
    (s.hw.setPass e { p with
      awaits := r, g := (p.g.set d 0).set ((d + 1) % 8) 0, eq := false, lt := false, gt := false }))) ∧
  (∀ t, s.hw.tableHit tbl p.frame.epoch k = some t → tbl ≠ 0 → exec (.lookupResult e d false) s = .next (s.withHw
    (s.hw.setPass e { p with
      awaits := r, g := (p.g.set d t.r0).set ((d + 1) % 8) t.r1, eq := true, lt := false, gt := false }))) ∧
  (∀ t, s.hw.tableHit 0 p.frame.epoch k = some t → tbl = 0 → t.aux ≠ 1 → exec (.lookupResult e d false) s = .next (s.withHw
    (s.hw.setPass e { p with
      awaits := r, g := (p.g.set d t.r0).set ((d + 1) % 8) t.r1, eq := true, lt := false, gt := false, mdata := p.mdata.set 6 t.slot })))

/-- R239, Table 9-6: SETM and SETMI write the metadata field, of FLAGS only its three bits; GETM reads it. -/
def pMeta : Prop := ∀ (s : State) (e n d f rs imm : Nat) (p : Pass),
  (Issues s e (.setm f rs) p n → exec (.pSetm e f rs) s = GoesOn s e (.setm f rs) p { p with
    budget := n, pc := p.pc + 1, mdata := p.mdata.set f (if f = 11 then p.reg rs % 8 else p.reg rs % 65536) }) ∧
  (Issues s e (.setmi f imm) p n → exec (.pSetmi e f imm) s = GoesOn s e (.setmi f imm) p { p with
    budget := n, pc := p.pc + 1, mdata := p.mdata.set f (if f = 11 then imm % 8 else imm % 65536) }) ∧
  (Issues s e (.getm d f) p n → exec (.pGetm e d f) s = GoesOn s e (.getm d f) p { p with
    budget := n, pc := p.pc + 1, g := p.g.set d (p.mdata.getD f 0) })

/-- R249: LCHK below its minimum ends the pass with a conflict counted LESS; above its limit with one counted GREATER, or INNER in
mode 1; otherwise the pass goes on. -/
def pLchk : Prop := ∀ (s : State) (e n a mode b min lo : Nat) (hi : Int) (p : Pass) (h : Hw), Issues s e (.lchk a mode b min) p n →
  h = s.hw.sample e p (PInstr.lchk a mode b min).word → lo = (if mode = 2 then p.reg b else min) →
  hi = (if mode = 1 then ((p.reg b : Nat) : Int)
    else ((p.frame.bytes.length - p.frame.fcs : Nat) : Int) - ((p.wbase + p.cursor : Nat) : Int)) →
  (p.reg a < lo → exec (.pLchk e a mode b min) s = .next (s.withHw
    ((h.inc PP_CNT_LESS).endPass e { p with budget := n } (.lenConflict p.out)))) ∧
  (lo ≤ p.reg a → hi < (p.reg a : Int) → exec (.pLchk e a mode b min) s = .next (s.withHw
    ((h.inc (if mode = 1 then PP_CNT_INNER else PP_CNT_GREATER)).endPass e { p with budget := n } (.lenConflict p.out)))) ∧
  (lo ≤ p.reg a → (p.reg a : Int) ≤ hi → exec (.pLchk e a mode b min) s =
    GoesOn s e (.lchk a mode b min) p { p with budget := n, pc := p.pc + 1 })

/-- R247: FWD with a valid destination ends the pass with the verdict FORWARD; with DEST 0 and no queue, or a destination that the rule
names as bad, the frame goes to class PROGRAM and the cause is counted. -/
def pFwd : Prop := ∀ (s : State) (e n q d : Nat) (p : Pass) (h : Hw), Issues s e .fwd p n → h = s.hw.sample e p PInstr.fwd.word →
  p.mdata.getD 0 0 = q → p.mdata.getD 1 0 = d →
  (d = 0 → q = 0xFFFF → exec (.pFwd e) s = .next (s.withHw
    ((h.inc PP_CNT_NO_DEST).endPass e { p with budget := n } (.except p.out 0 0)))) ∧
  ((2 ≤ d ∨ (d = 0 ∧ q ≠ 0xFFFF ∧ 1088 ≤ q % 4096) ∨ (d = 1 ∧ (p.frame.src = 128 ∨ p.frame.src = 129)) ∨
      (d = 1 ∧ p.mdata.getD 2 0 / 2 ^ 14 % 4 = 3)) → exec (.pFwd e) s = .next (s.withHw
    ((h.inc PP_CNT_BAD_DEST).endPass e { p with budget := n } (.except p.out 0 1)))) ∧
  ((d = 0 ∧ q % 4096 < 1088) ∨ (d = 1 ∧ p.frame.src ≠ 128 ∧ p.frame.src ≠ 129 ∧ p.mdata.getD 2 0 / 2 ^ 14 % 4 ≠ 3) →
    exec (.pFwd e) s = .next (s.withHw (h.endPass e { p with budget := n } (.forward p.out))))

/-- R247, R256: EXC ends the pass with the exception of its class, DROP with the drop of its reason. -/
def pVerdicts : Prop := ∀ (s : State) (e n k : Nat) (p : Pass),
  (Issues s e (.exc k) p n → exec (.pExc e k) s = .next (s.withHw
    ((s.hw.sample e p (PInstr.exc k).word).endPass e { p with budget := n } (.except p.out k 0)))) ∧
  (Issues s e (.drop k) p n → exec (.pDrop e k) s = .next (s.withHw
    ((s.hw.sample e p (PInstr.drop k).word).endPass e { p with budget := n } (.drop p.out (some k)))))

/-- R242, R250: RECIRC in a first pass sends the frame for its second, with WADV moving the window to the cursor; in a second pass it
raises DEPTH with cause PASSES. -/
def pRecirc : Prop := ∀ (s : State) (e n wadv entry : Nat) (p : Pass), Issues s e (.recirc wadv entry) p n →
  (p.second = false → exec (.pRecirc e wadv entry) s = .next (s.withHw
    ((s.hw.sample e p (PInstr.recirc wadv entry).word).passRecirc e { p with budget := n } (wadv != 0) entry))) ∧
  (p.second = true → exec (.pRecirc e wadv entry) s = .next (s.withHw
    ((s.hw.sample e p (PInstr.recirc wadv entry).word).passDepth e { p with budget := n } PP_CNT_PASSES)))

/-- R242: the 257th instruction of a pass, whichever it is, is not executed: it raises DEPTH with cause BUDGET. -/
def pBudget : Prop := ∀ (h : Hw) (e : Nat) (i : PInstr) (p : Pass), h.passAt? e = some p → h.canExec p i = true → p.budget = 0 →
  h.parser e i = h.passDepth e p PP_CNT_BUDGET

/-- R248: at DEPTH the cause is counted; with a handler that does not run already the engine goes on there with a budget of 32 and
PARTIAL set, else the frame goes to class DEPTH. -/
def pDepth : Prop := ∀ (h : Hw) (e : Nat) (p : Pass) (c : Fld), c.reg = .PP_CNT →
  (h.entryOf p.frame.epoch 5 ≠ 0xFFFF → p.handler = false → h.passDepth e p c =
    (h.inc c).setPass e { p with
      handler := true, budget := 32, pc := h.entryOf p.frame.epoch 5, mdata := p.mdata.set 11 (putBit (p.mdata.getD 11 0) 2 true) }) ∧
  (h.entryOf p.frame.epoch 5 = 0xFFFF ∨ p.handler = true → h.passDepth e p c = (h.inc c).endPass e p (.except p.out 1 0))

/-- R246: until its verdict a pass has no effect but on itself: an instruction that lets it go on leaves every register but the
sampling's counters, and every part of the block but the passes and the sampling, as it was. -/
def passPrivate : Prop := ∀ (h : Hw) (e n : Nat) (i : PInstr) (p q : Pass), h.passAt? e = some p → h.canExec p i = true → p.budget = n + 1 →
  bitOf (h.cfg PC_CFG_FLAGS) 1 = false → h.execP { p with budget := n } i = .go q →
  h.parser e i = { h with pk := { h.pk with passes := store h.pk.passes e q } }

/-- R240: no instruction but CMP, CMPI and a lookup's result changes EQ, LT or GT, and END once set stays set. -/
def flagsKept : Prop := ∀ (h : Hw) (p q : Pass) (i : PInstr), h.execP p i = .go q →
  ((∀ a b, i ≠ .cmp a b) → (∀ a m, i ≠ .cmpi a m) → q.eq = p.eq ∧ q.lt = p.lt ∧ q.gt = p.gt) ∧ (p.fin = true → q.fin = true)

/-- R240: ALU and ALUI results are below 2^32 for 32-bit operands, ADD and SUB wrap, and a comparison sets exactly one flag. -/
def aluWraps : Prop := ∀ (fn a b : Nat), a < 2 ^ 32 → b < 2 ^ 32 →
  aluFn fn a b < 2 ^ 32 ∧ aluFn 0 a b = (a + b) % 2 ^ 32 ∧ (aluFn 1 a b + b) % 2 ^ 32 = a ∧
  aluFn 5 a b = a * 2 ^ (b % 32) % 2 ^ 32 ∧ aluFn 6 a b = a / 2 ^ (b % 32) ∧ aluFn 7 a b = b ∧
  (cmpFlags a b = (true, false, false) ∨ cmpFlags a b = (false, true, false) ∨ cmpFlags a b = (false, false, true))

/-- Table 9-3, R239, R258: every instruction whose fields are in their widths is read back from its word, which is a 32-bit word. -/
def parserRoundTrip : Prop := ∀ (i : PInstr), i.wf = true → pDecode i.word = some i ∧ i.word < 2 ^ 32

/-- R239: a word is the word of the instruction that it spells, so no two instructions share one and no bit is ignored. -/
def parserWordUnique : Prop := ∀ (w : Nat) (i : PInstr), pDecode w = some i → i.word = w

/-- R239: a word of 32 bits with an opcode from 0x18 up spells no instruction. -/
def parserReserved : Prop := ∀ (w : Nat), w < 2 ^ 32 → 0x18 ≤ w / 2 ^ 27 → pDecode w = none

/-- R258: no word stands in a program that branches or recirculates at or beyond its number of instructions. -/
def parserTargets : Prop := ∀ (count w : Nat) (i : PInstr) (t : Nat), pWordOk count w = true → pDecode w = some i → i.target? = some t → t < count

/-! ### Admission and queues (chapter 10) -/

/-- R262: a frame that the policer drops, or whose source is over its limit, enters no queue; any other is charged to its source and
goes where its metadata say. -/
def admission : Prop := ∀ (h g : Hw) (f f' : Frame),
  (h.chargePolicer f = (g, none) → h.takeIn f = g.bufFree f) ∧
  (h.chargePolicer f = (g, some f') → g.overLimit f' = true → 128 ≤ f'.src → h.takeIn f = (g.inc TM_ING_DROP_DROPS f'.src).bufFree f') ∧
  (h.chargePolicer f = (g, some f') → g.overLimit f' = false → h.takeIn f = (g.charge f').toDest f')

/-- R262, R263, R268: the first of port down, tail and drop-precedence limit that refuses a frame counts it; a frame below every
limit is admitted. -/
def queueLimits : Prop := ∀ (h : Hw) (q : Nat) (f : Frame),
  (q < 1024 → h.portFlushes (q / 8) = true → h.queueRefuses q f = some TM_Q_CNT_DOWN_DROP) ∧
  ((1024 ≤ q ∨ h.portFlushes (q / 8) = false) →
    (h.cfg TM_QUEUE_QLIMIT q * 1024 ≤ h.fill q → h.queueRefuses q f = some TM_Q_CNT_TAIL_DROP) ∧
    (h.fill q < h.cfg TM_QUEUE_QLIMIT q * 1024 → f.dp = false → h.queueRefuses q f = none) ∧
    (h.fill q < h.cfg TM_QUEUE_QLIMIT q * 1024 → f.dp = true → h.queueRefuses q f =
      if h.cfg TM_QUEUE_DP_LIMIT q * 1024 ≤ h.fill q then some TM_Q_CNT_DP_DROP else none))

/-- R262, R263: an admitted frame stands at the tail of its queue with the microtick's stamp, behind the frames that were there, and no
other queue changes. -/
def tailLinked : Prop := ∀ (h : Hw) (q : Nat) (f : Frame),
  ((h.linkTail q f).queueAt q).frames = (h.queueAt q).frames ++ [{ f with stamp := h.stampNow }] ∧
  (∀ r, r ≠ q → (h.linkTail q f).queueAt r = h.queueAt r) ∧
  SameFields [TM_Q_STATUS_FILL.key q 0, TM_Q_STATUS_FRAMES.key q 0, TM_Q_STATUS_PROMOTED.key q 0] h (h.linkTail q f)

/-- R265: a queue without a frame, or whose shaper has a credit below 0, is not eligible. -/
def eligibility : Prop := ∀ (h : Hw) (q : Nat),
  ((h.queueAt q).frames = [] → h.eligible q = false) ∧
  (h.cfg TM_QUEUE_SHAPER q ≠ 0xFFFF → look h.pk.credits (h.cfg TM_QUEUE_SHAPER q) 0 < 0 → h.eligible q = false)

/-- R265: where the node selects nothing, a drawer's request changes nothing; a port's selected frame goes to the tail of its transmit
buffer, and a host-bound one waits for its receive ring. -/
def schedulerSelect : Prop := ∀ (s : State) (n : Nat), s.hw.Live rgPacket → n ≤ 128 →
  (s.hw.nodeSelect n = none → exec (.schedulerSelect n) s = .next s) ∧
  (∀ q f h, s.hw.nodeSelect n = some (q, f, h) → n < 128 → bitOf (f.md 7) 15 = false →
    exec (.schedulerSelect n) s = .next (s.withHw (h.setPort n (fun p => { p with tx := p.tx ++ [f] })))) ∧
  (∀ q f h, s.hw.nodeSelect n = some (q, f, h) → n = 128 →
    exec (.schedulerSelect n) s = .next (s.withHw { h with toHost := h.toHost ++ [(64 + (q - 1024), f)] }))

/-- R324, Table 12-20, note (a): a selected frame that names an enabled transmit channel of its port waits for its cipher work; with any
other channel it is dropped and counted in NOSA. -/
def securedEgress : Prop := ∀ (h : Hw) (n : Nat) (f : Frame) (k : Nat), bitOf (f.md 7) 15 = true → k = bits (f.md 7) 0 13 →
  (2048 ≤ k → h.toEgress n f = (h.inc CX_SC_CNT_NOSA 0).freed f) ∧
  (k < 2048 → (bitOf (h.cfgFor f.epoch CX_SC_FLAGS k) 0 = false ∨ bitOf (h.cfgFor f.epoch CX_SC_FLAGS k) 1 = true ∨
    h.cfgFor f.epoch CX_SC_PORT k ≠ n) → h.toEgress n f = (h.inc CX_SC_CNT_NOSA k).freed f) ∧
  (k < 2048 → bitOf (h.cfgFor f.epoch CX_SC_FLAGS k) 0 = true → bitOf (h.cfgFor f.epoch CX_SC_FLAGS k) 1 = false →
    h.cfgFor f.epoch CX_SC_PORT k = n → h.toEgress n f =
      { h with ks := { h.ks with waits := h.ks.waits ++ [{ stream := 32 + k, frame := f }] } })

/-- R265: a node whose shaper has a credit below 0 selects nothing. -/
def nodeStopped : Prop := ∀ (h : Hw) (n : Nat), n ≤ 128 → h.cfg TM_PORT_SHAPER n ≠ 0xFFFF → look h.pk.credits (h.cfg TM_PORT_SHAPER n) 0 < 0 →
  h.nodeSelect n = none

/-- R266, R272: in a window of 16 that is kept as the counts say, with a normal queue always eligible, a time-critical frame is taken
only while fewer than 8 were, and at least 2 of the 16 stay for normal queues. -/
def windowShares : Prop := ∀ (a b : Arb) (tc urg : Bool) (c : Nat), a.n < 16 → a.n = a.tc + a.urg + a.nor → 2 ≤ a.nor + (16 - a.n) →
  a.pick tc urg true = some (c, b) →
  (c = 0 → tc = true ∧ a.tc < 8) ∧ (c = 1 → urg = true ∧ (a.urg < 6 ∨ tc = false)) ∧
  b.n < 16 ∧ b.n = b.tc + b.urg + b.nor ∧ 2 ≤ b.nor + (16 - b.n)

/-- R266: a node passes over its share of a level that has nothing to send: something is selected whenever some level waits. -/
def windowPassesOn : Prop := ∀ (a : Arb) (tc urg nor : Bool), (tc || urg || nor) = true → (a.pick tc urg nor).isSome = true

/-- R270: a disabled policer is green and charges nothing; red charges nothing, yellow the peak bucket only, green both. -/
def policerColours : Prop := ∀ (h : Hw) (p c k : Nat) (f : Frame), h.bucketsOf p = (c, k) → bitOf (h.cfg TM_POLICER_FLAGS p) 0 = true →
  (k < f.len * 65536 → h.police p f = (2, h)) ∧
  (f.len * 65536 ≤ k → c < f.len * 65536 → (h.police p f).1 = 1 ∧ (h.police p f).2.bucketsOf p = (c, k - f.len * 65536)) ∧
  (f.len * 65536 ≤ k → f.len * 65536 ≤ c → (h.police p f).1 = 0 ∧ (h.police p f).2.bucketsOf p = (c - f.len * 65536, k - f.len * 65536))

/-- R269: a refill raises no credit above BURST. -/
def refillBounded : Prop := ∀ (h : Hw) (x : Nat), (x ∈ h.pk.credits.map Prod.fst ∨ x ∈ instances h.ep.cur .TM_SHAPER) →
  look h.refillShapers.pk.credits x 0 ≤ ((h.cfg TM_SHAPER_BURST x * 65536 : Nat) : Int) ∧
  (h.refillShapers).regs = h.regs

/-- R273: staging takes frames while the staged bytes lie below the slot's size; at or above it, it takes none. -/
def stagingFill : Prop := ∀ (s : State) (k : Nat), s.hw.Live rgPacket →
  exec (.stagingFill k) s = .next (s.withHw (s.hw.stagingFill k (s.hw.nodeDepth (129 + k)))) ∧
  (s.hw.stageSize k ≤ stagedBytes (s.hw.stageAt k) → exec (.stagingFill k) s = .next s) ∧
  (∀ n, stagedBytes (s.hw.stageAt k) < s.hw.stageSize k → s.hw.nodeSelect (129 + k) = none → s.hw.stagingFill k n = s.hw)

/-! ### Homing groups, recovery and the bridge (chapter 7) -/

/-- R203: RETURN_MS after RETURN began, the frames that still wait on O are moved ahead of the FIFO and the group drains towards H;
before that, and in any other state, the event changes nothing. -/
def returnTimeout : Prop := ∀ (s : State) (g d : Nat), s.hw.Live rgPacket → (look s.hw.pk.groups g {}).due = some d →
  exec (.returnTimeout g) s = .next (s.withHw
    (if s.hw.rd TM_HOME_STATUS_STATE g = 3 ∧ d < s.hw.clk.ut then
       (((s.hw.moveFrames g (1 - s.hw.groupHome g)).setGroup g 1 (s.hw.groupHome g)).setPk (fun p => { p with groups := store p.groups g {} }))
     else s.hw))

/-- R203: a draining group whose FIFO is empty is HOME where its target is its home, else AWAY; with a frame in the FIFO it stays. -/
def fifoEmpty : Prop := ∀ (s : State) (g : Nat), s.hw.Live rgPacket → s.hw.rd TM_HOME_STATUS_STATE g = 1 →
  ((s.hw.fifoAt g).frames ≠ [] → exec (.fifoEmpty g) s = .next s) ∧
  ((s.hw.fifoAt g).frames = [] → ∃ h, exec (.fifoEmpty g) s = .next (s.withHw h) ∧
    h.rd TM_HOME_STATUS_STATE g = (if s.hw.rd TM_HOME_STATUS_TARGET g = s.hw.groupHome g then 0 else 2) ∧
    SameFields [TM_HOME_STATUS_STATE.key g 0, TM_HOME_STATUS_TARGET.key g 0] s.hw h)

/-- R203: Table 7-2 where the home fails: the group's frames move to the bridge, and it drains towards the other attachment where
that is healthy, else it is HELD; with a healthy home nothing changes. -/
def homingHome : Prop := ∀ (h : Hw) (g : Nat), h.rd TM_HOME_STATUS_STATE g = 0 →
  (h.groupHealthy g (h.groupHome g) = true → h.homingStep g = h) ∧
  (h.groupHealthy g (h.groupHome g) = false → h.groupHealthy g (1 - h.groupHome g) = true →
    h.homingStep g = (h.moveFrames g (h.groupHome g)).setGroup g 1 (1 - h.groupHome g)) ∧
  (h.groupHealthy g (h.groupHome g) = false → h.groupHealthy g (1 - h.groupHome g) = false →
    h.homingStep g = (h.moveFrames g (h.groupHome g)).setGroup g 4 (h.groupHome g))

/-- R208: FIFO 16 drains first wherever it holds a frame and an attachment is healthy; with no FIFO to drain nothing changes. -/
def bridgeDrain : Prop := ∀ (s : State), s.hw.Live rgPacket →
  (s.hw.drainPick = none → exec .bridgeDrain s = .next s) ∧
  (∀ f a, s.hw.drainPick = some (f, a) → exec .bridgeDrain s = .next (s.withHw
    (if f = 16 then s.hw.drainFifo f a (s.hw.fifoAt f).frames.length
     else (s.hw.drainFifo f a (s.hw.fifoAt f).frames.length).setPk (fun p => { p with drainAt := (f + 1) % 16 })))) ∧
  ((s.hw.fifoAt 16).frames ≠ [] → s.hw.rd LN_ATT_HEALTH_FAILED 0 = 0 → s.hw.drainPick = some (16, 0))

/-- R206: a frame of L bytes takes 64 bytes for each begun 64 of L + 32. -/
def bridgeSpace : Prop := ∀ (f : Frame), 64 ∣ bridgeSize f ∧ f.len + 32 ≤ bridgeSize f ∧ bridgeSize f < f.len + 32 + 64

/-- R200: a stream's recovery is reset when its timer is over, and is left alone before that. -/
def frerResetTimeout : Prop := ∀ (s : State) (r : Nat), s.hw.Live rgPacket →
  (∀ d, (look s.hw.pk.rcv r {}).due = some d → exec (.frerResetTimeout r) s = .next (s.withHw (if d < s.hw.clk.ut then s.hw.rcvReset r else s.hw))) ∧
  ((look s.hw.pk.rcv r {}).due = none → exec (.frerResetTimeout r) s = .next s)

/-- R197: the tag put on a critical frame has the EtherType 0xF1C1 and the sequence number in its last two octets, and is 6 octets long. -/
def rTagLayout : Prop := ∀ (n : Nat), (rTag n).length = 6 ∧ beNat (slice (rTag n) 0 2) = 0xF1C1 ∧ beNat (slice (rTag n) 4 2) = n % 65536

/-! ### Pools and memory (chapter 11) -/

/-- R296: a pointer outside every pool is RANGE, one off a buffer's start ALIGN, one of a free buffer DOUBLE_FREE, one of another owner
NOT_OWNER, in this order, and only a pointer that passes them all names its buffer. -/
def pointerChecks : Prop := ∀ (h : Hw) (ptr tag p o : Nat),
  (h.poolOf ptr = none → h.bufCheck ptr tag = .error stRange) ∧
  (h.poolOf ptr = some p → o = ptr - h.cfg BM_POOL_BASE p →
    (o % h.poolSize p ≠ 0 → h.bufCheck ptr tag = .error stAlign) ∧
    (o % h.poolSize p = 0 → (h.poolAt p).tags.find? (fun x => x.1 == o / h.poolSize p) = none → h.bufCheck ptr tag = .error stDoubleFree) ∧
    (∀ x, o % h.poolSize p = 0 → (h.poolAt p).tags.find? (fun x => x.1 == o / h.poolSize p) = some x →
      h.bufCheck ptr tag = if x.2 = tag then .ok (p, o / h.poolSize p) else .error stNotOwner))

/-- R296, R297: a free that a check rejects changes no pool: it is counted and written to BM_REJ_LAST. -/
def rejectedFree : Prop := ∀ (h : Hw) (ptr tag st : Nat), h.bufCheck ptr tag = .error st →
  (h.bufFreePtr ptr tag).2 = st ∧ (h.bufFreePtr ptr tag).1.mem.pools = h.mem.pools ∧
  (h.bufFreePtr ptr tag).1.rd BM_REJ_LAST_PTR = ptr % 2 ^ BM_REJ_LAST_PTR.width ∧
  (h.bufFreePtr ptr tag).1.rd BM_REJ_LAST_SOURCE = tag % 2 ^ BM_REJ_LAST_SOURCE.width ∧
  (h.bufFreePtr ptr tag).1.rd BM_REJ_LAST_STATUS = st % 2 ^ BM_REJ_LAST_STATUS.width

/-- R294: a buffer handed out lies in the pool, was not allocated before, and then carries its owner's tag. -/
def allocFresh : Prop := ∀ (h t : Hw) (p tag n k : Nat), h.poolTake p tag n = (some k, t) →
  k < h.poolCount p ∧ (∀ x ∈ (h.poolAt p).tags, x.1 ≠ k) ∧ (t.poolAt p).tags = (k, tag) :: (h.poolAt p).tags

/-- Table 11-7, R292: POOL_ALLOC of no or more than 32 buffers, or of a pool that does not admit the host, is refused with RANGE; with
MEMORY stopped it is refused as gated; none changes a pool. -/
def poolAllocRefused : Prop := ∀ (s : State) (hd : CmdHdr) (pool count size list : Nat), s.hw.Ready hd →
  ((s.hw.cmdTake hd).runs rgMemory = false → exec (.poolAlloc hd pool count size list) s = .next (s.withHw
    ((s.hw.cmdTake hd).complete hd.compl (cmdAnswer hd stGatedCode 0 0)))) ∧
  ((s.hw.cmdTake hd).runs rgMemory = true → (count = 0 ∨ 32 < count ∨ (pool ≠ 0xFF ∧ 15 < pool)) →
    exec (.poolAlloc hd pool count size list) s = .next (s.withHw
      ((s.hw.cmdTake hd).complete hd.compl (cmdAnswer hd stRange 0 0))))

/-- Table 11-7, R292, R294: POOL_ALLOC of one pool hands the host's ring the buffers that the pool has, writes their pointers to the
list and completes with their number; where it gets none it completes BUSY. -/
def poolAlloc : Prop := ∀ (s : State) (hd : CmdHdr) (pool count size list : Nat) (l : List Nat) (h : Hw), s.hw.Ready hd →
  (s.hw.cmdTake hd).runs rgMemory = true → 0 < count → count ≤ 32 → pool ≤ 15 → (s.hw.cmdTake hd).poolOn pool = true →
  bitOf ((s.hw.cmdTake hd).cfg BM_POOL_FLAGS pool) useHost = true → (s.hw.cmdTake hd).poolTakeN pool (tagRing hd.ring) count = (l, h) →
  exec (.poolAlloc hd pool count size list) s = .next (s.withHw
    (if l = [] then h.complete hd.compl (cmdAnswer hd stBusy 0 0)
     else (h.emit (.hostWrite list (l.flatMap (leBytes 8)))).complete hd.compl (cmdAnswer hd stOk 0 l.length)))

/-- Table 11-7, R296: POOL_FREE of one pointer frees the buffer and completes OK where the checks pass, and completes with the check's
status and mask 1 where one fails. -/
def poolFree : Prop := ∀ (s : State) (hd : CmdHdr) (ptr st : Nat) (h : Hw), s.hw.Ready hd → (s.hw.cmdTake hd).runs rgMemory = true →
  (s.hw.cmdTake hd).bufFreePtr (ptr % 2 ^ 40) (tagRing hd.ring) = (h, st) →
  exec (.poolFree hd [ptr]) s = .next (s.withHw
    (h.complete hd.compl (if st = stOk then cmdAnswer hd stOk 0 0 else cmdAnswer hd st 0 1)))

/-- R295, R296: POOL_XFER by the owner replaces the tag of that buffer alone; by another it is rejected with the check's status. -/
def poolXfer : Prop := ∀ (s : State) (hd : CmdHdr) (tag ptr : Nat) (h : Hw), s.hw.Ready hd → h = s.hw.cmdTake hd → h.runs rgMemory = true →
  tagValid tag = true →
  (∀ p k, h.bufCheck (ptr % 2 ^ 40) (tagRing hd.ring) = .ok (p, k) → exec (.poolXfer hd tag ptr) s = .next (s.withHw
    ((h.setPool p { h.poolAt p with tags := (h.poolAt p).tags.map (fun x => if x.1 = k then (k, tag) else x) }).complete hd.compl
      (cmdAnswer hd stOk 0 0)))) ∧
  (∀ st, h.bufCheck (ptr % 2 ^ 40) (tagRing hd.ring) = .error st → exec (.poolXfer hd tag ptr) s = .next (s.withHw
    ((h.bufReject (ptr % 2 ^ 40) (tagRing hd.ring) st).complete hd.compl (cmdAnswer hd st 0 0))))

/-- R291: when all pointers of a pool are written FILLING is 0; nothing else changes. -/
def poolFillDone : Prop := ∀ (s : State) (p : Nat), s.hw.Live rgMemory →
  exec (.poolFillDone p) s = .next (s.withHw (s.hw.wr BM_POOL_STATUS_FILLING 0 p))

/-- R288: MEM_REPAIR of an active channel with a healthy spare and no migration begins the migration and completes later; without a
spare or during a migration it completes BUSY, and for a channel that is not active RANGE. -/
def memRepair : Prop := ∀ (s : State) (hd : CmdHdr) (c : Nat) (rows : List Nat) (h : Hw), s.hw.Ready hd → h = s.hw.cmdTake hd →
  h.runs rgMemory = true → rows.length ≤ 4 →
  (h.chState c ≠ chActive → exec (.memRepair hd c rows) s = .next (s.withHw (h.complete hd.compl (cmdAnswer hd stRange 0 0)))) ∧
  (c ≤ 7 → h.chState c = chActive → (h.mem.migr.isSome = true ∨ h.spareCh = none) →
    exec (.memRepair hd c rows) s = .next (s.withHw (h.complete hd.compl (cmdAnswer hd stBusy 0 0)))) ∧
  (∀ d, c ≤ 7 → h.chState c = chActive → h.mem.migr = none → h.spareCh = some d → ∃ t, exec (.memRepair hd c rows) s = .next (s.withHw t) ∧
    t.mem.migr = some { src := c, dst := d, cmd := some (hd.ring, hd.cmdId, rows.length) } ∧ t.mem.pools = h.mem.pools ∧
    t.host.opens.length = h.host.opens.length + 1)

/-- R287: the end of the copy is kept, and the switch waits for the tick boundary: no register changes. -/
def migrationComplete : Prop := ∀ (s : State), s.hw.Live rgMemory →
  exec .migrationComplete s = .next (s.withHw
    { s.hw with mem := { s.hw.mem with migr := s.hw.mem.migr.map (fun g => { g with done := true }) } })

/-- R287, R283: at the switch the spare takes the source's place among the active channels, and with it the source's poisoned
sectors. -/
def migrationSwitch : Prop := ∀ (h : Hw) (g : Migr), h.mem.migr = some g → g.done = true → g.repair = false →
  h.memTick.mem.places = h.mem.places.map (fun c => if c = g.src then g.dst else c) ∧
  h.memTick.mem.migr = (if g.cmd.isSome then some { g with repair := true } else none)

/-- R288: at the end of a repair no migration is in progress and the command is completed; without a repair the event changes
nothing. -/
def memRepairDone : Prop := ∀ (s : State) (ok : Bool), s.hw.Live rgMemory →
  (s.hw.mem.migr = none → exec (.memRepairDone ok) s = .next s) ∧
  (∀ g x, s.hw.mem.migr = some g → g.cmd = some x → ∃ t, exec (.memRepairDone ok) s = .next (s.withHw t) ∧ t.mem.migr = none ∧
    t.mem.places = s.hw.mem.places ∧ t.mem.pools = s.hw.mem.pools)

/-- R282: without drift no channel changes; with drift on channels that can retrain none does either. -/
def zqRecal : Prop := ∀ (s : State) (d : Nat), s.hw.Live rgMemory →
  exec (.zqRecal 0 d) s = .next s ∧ exec (.zqRecal d 0) s = .next s

/-- R284, R285: the scrubber reads the next sector: a poisoned one is counted in POISON_RD, a clean one in nothing, a corrected one in
CORR; and passes to the following sector. -/
def patrolScrub : Prop := ∀ (s : State) (row c x : Nat), s.hw.Live rgMemory → 0 < s.hw.sectors → s.hw.sectorAt s.hw.mem.scrubAt = (c, x) →
  (s.hw.mem.poison.contains (c, x) = true → ∀ o, exec (.patrolScrub row o) s = .next (s.withHw
    ((s.hw.inc BM_ECC_CNT_POISON_RD c).setMem (fun m => { m with scrubAt := (m.scrubAt + 1) % (s.hw.inc BM_ECC_CNT_POISON_RD c).sectors })))) ∧
  (s.hw.mem.poison.contains (c, x) = false →
    exec (.patrolScrub row 0) s = .next (s.withHw (s.hw.setMem (fun m => { m with scrubAt := (m.scrubAt + 1) % s.hw.sectors }))) ∧
    exec (.patrolScrub row 1) s = .next (s.withHw
      ((s.hw.inc BM_ECC_CNT_CORR c).setMem (fun m => { m with scrubAt := (m.scrubAt + 1) % (s.hw.inc BM_ECC_CNT_CORR c).sectors }))))

/-! ### Cipher lanes, key store and MACsec (chapter 12) -/

/-- R306, R314, Table 12-10: with the store locked every key and SA command but none of its effect completes as gated. -/
def lockedStore : Prop := ∀ (s : State) (hd : CmdHdr) (h : Hw) (a b c d e : Nat) (blob : List Byte), s.hw.Ready hd → h = s.hw.cmdTake hd →
  h.rd CX_KS_STATUS_ALARM ≠ 0 →
  (∀ i ∈ [Instr.keyLoad hd a b c d e blob, .keyGen hd a b c d, .keyExport hd a b c d, .keyErase hd a b, .keyZeroise hd,
      .dkekProvision hd a b c, .saInstall hd a b c d e 0, .saSwitch hd a b, .saRead hd a b, .saRetire hd a b],
    exec i s = .next (s.withHw (h.complete hd.compl (cmdAnswer hd stGatedCode 0 0))))

/-- R306: a key command on a slot that an active attachment owns completes CONFLICT naming it, and changes no slot. -/
def ownedSlot : Prop := ∀ (h : Hw) (s a : Nat) (f : Hw → Hw × Ans), h.rd CX_KS_STATUS_ALARM = 0 → s < 8192 → h.slotOwner s = some a →
  h.onSlot s f = (h, .fail stConflict (keyConflict a s))

/-- R311, R312: KEY_GEN of a free slot on which no work holds it writes a fresh key of the type's length, counts the generation up and
completes with it; without a healthy TRNG it completes BUSY, and with a code out of its table RANGE. -/
def keyGen : Prop := ∀ (s : State) (hd : CmdHdr) (slot typ use flags : Nat) (h : Hw), s.hw.Ready hd → h = s.hw.cmdTake hd →
  h.rd CX_KS_STATUS_ALARM = 0 → slot < 8192 → h.slotOwner slot = none →
  ((2 ≤ typ ∨ 32 ≤ use ∨ 2 ≤ flags) → exec (.keyGen hd slot typ use flags) s = .next (s.withHw
    (h.complete hd.compl (cmdAnswer hd stRange 0 0)))) ∧
  (typ < 2 → use < 32 → flags < 2 → h.rd CX_KS_STATUS_TRNG_OK = 0 → exec (.keyGen hd slot typ use flags) s = .next (s.withHw
    (h.complete hd.compl (cmdAnswer hd stBusy 0 0)))) ∧
  (typ < 2 → use < 32 → flags < 2 → h.rd CX_KS_STATUS_TRNG_OK ≠ 0 → h.rd CX_SLOT_ATTR_STATE slot = 0 →
    ∃ t, exec (.keyGen hd slot typ use flags) s = .next (s.withHw t) ∧ t.rd CX_SLOT_ATTR_STATE slot = 1 ∧
      t.rd CX_SLOT_ATTR_TYPE slot = typ ∧ t.rd CX_SLOT_ATTR_USE slot = use ∧
      t.rd CX_SLOT_ATTR_GEN slot = (h.rd CX_SLOT_ATTR_GEN slot + 1) % 2 ^ CX_SLOT_ATTR_GEN.width ∧
      (∀ x, x ≠ slot → look t.ks.keys x 0 = look h.ks.keys x 0))

/-- R311, Table 12-6: KEY_LOAD at an address off a multiple of 8 completes ALIGN, with a length other than 32 and 48 RANGE, without its
wrapping key KEY_ABSENT; none changes a slot. -/
def keyLoadRefused : Prop := ∀ (s : State) (hd : CmdHdr) (slot wrap ks len addr : Nat) (b : List Byte) (h : Hw), s.hw.Ready hd →
  h = s.hw.cmdTake hd → h.rd CX_KS_STATUS_ALARM = 0 → slot < 8192 → h.slotOwner slot = none →
  (addr % 8 ≠ 0 → exec (.keyLoad hd slot wrap ks len addr b) s = .next (s.withHw (h.complete hd.compl (cmdAnswer hd stAlign 0 0)))) ∧
  (addr % 8 = 0 → len ≠ 32 → len ≠ 48 → exec (.keyLoad hd slot wrap ks len addr b) s = .next (s.withHw
    (h.complete hd.compl (cmdAnswer hd stRange 0 0)))) ∧
  (addr % 8 = 0 → (len = 32 ∨ len = 48) → wrap = 0 → h.rd CX_KS_STATUS_DKEK_VALID = 0 → exec (.keyLoad hd slot wrap ks len addr b) s =
    .next (s.withHw (h.complete hd.compl (cmdAnswer hd stKeyAbsent 0 0))))

/-- R307, R311: KEY_LOAD of a 32-byte blob that unwraps to a 128-bit key puts that key into the slot and completes with the new
generation; one that does not completes RANGE and changes no slot. What unwrapping gives is the cipher standards' and stays open here
(log entry 9, DESIGN CHOICE). -/
def keyLoad : Prop := ∀ (s : State) (hd : CmdHdr) (slot ks addr : Nat) (b : List Byte) (h : Hw) (args : List Nat) (pt : List Byte),
  s.hw.Ready hd → h = s.hw.cmdTake hd → h.rd CX_KS_STATUS_ALARM = 0 → slot < 8192 → h.slotOwner slot = none → addr % 8 = 0 →
  h.rd CX_KS_STATUS_DKEK_VALID ≠ 0 → h.rd CX_SLOT_ATTR_STATE slot = 0 → args = h.ks.dkek :: b.map (fun x => x.toNat) →
  pt = Config.cipherBytes 1 args →
  ∃ t, exec (.keyLoad hd slot 0 ks 32 addr b) s = .next (s.withHw t) ∧
    if Config.cipherOk 1 args = true ∧ (pt.getD 0 0).toNat = 0 ∧ (pt.getD 1 0).toNat < 32 ∧ (pt.getD 2 0).toNat < 2 then
      look t.ks.keys slot 0 = beNat (slice pt 8 16) ∧ t.rd CX_SLOT_ATTR_STATE slot = 1 ∧ t.rd CX_SLOT_ATTR_TYPE slot = 0 ∧
      t.rd CX_SLOT_ATTR_GEN slot = (h.rd CX_SLOT_ATTR_GEN slot + 1) % 2 ^ CX_SLOT_ATTR_GEN.width
    else t = h.complete hd.compl (cmdAnswer hd stRange 0 0)

/-- R311: KEY_EXPORT of a VALID exportable slot writes the wrapped key to the host and changes no slot; a slot that is not exportable is
refused with RANGE. -/
def keyExport : Prop := ∀ (s : State) (hd : CmdHdr) (slot ks dest : Nat) (h : Hw), s.hw.Ready hd → h = s.hw.cmdTake hd →
  h.rd CX_KS_STATUS_ALARM = 0 → slot < 8192 → h.slotOwner slot = none → dest % 8 = 0 →
  (h.rd CX_SLOT_ATTR_EXPORTABLE slot = 0 → exec (.keyExport hd slot 0 ks dest) s = .next (s.withHw
    (h.complete hd.compl (cmdAnswer hd stRange 0 0)))) ∧
  (h.rd CX_SLOT_ATTR_EXPORTABLE slot ≠ 0 → h.rd CX_SLOT_ATTR_STATE slot = 1 → h.rd CX_KS_STATUS_DKEK_VALID ≠ 0 →
    ∃ w, exec (.keyExport hd slot 0 ks dest) s = .next (s.withHw
      ((h.emit (.hostWrite dest w)).complete hd.compl (cmdAnswer hd stOk 0 (h.rd CX_SLOT_ATTR_GEN slot)))))

/-- R308: KEY_ERASE of a range beyond slot 8,191, or of none, completes RANGE; of a VALID slot on which no work runs it zeroises
the key and leaves the slot EMPTY with its generation, and no other slot changes. -/
def keyErase : Prop := ∀ (s : State) (hd : CmdHdr) (slot count : Nat) (h : Hw), s.hw.Ready hd → h = s.hw.cmdTake hd →
  h.rd CX_KS_STATUS_ALARM = 0 →
  ((count = 0 ∨ 8192 < slot + count) → exec (.keyErase hd slot count) s = .next (s.withHw (h.complete hd.compl (cmdAnswer hd stRange 0 0)))) ∧
  (slot < 8192 → h.rd LN_ATT_STATUS_STATE 0 = 0 → h.rd LN_ATT_STATUS_STATE 1 = 0 → h.rd CX_SLOT_ATTR_STATE slot = 1 →
    h.workOn slot (h.slotGen slot) = false → h.ks.held = [] → ∃ t, exec (.keyErase hd slot 1) s = .next (s.withHw t) ∧
      t.rd CX_SLOT_ATTR_STATE slot = 0 ∧ look t.ks.keys slot 0 = 0 ∧ t.rd CX_SLOT_ATTR_GEN slot = h.rd CX_SLOT_ATTR_GEN slot ∧
      (∀ x, x ≠ slot → t.rd CX_SLOT_ATTR_STATE x = h.rd CX_SLOT_ATTR_STATE x ∧ look t.ks.keys x 0 = look h.ks.keys x 0))

/-- Table 12-5: an erase of a VALID slot on which no work runs zeroises its key and makes it EMPTY at once; with work in progress it is
ERASE_PENDING and keeps its key for that work. -/
def slotErased : Prop := ∀ (h : Hw) (x : Nat), h.rd CX_SLOT_ATTR_STATE x = 1 →
  (h.workOn x (h.slotGen x) = false → (h.slotErase x).rd CX_SLOT_ATTR_STATE x = 0 ∧ look (h.slotErase x).ks.keys x 0 = 0) ∧
  (h.workOn x (h.slotGen x) = true → (h.slotErase x).rd CX_SLOT_ATTR_STATE x = 2 ∧ (h.slotErase x).ks.keys = h.ks.keys) ∧
  (h.slotErase x).rd CX_SLOT_ATTR_GEN x = h.rd CX_SLOT_ATTR_GEN x

/-- R314: after a zeroisation no key, shadow, work or DKEK is left, every slot is EMPTY without attributes and keeps its generation,
the store is locked and the cause is shown. -/
def zeroised : Prop := ∀ (h : Hw) (c : Nat), c < 2 ^ CX_KS_STATUS_CAUSE.width →
  (h.zeroise c).ks.keys = [] ∧ (h.zeroise c).ks.shadows = [] ∧ (h.zeroise c).ks.works = [] ∧ (h.zeroise c).ks.dkek = 0 ∧
  (h.zeroise c).rd CX_KS_STATUS_ALARM = 1 ∧ (h.zeroise c).rd CX_KS_STATUS_CAUSE = c ∧ (h.zeroise c).rd CX_KS_STATUS_DKEK_VALID = 0 ∧
  (∀ x, (h.zeroise c).rd CX_SLOT_ATTR_STATE x = 0 ∧ (h.zeroise c).rd CX_SLOT_ATTR_USE x = 0 ∧
    (h.zeroise c).rd CX_SLOT_ATTR_GEN x = h.rd CX_SLOT_ATTR_GEN x)

/-- R314: KEY_ZEROISE zeroises with cause 5 and completes OK. -/
def keyZeroise : Prop := ∀ (s : State) (hd : CmdHdr), s.hw.Ready hd → (s.hw.cmdTake hd).rd CX_KS_STATUS_ALARM = 0 →
  exec (.keyZeroise hd) s = .next (s.withHw (((s.hw.cmdTake hd).zeroise 5).complete hd.compl (cmdAnswer hd stOk 0 0)))

/-- R314: the register write with ZEROISE zeroises with cause 5; without it nothing happens. -/
def ksZeroise : Prop := ∀ (s : State) (v : Nat), s.hw.Open (regBlock .CX_KS_CTRL 0 0) →
  exec (.cxKsZeroise v) s = .next (s.withHw (if bitOf v 1 then s.hw.zeroise 5 else s.hw))

/-- R314: a sensor that leaves its window zeroises with its cause, 2 to 4. -/
def zeroiseSensor : Prop := ∀ (s : State) (c : Nat), s.hw.Live rgFawn → 2 ≤ c → c ≤ 4 →
  exec (.zeroiseSensor c) s = .next (s.withHw (s.hw.zeroise c))

/-- R314: ALARM_CLR unlocks the store once a sensor's cause has ended, and reloads the DKEK of the boot image where it has one; while
the cause lasts it changes nothing. -/
def alarmClr : Prop := ∀ (s : State) (v : Nat), s.hw.Open (regBlock .CX_KS_CTRL 0 0) → bitOf v 0 = true →
  s.hw.rd CX_KS_STATUS_ALARM ≠ 0 →
  (2 ≤ s.hw.rd CX_KS_STATUS_CAUSE → s.hw.rd CX_KS_STATUS_CAUSE ≤ 4 → exec (.alarmClr v false) s = .next s) ∧
  (s.hw.rd CX_KS_STATUS_CAUSE ≠ 6 → s.hw.ks.imageDkek = none → exec (.alarmClr v true) s = .next (s.withHw
    ((s.hw.wr CX_KS_STATUS_ALARM 0).wr CX_KS_STATUS_CAUSE 0))) ∧
  (∀ k, s.hw.rd CX_KS_STATUS_CAUSE ≠ 6 → s.hw.ks.imageDkek = some k → ∃ t, exec (.alarmClr v true) s = .next (s.withHw t) ∧
    t.ks.dkek = k ∧ t.rd CX_KS_STATUS_DKEK_VALID = 1 ∧ t.rd CX_KS_STATUS_ALARM = 0)

/-- R310: DKEK_PROVISION without a valid DKEK takes the key, writes its wrapped form to the host and completes OK; with one it completes
CONFLICT and keeps it. -/
def dkekProvision : Prop := ∀ (s : State) (hd : CmdHdr) (src dest key : Nat) (h : Hw), s.hw.Ready hd → h = s.hw.cmdTake hd →
  h.rd CX_KS_STATUS_ALARM = 0 → src % 8 = 0 → dest % 8 = 0 →
  (h.rd CX_KS_STATUS_DKEK_VALID ≠ 0 → exec (.dkekProvision hd src dest key) s = .next (s.withHw
    (h.complete hd.compl (cmdAnswer hd stConflict 0 0)))) ∧
  (h.rd CX_KS_STATUS_DKEK_VALID = 0 → ∃ w, exec (.dkekProvision hd src dest key) s = .next (s.withHw
    (((({ h with ks := { h.ks with dkek := key } } : Hw).wr CX_KS_STATUS_DKEK_VALID 1).emit (.hostWrite dest w)).complete hd.compl
      (cmdAnswer hd stOk 0 0))))

/-- R312: a failed health test clears TRNG_OK and records MAJOR, a passed one sets it. -/
def trngHealth : Prop := ∀ (s : State), s.hw.Live rgFawn →
  exec .trngHealthFail s = .next (s.withHw ((s.hw.wr CX_KS_STATUS_TRNG_OK 0).recordOther sevMajor 0x5040 3)) ∧
  exec .trngHealthPass s = .next (s.withHw (s.hw.wr CX_KS_STATUS_TRNG_OK 1))

/-- R307, R309, R317, R320: the oldest waiting frame of a downstream stream leaves the queue and is counted where its slot is not VALID;
else it is bound to the slot's generation and the lane that serves its path, with as many octets, and waits where no lane is free. -/
def downWork : Prop := ∀ (s : State) (wid st port key fid : Nat) (x : CipherWait), s.hw.Live rgPacket → st < 10 →
  s.hw.ks.waits.find? (fun y => y.stream == st) = some x →
  (s.hw.rd CX_SLOT_ATTR_STATE x.slot ≠ 1 → exec (.cipherWorkIssue wid st port key fid) s = .next (s.withHw
    (((s.hw.unwait x).inc CX_LANE_CNT_KEY_ABSENT).inc CX_PON_CNT_DS_KEY_ABSENT (x.frame.src - 128)))) ∧
  (s.hw.rd CX_SLOT_ATTR_STATE x.slot = 1 → s.hw.pickLane (s.hw.streamPath st) = none → exec (.cipherWorkIssue wid st port key fid) s = .next s) ∧
  (∀ l, s.hw.rd CX_SLOT_ATTR_STATE x.slot = 1 → s.hw.pickLane (s.hw.streamPath st) = some l →
    ∃ t f, exec (.cipherWorkIssue wid st port key fid) s = .next (s.withHw t) ∧ SameFields [] s.hw t ∧ t.ks.waits = s.hw.ks.waits.erase x ∧
      f.bytes.length = x.frame.bytes.length ∧ t.ks.works = s.hw.ks.works ++ [⟨wid, s.hw.streamPath st, st, x.slot,
        s.hw.rd CX_SLOT_ATTR_GEN x.slot, l, false, false, none, some f, true, false⟩])

/-- R319, R320: an upstream frame of a port that is not encrypted needs no work. A staged frame without a usable key leaves its staging
area and is counted in US_KEY_ABSENT; one with a key is bound to slot base + k − 1 and stays staged. -/
def upWork : Prop := ∀ (s : State) (wid u port key fid k : Nat) (x : StageSt), s.hw.Live rgPacket → u < 4 →
  (s.hw.upEnc (u / 2) port = false → exec (.cipherWorkIssue wid (16 + u) port key fid) s = .next s) ∧
  (s.hw.upEnc (u / 2) port = true →
    s.hw.pk.stages.find? (fun y => y.1 / 64 == u / 2 && y.2.frames.any (fun z => z.2.id == fid)) = some (k, x) →
    (key = 0 → ∃ t, exec (.cipherWorkIssue wid (16 + u) port key fid) s = .next (s.withHw t) ∧
      (t.stageAt k).frames = x.frames.filter (fun z => z.2.id != fid) ∧
      t.rd CX_PON_CNT_US_KEY_ABSENT (u / 2) = satNat CX_PON_CNT_US_KEY_ABSENT.width (s.hw.rd CX_PON_CNT_US_KEY_ABSENT (u / 2) + 1)) ∧
    (∀ l, 0 < key → s.hw.rd CX_SLOT_ATTR_STATE (8 * s.hw.rd LN_ATT_CTRL_KEY_BASE (u / 2) + (key - 1)) = 1 → s.hw.pickLane 2 = some l →
      ∃ t w, exec (.cipherWorkIssue wid (16 + u) port key fid) s = .next (s.withHw t) ∧ SameFields [] s.hw t ∧
        t.ks.works = s.hw.ks.works ++ [w] ∧ w.slot = 8 * s.hw.rd LN_ATT_CTRL_KEY_BASE (u / 2) + (key - 1) ∧ w.lane = l ∧ t.pk = s.hw.pk))

/-- R302: a path's work goes to a free lane of its home cluster before any of the next. -/
def homeFirst : Prop := ∀ (h : Hw) (path l n : Nat), h.pickLane path = some l → n < 16 → h.laneFree (16 * homeCluster path + n) = true →
  l / 16 = homeCluster path

/-- R324, R325: the oldest waiting frame of a transmit channel takes the packet number of its current SA, which counts up by one, and
grows by its SecTAG and ICV; its user data stay as they are where the channel does not encrypt. -/
def macsecNumber : Prop := ∀ (s : State) (wid port key fid k an l : Nat) (x : CipherWait) (a : SaSt), s.hw.Live rgPacket → k < 2048 →
  s.hw.ks.waits.find? (fun y => y.stream == 32 + k) = some x → s.hw.scFlag k 1 = false → 12 ≤ x.frame.edited.length →
  x.frame.edited.length + 4 + s.hw.secExpand k ≤ min (s.hw.cfg PF_PORT_MAX_FRAME (s.hw.cfg CX_SC_PORT k)) 9728 →
  (s.hw.scAt k).cur = some an → (s.hw.scAt k).sa an = some a → a.pn ≤ s.hw.pnLast k → s.hw.rd CX_SLOT_ATTR_STATE a.slot = 1 →
  s.hw.pickLane (s.hw.streamPath (32 + k)) = some l → a.pn ≠ s.hw.cfg CX_SC_PN_THR k → s.hw.scFlag k 6 = false →
  ∃ t f, exec (.cipherWorkIssue wid (32 + k) port key fid) s = .next (s.withHw t) ∧ SameFields [] s.hw t ∧
    (t.scAt k).sa an = some { a with pn := a.pn + 1 } ∧ t.ks.waits = s.hw.ks.waits.erase x ∧
    t.ks.works = s.hw.ks.works ++ [⟨wid, s.hw.streamPath (32 + k), 32 + k, a.slot, s.hw.rd CX_SLOT_ATTR_GEN a.slot, l, false, false,
      some (k, an, a.pn), some f, true, false⟩] ∧
    f.bytes.length = x.frame.edited.length + s.hw.secExpand k ∧ f.bytes.take 12 = x.frame.edited.take 12 ∧
    (s.hw.scFlag k 2 = false → slice f.bytes (s.hw.secExpand k - 4) (x.frame.edited.length - 12) = x.frame.edited.drop 12)

/-- R321 to R323: a received frame with a SecTAG that matches no channel is dropped and counted in NOSC, with a match it waits for its
cipher work; one without is dropped and counted in UNTAGGED on a port whose receive channel is Strict, but for EAPOL. -/
def secEntry : Prop := ∀ (h : Hw) (n : Nat) (f : Frame),
  (beNat (slice f.bytes 12 2) = 0x88E5 → h.rxChan n f = none → h.secEnter n f = h.inc CX_PORT_CNT_NOSC n) ∧
  (∀ k, beNat (slice f.bytes 12 2) = 0x88E5 → h.rxChan n f = some k →
    h.secEnter n f = { h with ks := { h.ks with waits := h.ks.waits ++ [{ stream := 32 + k, frame := f }] } }) ∧
  (beNat (slice f.bytes 12 2) = 0x888E → h.secEnter n f = h.enterFirst f) ∧
  (∀ k ∈ h.rxChans f.epoch n, beNat (slice f.bytes 12 2) ≠ 0x88E5 → beNat (slice f.bytes 12 2) ≠ 0x888E →
    h.cfgFor f.epoch CX_SC_VALIDATE k = 2 → h.secEnter n f = h.inc CX_PORT_CNT_UNTAGGED n)

/-- R322: the channel that a received frame matches is an enabled receive channel of its port, with the SCI of the SecTAG, or IMPLICIT
where the SecTAG carries none. -/
def rxChannel : Prop := ∀ (h : Hw) (n k : Nat) (f : Frame), h.rxChan n f = some k →
  bitOf (h.cfgFor f.epoch CX_SC_FLAGS k) 0 = true ∧ bitOf (h.cfgFor f.epoch CX_SC_FLAGS k) 1 = true ∧ h.cfgFor f.epoch CX_SC_PORT k = n ∧
  (∀ x, (secTag f).sci = some x → netOrder 8 (h.cfgFor f.epoch CX_SC_SCI k) = x) ∧
  ((secTag f).sci = none → bitOf (h.cfgFor f.epoch CX_SC_FLAGS k) 5 = true)

/-- R323, with IEEE 802.1AE for the window (log entry 82, PRESUMED): a frame whose ICV fails is counted in NOT_VALID, and dropped unless
the channel only checks and its data came in the clear; one below the lowest acceptable number is LATE under replay protection; a valid
one is accepted, and the window follows it. -/
def rxRelease : Prop := ∀ (h : Hw) (w : CipherWork) (k an pn : Nat) (f : Frame) (a : SaSt),
  (w.icv = false → h.cfg CX_SC_VALIDATE k = 2 → h.releaseRx w k an pn f = h.inc CX_SC_CNT_NOT_VALID k) ∧
  (w.icv = false → h.cfg CX_SC_VALIDATE k = 1 → w.clear = true → h.releaseRx w k an pn f = (h.inc CX_SC_CNT_NOT_VALID k).enterFirst f) ∧
  (w.icv = true → (h.scAt k).sa an = some a → h.scFlag k 4 = true → pn < a.pn → h.releaseRx w k an pn f = h.inc CX_SC_CNT_LATE k) ∧
  (w.icv = true → (h.scAt k).sa an = some a → (h.scFlag k 4 = false ∨ a.pn ≤ pn) → ∃ g, h.releaseRx w k an pn f = g.enterFirst f ∧
    (g.scAt k).sa an = some { a with seen := max a.seen (pn + 1), pn := max a.pn (max a.seen (pn + 1) - h.cfg CX_SC_REPLAY_WIN k) } ∧
    SameFields [CX_SC_CNT_OK.key k 0] h g)

/-- R303: a frame that passed the check is done and leaves once the older ones of its stream have; an unknown work changes nothing. -/
def frameDone : Prop := ∀ (s : State) (wid : Nat), s.hw.Live rgPacket →
  (s.hw.ks.works.find? (fun w => w.wid == wid && !w.done) = none → ∀ ok, exec (.cipherFrameDone wid ok) s = .next s) ∧
  (∀ w, s.hw.ks.works.find? (fun w => w.wid == wid && !w.done) = some w → ∃ h,
    h = { s.hw with ks := { s.hw.ks with works := s.hw.ks.works.map (fun x => if x = w then { w with done := true } else x) } } ∧
    exec (.cipherFrameDone wid true) s = .next (s.withHw ((h.releaseStream w.stream h.ks.works.length).ksSettle)))

/-- R303: a mismatch takes its lane out of service, counts and records it. -/
def laneMismatched : Prop := ∀ (h : Hw) (l : Nat), l < 128 → bitOf ((h.laneMismatch l).rd CX_LANE_STATUS_IN_SERVICE) l = false

/-- R308: work that still runs a tick after its slot was rewritten is abandoned and counted in STALE_GEN, and the old key is let go. -/
def staleGen : Prop := ∀ (s : State) (x : Shadow), s.hw.Live rgPacket → s.hw.ks.shadows = [x] → x.since + 80 ≤ s.hw.clk.ut →
  s.hw.ks.erasing = [] → s.hw.ks.held = [] → s.hw.ks.erases = [] →
  ∃ t, exec (.staleGenTimeout x.slot) s = .next (s.withHw t) ∧ t.ks.shadows = [] ∧
    (∀ w ∈ t.ks.works, w.slot = x.slot → w.gen = x.gen → w.done = true) ∧
    (∀ w ∈ s.hw.ks.works, (w.slot ≠ x.slot ∨ w.gen ≠ x.gen) → w ∈ t.ks.works) ∧
    t.rd CX_LANE_CNT_STALE_GEN = satNat CX_LANE_CNT_STALE_GEN.width (s.hw.rd CX_LANE_CNT_STALE_GEN +
      (s.hw.ks.works.filter (fun w => w.slot == x.slot && !w.done && x.gen == w.gen)).length)

/-- R306, R322: SA_INSTALL on an enabled transmit channel, without that SA, with a VALID slot of the suite's type for MACsec, installs
it and completes with the generation; an SA that is installed already gives CONFLICT. -/
def saInstall : Prop := ∀ (s : State) (hd : CmdHdr) (k an slot pn ssci salt : Nat) (h : Hw), s.hw.Ready hd → h = s.hw.cmdTake hd →
  h.rd CX_KS_STATUS_ALARM = 0 → k < 2048 → an < 4 → slot < 8192 → h.scFlag k 0 = true → 0 < pn → pn ≤ h.pnLast k → h.slotOwner slot = none →
  (((h.scAt k).sa an).isSome = true → exec (.saInstall hd k an slot pn ssci salt) s = .next (s.withHw
    (h.complete hd.compl (cmdAnswer hd stConflict 0 0)))) ∧
  (((h.scAt k).sa an) = none → h.rd CX_SLOT_ATTR_STATE slot = 1 → h.rd CX_SLOT_ATTR_TYPE slot = suiteType (h.cfg CX_SC_SUITE k) →
    bitOf (h.rd CX_SLOT_ATTR_USE slot) 1 = true → exec (.saInstall hd k an slot pn ssci salt) s = .next (s.withHw
      ((h.setSc k (fun c => { c with sas := store c.sas an { slot := slot, pn := pn, seen := pn, ssci := ssci, salt := salt } })).complete hd.compl
        (cmdAnswer hd stOk 0 (h.rd CX_SLOT_ATTR_GEN slot)))))

/-- R326: SA_SWITCH to an installed SA is taken and completes at the tick boundary; to one that is not installed it gives CONFLICT,
and while another switch waits BUSY. -/
def saSwitch : Prop := ∀ (s : State) (hd : CmdHdr) (k an : Nat) (h : Hw), s.hw.Ready hd → h = s.hw.cmdTake hd →
  h.rd CX_KS_STATUS_ALARM = 0 → k < 2048 → an < 4 → h.scFlag k 1 = false →
  ((h.scAt k).sa an = none → exec (.saSwitch hd k an) s = .next (s.withHw (h.complete hd.compl (cmdAnswer hd stConflict 0 0)))) ∧
  (((h.scAt k).sa an).isSome = true → (h.scAt k).next = none → ∃ t, exec (.saSwitch hd k an) s = .next (s.withHw t) ∧
    (t.scAt k).next = some (an, some (hd.ring, hd.cmdId)) ∧ (t.scAt k).cur = (h.scAt k).cur ∧ SameFields [] h t)

/-- R326: SA_READ gives the packet number and generation of an installed SA and changes nothing; of another it completes RANGE. -/
def saRead : Prop := ∀ (s : State) (hd : CmdHdr) (k an : Nat) (h : Hw), s.hw.Ready hd → h = s.hw.cmdTake hd → h.rd CX_KS_STATUS_ALARM = 0 →
  ((h.scAt k).sa an = none → exec (.saRead hd k an) s = .next (s.withHw (h.complete hd.compl (cmdAnswer hd stRange 0 0)))) ∧
  (∀ x, k < 2048 → an < 4 → (h.scAt k).sa an = some x → exec (.saRead hd k an) s = .next (s.withHw
    (h.complete hd.compl (cmdAnswer hd stOk 0 (x.pn % 2 ^ 48 + h.rd CX_SLOT_ATTR_GEN x.slot % 2 ^ 16 * 2 ^ 48)))))

/-- R322: SA_RETIRE removes an installed SA; the current SA of a transmit channel it refuses with CONFLICT. -/
def saRetire : Prop := ∀ (s : State) (hd : CmdHdr) (k an : Nat) (x : SaSt) (h : Hw), s.hw.Ready hd → h = s.hw.cmdTake hd →
  h.rd CX_KS_STATUS_ALARM = 0 → k < 2048 → an < 4 → (h.scAt k).sa an = some x →
  (h.scFlag k 1 = false → (h.scAt k).cur = some an → exec (.saRetire hd k an) s = .next (s.withHw
    (h.complete hd.compl (cmdAnswer hd stConflict 0 0)))) ∧
  ((h.scAt k).cur ≠ some an → ∃ t, exec (.saRetire hd k an) s = .next (s.withHw t) ∧ (t.scAt k).sa an = none ∧ (t.scAt k).cur = (h.scAt k).cur)

/-! ### Dispatcher, service cores and mailboxes (chapter 13) -/

/-- R328, R336: an item enters the tail of a list that has room for its kind; at a full list it is dropped and counted, and the list
stays. -/
def listTakesItem : Prop := ∀ (h : Hw) (l : Nat) (it : Item),
  ((h.listAt l).length < h.listRoom l it.work → (h.enqueue l it).2 = true ∧ (h.enqueue l it).1.listAt l = h.listAt l ++ [it]) ∧
  (h.listRoom l it.work ≤ (h.listAt l).length → (h.enqueue l it).2 = false ∧ (h.enqueue l it).1.listAt l = h.listAt l ∧
    ((h.enqueue l it).1.statAt l).drops = (h.statAt l).drops + 1)

/-- R336: a list's back-pressure begins above BP_ON, ends at BP_OFF, and between the two stays as it was. -/
def listPressure : Prop := ∀ (h : Hw) (l : Nat) (x : List Item), h.cfg SV_DISPATCH_BP_OFF 0 l ≤ h.cfg SV_DISPATCH_BP_ON 0 l →
  (h.cfg SV_DISPATCH_BP_ON 0 l < x.length → ((h.setList l x).statAt l).bp = true) ∧
  (x.length ≤ h.cfg SV_DISPATCH_BP_OFF 0 l → ((h.setList l x).statAt l).bp = false) ∧
  (h.cfg SV_DISPATCH_BP_OFF 0 l < x.length → x.length ≤ h.cfg SV_DISPATCH_BP_ON 0 l →
    ((h.setList l x).statAt l).bp = (h.statAt l).bp) ∧ (h.setList l x).listAt l = x

/-- R329, R332: with no eligible item, with the unit occupied or the release buffer full, a selection dispatches nothing; the full
buffer is counted. -/
def dispatchNothing : Prop := ∀ (s : State) (u w : Nat), s.hw.runs rgControl = true →
  (s.hw.unitFree u = false → exec (.dispatchSelect u w) s = .next s) ∧
  (s.hw.unitFree u = true → s.hw.releaseRoom (if u < 48 then 0 else 1) = false →
    exec (.dispatchSelect u w) s = .next (s.withHw (s.hw.inc SV_DISP_CNT_RELEASE_FULL))) ∧
  (s.hw.unitFree u = true → s.hw.releaseRoom (if u < 48 then 0 else 1) = true → s.hw.pickItem (if u < 48 then 0 else 1) u = none →
    exec (.dispatchSelect u w) s = .next s)

/-- R329, R332, R295: the item that the selector gives leaves its list for the unit; an engine begins its pass and a core becomes its
buffer's owner. -/
def dispatchSelect : Prop := ∀ (s : State) (u w : Nat) (i : Item) (h : Hw), s.hw.runs rgControl = true → s.hw.unitFree u = true →
  s.hw.releaseRoom (if u < 48 then 0 else 1) = true → s.hw.takeItem u w = some (i, h) →
  exec (.dispatchSelect u w) s = .next (s.withHw (if u < 48 then h.beginPass u i else h.workMove i.work (tagCore (u - 48)))) ∧
  (∀ x ∈ h.listAt i.list, x.id ≠ i.id) ∧ (u, i) ∈ h.pk.svc ∧ i.since = s.hw.clk.ut

/-- R331: no item of an atomic tag is eligible while another of that tag is in service. -/
def atomicTag : Prop := ∀ (h : Hw) (u v : Nat) (i j : Item), h.atomic i.tag = true → (v, j) ∈ h.pk.svc → j.tag = i.tag → h.itemOk u i = false

/-- R332: a release waits while an older item of its tag is not released: nothing but its place among the waiting changes. -/
def releaseOrder : Prop := ∀ (h : Hw) (g id : Nat) (it : Item) (v : Verdict) (r : List Nat), h.orderOf it.tag = id :: r → id ≠ it.id →
  h.pk.waits.any (fun w => w.1 == id) = false →
  h.release g it v = h.setPk (fun p => { p with waits := p.waits ++ [(it.id, g, v)] })

/-- R340: a core's item within its tick changes nothing; after more than a tick it is dispatched again and the core is taken out. -/
def coreItemTimeout : Prop := ∀ (s : State) (k u : Nat) (i : Item), s.hw.Live rgControl →
  s.hw.pk.svc.find? (fun x => x.1 == 48 + k) = some (u, i) →
  exec (.coreItemTimeout k) s = .next (s.withHw (if i.since + 80 < s.hw.clk.ut then (s.hw.againItem (48 + k)).coreFail k else s.hw))

/-- R340, Table 13-3: a failed core is QUARANTINED without a role and the lowest spare takes its roles. -/
def coreFailed : Prop := ∀ (h : Hw) (k x : Nat) (l : List Nat), k < 16 → ((h.setCore k 5 0).quarantine (0x7010 + k) k).coresIn 3 = x :: l →
  (h.coreFail k).rd SV_CORE_STATUS_STATE k = 5 ∧ (h.coreFail k).rd SV_CORE_STATUS_ROLE k = 0 ∧ (h.coreFail k).rd SV_CORE_STATUS_STATE x = 2 ∧
  (h.coreFail k).rd SV_CORE_STATUS_ROLE x = h.rd SV_CORE_STATUS_ROLE k % 2 ^ SV_CORE_STATUS_ROLE.width

/-- R332, R295: a core's output ends its service, gives its buffer back to PACKET and releases the item: to the pool manager, a queue,
a host ring or its second pass, as the output says; without an item in service nothing happens. -/
def coreRelease : Prop := ∀ (s : State) (k d u : Nat) (i : Item) (f : Frame), s.hw.Live rgControl →
  s.hw.pk.svc.find? (fun x => x.1 == 48 + k) = some (u, i) → i.work.frame? = some f →
  (∀ h, h = (s.hw.endService (48 + k)).workMove i.work tagPacket →
    exec (.coreRelease k 0 d) s = .next (s.withHw (h.release 1 i (.done (some f)))) ∧
    exec (.coreRelease k 1 d) s = .next (s.withHw (h.release 1 i (.queue f d))) ∧
    exec (.coreRelease k 3 d) s = .next (s.withHw (h.release 1 i (.reinject f))))

/-- R341: PING completes with its first 8 bytes and FW_INFO with the version and security version in force; neither changes more. -/
def mailboxInfo : Prop := ∀ (s : State) (hd : CmdHdr) (d : List Byte), s.hw.Ready hd →
  exec (.ping hd d) s = .next (s.withHw ((s.hw.cmdTake hd).complete hd.compl (cmdAnswer hd stOk 0 (leNat (slice d 0 8))))) ∧
  exec (.fwInfo hd) s = .next (s.withHw ((s.hw.cmdTake hd).complete hd.compl
    (cmdAnswer hd stOk 0 (s.hw.rd SV_FW_STATUS_FW_VERSION + s.hw.pk.fwSec * 2 ^ 32))))

/-- R97: OMCI_REFUSE answers the held request device busy and completes OK; a request that is not held has no answer. -/
def omciRefuse : Prop := ∀ (s : State) (hd : CmdHdr) (a tci : Nat), s.hw.Ready hd →
  exec (.omciRefuse hd a tci) s = .next (s.withHw (((s.hw.cmdTake hd).omciAnswer a tci omciBusy).complete hd.compl (cmdAnswer hd stOk 0 0))) ∧
  (s.hw.actAt a).omci.any (fun x => x.1 == tci) = (s.hw.cmdTake hd |>.actAt a).omci.any (fun x => x.1 == tci)

/-- R341, R369: a mailbox type that is not known completes UNSUPPORTED and changes nothing else. -/
def mboxUnknown : Prop := ∀ (s : State) (hd : CmdHdr) (k : Nat), s.hw.Ready hd →
  exec (.mboxUnknownType hd k) s = .next (s.withHw ((s.hw.cmdTake hd).complete hd.compl (cmdAnswer hd stUnsupported 0 0)))

/-- R370: a command whose opcode is none of Table 14-6 completes with UNSUPPORTED and has no effect but its completion. -/
def unsupportedOpcode : Prop :=
  (∀ (hd : CmdHdr) (op : Nat), (Instr.unsupportedOpcode hd op).wf = true → op ∉ [0x01, 0x02, 0x03, 0x04, 0x05, 0x10, 0x11, 0x12, 0x13, 0x14,
    0x15, 0x20, 0x21, 0x22, 0x23, 0x30, 0x31, 0x32, 0x33, 0x34, 0x35, 0x38, 0x39, 0x3A, 0x3B]) ∧
  (∀ (s : State) (hd : CmdHdr) (op : Nat), s.hw.Ready hd →
    exec (.unsupportedOpcode hd op) s = .next (s.withHw ((s.hw.cmdTake hd).complete hd.compl (cmdAnswer hd stUnsupported 0 0))))

/-- R342, R343: FW_UPDATE with a spare core and a whole, accepted image begins the update, sets UPDATING and completes later; during an
update or without a spare it completes BUSY; an image that a check rejects completes with that check's status and reason. -/
def fwUpdate : Prop := ∀ (s : State) (hd : CmdHdr) (addr : Nat) (img : List Byte) (ok : Bool) (h : Hw), s.hw.Ready hd → h = s.hw.cmdTake hd →
  (h.pk.fwUp ≠ none → exec (.fwUpdate hd addr img ok) s = .next (s.withHw (h.complete hd.compl (cmdAnswer hd stBusy 0 0)))) ∧
  (∀ x l, h.pk.fwUp = none → h.coresIn 3 = x :: l → addr % 64 = 0 →
    (∀ st r, h.fwCheck img ok = some (st, r) → exec (.fwUpdate hd addr img ok) s = .next (s.withHw (h.complete hd.compl (cmdAnswer hd st r 0)))) ∧
    (h.fwCheck img ok = none → ∃ t u, exec (.fwUpdate hd addr img ok) s = .next (s.withHw t) ∧ t.rd SV_FW_STATUS_UPDATING = 1 ∧
      t.pk.fwUp = some u ∧ u.todo = h.coresIn 2 ∧ u.spare = x ∧ t.host.opens.length = h.host.opens.length + 1))

/-- R342: an image whose security version lies below MIN_SEC_VER is rejected with reason 3, whatever its signature. -/
def fwRollback : Prop := ∀ (h : Hw) (img : List Byte) (ok : Bool), leNat (slice img 0 4) = 0x4E564944 → leNat (slice img 4 2) = 1 →
  leNat (slice img 16 4) ≤ 196608 → leNat (slice img 16 4) % 64 = 0 → leNat (slice img 24 2) ≤ h.rd ID_REV_MAJOR * 256 + h.rd ID_REV_MINOR →
  leNat (slice img 12 4) < h.rd SV_FW_STATUS_MIN_SEC_VER → h.fwCheck img ok = some (stRange, 3)

/-- R343: a swap gives the next core's roles to the spare, and that core becomes the spare; after the last one the new version is in
force and UPDATING is 0; without an update the event changes nothing. -/
def fwSwap : Prop := ∀ (s : State) (ok : Bool), s.hw.Live rgControl →
  (s.hw.pk.fwUp = none → exec (.fwUpdateSwap ok) s = .next s) ∧
  (∀ u k, s.hw.pk.fwUp = some u → u.todo = [k] → k ≠ u.spare → u.ver < 2 ^ 32 →
    look (s.hw.pk.svc.map (fun x => (x.1, true))) (48 + k) false = false → ∃ t, exec (.fwUpdateSwap true) s = .next (s.withHw t) ∧
    t.pk.fwUp = none ∧ t.rd SV_FW_STATUS_UPDATING = 0 ∧ t.rd SV_FW_STATUS_FW_VERSION = u.ver ∧ t.rd SV_CORE_STATUS_STATE k = 3 ∧
    t.rd SV_CORE_STATUS_STATE u.spare = 2)

/-- R353: PM_DUMP of entities beyond 4,352, of none, or of a KIND without bins completes RANGE; else the 48 bytes of every entity, in
order, are written to the host, and no register changes. -/
def pmDump : Prop := ∀ (s : State) (hd : CmdHdr) (kind first count dest : Nat) (h : Hw), s.hw.Ready hd → h = s.hw.cmdTake hd →
  ((36 ≤ kind ∨ count = 0 ∨ 4352 < first + count) → exec (.pmDump hd kind first count dest) s = .next (s.withHw
    (h.complete hd.compl (cmdAnswer hd stRange 0 0)))) ∧
  (∀ bins, h.pmKind kind = some bins → 0 < count → first + count ≤ 4352 → exec (.pmDump hd kind first count dest) s = .next (s.withHw
    ((h.emit (.hostWrite dest ((List.range count).flatMap (fun k =>
      pmBytes (first + k) ((bins.find? (fun b => b.1 == first + k)).map Prod.snd))))).complete hd.compl (cmdAnswer hd stOk 0 0)))) ∧
  (kind < 36 → (h.pmKind kind).isSome = true)


/-! ### Rings, commands, events, epochs and register access (chapters 14 and 17) -/

/-- R362, R368: a command that its ring cannot start now has no effect; a wrong phase stops its command ring with ERR 1; a COMPL_RING
that names no enabled ring consumes it and completes RANGE on completion ring 0; else it is consumed and runs. -/
def hostCmdForms : Prop := ∀ (h : Hw) (hd : CmdHdr) (op : Nat) (f : Hw → Hw × Ans),
  (h.cmdReady hd = false → h.hostCmd hd op f = h) ∧
  (h.cmdReady hd = true → h.cmdPhaseOk hd = false → h.hostCmd hd op f = h.ringError (128 + hd.ring) 1) ∧
  (h.cmdReady hd = true → h.cmdPhaseOk hd = true → h.complOk hd = false →
    h.hostCmd hd op f = (h.cmdTake hd).complete 0 (cmdAnswer hd stRange 0 0)) ∧
  (h.Ready hd → h.hostCmd hd op f = (h.cmdTake hd).cmdRun hd op f)

/-- R361: taking a command moves the consumer index of its ring on by one and no register changes. -/
def cmdConsumed : Prop := ∀ (h : Hw) (hd : CmdHdr),
  ((h.cmdTake hd).ringAt (128 + hd.ring)).cons = (h.ringAt (128 + hd.ring)).cons + 1 ∧
  ((h.cmdTake hd).ringAt (128 + hd.ring)).prod = (h.ringAt (128 + hd.ring)).prod ∧ SameFields [] h (h.cmdTake hd) ∧
  (h.cmdTake hd).out = .head (128 + hd.ring) ((h.ringAt (128 + hd.ring)).cons + 1) :: h.out

/-- R362: a ring error sets STOPPED and ERR of that ring and, but for the counters of lost records, no other register. -/
def ringErrorFrame : Prop := ∀ (h : Hw) (r e : Nat), e < 8 →
  (h.ringError r e).rd HI_RING_STOPPED r = 1 ∧ (h.ringError r e).rd HI_RING_ERR r = e ∧
  SameFieldsNoted [HI_RING_STOPPED.key r 0, HI_RING_ERR.key r 0] h (h.ringError r e)

/-- R357, R360, R361: an entry goes to the producer index with that pass's phase, the index moves on by one and its head slot is
written; no register changes. -/
def entryPushed : Prop := ∀ (h : Hw) (n : Nat) (e : Entry),
  ((h.pushEntry n e).ringAt (144 + n)).prod = (h.ringAt (144 + n)).prod + 1 ∧
  ((h.pushEntry n e).ringAt (144 + n)).cons = (h.ringAt (144 + n)).cons ∧
  (h.pushEntry n e).out = .head (144 + n) ((h.ringAt (144 + n)).prod + 1) ::
    .entry n (h.ringAt (144 + n)).prod (passPhase (h.ringSize (144 + n)) (h.ringAt (144 + n)).prod) e :: h.out ∧
  SameFields [] h (h.pushEntry n e)

/-- R368, R369: a completion is written where its ring has room and waits where it has none. -/
def completionWritten : Prop := ∀ (h : Hw) (n : Nat) (c : Compl),
  (1 ≤ h.ringRoom (144 + n) → h.complete n c = h.pushEntry n (.compl c)) ∧
  (h.ringRoom (144 + n) = 0 → h.complete n c = { h with host := { h.host with waiting := h.host.waiting ++ [(n, c)] } })

/-- R375: an event of class 2 or above goes to the ring of its class's route; without an enabled route or without room it is dropped
and counted for its class. -/
def eventDropped : Prop := ∀ (h : Hw) (c code : Nat) (a : List Byte),
  (h.rd HI_EVT_ROUTE_ENABLE c = 0 → h.eventDrop c code a [] = h.inc HI_EVT_DROP_DROPS c) ∧
  (h.rd HI_EVT_ROUTE_ENABLE c ≠ 0 → h.ringRoom (144 + h.rd HI_EVT_ROUTE_RING c) = 0 → h.eventDrop c code a [] = h.inc HI_EVT_DROP_DROPS c) ∧
  (h.rd HI_EVT_ROUTE_ENABLE c ≠ 0 → 1 ≤ h.ringRoom (144 + h.rd HI_EVT_ROUTE_RING c) →
    h.eventDrop c code a [] = h.pushEntry (h.rd HI_EVT_ROUTE_RING c) (.event code false a))

/-- R375: a cipher event that finds no room waits in a queue of 64; beyond it is dropped and counted. -/
def cipherEvents : Prop := ∀ (h : Hw) (code : Nat) (a b : List Byte), h.host.cipherQ ≠ [] →
  (h.host.cipherQ.length < 64 → h.eventCipher code a b = { h with host := { h.host with cipherQ := h.host.cipherQ ++ [(code, a, b)] } }) ∧
  (64 ≤ h.host.cipherQ.length → h.eventCipher code a b = h.inc HI_EVT_DROP_DROPS 1)

/-- R359: a write of 1 to ENABLE of a stopped ring starts it with both indices 0 and takes SIZE_LOG2; a write of 0 to a running ring
clears ENABLE, STOPPED and ERR, keeps SIZE_LOG2, and the ring stops at the next microtick boundary. Either takes VECTOR and GROUP. -/
def ringEnableWrite : Prop := ∀ (s : State) (r v : Nat), s.hw.Open (regBlock .HI_RING r 0) →
  ∃ t, exec (.ringEnableWrite r v) s = .next (s.withHw t) ∧ t.rd HI_RING_VECTOR r = bits v 24 8 ∧ t.rd HI_RING_GROUP r = bits v 16 3 ∧
    (s.hw.rd HI_RING_ENABLE r = 0 → bitOf v 0 = true → t.rd HI_RING_ENABLE r = 1 ∧ t.rd HI_RING_SIZE_LOG2 r = bits v 8 5 ∧ t.ringAt r = {}) ∧
    (s.hw.rd HI_RING_ENABLE r ≠ 0 → bitOf v 0 = true → t.rd HI_RING_SIZE_LOG2 r = s.hw.rd HI_RING_SIZE_LOG2 r ∧ t.ringAt r = s.hw.ringAt r) ∧
    (s.hw.rd HI_RING_ENABLE r ≠ 0 → bitOf v 0 = false → t.rd HI_RING_ENABLE r = 0 ∧ t.rd HI_RING_ERR r = 0 ∧ t.rd HI_RING_STOPPED r = 0 ∧
      t.rd HI_RING_SIZE_LOG2 r = s.hw.rd HI_RING_SIZE_LOG2 r ∧ t.ringAt r = { s.hw.ringAt r with stopping := true }) ∧
    SameFields [HI_RING_ENABLE.key r 0, HI_RING_SIZE_LOG2.key r 0, HI_RING_VECTOR.key r 0, HI_RING_GROUP.key r 0, HI_RING_ERR.key r 0,
      HI_RING_STOPPED.key r 0] s.hw t

/-- R359, Table 14-19: RING_STOP clears ENABLE of every ring, and each that ran stops at the next microtick boundary. -/
def ringStop : Prop := ∀ (s : State), s.hw.Open (regBlock .HI_EMERG 0 0) →
  ∃ t, exec .ringStop s = .next (s.withHw t) ∧ (∀ r, r < 216 → t.rd HI_RING_ENABLE r = 0) ∧
    (∀ r, r < 216 → s.hw.rd HI_RING_ENABLE r ≠ 0 → (t.ringAt r).stopping = true) ∧
    (∀ f i j, f.reg ≠ .HI_RING → t.rd f i j = s.hw.rd f i j)

/-- R364, Table 14-19: POLL_NOW asks for a poll in the next microtick and changes nothing else. -/
def pollNow : Prop := ∀ (s : State), s.hw.Open (regBlock .HI_EMERG 0 0) →
  exec .pollNow s = .next (s.withHw { s.hw with host := { s.hw.host with pollNow := true } })

/-- R364: a poll that overruns only restarts its period; one whose summary line fails its check sets SUM_ERR and moves no index. -/
def doorbellPoll : Prop := ∀ (h : Hw) (p : PollIn),
  h.dbPoll true p = { h with clk := { h.clk with pollLast := h.clk.ut }, host := { h.host with pollNow := false } } ∧
  (p.sumOk = false → h.dbPoll false p = ({ h with clk := { h.clk with pollLast := h.clk.ut }, host := { h.host with pollNow := false } } : Hw).wr
    HI_STATUS_SUM_ERR 1)

/-- R362, R364: an index from a doorbell slot that runs back stops the ring with ERR 3, one beyond what the ring can hold with ERR 2;
another becomes the producer index of a host ring and the consumer index of a terminal ring. -/
def doorbellSlot : Prop := ∀ (h : Hw) (r v : Nat),
  (v < (h.ringAt r).slot → h.takeSlot r v = h.ringError r 3) ∧
  ((h.ringAt r).slot ≤ v → r < 144 → (h.ringAt r).cons + h.ringSize r < v → h.takeSlot r v = h.ringError r 2) ∧
  ((h.ringAt r).slot ≤ v → r < 144 → v ≤ (h.ringAt r).cons + h.ringSize r →
    h.takeSlot r v = h.setRing r (fun x => { x with prod := v, slot := v })) ∧
  ((h.ringAt r).slot ≤ v → 144 ≤ r → (h.ringAt r).prod < v → h.takeSlot r v = h.ringError r 2) ∧
  ((h.ringAt r).slot ≤ v → 144 ≤ r → v ≤ (h.ringAt r).prod → h.takeSlot r v = h.setRing r (fun x => { x with cons := v, slot := v }))

/-- R360, R362, R366: TX_DESCRIPTOR without a posted descriptor does nothing; a failed fetch stops the ring with ERR 4, a wrong phase
with ERR 1; a length out of range is consumed and counted in DROPS; a good one is consumed and its frame admitted. -/
def txDescriptor : Prop := ∀ (s : State) (r len fl q : Nat) (fr : List Byte) (ph : Bool), s.hw.Live rgControl →
  ((s.hw.ringAt r).prod ≤ (s.hw.ringAt r).cons → ∀ ok, exec (.txDescriptor r ok ph len fl q fr) s = .next s) ∧
  (s.hw.ringOn r = true → (s.hw.ringAt r).cons < (s.hw.ringAt r).prod → s.hw.sourceHeld (130 + r) = false → s.hw.runs rgPacket = true →
    exec (.txDescriptor r false ph len fl q fr) s = .next (s.withHw (s.hw.ringError r 4)) ∧
    (ph ≠ passPhase (s.hw.ringSize r) (s.hw.ringAt r).cons → exec (.txDescriptor r true ph len fl q fr) s = .next (s.withHw (s.hw.ringError r 1))) ∧
    (ph = passPhase (s.hw.ringSize r) (s.hw.ringAt r).cons → ∀ h, h = (s.hw.setRing r (fun x =>
        { x with cons := x.cons + 1 })).ringMoved r ((s.hw.ringAt r).cons + 1) →
      ((len < 14 ∨ 9724 < len) → exec (.txDescriptor r true ph len fl q fr) s = .next (s.withHw (h.inc HI_RING_DROPS r))) ∧
      (14 ≤ len → len ≤ 9724 → fr.length = len → exec (.txDescriptor r true ph len fl q fr) s = .next (s.withHw (h.txFrame r fl q fr)))))

/-- R366: in TIME-ONLY a host frame that is not the responder's is dropped and counted; a queue number of 1,024 or more is too. -/
def txDropped : Prop := ∀ (h : Hw) (r fl q : Nat) (fr : List Byte), bitOf fl 0 = false →
  (h.rd SF_LEVEL_HELD = 2 → h.txFrame r fl q fr = h.inc HI_RING_DROPS r) ∧
  (h.rd SF_LEVEL_HELD ≠ 2 → bitOf fl 2 = true → 1024 ≤ q → h.txFrame r fl q fr = h.inc HI_RING_DROPS r)

/-- R367: without a frame for the ring nothing happens; with one and a posted buffer that holds it, descriptor and frame are written,
the frame leaves and the index moves on; a buffer that is too small drops the frame, counted, and stays posted. -/
def rxWriteback : Prop := ∀ (s : State) (r len : Nat), s.hw.Live rgControl →
  (s.hw.toHost.find? (fun x => x.1 == 64 + r) = none → exec (.rxWriteback r len) s = .next s) ∧
  (∀ x h, s.hw.toHost.find? (fun x => x.1 == 64 + r) = some x → s.hw.ringOn (64 + r) = true →
    (s.hw.ringAt (64 + r)).cons < (s.hw.ringAt (64 + r)).prod →
    h = ({ s.hw with toHost := s.hw.toHost.erase x } : Hw).freed x.2 →
    (len < x.2.bytes.length - x.2.fcs → exec (.rxWriteback r len) s = .next (s.withHw (h.inc HI_RING_DROPS (64 + r)))) ∧
    (x.2.bytes.length - x.2.fcs ≤ len → exec (.rxWriteback r len) s = .next (s.withHw
      (((h.emit (.rxWrite (64 + r) (s.hw.ringAt (64 + r)).cons (passPhase (h.ringSize (64 + r)) (s.hw.ringAt (64 + r)).cons)
        (rxDesc x.2 (x.2.bytes.length - x.2.fcs)) (x.2.bytes.take (x.2.bytes.length - x.2.fcs)))).setRing (64 + r)
        (fun y => { y with cons := y.cons + 1 })).ringMoved (64 + r) ((s.hw.ringAt (64 + r)).cons + 1)))))

/-- R376: a vector signals once MOD_CNT entries are pending or MOD_UT microticks have passed since the first, and then starts afresh; a
masked vector sets its pending bit in place of the message. -/
def msixSignal : Prop := ∀ (s : State) (v : Nat), s.hw.Live rgControl →
  ((look s.hw.host.vecs v {}).count = 0 → exec (.msixSignal v) s = .next s) ∧
  ((look s.hw.host.vecs v {}).count < max 1 (s.hw.rd HI_VEC_MOD_CNT v) →
    s.hw.clk.ut < (look s.hw.host.vecs v {}).since + s.hw.rd HI_VEC_MOD_UT v → exec (.msixSignal v) s = .next s) ∧
  ((look s.hw.host.vecs v {}).count ≠ 0 → (max 1 (s.hw.rd HI_VEC_MOD_CNT v) ≤ (look s.hw.host.vecs v {}).count ∨
      (look s.hw.host.vecs v {}).since + s.hw.rd HI_VEC_MOD_UT v ≤ s.hw.clk.ut) →
    exec (.msixSignal v) s = .next (s.withHw ((if s.hw.vecMasked v
      then { s.hw with host := { s.hw.host with vecs := store s.hw.host.vecs v {}, pba := store s.hw.host.pba v true } }
      else { s.hw with host := { s.hw.host with vecs := store s.hw.host.vecs v {} }, out := .msix v :: s.hw.out }))))

/-- R370: NOP completes OK and changes nothing else. -/
def nopCmd : Prop := ∀ (s : State) (hd : CmdHdr), s.hw.Ready hd →
  exec (.nopCmd hd) s = .next (s.withHw ((s.hw.cmdTake hd).complete hd.compl (cmdAnswer hd stOk 0 0)))

/-- R379, R382, R383: EPOCH_OPEN while an epoch is pending, or a rollback waits or drains, completes BUSY with the pending number, on another base than the current epoch STALE;
else the highest number used counts up, the new epoch is pending and OPEN with the current one's objects, and it completes with the
number. -/
def epochOpen : Prop := ∀ (s : State) (hd : CmdHdr) (h : Hw), s.hw.Ready hd → h = s.hw.cmdTake hd →
  ((h.pstate ≠ psNone ∨ h.ep.rollback = true ∨ (h.rd HI_EPOCH_STATUS_DRAINING ≠ 0 ∧ h.rd HI_EPOCH_STATUS_PREVIOUS = noEpoch)) →
    exec (.epochOpen hd) s = .next (s.withHw (h.complete hd.compl (cmdAnswer hd stBusy 0 h.pendNum)))) ∧
  (h.pstate = psNone → h.ep.rollback = false → (h.rd HI_EPOCH_STATUS_DRAINING = 0 ∨ h.rd HI_EPOCH_STATUS_PREVIOUS ≠ noEpoch) →
    hd.epoch ≠ h.rd HI_EPOCH_STATUS_CURRENT →
    exec (.epochOpen hd) s = .next (s.withHw (h.complete hd.compl (cmdAnswer hd stStale 0 0)))) ∧
  (h.pstate = psNone → h.ep.rollback = false → (h.rd HI_EPOCH_STATUS_DRAINING = 0 ∨ h.rd HI_EPOCH_STATUS_PREVIOUS ≠ noEpoch) →
    hd.epoch = h.rd HI_EPOCH_STATUS_CURRENT → ∃ t, exec (.epochOpen hd) s = .next (s.withHw (t.complete hd.compl (cmdAnswer hd stOk 0 (h.ep.highest + 1)))) ∧
      t.rd HI_EPOCH_STATUS_PENDING = (h.ep.highest + 1) % 2 ^ 32 ∧ t.rd HI_EPOCH_STATUS_PSTATE = psOpen ∧ t.ep.highest = h.ep.highest + 1 ∧
      t.ep.pend = h.ep.cur ∧ t.ep.cur = h.ep.cur ∧ t.ep.progPend = h.ep.progCur ∧
      SameFields [HI_EPOCH_STATUS_PENDING.key 0 0, HI_EPOCH_STATUS_PSTATE.key 0 0] h t)

/-- R384: a staging command that names no pending epoch completes STALE; one that names an epoch past OPEN completes STALE too, and
neither changes anything. -/
def stagingStops : Prop := ∀ (s : State) (hd : CmdHdr) (h : Hw) (len addr : Nat) (img : List Byte) (tb op n : Nat), s.hw.Ready hd →
  h = s.hw.cmdTake hd →
  ((h.pstate = psNone ∨ hd.epoch ≠ h.pendNum) →
    ∀ i ∈ [Instr.cfgLoad hd len addr img, .tblWrite hd tb op n addr img, .epochCommit hd len],
      exec i s = .next (s.withHw (h.complete hd.compl (cmdAnswer hd stStale 0 0)))) ∧
  (hd.epoch = h.pendNum → h.pstate ≠ psNone → h.pstate ≠ psOpen →
    ∀ i ∈ [Instr.cfgLoad hd len addr img, .tblWrite hd tb op n addr img, .epochCommit hd len],
      exec i s = .next (s.withHw (h.complete hd.compl (cmdAnswer hd stStale 10 0))))

/-- R378, R384: CFG_LOAD into the OPEN epoch off a multiple of 8 completes ALIGN, of an image that its header or CRC does not hold
RANGE with reason 1; of a good one every record is staged in order and it completes OK. -/
def cfgLoad : Prop := ∀ (s : State) (hd : CmdHdr) (h : Hw) (len addr : Nat) (img : List Byte), s.hw.Ready hd → h = s.hw.cmdTake hd →
  h.pstate = psOpen → hd.epoch = h.pendNum →
  (addr % 8 ≠ 0 → exec (.cfgLoad hd len addr img) s = .next (s.withHw (h.complete hd.compl (cmdAnswer hd stAlign 0 0)))) ∧
  (addr % 8 = 0 → (img.length ≠ len ∨ imgParse img = none) → exec (.cfgLoad hd len addr img) s = .next (s.withHw
    (h.complete hd.compl (cmdAnswer hd stRange 1 0)))) ∧
  (∀ rs, addr % 8 = 0 → img.length = len → imgParse img = some rs → exec (.cfgLoad hd len addr img) s = .next (s.withHw
    ((h.each rs Hw.stageRec).complete hd.compl (cmdAnswer hd stOk 0 0))))

/-- R379: a staged object gives the pending epoch its fields; every other object of it, and the current epoch, stay. -/
def objectStaged : Prop := ∀ (h : Hw) (r : ImgRec) (t : ObjType), ObjType.ofCode r.code = some t → r.idx < t.count → t ≠ .PARSER_PROG →
  (∀ (f : OFld) (k : Nat), f.typ = t → cfgOf (h.stageRec r).ep.pend f r.idx k = bits (leNat r.data) (f.lsb + f.stride * k) f.width) ∧
  (∀ (g : OFld) (i k : Nat), (g.typ, i) ≠ (t, r.idx) → cfgOf (h.stageRec r).ep.pend g i k = cfgOf h.ep.pend g i k) ∧
  (h.stageRec r).ep.cur = h.ep.cur ∧ (h.stageRec r).regs = h.regs

/-- R384: TBL_WRITE into the OPEN epoch with a code or count out of range completes RANGE, with PACKET not running GATED; else its
entries are staged in order. -/
def tblWrite : Prop := ∀ (s : State) (hd : CmdHdr) (h : Hw) (tb op n addr : Nat) (l : List Byte), s.hw.Ready hd → h = s.hw.cmdTake hd →
  h.pstate = psOpen → hd.epoch = h.pendNum →
  ((3 < tb ∨ 1 < op ∨ n = 0 ∨ 65536 < n) → exec (.tblWrite hd tb op n addr l) s = .next (s.withHw
    (h.complete hd.compl (cmdAnswer hd stRange 0 0)))) ∧
  (tb ≤ 3 → op ≤ 1 → 0 < n → n ≤ 65536 → h.runs rgPacket = false → exec (.tblWrite hd tb op n addr l) s = .next (s.withHw
    (h.complete hd.compl (cmdAnswer hd stGatedCode 0 0)))) ∧
  (∀ g st re rs, tb ≤ 3 → op ≤ 1 → 0 < n → n ≤ 65536 → h.runs rgPacket = true → h.stageList tb op addr l 0 n = (g, .done st re rs) →
    exec (.tblWrite hd tb op n addr l) s = .next (s.withHw (g.showTables.complete hd.compl (cmdAnswer hd st re rs))))

/-- R253, R384: an entry that is staged twice in an epoch gives CONFLICT with its number and slot; one that finds no slot gives RANGE
with its number. -/
def entryRefused : Prop := ∀ (h : Hw) (tb addr k : Nat) (b : List Byte),
  (∀ t, h.pk.tables.find? (fun t => t.vis == 4 && sameEntry t (listEntry tb b)) = some t →
    h.stageEntry tb 0 addr k b = (h, some (.fail stConflict (k + t.slot * 2 ^ 32)))) ∧
  (h.pk.tables.find? (fun t => t.vis == 4 && sameEntry t (listEntry tb b)) = none → (h.unstage (listEntry tb b)).placeEntry (listEntry tb b) = none →
    (h.stageEntry tb 0 addr k b).2 = some (.fail stRange k))

/-- R252: a flow entry takes a slot that no entry of its table holds, in one of its two sets or in the stash. -/
def entryPlaced : Prop := ∀ (h : Hw) (e : TblEntry) (x : Nat), e.tbl = 0 → h.placeEntry e = some x →
  h.slotUsed 0 x = false ∧ x < 32832

/-- R385, R386: EPOCH_COMMIT with FLIP_TICK more than 8,000,000 ticks ahead discards the epoch and completes RANGE; else the epoch is
VALIDATING and the command stays open. -/
def epochCommit : Prop := ∀ (s : State) (hd : CmdHdr) (ft : Nat) (h : Hw), s.hw.Ready hd → h = s.hw.cmdTake hd → h.pstate = psOpen →
  hd.epoch = h.pendNum →
  (h.tick + 8000000 < ft → exec (.epochCommit hd ft) s = .next (s.withHw (h.epochDiscard.complete hd.compl (cmdAnswer hd stRange 0 0)))) ∧
  (ft ≤ h.tick + 8000000 → ∃ t, exec (.epochCommit hd ft) s = .next (s.withHw t) ∧ t.rd HI_EPOCH_STATUS_PSTATE = psValidating ∧
    t.ep.flipTick = ft ∧ t.host.opens.length = h.host.opens.length + 1 ∧ t.out = h.out ∧
    SameFields [HI_EPOCH_STATUS_PSTATE.key 0 0] h t)

/-- R385, R391: a discarded epoch leaves none pending, and nothing staged for it. -/
def epochDiscarded : Prop := ∀ (h : Hw), h.epochDiscard.rd HI_EPOCH_STATUS_PENDING = 0xFFFFFFFF ∧
  h.epochDiscard.rd HI_EPOCH_STATUS_PSTATE = psNone ∧ h.epochDiscard.ep.pend = [] ∧ h.epochDiscard.ep.cur = h.ep.cur ∧
  h.epochDiscard.rd HI_EPOCH_STATUS_CURRENT = h.rd HI_EPOCH_STATUS_CURRENT ∧ (∀ t ∈ h.epochDiscard.pk.tables, t.vis < 4)

/-- R385: the end of the checks changes nothing unless an epoch is VALIDATING; a sound epoch waits for its flip, and one that a check
rejects is discarded with that check's status and result. -/
def validationDone : Prop := ∀ (s : State), s.hw.Live rgControl →
  (s.hw.pstate ≠ psValidating → exec .epochValidationDone s = .next s) ∧
  (s.hw.pstate = psValidating → s.hw.ep.valid = false → s.hw.validate = none →
    exec .epochValidationDone s = .next (s.withHw { s.hw with ep := { s.hw.ep with valid := true } })) ∧
  (∀ st r, s.hw.pstate = psValidating → s.hw.ep.valid = false → s.hw.validate = some (st, r) →
    exec .epochValidationDone s = .next (s.withHw (s.hw.epochDiscard.completeOpen (fun o => o.opcode == 0x13 && o.epoch == s.hw.pendNum) st 0 r)))

/-- R391: EPOCH_ABORT of an epoch that is not pending, or is ARMED, completes STALE; else the epoch is discarded and it completes OK. -/
def epochAbort : Prop := ∀ (s : State) (hd : CmdHdr) (h : Hw), s.hw.Ready hd → h = s.hw.cmdTake hd →
  ((h.pstate = psNone ∨ hd.epoch ≠ h.pendNum ∨ h.pstate = psArmed) → exec (.epochAbort hd) s = .next (s.withHw
    (h.complete hd.compl (cmdAnswer hd stStale 0 0)))) ∧
  (h.pstate ≠ psNone → hd.epoch = h.pendNum → h.pstate ≠ psArmed → exec (.epochAbort hd) s = .next (s.withHw
    ((h.epochDiscard.completeOpen (fun o => o.opcode == 0x13 && o.epoch == h.pendNum) stStale 0 0).complete hd.compl (cmdAnswer hd stOk 0 0))))

/-- R392: EPOCH_ROLLBACK while an epoch is pending completes BUSY, naming another than the current epoch STALE, without a previous one
RANGE with reason 8; else it waits for the next ready boundary. -/
def epochRollback : Prop := ∀ (s : State) (hd : CmdHdr) (h : Hw), s.hw.Ready hd → h = s.hw.cmdTake hd →
  ((h.pstate ≠ psNone ∨ h.ep.rollback = true) → exec (.epochRollback hd) s = .next (s.withHw (h.complete hd.compl (cmdAnswer hd stBusy 0 0)))) ∧
  (h.pstate = psNone → h.ep.rollback = false → hd.epoch ≠ h.rd HI_EPOCH_STATUS_CURRENT → exec (.epochRollback hd) s = .next (s.withHw
    (h.complete hd.compl (cmdAnswer hd stStale 0 0)))) ∧
  (h.pstate = psNone → h.ep.rollback = false → hd.epoch = h.rd HI_EPOCH_STATUS_CURRENT → h.rd HI_EPOCH_STATUS_PREVIOUS = noEpoch →
    exec (.epochRollback hd) s = .next (s.withHw (h.complete hd.compl (cmdAnswer hd stRange 8 0)))) ∧
  (h.pstate = psNone → h.ep.rollback = false → hd.epoch = h.rd HI_EPOCH_STATUS_CURRENT → h.rd HI_EPOCH_STATUS_PREVIOUS ≠ noEpoch →
    ∃ t, exec (.epochRollback hd) s = .next (s.withHw t) ∧ t.ep.rollback = true ∧ t.ep.cur = h.ep.cur ∧
      t.host.opens.length = h.host.opens.length + 1 ∧ SameFields [] h t)

/-- R392: ROLLBACK_NOW discards a pending epoch and, where there is a previous one, asks for the rollback; the epoch in force stays
until the boundary. -/
def rollbackNow : Prop := ∀ (s : State), s.hw.Open (regBlock .HI_EMERG 0 0) →
  ∃ t, exec .rollbackNow s = .next (s.withHw t) ∧ (s.hw.pstate ≠ psNone → t.rd HI_EPOCH_STATUS_PSTATE = psNone ∧ t.ep.pend = []) ∧
    (s.hw.rd HI_EPOCH_STATUS_PREVIOUS ≠ noEpoch → t.ep.rollback = true) ∧ t.ep.cur = s.hw.ep.cur ∧
    t.rd HI_EPOCH_STATUS_CURRENT = s.hw.rd HI_EPOCH_STATUS_CURRENT

/-- R387, R394: EPOCH_ARM arms nothing while a running region does not answer ready; with every region ready a validated epoch whose
FLIP_TICK has come and no drain is ARMED. -/
def epochArm : Prop := ∀ (h : Hw) (no : List Nat),
  (∀ r ∈ [rgLine, rgFawn, rgPortW, rgPortE, rgPacket, rgMemory, rgControl], h.regionState r ≠ stStopped ∧ h.regionState r ≠ stReloading) →
  ((∃ r ∈ [rgLine, rgFawn, rgPortW, rgPortE, rgPacket, rgMemory, rgControl], h.regionReady no r = false) → h.epochArm no = h) ∧
  ((∀ r ∈ [rgLine, rgFawn, rgPortW, rgPortE, rgPacket, rgMemory, rgControl], h.regionReady no r = true) → h.ep.rollback = false →
    (h.pstate = psValidating → h.ep.valid = true → h.rd HI_EPOCH_STATUS_DRAINING = 0 → h.ep.flipTick ≤ h.tick + 1 →
      h.epochArm no = h.wr HI_EPOCH_STATUS_PSTATE psArmed) ∧
    (h.tick + 1 < h.ep.flipTick → h.epochArm no = h) ∧ (h.rd HI_EPOCH_STATUS_DRAINING ≠ 0 → h.epochArm no = h))

/-- R386: a boundary at which nothing is armed flips nothing. -/
def noFlip : Prop := ∀ (h : Hw) (t : Nat), h.ep.rbArmed = false → h.pstate ≠ psArmed → h.flipBoundary t = h

/-- R388: the drain ends when no frame of the epoch remains: DRAINING clears; while one remains, or without a drain, nothing changes. -/
def drainEnd : Prop := ∀ (s : State), s.hw.Live rgControl →
  (s.hw.rd HI_EPOCH_STATUS_DRAINING = 0 → exec .epochDrainEnd s = .next s) ∧
  (s.hw.framesOf s.hw.ep.drainNum = true → exec .epochDrainEnd s = .next s) ∧
  (s.hw.rd HI_EPOCH_STATUS_DRAINING ≠ 0 → s.hw.framesOf s.hw.ep.drainNum = false →
    ∃ t, exec .epochDrainEnd s = .next (s.withHw t) ∧ t.rd HI_EPOCH_STATUS_DRAINING = 0 ∧ t.ep.drainOf = none ∧ t.ep.cur = s.hw.ep.cur ∧
      t.rd HI_EPOCH_STATUS_DRAIN_DROP = s.hw.rd HI_EPOCH_STATUS_DRAIN_DROP)

/-- R388: a drain within DRAIN_MS changes nothing; beyond it the frames left are dropped, their number counted in DRAIN_DROP, and the
drain is over. -/
def drainTimeout : Prop := ∀ (s : State), s.hw.Live rgControl →
  (s.hw.clk.ut ≤ s.hw.ep.drainUt + s.hw.drainLimit → exec .epochDrainTimeout s = .next s) ∧
  (s.hw.rd HI_EPOCH_STATUS_DRAINING ≠ 0 → s.hw.ep.drainUt + s.hw.drainLimit < s.hw.clk.ut → ∀ h k, s.hw.dropEpoch s.hw.ep.drainNum = (h, k) →
    exec .epochDrainTimeout s = .next (s.withHw ((h.inc HI_EPOCH_STATUS_DRAIN_DROP 0 0 k).drainOver (if k = 0 then 0 else 7))) ∧
    ((h.inc HI_EPOCH_STATUS_DRAIN_DROP 0 0 k).drainOver (if k = 0 then 0 else 7)).rd HI_EPOCH_STATUS_DRAINING = 0)

/-- R399: the blocks of a region that is STOPPED, RELOADING or GATED, and a block that is off, are gated; GLOBAL, FAWN and the key store
never are (R400). -/
def gatedBlocks : Prop := ∀ (h : Hw) (b : Nat),
  ((b / 0x1000 = 0 ∨ b / 0x1000 = rgFawn ∨ b = 0x5040) → h.gatedBlock b = false) ∧
  (b / 0x1000 ≠ 0 → b / 0x1000 ≠ rgFawn → b ≠ 0x5040 →
    ((h.regionState (b / 0x1000) = stStopped ∨ h.regionState (b / 0x1000) = stReloading ∨ h.regionState (b / 0x1000) = stGated ∨
      h.blockOff b = true) → h.gatedBlock b = true))

/-- R399: an access to a gated block returns 0xFA11 with the block's number, in both words of 8 bytes, or is dropped. It sets
GATED_ACCESS of its region, counts up GATED_CNT, and puts the block's number into GATED_BLOCK when GATED_ACCESS was 0. Nothing else
changes; the block is not woken. -/
def gatedAccess : Prop := ∀ (s : State) (off v b : Nat), (barAt off).block = b → s.hw.barOn = true → s.hw.decodes b = true →
  s.hw.gatedBlock b = true →
  exec (.gatedAccess off none) s = .next (s.withHw ((s.hw.gatedAccess b).emit (.bar off (0xFA110000 + b)))) ∧
  exec (.gatedAccess off (some v)) s = .next (s.withHw (s.hw.gatedAccess b)) ∧
  (off % 8 = 0 → (barAt (off + 4)).block = b →
    exec (.badAcc off 8 none) s = .next (s.withHw
      (((s.hw.gatedAccess b).emit (.bar off (0xFA110000 + b))).emit (.bar (off + 4) (0xFA110000 + b)))) ∧
    exec (.badAcc off 8 (some v)) s = .next (s.withHw (s.hw.gatedAccess b))) ∧
  (s.hw.gatedAccess b).rd SF_REGION_GATED_ACCESS (b / 0x1000) = 1 ∧
  (s.hw.gatedAccess b).rd SF_REGION_GATED_CNT (b / 0x1000) = satNat SF_REGION_GATED_CNT.width (s.hw.rd SF_REGION_GATED_CNT (b / 0x1000) + 1) ∧
  (s.hw.rd SF_REGION_GATED_ACCESS (b / 0x1000) ≠ 0 →
    (s.hw.gatedAccess b).rd SF_REGION_GATED_BLOCK (b / 0x1000) = s.hw.rd SF_REGION_GATED_BLOCK (b / 0x1000)) ∧
  (s.hw.rd SF_REGION_GATED_ACCESS (b / 0x1000) = 0 →
    (s.hw.gatedAccess b).rd SF_REGION_GATED_BLOCK (b / 0x1000) = b % 2 ^ SF_REGION_GATED_BLOCK.width) ∧
  SameFields [SF_REGION_GATED_ACCESS.key (b / 0x1000) 0, SF_REGION_GATED_CNT.key (b / 0x1000) 0, SF_REGION_GATED_BLOCK.key (b / 0x1000) 0]
    s.hw (s.hw.gatedAccess b) ∧ (s.hw.gatedAccess b).pw = s.hw.pw ∧ (s.hw.gatedAccess b).sf = s.hw.sf

/-- R399: a register write of a gated block has none of its own effect. -/
def gatedWrite : Prop := ∀ (h : Hw) (b : Nat) (f : Hw → Hw), h.barOn = true → h.decodes b = true → h.gatedBlock b = true →
  h.barGate b f = h.gatedAccess b

/-- R35: a read of an unassigned offset returns 0 and a write of one is dropped. -/
def unassignedAccess : Prop := ∀ (s : State) (off v : Nat), barAt off = .none → s.hw.barOn = true →
  exec (.unassignedAccess off none) s = .next (s.withHw (s.hw.emit (.bar off 0))) ∧ exec (.unassignedAccess off (some v)) s = .next s

/-- R355: an access of another size than 4 or 8 bytes, or off a multiple of its size, sets BAD_ACC; a read returns 0 and a write is
dropped. -/
def badAcc : Prop := ∀ (s : State) (off size v : Nat), s.hw.barOn = true → ((size ≠ 4 ∧ size ≠ 8) ∨ off % size ≠ 0) →
  exec (.badAcc off size none) s = .next (s.withHw ((s.hw.wr HI_PCIE_STATUS_BAD_ACC 1).emit (.bar off 0))) ∧
  exec (.badAcc off size (some v)) s = .next (s.withHw (s.hw.wr HI_PCIE_STATUS_BAD_ACC 1))

/-- R13: a read of a word without a latched value returns it as it stands, and its RC fields then read 0; its other fields stay. -/
def rcRead : Prop := ∀ (s : State) (off i j w : Nat) (r : RegName), barAt off = .reg r i j w → s.hw.Open (regBlock r i j) →
  r ≠ .GL_DBG_DATA → s.hw.latch.find? (fun x => x.1 == ⟨r, w, i, j⟩) = none →
  ∃ t, exec (.rcRead off) s = .next (s.withHw t) ∧ t.out = .bar off (s.hw.regWord s.nv r i j w) :: s.hw.out ∧
    (∀ f ∈ r.fields, f.acc = .rc → f.inWord w = true → t.rd f i j = 0) ∧
    (∀ f ∈ r.fields, (f.acc ≠ .rc ∨ f.inWord w = false) → t.rd f i j = s.hw.rd f i j) ∧
    (∀ f i' j', f.reg ≠ r → t.rd f i' j' = s.hw.rd f i' j')

/-- R355: a read of the lowest word of a register that latches keeps its other words as they stand then, and the read of a latched word
returns it and drops it. -/
def latchingRead : Prop := ∀ (s : State) (off i j w : Nat) (r : RegName), barAt off = .reg r i j w → s.hw.Open (regBlock r i j) →
  r ≠ .GL_DBG_DATA → r ≠ .LN_FB_CAP →
  (s.hw.latch.find? (fun x => x.1 == ⟨r, w, i, j⟩) = none → ∃ t, exec (.latchingRead off) s = .next (s.withHw t) ∧
    (∀ k, w < k → k ≤ r.latchTo w → look t.latch ⟨r, k, i, j⟩ 0 = s.hw.regWord s.nv r i j k)) ∧
  (∀ x v, s.hw.latch.find? (fun x => x.1 == ⟨r, w, i, j⟩) = some (x, v) → exec (.latchingRead off) s = .next (s.withHw
    (({ s.hw with latch := s.hw.latch.filter (fun x => x.1 != ⟨r, w, i, j⟩) } : Hw).emit (.bar off v))))

/-- R12, R481: a write of a word acts on each field of the register by its access code, and on no other register. -/
def wordWrite : Prop := ∀ (h : Hw) (r : RegName) (w v i j : Nat),
  (∀ f ∈ r.fields, f.inWord w = false → (h.writeWord r w v i j).rd f i j = h.rd f i j) ∧
  (∀ f ∈ r.fields, f.acc = .rw → 0 < f.width → 32 * w ≤ f.lsb → f.lsb + f.width ≤ 32 * w + 32 →
    (h.writeWord r w v i j).rd f i j = bits v (f.lsb - 32 * w) f.width) ∧
  (∀ f ∈ r.fields, f.acc = .w1c → f.width = 1 → 32 * w ≤ f.lsb → f.lsb < 32 * w + 32 → h.rd f i j < 2 →
    (h.writeWord r w v i j).rd f i j = if bitOf v (f.lsb - 32 * w) then 0 else h.rd f i j) ∧
  (∀ f ∈ r.fields, (f.acc = .ro ∨ f.acc = .rc ∨ f.acc = .wo) → (h.writeWord r w v i j).rd f i j = h.rd f i j) ∧
  (∀ f i' j', (f.reg ≠ r ∨ i' ≠ i ∨ j' ≠ j) → (h.writeWord r w v i j).rd f i' j' = h.rd f i' j')

/-- R481: a write of a register through BAR0 has the effect that its register gives it. -/
def registerWrite : Prop := ∀ (s : State) (off v i j w : Nat) (r : RegName), barAt off = .reg r i j w → s.hw.Open (regBlock r i j) →
  exec (.registerWrite off v) s = .next (s.withHw (s.hw.regWrite s.nv r i j w v)) ∧
  (∀ x ∈ [RegName.HI_VEC, .HI_EVT_ROUTE, .HI_DUMP, .HI_EPOCH_CFG, .PW_TOL, .PW_PLIMIT, .LN_PM_SD, .EV_CFG, .PP_TBL_SEED, .BM_BRIDGE_CFG], r = x →
    s.hw.regWrite s.nv r i j w v = s.hw.writeWord r w v i j)

/-- R481: BASE of a ring holds while ENABLE is 1, and the base of the doorbells while RUN is 1. -/
def guardedFields : Prop := ∀ (h : Hw) (n : NonVol) (r w v : Nat),
  (h.rd HI_RING_ENABLE r ≠ 0 → w ≠ 2 → (h.regWrite n .HI_RING r 0 w v).rd HI_RING_BASE r = h.rd HI_RING_BASE r) ∧
  (h.rd HI_CFG_RUN ≠ 0 → ∀ f i j, (h.regWrite n .HI_DB_BASE 0 0 w v).rd f i j = h.rd f i j)

/-- R3: the PCI Express link trained outside P3 shows its width and speed, and BAR0 can answer; no other register changes. -/
def pcieLinkTrained : Prop := ∀ (s : State) (a b : Nat), s.hw.Live rgFawn → s.hw.rd PW_STATUS_PSTATE ≠ 3 →
  ∃ t, exec (.pcieLinkTrained a b) s = .next (s.withHw t) ∧ t.pw.link = true ∧
    t.rd HI_PCIE_STATUS_WIDTH = a % 2 ^ HI_PCIE_STATUS_WIDTH.width ∧ t.rd HI_PCIE_STATUS_SPEED = b % 2 ^ HI_PCIE_STATUS_SPEED.width ∧
    SameFields [HI_PCIE_STATUS_WIDTH.key 0 0, HI_PCIE_STATUS_SPEED.key 0 0] s.hw t

/-- R3, R399: while BAR0 does not answer, a register access has no effect and returns nothing. -/
def barSilent : Prop := ∀ (s : State) (off v size : Nat) (d : Option Nat), s.hw.barOn = false →
  ∀ i ∈ [Instr.registerWrite off v, .rcRead off, .latchingRead off, .gatedAccess off d, .unassignedAccess off d, .badAcc off size d,
    .ringStop, .pollNow, .rollbackNow, .debugRead false], exec i s = .next s


/-! ### Supervision, regions, levels and the event recorder (chapter 15) -/

/-- R17, R408: what a cell's error does in FAWN's own logic, in a cipher cluster, in the key store and in a service core. A corrected
error of FAWN, the key store or a core changes nothing, and neither does an error in a region that does not run. -/
def cellError : Prop := ∀ (s : State) (cell arg row : Nat),
  (∀ blk kind, ¬ s.hw.Live (blk / 0x1000) → exec (.cellError blk cell kind arg row) s = .next s) ∧
  (s.hw.Live rgFawn → exec (.cellError 0x2000 cell 1 arg row) s = .next (s.withHw (s.hw.detect 7 scopeGlobal 0)) ∧
    exec (.cellError 0x2000 cell 0 arg row) s = .next s) ∧
  (s.hw.Live rgPacket → exec (.cellError 0x5040 cell 1 arg row) s = .next (s.withHw (s.hw.slotError (cell % 8192))) ∧
    exec (.cellError 0x5040 cell 0 arg row) s = .next s ∧
    ∀ k, k < 8 → exec (.cellError (0x5030 + k) cell 0 arg row) s = .next (s.withHw (s.hw.laneError (16 * k + cell % 16)))) ∧
  (s.hw.Live rgControl → ∀ k, k < 16 → exec (.cellError (0x7010 + k) cell 0 arg row) s = .next s ∧
    (k < 2 → exec (.cellError (0x7010 + k) cell 1 arg row) s = .next (s.withHw (s.hw.detect 11 scopeGlobal 0))) ∧
    (2 ≤ k → exec (.cellError (0x7010 + k) cell 1 arg row) s = .next (s.withHw ((s.hw.againItem (48 + k)).coreFail k))))

/-- Table 11-1: an uncorrectable error of an on-chip bank in service takes the bank out of service. -/
def bankError : Prop := ∀ (h : Hw) (b : Nat), b < 42 → bitOf ((h.ocbError b true).rd BM_OCB_STATUS_BANKS) b = false

/-- R409: a detection is counted and recorded at its onset only; in a further tick of it, and when it is found again in the same tick,
no counter and no record changes. A class's reaction is asked for at the onset. -/
def detectionOnset : Prop := ∀ (h : Hw) (c i : Nat), c < 14 →
  ((h.detAt c i).now = true → h.detect c scopeGlobal i = h) ∧
  ((h.detAt c i).now = false → (h.detAt c i).last = true →
    SameFields [] h (h.detect c scopeGlobal i) ∧ (h.detect c scopeGlobal i).rcd = h.rcd ∧ (h.detect c scopeGlobal i).sf.reactReq = h.sf.reactReq) ∧
  ((h.detAt c i).now = false → (h.detAt c i).last = false →
    (h.detect c scopeGlobal i).rd SF_CNT_CNT c = satNat SF_CNT_CNT.width (h.rd SF_CNT_CNT c + 1) ∧
    bitOf (h.detect c scopeGlobal i).sf.reactReq c = true ∧ SameFieldsNoted [SF_CNT_CNT.key c 0] h (h.detect c scopeGlobal i))

/-- R413: a global reaction that was asked for latches its classes and GLOBAL. -/
def reactionLatched : Prop := ∀ (h : Hw), h.sf.reactReq ≠ 0 → h.sf.reactPorts = [] → h.sf.reactPins = [] →
  h.reactions.rd SF_STATUS_GLOBAL = 1 ∧
  h.reactions.rd SF_STATUS_CLASS = (h.rd SF_STATUS_CLASS ||| (h.sf.reactReq / 2)) % 2 ^ SF_STATUS_CLASS.width ∧ h.reactions.sf.reactReq = 0

/-- R414: ACK while a latched class is present sets ACK_REJ and nothing else; with all of them absent for 8,000 ticks the reaction ends at
the next boundary: GLOBAL and CLASS clear. -/
def sfAck : Prop := ∀ (s : State), s.hw.Open (regBlock .SF_CTRL 0 0) →
  ((∃ k ∈ s.hw.latched, s.hw.classAbsent k = false) → exec .sfAck s = .next (s.withHw (s.hw.wr SF_STATUS_ACK_REJ 1))) ∧
  ((∀ k ∈ s.hw.latched, s.hw.classAbsent k = true) → s.hw.rd SF_STATUS_GLOBAL ≠ 0 →
    exec .sfAck s = .next (s.withHw { s.hw with sf := { s.hw.sf with acked := true } })) ∧
  (s.hw.sf.acked = true → s.hw.reactionEnd.rd SF_STATUS_GLOBAL = 0 ∧ s.hw.reactionEnd.rd SF_STATUS_CLASS = 0 ∧
    s.hw.reactionEnd.sf.acked = false ∧ s.hw.reactionEnd.sf.hostSafe = false) ∧
  (s.hw.sf.acked = false → s.hw.reactionEnd = s.hw)

/-- R411: a source is suspect when it disagrees with two others or more that agree among themselves; it is marked faulty after XCHK_N
suspect ticks in a row, and a marked source is good again after 80,000 ticks without a disagreement. -/
def crossCheck : Prop := ∀ (h : Hw) (all : List (Nat × Int)) (k : Nat) (p : Nat × Int), k < 4 → all.find? (fun q => q.1 == k) = some p →
  (h.srcFaulty k = false → h.suspects all p = true → h.cfg TC_XCHK_N ≤ look h.sf.suspect k 0 + 1 → (h.xchkSource all k).srcFaulty k = true) ∧
  (h.srcFaulty k = false → h.suspects all p = false → 1 ≤ h.cfg TC_XCHK_N →
    (h.xchkSource all k).srcFaulty k = false ∧ look (h.xchkSource all k).sf.suspect k 0 = 0) ∧
  (h.srcFaulty k = true → all.any (fun q => q.1 != k && h.disagree p q) = false → 79999 ≤ look h.sf.agree k 0 →
    (h.xchkSource all k).srcFaulty k = false)

/-- R417: the self-check of sound checkers shows no failing class and its age 0; a checker that does not fire shows and is detected. -/
def selfCheck : Prop := ∀ (s : State), s.hw.runs rgControl = true →
  (s.hw.Open (regBlock .SF_CTRL 0 0) → exec (.selfchk 0) s = .next (s.withHw (s.hw.selfCheck 0)) ∧
    (s.hw.selfCheck 0).rd SF_DIAG_SELFCHK_RES = 0 ∧ (s.hw.selfCheck 0).rd SF_DIAG_SELFCHK_AGE = 0 ∧
    SameFields [SF_DIAG_SELFCHK_RES.key 0 0, SF_DIAG_SELFCHK_AGE.key 0 0] s.hw (s.hw.selfCheck 0)) ∧
  (∀ x, (s.hw.selfCheck x).rd SF_DIAG_SELFCHK_RES = (((List.range 13).drop 1).filter (bitOf x)).foldl (fun v k => putBit v k true) 0 %
    2 ^ SF_DIAG_SELFCHK_RES.width) ∧
  (s.hw.Live rgFawn → (s.hw.sf.chkTicks < s.hw.cfg TC_SELFCHK_H * 28800000 → ∀ x, exec (.selfchkPeriodic x) s = .next s) ∧
    (s.hw.cfg TC_SELFCHK_H * 28800000 ≤ s.hw.sf.chkTicks → ∀ x, exec (.selfchkPeriodic x) s = .next (s.withHw
      (({ s.hw with sf := { s.hw.sf with chkTicks := 0 } } : Hw).selfCheck x))))

/-- R418: a write of SF_CTRL without the key injects nothing; with it, codes 2 to 5 and 7 to 11 set INJ_ACTIVE and the injection and
record it, and code 0 or above 11 clears it. -/
def injection : Prop := ∀ (s : State) (v : Nat), s.hw.Open (regBlock .SF_CTRL 0 0) →
  (bits v 16 16 ≠ 0x5AFE → exec (.inject v) s = .next s) ∧
  (bits v 16 16 = 0x5AFE → (s.hw.sf.inject.getD (0, 0)).1 ≠ 6 →
    ((bits v 4 4 = 0 ∨ 11 < bits v 4 4) → exec (.inject v) s = .next (s.withHw
      (({ s.hw with sf := { s.hw.sf with inject := none } } : Hw).wr SF_STATUS_INJ_ACTIVE 0))) ∧
    (bits v 4 4 ∈ [2, 3, 4, 5, 7, 8, 9, 10, 11] → ∃ t, exec (.inject v) s = .next (s.withHw t) ∧
      t.sf.inject = some (bits v 4 4, bits v 8 8) ∧ t.rd SF_STATUS_INJ_ACTIVE = 1 ∧ SameFieldsNoted [SF_STATUS_INJ_ACTIVE.key 0 0] s.hw t))

/-- R403, R405: eight ticks at THERM_EMERG make the thermal cause, a minute below THERM_EMERG − THERM_HYST ends it; before that neither
changes anything. -/
def thermal : Prop := ∀ (s : State), s.hw.Live rgFawn →
  (s.hw.sf.hotRun < 8 → exec .thermalEmergency s = .next s) ∧
  (8 ≤ s.hw.sf.hotRun → ∃ t, exec .thermalEmergency s = .next (s.withHw t) ∧ 1 ∈ t.sf.toCauses ∧ t.regs = s.hw.regs) ∧
  ((∀ x, s.hw.sf.coolFrom = some x → s.hw.clk.ut < x + 38400000) → exec .thermalClear s = .next s) ∧
  (∀ x, s.hw.sf.coolFrom = some x → x + 38400000 ≤ s.hw.clk.ut → ∃ t, exec .thermalClear s = .next (s.withHw t) ∧ 1 ∉ t.sf.toCauses ∧
    (∀ c ∈ s.hw.sf.toCauses, c ≠ 1 → c ∈ t.sf.toCauses) ∧ t.regs = s.hw.regs)

/-- R403, R405, R406: SF_LEVEL_CMD. TIME-ONLY makes the host's cause, SAFE is laid over at the next boundary, and RETURN is dropped while
another cause than the host's is present. -/
def levelCommands : Prop := ∀ (s : State), s.hw.Open (regBlock .SF_LEVEL_CMD 0 0) →
  (∃ t, exec .levelCmdTimeOnly s = .next (s.withHw t) ∧ 5 ∈ t.sf.toCauses ∧ t.regs = s.hw.regs) ∧
  exec .levelCmdSafe s = .next (s.withHw { s.hw with sf := { s.hw.sf with hostSafe := true } }) ∧
  (s.hw.sf.toCauses.all (· == 5) = true → exec .levelCmdReturn s = .next (s.withHw
    { s.hw with sf := { s.hw.sf with toCauses := [], retReq := s.hw.sf.retReq || s.hw.timeOnly } })) ∧
  (s.hw.sf.toCauses.all (· == 5) = false → exec .levelCmdReturn s = .next s)

/-- R403, R406: a change of the level, or of the level held, is shown: SAFE while a global reaction or the host's SAFE is in force, and
else the level held. -/
def levelShown : Prop := ∀ (h : Hw) (l : Nat),
  l = (if h.levelHeld.rd SF_STATUS_GLOBAL ≠ 0 ∨ h.levelHeld.sf.hostSafe = true then 3 else h.levelHeld.rd SF_LEVEL_HELD) → l < 4 →
  (l ≠ h.rd SF_LEVEL_LEVEL ∨ h.levelHeld.rd SF_LEVEL_HELD ≠ h.rd SF_LEVEL_HELD) →
  h.levelBoundary.rd SF_LEVEL_LEVEL = l ∧ h.levelBoundary.rd SF_LEVEL_HELD = h.levelHeld.rd SF_LEVEL_HELD

/-- R404: entering TIME-ONLY holds level 2 with its cause, counts the state, and keeps the attachment of the selected domain. -/
def timeOnlyEntered : Prop := ∀ (h : Hw) (c : Nat), c < 2 ^ SF_LEVEL_CAUSE.width →
  (h.enterTimeOnly c).rd SF_LEVEL_HELD = 2 ∧ (h.enterTimeOnly c).rd SF_LEVEL_CAUSE = c

/-- R398: two missed acknowledgements of a running region ask for its reload with cause WATCHDOG; FAWN's are a detection of class 8. -/
def watchdogTrip : Prop := ∀ (s : State) (r : Nat), s.hw.Live rgFawn →
  exec (.regionWatchdogTrip rgFawn) s = .next (s.withHw (s.hw.detect 8 scopeGlobal 0)) ∧
  (r ≠ rgFawn → 1 ≤ r → r ≤ 7 → s.hw.runs r = true → ∃ t, exec (.regionWatchdogTrip r) s = .next (s.withHw t) ∧
    t.sf.wantReload = s.hw.sf.wantReload ++ [(r, 3)] ∧ t.regs = s.hw.regs) ∧
  (r ≠ rgFawn → s.hw.runs r = false → exec (.regionWatchdogTrip r) s = .next s)

/-- R18: FAWN never reloads; a third automatic reload within a minute, or one with AUTO_DIS set, makes the region FAILED; a request of the
host is always granted to a running region, which stops. -/
def reloadBegins : Prop := ∀ (h : Hw) (r c : Nat),
  h.reloadStart rgFawn c = h ∧
  (r ∈ [rgPortW, rgPortE, rgPacket, rgMemory, rgControl] → h.regionState r = stRun → (h.regionAt r).offPend = false →
    (c ≠ 2 → (2 ≤ (h.recentAutos r).length ∨ h.rd SF_REGION_AUTO_DIS r ≠ 0) → h.reloadStart r c = h.regionFail r) ∧
    ((h.reloadStart r 2).rd SF_REGION_STATE r = stStopped ∧ (h.reloadStart r 2).rd PW_PAD_CFG_HELD r = 1 ∧
      ((h.reloadStart r 2).regionAt r).cause = 2 ∧ ((h.reloadStart r 2).regionAt r).autos = h.recentAutos r))

/-- R18, R401: a region that fails reads FAILED, not ready, with its pads held. -/
def regionFailed : Prop := ∀ (h : Hw) (r : Nat), r ∈ [rgPortW, rgPortE, rgPacket, rgMemory, rgControl] →
  (h.regionFail r).rd SF_REGION_STATE r = stFailed ∧ bitOf ((h.regionFail r).rd PW_STATUS_READY) r = false ∧
  (h.regionFail r).rd PW_PAD_CFG_HELD r = 1 ∧
  SameFields [SF_REGION_STATE.key r 0, PW_STATUS_READY.key 0 0, PW_PAD_CFG_HELD.key r 0] h (h.regionFail r)

/-- R401: a stopped region other than MEMORY is reset and RELOADING with its cause shown; a region that has not stopped is not touched. -/
def regionReload : Prop := ∀ (s : State) (r bad : Nat), s.hw.Live rgFawn →
  (s.hw.rd SF_REGION_STATE r ≠ stStopped → exec (.regionReload r bad) s = .next s) ∧
  (s.hw.rd SF_REGION_STATE r = stStopped → (s.hw.regionAt r).offPend = false → r ∈ [rgLine, rgPortW, rgPortE, rgPacket, rgControl] →
    (s.hw.regionAt r).cause ∈ [1, 2, 3, 4] →
    ∃ t, exec (.regionReload r bad) s = .next (s.withHw t) ∧ t.rd SF_REGION_STATE r = stReloading ∧
      t.rd SF_REGION_LAST_CAUSE r = (s.hw.regionAt r).cause ∧ (t.regionAt r).powered = true)

/-- R402: a write of RELOAD of a running region other than FAWN asks for its reload with cause HOST; of FAWN, or of a region that is
already RELOADING, it is dropped, and without the bit the word is only written, which sets AUTO_DIS as it says. -/
def reloadWrite : Prop := ∀ (s : State) (r v : Nat), s.hw.Open (regBlock .SF_REGION r 0) →
  (bitOf v 0 = false → exec (.sfRegionReloadWrite r v) s = .next (s.withHw (s.hw.writeWord .SF_REGION 2 v r 0))) ∧
  (bitOf v 0 = true → (r = rgFawn ∨ (r ≠ 0 ∧ s.hw.rd SF_REGION_STATE r = stReloading)) →
    exec (.sfRegionReloadWrite r v) s = .next (s.withHw (s.hw.writeWord .SF_REGION 2 v r 0))) ∧
  (bitOf v 0 = true → 1 ≤ r → r ≤ 7 → r ≠ rgFawn → s.hw.regionState r = stRun →
    exec (.sfRegionReloadWrite r v) s = .next (s.withHw ((s.hw.writeWord .SF_REGION 2 v r 0).askReload r 2))) ∧
  (s.hw.writeWord .SF_REGION 2 v r 0).rd SF_REGION_AUTO_DIS r = bits v 1 1

/-- R401: a region that is not RELOADING does not become ready, and PACKET waits for MEMORY; a station region that becomes ready reads RUN
and ready, takes the objects of the epoch in force and its LAST_TICKS the time it took. -/
def regionReady : Prop := ∀ (s : State) (r : Nat), s.hw.Live rgFawn →
  (s.hw.rd SF_REGION_STATE r ≠ stReloading → exec (.regionReady r) s = .next s) ∧
  (s.hw.runs rgMemory = false → s.hw.timeOnly = false → exec (.regionReady rgPacket) s = .next s) ∧
  (r ∈ [rgPortW, rgPortE] → s.hw.rd SF_REGION_STATE r = stReloading → ∀ h, h = ((s.hw.setState r stRun).setReady r true).readyRecord r →
    exec (.regionReady r) s = .next (s.withHw ((h.padsReady r).reapply r)) ∧ h.rd SF_REGION_STATE r = stRun ∧
      bitOf (h.rd PW_STATUS_READY) r = true ∧
      ((s.hw.regionAt r).cause ≠ 0 → h.rd SF_REGION_LAST_TICKS r = min (s.hw.tick - (s.hw.regionAt r).began) (2 ^ 24 - 1)))

/-- R401: a reload within its bound is left alone; beyond it the region has FAILED. -/
def reloadTimeout : Prop := ∀ (s : State) (r : Nat), s.hw.Live rgFawn →
  (s.hw.tick ≤ (s.hw.regionAt r).began + reloadBound r → exec (.reloadTimeout r) s = .next s) ∧
  ((s.hw.rd SF_REGION_STATE r = stReloading ∨ s.hw.rd SF_REGION_STATE r = stStopped) → (s.hw.regionAt r).offPend = false →
    (s.hw.regionAt r).began + reloadBound r < s.hw.tick → exec (.reloadTimeout r) s = .next (s.withHw (s.hw.regionFail r)))

/-- R401: a reload of CONTROL that is not ready within 2 s is a detection of class 13; one that is in time is none. -/
def controlLost : Prop := ∀ (s : State), s.hw.Live rgFawn →
  (s.hw.sf.ctlFrom = none → exec .controlLost s = .next s) ∧
  (∀ x, s.hw.sf.ctlFrom = some x → s.hw.clk.ut ≤ x + 1280000 → exec .controlLost s = .next s) ∧
  (∀ x, s.hw.sf.ctlFrom = some x → x + 1280000 < s.hw.clk.ut → exec .controlLost s = .next (s.withHw (s.hw.detect 13 scopeGlobal 0)))

/-- R422: a record takes a free entry of the ring, else the oldest committed, else the oldest of its severity or below, which is lost and
counted; where none yields it is dropped and counted. -/
def recordPlaced : Prop := ∀ (h : Hw) (r : Rec) (d : RingRec),
  (ringPlace h.rcd.ring r.sev = none → (h.placeRec r).2 = false ∧ (h.placeRec r).1.rcd = h.rcd ∧
    (h.placeRec r).1.rd EV_STATUS_DROPPED = satNat EV_STATUS_DROPPED.width (h.rd EV_STATUS_DROPPED + 1)) ∧
  (∀ k lost, ringPlace h.rcd.ring r.sev = some (k, lost) → (h.placeRec r).2 = lost ∧
    look (h.placeRec r).1.rcd.ring k d = { seq := h.rcd.made, committed := false, r := r } ∧ (h.placeRec r).1.rcd.made = h.rcd.made + 1 ∧
    (∀ j, j ≠ k → look (h.placeRec r).1.rcd.ring j d = look h.rcd.ring j d) ∧
    (lost = true → (h.placeRec r).1.rd EV_STATUS_RING_LOST = satNat EV_STATUS_RING_LOST.width (h.rd EV_STATUS_RING_LOST + 1)))

/-- R422: the ring never holds an entry beyond its 256. -/
def ringBound : Prop := ∀ (h : Hw) (sev src code : Nat) (d : List Byte), (∀ x ∈ h.rcd.ring, x.1 < 256) →
  ∀ x ∈ (h.record sev src code d).rcd.ring, x.1 < 256

/-- R420: before 1,800,000 ticks have passed the hours stay; then OP_HOURS counts up, and at a multiple of 16 units it is also written to
the flash. -/
def opHours : Prop := ∀ (s : State), s.hw.Live rgFawn →
  (s.hw.rcd.hourTick < 1800000 → exec .opHoursTick s = .next s) ∧
  (1800000 ≤ s.hw.rcd.hourTick → ∃ t n, exec .opHoursTick s = .next { s with hw := t, nv := n } ∧
    t.rd EV_HOURS_OP_HOURS = (s.hw.rd EV_HOURS_OP_HOURS + 1) % 2 ^ EV_HOURS_OP_HOURS.width ∧ t.rcd.hourTick = s.hw.rcd.hourTick - 1800000 ∧
    SameFields [EV_HOURS_OP_HOURS.key 0 0] s.hw t ∧ n.flash = s.nv.flash ∧
    n.hours = if (s.hw.rd EV_HOURS_OP_HOURS + 1) % 16 = 0 ∧ s.hw.pw.logOfs ≠ 0 ∧ s.hw.rd PW_STATUS_PSTATE ≠ 3
      then s.hw.rd EV_HOURS_OP_HOURS + 1 else s.nv.hours)

/-- R422, R423: without an uncommitted record the writer does nothing; a record below FLASH_MIN is committed without a write; else its
first 63 bytes are programmed into the lowest erased slot. -/
def logWrite : Prop := ∀ (s : State), s.hw.Live rgFawn →
  (s.hw.oldestOpen = none → exec .flashRecordWrite s = .next s) ∧
  (∀ k e, s.hw.flashReady = true → s.hw.rcd.stopped = false → s.hw.logBusy = false → s.hw.pw.flashOp = none → s.hw.oldestOpen = some (k, e) →
    (e.r.sev < s.hw.rd EV_CFG_FLASH_MIN → e.r.code ≠ 0x8009 → exec .flashRecordWrite s = .next (s.withHw (s.hw.commitSeq e.seq))) ∧
    (∀ x, s.hw.rd EV_CFG_FLASH_MIN ≤ e.r.sev → s.hw.erasedSlot s.nv = some x →
      exec .flashRecordWrite s = .next ⟨{ s.hw with rcd := { s.hw.rcd with job := some (e.seq, x), tries := 0 } },
        { s.nv with flash := flashProg s.nv.flash (s.hw.pw.logOfs + 64 * x) ((recBytes e.r).take 63) }, s.pending⟩))

/-- R423: a full log gives up the oldest of the records whose severity is no higher: never one that is more severe. -/
def victimSeverity : Prop := ∀ (h : Hw) (n : NonVol) (sev k : Nat), h.victim n sev = some k →
  k ∈ h.validSlots n ∧ leNat (flashRead n.flash (h.slotAddr k + 26) 1) % 8 ≤ sev

/-- R424: the write in progress ends with the record committed and its valid byte programmed; a first overrun sets FLASH_ERR and is
repeated, a second stops the writer; without a write nothing changes. -/
def logWriteDone : Prop := ∀ (s : State), s.hw.Live rgFawn →
  (s.hw.rcd.job = none → ∀ b, exec (.logWriteDone b) s = .next s) ∧
  (∀ q k, s.hw.rcd.job = some (q, k) → s.hw.rcd.rewrite = none →
    exec (.logWriteDone false) s = .next ⟨((s.hw.setRcd (fun r => { r with job := none, rewrite := none, tries := 0 })).commitSeq q),
      { s.nv with flash := flashProg s.nv.flash (s.hw.slotAddr k + 63) [0x5A] }, s.pending⟩ ∧
    (s.hw.rcd.tries = 0 → ∃ t, exec (.logWriteDone true) s = .next (s.withHw t) ∧ t.rd EV_STATUS_FLASH_ERR = 1 ∧ t.rcd.tries = 1 ∧
      t.rcd.job = some (q, k)) ∧
    (s.hw.rcd.tries ≠ 0 → ∃ t, exec (.logWriteDone true) s = .next (s.withHw t) ∧ t.rd EV_STATUS_FLASH_ERR = 1 ∧ t.rcd.stopped = true ∧
      t.rcd.job = none))

/-- R425: GO of EV_RD_CTRL clears DONE and EMPTY and starts the read; without GO only the fields are written. -/
def recordRead : Prop := ∀ (s : State) (v : Nat), s.hw.Open (regBlock .EV_RD_CTRL 0 0) →
  (bitOf v 29 = false → exec (.evRecordRead v) s = .next (s.withHw (s.hw.writeWord .EV_RD_CTRL 0 v 0 0))) ∧
  (bitOf v 29 = true → ∃ t, exec (.evRecordRead v) s = .next (s.withHw t) ∧ t.rcd.readWait = true ∧ t.rd EV_RD_CTRL_DONE = 0 ∧
    t.rd EV_RD_CTRL_EMPTY = 0)

/-- R425: the entry of the ring, or the slot of the log, that was asked for stands in EV_RD_DATA with DONE set; a slot without its valid
byte reads EMPTY. Without a read that waits nothing changes. -/
def readDone : Prop := ∀ (s : State), s.hw.Live rgFawn →
  (s.hw.rcd.readWait = false → exec .evReadDone s = .next s) ∧
  (∀ e, s.hw.rcd.readWait = true → s.hw.rd EV_RD_CTRL_RING ≠ 0 → s.hw.rcd.ring.find? (fun x => x.1 == s.hw.rd EV_RD_CTRL_INDEX) = some e →
    ∃ t, exec .evReadDone s = .next (s.withHw t) ∧ t.rd EV_RD_DATA_DATA = leNat (recBytes e.2.r) % 2 ^ EV_RD_DATA_DATA.width ∧
      t.rd EV_RD_CTRL_EMPTY = 0 ∧ t.rd EV_RD_CTRL_DONE = 1 ∧ t.rcd.readWait = false) ∧
  (s.hw.rcd.readWait = true → s.hw.rd EV_RD_CTRL_RING = 0 → s.hw.logBusy = false → s.hw.pw.flashOp = none → s.hw.rd EV_RD_CTRL_INDEX < 32768 →
    ∃ t, exec .evReadDone s = .next (s.withHw t) ∧ t.rd EV_RD_CTRL_DONE = 1 ∧
      t.rd EV_RD_DATA_DATA = leNat (flashRead s.nv.flash (s.hw.slotAddr (s.hw.rd EV_RD_CTRL_INDEX)) 64) % 2 ^ EV_RD_DATA_DATA.width ∧
      t.rd EV_RD_CTRL_EMPTY = if flashAt s.nv.flash (s.hw.slotAddr (s.hw.rd EV_RD_CTRL_INDEX) + 63) = 0x5A then 0 else 1)

/-- R425: ERASE with its key starts the erase with the number of records it erases; without the key, or during an erase, nothing. The end
of the erase leaves the log empty but for LOG_ERASED in slot 0. -/
def logErase : Prop := ∀ (s : State) (v : Nat),
  (s.hw.Open (regBlock .EV_CTRL 0 0) →
    (bits v 16 16 ≠ 0xE5A5 → exec (.evLogErase v) s = .next s) ∧ (s.hw.rcd.erasing ≠ none → exec (.evLogErase v) s = .next s) ∧
    (bits v 16 16 = 0xE5A5 → bitOf v 0 = true → s.hw.flashReady = true → s.hw.rcd.erasing = none →
      exec (.evLogErase v) s = .next (s.withHw { s.hw with rcd := { s.hw.rcd with erasing := some (s.hw.validSlots s.nv).length } }))) ∧
  (s.hw.Live rgFawn → (s.hw.rcd.erasing = none → exec .logEraseDone s = .next s) ∧
    (∀ k, s.hw.rcd.erasing = some k → s.hw.rcd.job = none → ∃ t n, exec .logEraseDone s = .next ⟨t, n, s.pending⟩ ∧ t.rcd.erasing = none ∧
      n.flash = flashProg (flashErase s.nv.flash s.hw.pw.logOfs (64 * logSlots)) (s.hw.slotAddr 0)
        (recBytes (s.hw.mkRec sevNotice 0x2020 0x8009 (leBytes 4 k)))))


/-! ### Power, reset, start-up, flash and JTAG (chapters 16 to 18) -/

/-- R427: the rise of VDD_FAWN from below 1.5 V is a Fawn power-on reset: every register but the counters that its
record can move reads its reset value, the flash stays, and no region has started. -/
def vddFawnRise : Prop := ∀ (s : State), ∃ t, exec .vddFawnRise s = .next (s.withHw t) ∧ t.pw.vddFawn = true ∧
  (∀ f i j, f.reg ≠ .EV_STATUS → f.reg ≠ .HI_EVT_DROP → t.rd f i j = f.reset) ∧ t.ep.cur = [] ∧ t.ks.keys = [] ∧
  (∀ r ∈ chipRegions, t.runs r = false)

/-- R427: the loss of VDD_FAWN leaves nothing but the flash; until it rises no event acts. -/
def vddFawnLoss : Prop := ∀ (s : State), ∃ t, exec .vddFawnLoss s = .next (s.withHw t) ∧ t.regs = [] ∧ t.ks.keys = [] ∧ t.pw.vddFawn = false ∧
  (∀ r, ¬ t.Live r) ∧ t.barOn = false

/-- R466: VDD_FAWN below 1.8 V shows FAWN_LOW, and below 1.65 V clears SET. -/
def vddFawnLow : Prop := ∀ (s : State) (mv : Nat), s.hw.Live rgFawn →
  ∃ t, exec (.vddFawnLow mv) s = .next (s.withHw t) ∧ t.rd PW_STATUS_FAWN_LOW = (if mv < 1800 then 1 else 0) ∧
    t.rd TC_STATUS_SET = (if mv < 1650 then 0 else s.hw.rd TC_STATUS_SET) ∧
    SameFields [PW_STATUS_FAWN_LOW.key 0 0, TC_STATUS_SET.key 0 0] s.hw t

/-- R428: a fall of PWR_OK enters P3: PSTATE reads 3, PWR_OK 0, the power state is counted, every retention bank is signed, and without
REFOSC the time is no longer set. -/
def pwrOkFall : Prop := ∀ (s : State) (e : Int), s.hw.Live rgFawn → s.hw.rd PW_STATUS_PSTATE ≠ 3 →
  ∃ t, exec (.pwrOkFall e) s = .next (s.withHw t) ∧ t.rd PW_STATUS_PWR_OK = 0 ∧ t.rd PW_STATUS_PSTATE = 3 ∧ t.clk.jobs = [] ∧
    t.pw.vreqs = [] ∧ t.pw.link = false ∧ (∀ b, b < 14 → bitOf t.pw.signed b = true) ∧
    (s.hw.clk.refosc = true → t.rd TC_STATUS_CLK_SRC = 1) ∧ (s.hw.clk.refosc = false → t.rd TC_STATUS_SET = 0)

/-- R428: P3 moves the primary counter by no more than one count. -/
def pwrOkFallCounter : Prop := ∀ (h : Hw) (e : Int), (h.rd TC_INCR_INC : Int) ≤ (h.time.now : Int) →
  ((h.enterP3 e).time.now : Int) ≤ (h.time.now : Int) + (h.rd TC_INCR_INC : Int) ∧
  (h.time.now : Int) - (h.rd TC_INCR_INC : Int) ≤ ((h.enterP3 e).time.now : Int)

/-- R429: a reset of the chip domain shows its cause and leaves no region started or ready, no identity and no link. -/
def chipReset : Prop := ∀ (h : Hw) (c : Nat), c < 4 →
  (h.chipReset c).rd GL_RST_STATUS_CAUSE = c ∧ (h.chipReset c).rd PW_STATUS_READY = 0 ∧ (h.chipReset c).pw.product = false ∧
  (h.chipReset c).pw.link = false ∧ (∀ r ∈ chipRegions, ((h.chipReset c).regionAt r).powered = false)

/-- R429: SYS_RST_N outside P3 resets the chip domain with its cause. -/
def sysRstN : Prop := ∀ (s : State), s.hw.Live rgFawn → s.hw.rd PW_STATUS_PSTATE ≠ 3 →
  exec .sysRstN s = .next (s.withHw (s.hw.chipReset 3))

/-- R429: PERST_N outside P3 resets the chip domain where PERST_SCOPE is 1; else it stops every ring and takes the link down. -/
def perstN : Prop := ∀ (s : State), s.hw.Live rgFawn → s.hw.rd PW_STATUS_PSTATE ≠ 3 →
  (s.hw.rd PW_CTRL_PERST_SCOPE ≠ 0 → exec .perstN s = .next (s.withHw (s.hw.chipReset 2))) ∧
  (s.hw.rd PW_CTRL_PERST_SCOPE = 0 → ∃ t, exec .perstN s = .next (s.withHw t) ∧ t.pw.link = false ∧ (∀ r, r < 216 → t.rd HI_RING_ENABLE r = 0) ∧
    (∀ f i j, f.reg ≠ .HI_RING → t.rd f i j = s.hw.rd f i j))

/-- R435: in P3 after STANDBY either reset input switches the rails on again and resets nothing; in P3 without STANDBY it does nothing. -/
def wakeInputs : Prop := ∀ (s : State), s.hw.Live rgFawn → s.hw.rd PW_STATUS_PSTATE = 3 →
  (∀ i ∈ [Instr.sysRstN, .perstN], exec i s = .next (s.withHw s.hw.standbyWake)) ∧
  (s.hw.pw.inStandby = false → ∀ i ∈ [Instr.sysRstN, .perstN], exec i s = .next s)

/-- R420, R428, R429: a rise of PWR_OK counts a power cycle and resets the chip domain; while PWR_OK is asserted it changes nothing. -/
def pwrOkRise : Prop := ∀ (s : State) (e : Int), s.hw.Live rgFawn →
  (s.hw.rd PW_STATUS_PWR_OK ≠ 0 → exec (.pwrOkRise e) s = .next s) ∧
  (s.hw.rd PW_STATUS_PWR_OK = 0 → ∃ h : Hw, exec (.pwrOkRise e) s = .next (s.withHw (h.chipReset 1)) ∧ h.rd PW_STATUS_PWR_OK = 1 ∧
    h.rd PW_STATUS_PSTATE = 0 ∧ h.rd TC_STATUS_CLK_SRC = 0 ∧
    (s.hw.rcd.restored = true → h.rd EV_HOURS_PWR_CYCLES = (s.hw.rd EV_HOURS_PWR_CYCLES + 1) % 2 ^ EV_HOURS_PWR_CYCLES.width) ∧
    (s.hw.rcd.restored = false → h.rcd.heldRise = s.hw.rcd.heldRise + 1))

/-- R431, Table 16-5: BOOT of a flash below 16 MiB, or with a wrong header, goes to recovery boot with FAIL_CODE 1 or 2 and starts
nothing; a boot that has run does not run again. -/
def bootRecovery : Prop := ∀ (s : State) (x : BootIn), s.hw.Live rgFawn →
  ((s.hw.pw.product = true ∨ s.hw.pw.recovery = true ∨ s.hw.rd PW_STATUS_PSTATE = 3) → exec (.boot x) s = .next s) ∧
  (s.hw.pw.product = false → s.hw.pw.recovery = false → s.hw.rd PW_STATUS_PSTATE ≠ 3 → s.hw.rd PW_BOOT_STATUS_FAIL_CODE = 0 →
    ∀ c, ((x.size < 2 ^ 24 ∧ c = 1) ∨ (2 ^ 24 ≤ x.size ∧ bootHeaderOk s.nv x.size = false ∧ c = 2)) →
    ∃ t, exec (.boot x) s = .next (s.withHw t) ∧ t.rd PW_BOOT_STATUS_FAIL_CODE = c ∧ t.rd PW_BOOT_STATUS_RECOVERY = 1 ∧ t.pw.recovery = true ∧
      t.pw.product = false ∧ SameFields [PW_BOOT_STATUS_FAIL_CODE.key 0 0, PW_BOOT_STATUS_RECOVERY.key 0 0] s.hw t)

/-- R431, R433: a boot whose checks 1 to 5 pass loads the identity of PRODUCT: configuration requests are answered, and the places of the
log and the operating data are those of the header. -/
def bootPasses : Prop := ∀ (s : State) (x : BootIn), s.hw.Live rgFawn → s.hw.pw.product = false → s.hw.pw.recovery = false →
  s.hw.rd PW_STATUS_PSTATE ≠ 3 → 2 ^ 24 ≤ x.size → bootHeaderOk s.nv x.size = true → x.keysOk = true → x.factoryOk = true → x.productOk = true →
  sectionOf s.nv 5 0 = none →
  ∃ t n, exec (.boot x) s = .next ⟨t, n, s.pending⟩ ∧ t.pw.product = true ∧ t.pw.recovery = false ∧
    t.pw.logOfs = u32 (bootHeader s.nv) 8 ∧ t.pw.opOfs = u32 (bootHeader s.nv) 12 ∧ t.pw.baseMac = x.baseMac

/-- R434: START_UP without the identity, in recovery boot or in P3 does nothing; else, with no bank signed, TIME_CRC is computed (R380) and each region starts in wake
order. -/
def startUp : Prop := ∀ (s : State) (bad banks : Nat), s.hw.Live rgFawn →
  ((s.hw.pw.product = false ∨ s.hw.pw.recovery = true ∨ s.hw.rd PW_STATUS_PSTATE = 3) → exec (.startUp bad banks) s = .next s) ∧
  (s.hw.pw.product = true → s.hw.pw.recovery = false → s.hw.rd PW_STATUS_PSTATE ≠ 3 → s.hw.pw.signed = 0 →
    exec (.startUp bad banks) s = .next (s.withHw (s.hw.showCrc.each [rgMemory, rgControl, rgPacket, rgPortW, rgPortE, rgLine]
      (fun h r => h.startRegion r bad false))))

/-- R434: a region that is enabled, off and not FAILED starts: it reads RELOADING, which is no reload and is not counted; another is left
as it is. -/
def regionStarts : Prop := ∀ (h : Hw) (r bad : Nat) (k : Bool),
  ((h.regionEnabled r = false ∨ (h.regionAt r).powered = true ∨ h.rd SF_REGION_STATE r = stFailed) → h.startRegion r bad k = h) ∧
  (r ∈ [rgControl, rgPacket, rgPortW, rgPortE, rgLine] → h.regionEnabled r = true → (h.regionAt r).powered = false →
    h.rd SF_REGION_STATE r ≠ stFailed → (h.startRegion r bad k).rd SF_REGION_STATE r = stReloading ∧
    ((h.startRegion r bad k).regionAt r).powered = true ∧
    (h.startRegion r bad k).rd SF_REGION_RELOADS r = (h.regionLose r k).rd SF_REGION_RELOADS r)

/-- R435: STANDBY with its key takes effect at the next tick boundary; the word's other bits are written as they are. Without the key only
those are. -/
def standbyWrite : Prop := ∀ (s : State) (v : Nat), s.hw.Open (regBlock .PW_CTRL 0 0) →
  (bits v 16 16 = 0x5B1D → bitOf v 0 = true → ∀ h, h = s.hw.writeWord .PW_CTRL 0 v 0 0 →
    exec (.standby v) s = .next (s.withHw { h with pw := { h.pw with standby := true } })) ∧
  ((bits v 16 16 ≠ 0x5B1D ∨ bitOf v 0 = false) → exec (.standby v) s = .next (s.withHw (s.hw.writeWord .PW_CTRL 0 v 0 0)))

/-- R435: without PWR_OK 20 ms after the last rail was switched on, PWR_FAULT is set; before that, or when no rail waits, nothing. -/
def standbyWakeTimeout : Prop := ∀ (s : State), s.hw.Live rgFawn →
  (s.hw.pw.wakeFrom = none → exec .standbyWakeTimeout s = .next s) ∧
  (∀ x, s.hw.pw.wakeFrom = some x → s.hw.clk.ut < x + 12800 → exec .standbyWakeTimeout s = .next s) ∧
  (∀ x, s.hw.pw.wakeFrom = some x → x + 12800 ≤ s.hw.clk.ut → s.hw.rd PW_STATUS_PWR_OK = 0 → ∃ t, exec .standbyWakeTimeout s = .next (s.withHw t) ∧
    t.rd PW_STATUS_PWR_FAULT = 1 ∧ t.pw.wakeFrom = none ∧ SameFields [PW_STATUS_PWR_FAULT.key 0 0] s.hw t)

/-- R436: the state chosen for a unit is one of its class whose exit time its tolerance allows and whose condition holds, and no deeper one
of its class is; a tolerance of 1 µs keeps the unit active. -/
def stateChosen : Prop := ∀ (h : Hw) (u : Nat),
  (h.unitTol u ≤ 1 → h.choose u = 0) ∧
  (h.choose u ≠ 0 → h.choose u ∈ unitStates u ∧ exitUs (h.choose u) ≤ h.unitTol u ∧ h.mayEnter u (h.choose u) = true) ∧
  (1 < h.unitTol u → ∀ x l l', unitStates u = l' ++ x :: l → h.choose u ∈ l → ¬ (exitUs x ≤ h.unitTol u ∧ h.mayEnter u x = true))

/-- R437: a block in a region that does not run refuses with reason 9, one with work to do with reason 4. -/
def refusals : Prop := ∀ (h : Hw) (u x : Nat), (h.runs (unitRegion u) = false → h.refuseReason u x = some 9) ∧
  (h.runs (unitRegion u) = true → (h.blkAt u).wakeNow = true → h.refuseReason u x = some 4)

/-- R437, R438: a block that accepted reaches its state, which is counted and shown; a block that enters none stays. -/
def powerStateEntered : Prop := ∀ (s : State) (u x : Nat), s.hw.Live rgFawn →
  ((s.hw.blkAt u).entering = none → exec (.powerStateEntered u) s = .next s) ∧
  ((s.hw.blkAt u).entering = some x → 32 ≤ u → u < 50 → x < 2 ^ PW_BLK_STATE_STATE.width → ∃ t, exec (.powerStateEntered u) s = .next (s.withHw t) ∧
    t.rd PW_BLK_STATE_STATE u = x ∧ (t.blkAt u).entering = none ∧
    t.rd PW_ENTRY_CNT_ENTERED x = satNat PW_ENTRY_CNT_ENTERED.width (s.hw.rd PW_ENTRY_CNT_ENTERED x + 1))

/-- R439: a block in a state deeper than its target wakes to its active state; another stays. A region wakes only where a wake is asked. -/
def blockWake : Prop := ∀ (s : State) (u banks bad : Nat) (pll : Bool), s.hw.Live rgFawn → 32 ≤ u → u < 50 →
  (s.hw.rd PW_BLK_STATE_STATE u ≤ s.hw.rd PW_BLK_STATE_TARGET u → exec (.blockWake u pll banks bad) s = .next s) ∧
  (s.hw.rd PW_BLK_STATE_TARGET u < s.hw.rd PW_BLK_STATE_STATE u → s.hw.rd PW_BLK_STATE_STATE u ≠ 4 → s.hw.rd PW_BLK_STATE_STATE u ≠ 7 →
    ∃ t, exec (.blockWake u pll banks bad) s = .next (s.withHw t) ∧ t.rd PW_BLK_STATE_STATE u = 0 ∧
      SameFields [PW_BLK_STATE_STATE.key u 0, PW_STATUS_PSTATE.key 0 0] s.hw t) ∧
  (∀ r, r < 8 → (s.hw.regionAt r).wake = none → exec (.blockWake (100 + r) pll banks bad) s = .next s)

/-- R440, R441: an acknowledged voltage request is shown in CUR_MV and the next request is sent; without an acknowledgement, or without a
request, nothing changes. -/
def pmbusDone : Prop := ∀ (s : State), s.hw.Live rgFawn →
  exec (.pmbusRequestDone false) s = .next s ∧ (s.hw.pw.vreqs = [] → exec (.pmbusRequestDone true) s = .next s) ∧
  (∀ v, s.hw.pw.vreqs = [v] → v.kind = 0 → exec (.pmbusRequestDone true) s = .next (s.withHw
    { s.hw.wr PW_AVS_CUR_MV v.mv with pw := { s.hw.pw with vreqs := [] } }))

/-- R441: a request not acknowledged within 2 ms is sent again, three times; then PWR_FAULT is set, the failure is counted and recorded,
and the next request is taken up. -/
def pmbusRetry : Prop := ∀ (s : State) (v : VReq) (l : List VReq), s.hw.Live rgFawn → s.hw.pw.vreqs = v :: l →
  (s.hw.clk.ut ≤ v.due → exec .pmbusRetry s = .next s) ∧
  (v.due < s.hw.clk.ut → v.tries < 3 → ∃ t, exec .pmbusRetry s = .next (s.withHw t) ∧
    t.pw.vreqs = { v with tries := v.tries + 1, due := s.hw.clk.ut + 1280 } :: l ∧ t.out = .pmbus v.rail v.kind v.mv :: s.hw.out ∧
    t.rd PW_AVS_RETRIES = satNat PW_AVS_RETRIES.width (s.hw.rd PW_AVS_RETRIES + 1) ∧ SameFields [PW_AVS_RETRIES.key 0 0] s.hw t) ∧
  (v.due < s.hw.clk.ut → 3 ≤ v.tries → v.kind = 2 → v.waiter ≠ 16 → ∃ t, exec .pmbusRetry s = .next (s.withHw t) ∧
    t.rd PW_STATUS_PWR_FAULT = 1 ∧ t.rd PW_AVS_FAILS = satNat PW_AVS_FAILS.width (s.hw.rd PW_AVS_FAILS + 1) ∧
    t.pw.vreqs.length = l.length)

/-- R440: the targets are multiples of 5 mV from 700 mV to 800 mV; outside P3 a new target of the operating point in force is requested,
and an unchanged one is not. -/
def avsTarget : Prop := ∀ (s : State) (a b : Nat), s.hw.Live rgFawn →
  (700 ≤ mvOf a ∧ mvOf a ≤ 800 ∧ mvOf a % 5 = 0) ∧
  (∃ t, exec (.avsTargetUpdate a b) s = .next (s.withHw t) ∧ t.pw.mvFull = mvOf a ∧ t.pw.mvTo = mvOf b ∧
    (s.hw.rd PW_STATUS_PSTATE ≠ 3 → s.hw.timeOnly = false → s.hw.rd PW_AVS_TARGET_MV ≠ mvOf a → t.rd PW_AVS_TARGET_MV = mvOf a ∧
      t.pw.vreqs.length = s.hw.pw.vreqs.length + 1) ∧
    (s.hw.rd PW_STATUS_PSTATE ≠ 3 → s.hw.timeOnly = false → s.hw.rd PW_AVS_TARGET_MV = mvOf a → t.pw.vreqs = s.hw.pw.vreqs) ∧
    SameFields [PW_AVS_TARGET_MV.key 0 0] s.hw t)

/-- R442: the sum is shown in POUT_W; three seconds in a row above LIMIT_W set PLIMIT and the power cause, and sixty below LIMIT_W −
HYST_W without an overcurrent clear them. -/
def powerSum : Prop := ∀ (s : State) (w : Nat), s.hw.Live rgFawn →
  ∃ t, exec (.powerSumCheck w) s = .next (s.withHw t) ∧ t.rd PW_PLIMIT_POUT_W = min 65535 w ∧
    (s.hw.rd PW_PLIMIT_LIMIT_W ≠ 0 → s.hw.rd PW_PLIMIT_LIMIT_W < w → s.hw.pw.ocFault = false → t.pw.overRun = s.hw.pw.overRun + 1) ∧
    (s.hw.rd PW_PLIMIT_LIMIT_W ≠ 0 → s.hw.rd PW_PLIMIT_LIMIT_W < w → 2 ≤ s.hw.pw.overRun → t.rd PW_STATUS_PLIMIT = 1 ∧ 2 ∈ t.sf.toCauses) ∧
    (s.hw.pw.ocFault = false → w + s.hw.rd PW_PLIMIT_HYST_W < s.hw.rd PW_PLIMIT_LIMIT_W → 59 ≤ s.hw.pw.underRun → s.hw.rd PW_STATUS_PLIMIT ≠ 0 →
      t.rd PW_STATUS_PLIMIT = 0 ∧ 2 ∉ t.sf.toCauses) ∧
    SameFields [PW_PLIMIT_POUT_W.key 0 0, PW_STATUS_PLIMIT.key 0 0] s.hw t

/-- R442: an overcurrent fault sets PLIMIT and the power cause at once; its end clears the fault and leaves both. -/
def pmbAlert : Prop := ∀ (s : State), s.hw.Live rgFawn →
  (∃ t, exec (.pmbAlert true) s = .next (s.withHw t) ∧ t.pw.ocFault = true ∧ t.rd PW_STATUS_PLIMIT = 1 ∧ 2 ∈ t.sf.toCauses ∧
    SameFields [PW_STATUS_PLIMIT.key 0 0] s.hw t) ∧
  exec (.pmbAlert false) s = .next (s.withHw { s.hw with pw := { s.hw.pw with ocFault := false } })

/-- R444: a release of the pads of a region that runs lets them go; of one that does not it sets REL_REJ and the pads stay held. -/
def padRelease : Prop := ∀ (s : State), s.hw.Open (regBlock .PW_PAD_RELEASE 0 0) → ∀ r ∈ [1, 3, 4, 5, 6, 7],
  ∃ t, exec (.padRelease (2 ^ r)) s = .next (s.withHw t) ∧
    (s.hw.runs r = true → t.rd PW_PAD_CFG_HELD r = 0 ∧ bitOf t.pw.padOff r = false) ∧
    (s.hw.runs r = false → t.rd PW_PAD_RELEASE_REL_REJ = 1 ∧ t.rd PW_PAD_CFG_HELD r = s.hw.rd PW_PAD_CFG_HELD r)

/-- R93, R443, R461, R463: the balls of the general bank that the state drives. With no supply they are open; while LINE does not run, and in
P3, each BURST_EN ball is at its deasserted level, held pads or not; INT_N is driven low exactly while the safety manager holds a global
reaction, the level is not FULL or PWR_FAULT is set, and is released while the pads of CONTROL are held in MODE SAFE. -/
def padLevels : Prop := ∀ (h : Hw),
  (h.pw.vddFawn = false → h.intN = .open ∧ ∀ k, h.burstPad k = .open) ∧
  (∀ k, h.gpOff = false → (h.runs rgLine = false ∨ h.rd PW_STATUS_PSTATE = 3) →
    h.burstPad k = if h.rd LN_TX_CTRL_EN_POL (k / 2) (k % 2) = 0 then .low else .high) ∧
  (h.gpOff = false → h.rd PW_PAD_CFG_HELD rgControl = 0 →
    (h.intN = .low ↔ (h.rd SF_STATUS_GLOBAL ≠ 0 ∨ h.rd SF_LEVEL_LEVEL ≠ 0 ∨ h.rd PW_STATUS_PWR_FAULT ≠ 0))) ∧
  (h.rd PW_PAD_CFG_HELD rgControl ≠ 0 → h.rd PW_PAD_CFG_MODE rgControl ≠ 0 → h.intN = .open)

/-- R448, Table 17-5: an enable of PACKET without MEMORY is dropped and sets EN_REJ; a word that changes no enable is only written; a
clear of one enable disables its region, and a set of one asks for its wake. -/
def enableWrite : Prop := ∀ (s : State) (v : Nat), s.hw.Open (regBlock .GL_REGION_CTRL 0 0) →
  (bitOf v rgPacket = true → bitOf v rgMemory = false → ∃ t, exec (.regionEnableWrite v) s = .next (s.withHw t) ∧ t.rd GL_REGION_CTRL_EN_REJ = 1 ∧
    SameFields [GL_REGION_CTRL_EN_REJ.key 0 0] s.hw t) ∧
  (bitOf v rgPacket = false ∨ bitOf v rgMemory = true →
    ((∀ r ∈ [rgLine, rgPortW, rgPortE, rgPacket, rgMemory], s.hw.regionEnabled r = bitOf v r) →
      exec (.regionEnableWrite v) s = .next (s.withHw (s.hw.writeWord .GL_REGION_CTRL 0 v 0 0))) ∧
    (∀ x ∈ [rgLine, rgPortW, rgPortE, rgPacket, rgMemory],
      (∀ r ∈ [rgLine, rgPortW, rgPortE, rgPacket, rgMemory], r ≠ x → s.hw.regionEnabled r = bitOf v r) → s.hw.regionEnabled x ≠ bitOf v x →
      (bitOf v x = false → exec (.regionEnableWrite v) s = .next (s.withHw ((s.hw.writeWord .GL_REGION_CTRL 0 v 0 0).disableRegion x))) ∧
      (bitOf v x = true → exec (.regionEnableWrite v) s = .next (s.withHw ((s.hw.writeWord .GL_REGION_CTRL 0 v 0 0).enableRegion x)))))

/-- R448: a running region whose enable is cleared stops with its pads held and is off at the tick boundary; a set asks for a wake and
changes no register. -/
def enableEffect : Prop := ∀ (h : Hw) (r : Nat), r ∈ [rgPortW, rgPortE, rgPacket, rgMemory] →
  ((h.regionAt r).powered = true → h.rd SF_REGION_STATE r = stRun →
    (h.disableRegion r).rd SF_REGION_STATE r = stStopped ∧ ((h.disableRegion r).regionAt r).offPend = true ∧
    (h.disableRegion r).rd PW_PAD_CFG_HELD r = 1 ∧
    SameFields [SF_REGION_STATE.key r 0, PW_STATUS_READY.key 0 0, PW_PAD_CFG_HELD.key r 0] h (h.disableRegion r)) ∧
  (h.enableRegion r).regionAt r = { h.regionAt r with wake := some 0 } ∧ (h.enableRegion r).regs = h.regs

/-- R451: a debug read while ENABLE is 0 returns 0; of the key store it returns 0 and sets DENIED, of a gated block 0xFA11 with the block's
number and sets GATED; else it returns a word of internal state (log entry 7, DESIGN CHOICE). AUTO_INC moves WORD on each time. -/
def debugRead : Prop := ∀ (s : State), s.hw.barOn = true → s.hw.rd GL_DBG_CTRL_AUTO_INC = 0 →
  (s.hw.rd GL_DBG_CTRL_ENABLE = 0 → ∀ p, exec (.debugRead p) s = .next (s.withHw (s.hw.emit (.bar 0x30C 0)))) ∧
  (s.hw.rd GL_DBG_CTRL_ENABLE ≠ 0 → s.hw.gatedBlock (s.hw.rd GL_DBG_ADDR_BLOCK) = true → ∀ p, exec (.debugRead p) s =
    .next (s.withHw ((s.hw.wr GL_DBG_CTRL_GATED 1).emit (.bar 0x30C (0xFA110000 + s.hw.rd GL_DBG_ADDR_BLOCK))))) ∧
  (s.hw.rd GL_DBG_CTRL_ENABLE ≠ 0 → s.hw.gatedBlock (s.hw.rd GL_DBG_ADDR_BLOCK) = false →
    (∀ p, s.hw.rd GL_DBG_ADDR_BLOCK = 0x5040 ∨ p = true → exec (.debugRead p) s = .next (s.withHw ((s.hw.wr GL_DBG_CTRL_DENIED 1).emit (.bar 0x30C 0)))) ∧
    (s.hw.rd GL_DBG_ADDR_BLOCK ≠ 0x5040 → ∃ v, exec (.debugRead false) s = .next (s.withHw
      (({ s.hw with free := s.hw.free + 1 } : Hw).emit (.bar 0x30C v)))))

/-- R454: a host flash operation: without GO only the word is written; a program or erase without its key, a program across a page and an
erase off its size set DENIED; one that is not denied sets BUSY and waits for its end, and the flash stays until then. -/
def flashOperation : Prop := ∀ (s : State) (v : Nat) (h : Nat → Hw), s.hw.Open (regBlock .GL_FLASH_CTRL 0 0) →
  (∀ op, h op = s.hw.writeWord .GL_FLASH_CTRL 0 (putBits v 0 3 op) 0 0) →
  ∀ op c, (op, c) ∈ [(0, Instr.flashRead v), (1, .flashProgram v), (2, .erase4k v), (3, .erase64k v)] →
    (bitOf v 15 = false → exec c s = .next (s.withHw (h op))) ∧
    (bitOf v 15 = true → (h op).rd GL_FLASH_CTRL_BUSY = 0 → op ≠ 0 → bits v 16 16 ≠ 0xF1A5 →
      exec c s = .next (s.withHw ((h op).wr GL_FLASH_CTRL_DENIED 1))) ∧
    (bitOf v 15 = true → (h op).rd GL_FLASH_CTRL_BUSY = 0 →
      (h op).flashDenied op (bits v 16 16) ((h op).rd GL_FLASH_ADDR_ADDR) ((h op).rd GL_FLASH_CTRL_LEN + 1) = false →
      ∃ t, exec c s = .next (s.withHw t) ∧ t.rd GL_FLASH_CTRL_BUSY = 1 ∧ t.pw.flashOp.isSome = true)

/-- R454: the end of a host operation, which waits for the recorder, clears BUSY and shows an overrun in ERR; a read fills the buffer and
leaves the flash, a program and an erase change the bytes they name alone. -/
def flashDone : Prop := ∀ (s : State) (slow : Bool), s.hw.Live rgFawn →
  (s.hw.pw.flashOp = none → exec (.flashOpDone slow) s = .next s) ∧ (s.hw.logBusy = true → exec (.flashOpDone slow) s = .next s) ∧
  (∀ op a len d, s.hw.pw.flashOp = some (op, a, len, d) → s.hw.logBusy = false → ∃ t n, exec (.flashOpDone slow) s = .next ⟨t, n, s.pending⟩ ∧
    t.rd GL_FLASH_CTRL_BUSY = 0 ∧ t.pw.flashOp = none ∧ (slow = true → t.rd GL_FLASH_CTRL_ERR = 1) ∧
    (op = 0 → n = s.nv ∧ t.rd GL_FLASH_BUF_BUF = leNat (splice (leBytes 256 (s.hw.rd GL_FLASH_BUF_BUF)) 0 (flashRead s.nv.flash a len)) %
      2 ^ GL_FLASH_BUF_BUF.width) ∧ (op = 1 → n = { s.nv with flash := flashProg s.nv.flash a d }) ∧
    (2 ≤ op → n = { s.nv with flash := flashErase s.nv.flash a (eraseSize op) }))

/-- R454: a program clears bits of the bytes it names and no other byte changes; an erase leaves its bytes 0xFF and no other changes. -/
def flashBytes : Prop := ∀ (m : List Host.Cell), flashWf m = true →
  (∀ a d x, flashAt (flashProg m a d) x = if a ≤ x ∧ x < a + d.length then flashAt m x &&& d.getD (x - a) 0 else flashAt m x) ∧
  (∀ a n x, flashAt (flashErase m a n) x = if a ≤ x ∧ x < a + n then 0xFF else flashAt m x)

/-- R305: scan access zeroises the key store first. -/
def scanAccess : Prop := ∀ (s : State), s.hw.Live rgFawn → ∃ t, exec .scanAccessEnable s = .next (s.withHw t) ∧ t.ks.scan = true ∧
  t = { s.hw.zeroise 6 with ks := { (s.hw.zeroise 6).ks with scan := true } }

/-- R478: a JTAG instruction takes effect and the data register it selects captures IDCODE, or 0; only the fuse instruction changes what
survives power, and no register changes but by scan access. -/
def jtagInstruction : Prop := ∀ (s : State) (i : Nat) (o : Bool), s.hw.Live rgFawn →
  (i < 6 → exec (.jtagInstruction i o) s = .next (s.withHw (({ s.hw with pw := { s.hw.pw with jtag := i } } : Hw).emit
    (.jtag i (if i = 1 then 0xA912856F else 0))))) ∧
  (i = 6 → ∃ t, exec (.jtagInstruction i o) s = .next ⟨t, { s.nv with owned := s.nv.owned || o }, s.pending⟩ ∧ t.regs = s.hw.regs)

end Sys2Proof.Spec

open Sys2Proof

/-! ### The statements -/

/-- A step runs the command at the front of the queue with the rest of the queue. -/
def Obligations.StepRunsFront : Prop :=
  Spec.frontRuns

/-- Every command answers a next state with the queue as it was, and an empty queue idles (the model's choice, log 1). -/
def Obligations.EveryCommandAnswers : Prop :=
  Spec.emptyQueueIdles ∧ Spec.everyCommandAnswers

/-- Every step keeps the boot flash in its canonical form. -/
def Obligations.FlashStaysCanonical : Prop :=
  Spec.flashKept

/-- Only ten named commands write what survives every loss of power, and only seven of them a byte of the flash. -/
def Obligations.NonVolatileFrame : Prop :=
  Spec.nonVolatileFrame ∧ Spec.flashFrame

/-- Reset: the flash invariant holds, no command waits, every field reads its reset value (log entry 3 names the model's
own). -/
def Obligations.ResetState : Prop :=
  Spec.resetValues

/-- Without VDD_FAWN, or in a region that does not run, events and commands change nothing (R427, R18, R399). -/
def Obligations.NothingActsUnsupplied : Prop :=
  Spec.noSupply ∧ Spec.stoppedRegion

/-- Counters saturate and are mirrored; rounding is half to even; byte orders and signed fields read back (R13, R344, R345,
R349, R479, R11, R9). -/
def Obligations.CountersAndNumbers : Prop :=
  Spec.counters ∧ Spec.rounding ∧ Spec.byteOrder ∧ Spec.signedFields

/-- What a microtick boundary and a tick boundary do, asleep and awake (R23, R27, R24). -/
def Obligations.TickBoundaries : Prop :=
  Spec.microtickBoundary ∧ Spec.tickBoundaryAsleep ∧ Spec.tickBoundaryRunning ∧ Spec.tickFlipNumber

/-- Source of the core clock and the reference oscillator (R20, R21, R480, R22, R132). -/
def Obligations.CoreClockSource : Prop :=
  Spec.corePllRefChange ∧ Spec.corePllFreeRun ∧ Spec.clkRevert ∧ Spec.glClkCtrlWrite ∧ Spec.refoscStop ∧ Spec.refoscRestart

/-- Downstream receivers: enabling, self-test, equaliser, LOS, CDR lock (R38, R60, R62, R41, R43, R49). -/
def Obligations.DownstreamReceivers : Prop :=
  Spec.rxEnable ∧ Spec.rxDisable ∧ Spec.rxPoweredDown ∧ Spec.rxSelftestPass ∧ Spec.rxSelftestFail ∧ Spec.eqReset ∧
  Spec.losDeclared ∧ Spec.cdrLock ∧ Spec.eqConv

/-- Frame alignment, forward error correction and delivery of downstream frames (R44, R45, R48, R46, R61, R53, R54, R57, R66,
R59, R317, R320). -/
def Obligations.FrameAlignment : Prop :=
  Spec.candidateFound ∧ Spec.confirmationReject ∧ Spec.confirmationSync ∧ Spec.expectedHit ∧ Spec.expectedLof ∧
  Spec.alignerParity ∧ Spec.codewordDecoded ∧ Spec.lnMapCfgWrite ∧ Spec.pmClear ∧ Spec.xgemFrameRx

/-- PLOAM messages: which are heard, refused or ignored, and the answers queued (R69, R78, R77, R79, R94, R72). -/
def Obligations.PloamMessages : Prop :=
  Spec.ploamBad ∧ Spec.ploamIgnored ∧ Spec.ploamAnswers ∧ Spec.ploamQueueBound ∧ Spec.assignAllocId ∧ Spec.keyControl ∧
  Spec.profileMessage ∧ Spec.requestRegistration

/-- Activation states, ranging, deactivation and the activation timers (R72, R75, R87, R73, R82, R76, R84, R481). -/
def Obligations.ActivationAndRanging : Prop :=
  Spec.actEnable ∧ Spec.burstProfile ∧ Spec.assignOnuId ∧ Spec.rangingTime ∧ Spec.rangingRefused ∧ Spec.deactivateOnuId ∧
  Spec.activationTimers ∧ Spec.opticsDelayRejected

/-- Emergency stop and its copy in the flash (R75). -/
def Obligations.EmergencyStop : Prop :=
  Spec.emergencyStop ∧ Spec.emergencyRelease ∧ Spec.estopFlashCopy

/-- Upstream bursts: staging, BURST_EN, launch and the burst watchdog (R83, R88, R91, R80, R92). -/
def Obligations.UpstreamBursts : Prop :=
  Spec.burstStaging ∧ Spec.burstEnAssert ∧ Spec.burstLaunch ∧ Spec.burstEnDeassert ∧ Spec.burstWatchdogTrip

/-- OMCI messages: checks, answers and the hold timer; OMCI_REFUSE (R98, R97). -/
def Obligations.OmciMessages : Prop :=
  Spec.omciBad ∧ Spec.omciAnswered ∧ Spec.omciCfgAnswer ∧ Spec.omciHoldExpiry ∧ Spec.omciRefuse

/-- Herds: HELLO, the herd description, switches, reports and dissolution (R111, R119, R117, R112, R99, R121, R122, R116,
R113, R114). -/
def Obligations.HerdMembership : Prop :=
  Spec.memberStatus ∧ Spec.helloSend ∧ Spec.hello ∧ Spec.herdDesc ∧ Spec.herdDescSwitch ∧ Spec.herdReports ∧ Spec.eqdU1 ∧
  Spec.bondAlloc ∧ Spec.swEnClear ∧ Spec.herdDissolved

/-- Wavelengths, the dispersion estimator and the asymmetry override (R102, R126, R127, R128, R123). -/
def Obligations.DispersionEstimate : Prop :=
  Spec.hdWavelengthWrite ∧ Spec.estimatorModeWrite ∧ Spec.asymOverrideWrite ∧ Spec.fitComplete ∧ Spec.estimatorApply

/-- The time counter, its shadow, and setting the time (R129, R131, R130, R135). -/
def Obligations.TimeCounters : Prop :=
  Spec.counterAdvance ∧ Spec.lockstepMismatch ∧ Spec.lsResync ∧ Spec.tcSetGo ∧ Spec.tcSetRuns

/-- Time-of-day attributes, domain qualification and the quality ladder (R139, R145, R152, R151). -/
def Obligations.TimeDomains : Prop :=
  Spec.todaAttribute ∧ Spec.tcTodaInGo ∧ Spec.todaChecked ∧ Spec.sfcExtended ∧ Spec.domainQualified ∧ Spec.holdoverExpiry ∧
  Spec.ladder

/-- 1PPS input, the oscillator measurement, comparators, captures, pins and time-of-day messages (R146, R149, R132, R154,
R159, R157, R375, R158, R409, R413). -/
def Obligations.PulsesAndCaptures : Prop :=
  Spec.ppsEdge ∧ Spec.ppsAcceptance ∧ Spec.ppsMissing ∧ Spec.oscMeasured ∧ Spec.comparatorTarget ∧ Spec.comparatorEdge ∧
  Spec.pulseEnd ∧ Spec.captureDropped ∧ Spec.captureTaken ∧ Spec.todSend ∧ Spec.pinReadback

/-- PTP requests: which are answered, refused or dropped (R172, R174, R175, R163, R166, R176, R178, R179, R177). -/
def Obligations.PtpRequests : Prop :=
  Spec.syncRequest ∧ Spec.announceRequest ∧ Spec.ptpDisabled ∧ Spec.requestsNoLat ∧ Spec.requestsOff ∧ Spec.delayReq ∧
  Spec.pdelayReq

/-- NTP, ARP and ESMC frames, the request queue, rate limits and the responder's transmissions (R179, R178, R182, R180, R164,
R183, R185, R169, R187). -/
def Obligations.OtherTimeRequests : Prop :=
  Spec.requestQueue ∧ Spec.tokenBucket ∧ Spec.ntpDiscarded ∧ Spec.ntpRequest ∧ Spec.arpRequest ∧ Spec.esmcRx ∧
  Spec.esmcSends ∧ Spec.responderCommit ∧ Spec.syncCommit ∧ Spec.txLate

/-- Attachment failure, station links, idle lanes, recalibration and PRBS tests (R166, R193, R195, R221, R222, R218, R233,
R234, R232). -/
def Obligations.StationLinks : Prop :=
  Spec.stationLaneLock ∧ Spec.attachmentFail ∧ Spec.attachmentRecover ∧ Spec.linkUp ∧ Spec.laneIdle ∧ Spec.dfeEqReset ∧
  Spec.laneRecal ∧ Spec.laneRecalDone ∧ Spec.prbs

/-- Frames at the station ports: checks, pauses and transmission (R224, R225, R227, R228, R230, R226). -/
def Obligations.StationFrames : Prop :=
  Spec.macRxChecks ∧ Spec.macRxFull ∧ Spec.macFrameRx ∧ Spec.pauseTimerExpiry ∧ Spec.pauses ∧ Spec.macFrameTx ∧ Spec.macSent

/-- What each parser instruction that only changes its pass does (R350, R239, R242, R238, R249). -/
def Obligations.ParserInstructions : Prop :=
  Spec.sampleOff ∧ Spec.pNop ∧ Spec.pLoads ∧ Spec.pLd ∧ Spec.pWindowByte ∧ Spec.pAdv ∧ Spec.pMark ∧ Spec.pKeys ∧
  Spec.pMeta ∧ Spec.pLchk ∧ Spec.pBf

/-- Hash and lookup instructions and their results; CRC32C check value (R243, R245, R251). -/
def Obligations.ParserResults : Prop :=
  Spec.pHashLookup ∧ Spec.canonSymmetric ∧ Spec.crcCheck ∧ Spec.hashResult

/-- ALU arithmetic, and which instructions change the flags (R240, R251, R252, R242). -/
def Obligations.ParserFlags : Prop :=
  Spec.pAlu ∧ Spec.pCmp ∧ Spec.lookupResult ∧ Spec.flagsKept ∧ Spec.aluWraps ∧ Spec.pBudget

/-- Verdicts, recirculation and the DEPTH handler (R247, R256, R242, R250, R248). -/
def Obligations.ParserVerdicts : Prop :=
  Spec.pFwd ∧ Spec.pVerdicts ∧ Spec.pRecirc ∧ Spec.pDepth

/-- Until its verdict a parser pass has no effect but on itself (R246). -/
def Obligations.ParserPassIsPrivate : Prop :=
  Spec.passPrivate

/-- Every parser instruction is read back from its word, and a word spells no other instruction (R239, R258). -/
def Obligations.ParserWordRoundTrip : Prop :=
  Spec.parserRoundTrip ∧ Spec.parserWordUnique ∧ Spec.parserReserved ∧ Spec.parserTargets

/-- Admission, queue limits, policers and eligibility (R262, R263, R268, R265, R270, R269). -/
def Obligations.QueueAdmission : Prop :=
  Spec.admission ∧ Spec.queueLimits ∧ Spec.tailLinked ∧ Spec.eligibility ∧ Spec.policerColours ∧ Spec.refillBounded

/-- The scheduler: windows share service as their weights say (R265, R324, R266, R272). -/
def Obligations.Scheduling : Prop :=
  Spec.schedulerSelect ∧ Spec.securedEgress ∧ Spec.nodeStopped ∧ Spec.windowShares ∧ Spec.windowPassesOn

/-- Upstream staging, the bridge between the attachments, homing and FRER (R273, R203, R208, R206, R200, R197). -/
def Obligations.StagingAndBridge : Prop :=
  Spec.stagingFill ∧ Spec.returnTimeout ∧ Spec.fifoEmpty ∧ Spec.homingHome ∧ Spec.bridgeDrain ∧ Spec.bridgeSpace ∧
  Spec.frerResetTimeout ∧ Spec.rTagLayout

/-- Buffer pools: pointer checks, allocation, freeing and transfer (R296, R297, R294, R292, R295, R291). -/
def Obligations.PoolPointers : Prop :=
  Spec.pointerChecks ∧ Spec.rejectedFree ∧ Spec.allocFresh ∧ Spec.poolAllocRefused ∧ Spec.poolAlloc ∧ Spec.poolFree ∧
  Spec.poolXfer ∧ Spec.poolFillDone

/-- Memory repair, channel migration and patrol scrubbing (R288, R287, R283, R282, R284, R285). -/
def Obligations.MemoryRepair : Prop :=
  Spec.memRepair ∧ Spec.migrationComplete ∧ Spec.migrationSwitch ∧ Spec.memRepairDone ∧ Spec.zqRecal ∧ Spec.patrolScrub ∧
  Spec.bankError

/-- Key commands: what each refuses, writes and completes with (R306, R314, R311, R312, R307, R308, R310). -/
def Obligations.KeyCommands : Prop :=
  Spec.lockedStore ∧ Spec.ownedSlot ∧ Spec.keyGen ∧ Spec.keyLoadRefused ∧ Spec.keyLoad ∧ Spec.keyExport ∧ Spec.keyErase ∧
  Spec.slotErased ∧ Spec.dkekProvision

/-- Zeroisation of the key store, its alarm, and the random number generator's health (R314, R312, R305). -/
def Obligations.Zeroisation : Prop :=
  Spec.zeroised ∧ Spec.keyZeroise ∧ Spec.ksZeroise ∧ Spec.zeroiseSensor ∧ Spec.alarmClr ∧ Spec.trngHealth ∧ Spec.scanAccess

/-- Cipher work: issue, home clusters, packet numbers, completion and stale generations (R307, R309, R317, R320, R319, R302,
R324, R325, R303, R308). -/
def Obligations.CipherLanes : Prop :=
  Spec.downWork ∧ Spec.upWork ∧ Spec.homeFirst ∧ Spec.macsecNumber ∧ Spec.frameDone ∧ Spec.laneMismatched ∧ Spec.staleGen

/-- MACsec associations: install, switch, read, retire; the check and the window of received frames (log 82) (R306, R322,
R326, R321, R323). -/
def Obligations.SecureAssociations : Prop :=
  Spec.saInstall ∧ Spec.saSwitch ∧ Spec.saRead ∧ Spec.saRetire ∧ Spec.secEntry ∧ Spec.rxChannel ∧ Spec.rxRelease

/-- Dispatcher lists, atomic and ordered tags, and dispatch (R328, R336, R329, R332, R295, R331). -/
def Obligations.DispatcherLists : Prop :=
  Spec.listTakesItem ∧ Spec.listPressure ∧ Spec.dispatchNothing ∧ Spec.dispatchSelect ∧ Spec.atomicTag ∧ Spec.releaseOrder

/-- Service cores, mailboxes, firmware updates and PM dumps (R340, R332, R295, R341, R369, R342, R343, R353). -/
def Obligations.ServiceCores : Prop :=
  Spec.coreItemTimeout ∧ Spec.coreFailed ∧ Spec.coreRelease ∧ Spec.mailboxInfo ∧ Spec.mboxUnknown ∧ Spec.fwUpdate ∧
  Spec.fwRollback ∧ Spec.fwSwap ∧ Spec.pmDump

/-- An opcode outside Table 14-6 completes UNSUPPORTED (R370). -/
def Obligations.UnsupportedOpcode : Prop :=
  Spec.unsupportedOpcode

/-- How a command is taken and completed, and how events and entries are written (R362, R368, R361, R357, R360, R369, R375,
R370). -/
def Obligations.CommandRings : Prop :=
  Spec.hostCmdForms ∧ Spec.cmdConsumed ∧ Spec.ringErrorFrame ∧ Spec.entryPushed ∧ Spec.completionWritten ∧
  Spec.eventDropped ∧ Spec.cipherEvents ∧ Spec.nopCmd

/-- Rings, doorbells, descriptors, interrupts (R359, R364, R362, R360, R366, R367, R376). -/
def Obligations.DescriptorRings : Prop :=
  Spec.ringEnableWrite ∧ Spec.ringStop ∧ Spec.pollNow ∧ Spec.doorbellPoll ∧ Spec.doorbellSlot ∧ Spec.txDescriptor ∧
  Spec.txDropped ∧ Spec.rxWriteback ∧ Spec.msixSignal

/-- EPOCH_OPEN: its number, BUSY and STALE_EPOCH (R379, R382, R383). -/
def Obligations.EpochOpen : Prop :=
  Spec.epochOpen

/-- Staging objects and table entries into the pending epoch (R384, R378, R379, R253, R252). -/
def Obligations.EpochStaging : Prop :=
  Spec.stagingStops ∧ Spec.cfgLoad ∧ Spec.objectStaged ∧ Spec.tblWrite ∧ Spec.entryRefused ∧ Spec.entryPlaced

/-- Commit, validation, abort, rollback, arming and draining of epochs (R385, R386, R391, R392, R387, R394, R388). -/
def Obligations.EpochCommitAndRollback : Prop :=
  Spec.epochCommit ∧ Spec.epochDiscarded ∧ Spec.validationDone ∧ Spec.epochAbort ∧ Spec.epochRollback ∧ Spec.rollbackNow ∧
  Spec.epochArm ∧ Spec.noFlip ∧ Spec.drainEnd ∧ Spec.drainTimeout

/-- Gated accesses: what they return and what SF_REGION shows (R399). -/
def Obligations.GatedAccess : Prop :=
  Spec.gatedBlocks ∧ Spec.gatedAccess ∧ Spec.gatedWrite

/-- Unassigned offsets read 0 and drop writes (R35). -/
def Obligations.UnassignedAccess : Prop :=
  Spec.unassignedAccess

/-- Register reads and writes by access code, latching, bad accesses, and a silent BAR0 (R355, R13, R12, R481, R3, R399,
R451). -/
def Obligations.RegisterAccess : Prop :=
  Spec.badAcc ∧ Spec.rcRead ∧ Spec.latchingRead ∧ Spec.wordWrite ∧ Spec.registerWrite ∧ Spec.guardedFields ∧
  Spec.pcieLinkTrained ∧ Spec.barSilent ∧ Spec.debugRead

/-- Cell errors, detections, reactions, the cross-check, the self-check and injections (R17, R408, R409, R413, R414, R411,
R417, R418). -/
def Obligations.SafetyDetections : Prop :=
  Spec.cellError ∧ Spec.detectionOnset ∧ Spec.reactionLatched ∧ Spec.sfAck ∧ Spec.crossCheck ∧ Spec.selfCheck ∧
  Spec.injection

/-- Operating levels, their causes and commands (R403, R405, R406, R404). -/
def Obligations.OperatingLevels : Prop :=
  Spec.thermal ∧ Spec.levelCommands ∧ Spec.levelShown ∧ Spec.timeOnlyEntered

/-- Reloads that the host requests, and the limit on automatic ones (R402, R18). -/
def Obligations.HostReload : Prop :=
  Spec.reloadWrite ∧ Spec.reloadBegins

/-- Region watchdogs, reloads, readiness, failure and the loss of CONTROL (R398, R18, R401). -/
def Obligations.RegionReload : Prop :=
  Spec.watchdogTrip ∧ Spec.regionFailed ∧ Spec.regionReload ∧ Spec.regionReady ∧ Spec.reloadTimeout ∧ Spec.controlLost

/-- The event recorder: RAM ring, flash log, hours, reads and erases (R422, R420, R423, R424, R425). -/
def Obligations.EventRecorder : Prop :=
  Spec.recordPlaced ∧ Spec.ringBound ∧ Spec.opHours ∧ Spec.logWrite ∧ Spec.victimSeverity ∧ Spec.logWriteDone ∧
  Spec.recordRead ∧ Spec.readDone ∧ Spec.logErase

/-- Supplies, resets, boot and start-up (R427, R466, R428, R429, R435, R420, R431, R433, R434). -/
def Obligations.PowerAndReset : Prop :=
  Spec.vddFawnRise ∧ Spec.vddFawnLoss ∧ Spec.vddFawnLow ∧ Spec.pwrOkFall ∧ Spec.pwrOkFallCounter ∧ Spec.chipReset ∧
  Spec.sysRstN ∧ Spec.perstN ∧ Spec.wakeInputs ∧ Spec.pwrOkRise ∧ Spec.bootRecovery ∧ Spec.bootPasses ∧ Spec.startUp ∧
  Spec.regionStarts

/-- Standby, wake-latency power states and enables of regions (R435, R436, R437, R438, R439, R444, R93, R443, R461, R463,
R448). -/
def Obligations.PowerStates : Prop :=
  Spec.standbyWrite ∧ Spec.standbyWakeTimeout ∧ Spec.stateChosen ∧ Spec.refusals ∧ Spec.powerStateEntered ∧ Spec.blockWake ∧
  Spec.padRelease ∧ Spec.padLevels ∧ Spec.enableWrite ∧ Spec.enableEffect

/-- PMBus requests, the voltage target and the power limit (R440, R441, R442). -/
def Obligations.VoltageAndPower : Prop :=
  Spec.pmbusDone ∧ Spec.pmbusRetry ∧ Spec.avsTarget ∧ Spec.powerSum ∧ Spec.pmbAlert

/-- Host flash operations and JTAG instructions (R454, R478). -/
def Obligations.FlashAndJtag : Prop :=
  Spec.flashOperation ∧ Spec.flashDone ∧ Spec.flashBytes ∧ Spec.jtagInstruction
end

