-- ==== Sys2Proof/Laws/State.lean ====
section
/-! SUPPORT. One lemma per field per update of the block: an update leaves every part but its own as it was. -/

namespace Sys2Proof.Machine

@[simp] theorem Hw.wr_latch (h : Hw) (f : Fld) (v i j : Nat) : (h.wr f v i j).latch = h.latch := rfl
@[simp] theorem Hw.wr_stage (h : Hw) (f : Fld) (v i j : Nat) : (h.wr f v i j).stage = h.stage := rfl
@[simp] theorem Hw.wr_pcnt (h : Hw) (f : Fld) (v i j : Nat) : (h.wr f v i j).pcnt = h.pcnt := rfl
@[simp] theorem Hw.wr_clk (h : Hw) (f : Fld) (v i j : Nat) : (h.wr f v i j).clk = h.clk := rfl
@[simp] theorem Hw.wr_host (h : Hw) (f : Fld) (v i j : Nat) : (h.wr f v i j).host = h.host := rfl
@[simp] theorem Hw.wr_ep (h : Hw) (f : Fld) (v i j : Nat) : (h.wr f v i j).ep = h.ep := rfl
@[simp] theorem Hw.wr_rcd (h : Hw) (f : Fld) (v i j : Nat) : (h.wr f v i j).rcd = h.rcd := rfl
@[simp] theorem Hw.wr_sf (h : Hw) (f : Fld) (v i j : Nat) : (h.wr f v i j).sf = h.sf := rfl
@[simp] theorem Hw.wr_pw (h : Hw) (f : Fld) (v i j : Nat) : (h.wr f v i j).pw = h.pw := rfl
@[simp] theorem Hw.wr_rx (h : Hw) (f : Fld) (v i j : Nat) : (h.wr f v i j).rx = h.rx := rfl
@[simp] theorem Hw.wr_map (h : Hw) (f : Fld) (v i j : Nat) : (h.wr f v i j).map = h.map := rfl
@[simp] theorem Hw.wr_act (h : Hw) (f : Fld) (v i j : Nat) : (h.wr f v i j).act = h.act := rfl
@[simp] theorem Hw.wr_up (h : Hw) (f : Fld) (v i j : Nat) : (h.wr f v i j).up = h.up := rfl
@[simp] theorem Hw.wr_herd (h : Hw) (f : Fld) (v i j : Nat) : (h.wr f v i j).herd = h.herd := rfl
@[simp] theorem Hw.wr_ptr (h : Hw) (f : Fld) (v i j : Nat) : (h.wr f v i j).ptr = h.ptr := rfl
@[simp] theorem Hw.wr_time (h : Hw) (f : Fld) (v i j : Nat) : (h.wr f v i j).time = h.time := rfl
@[simp] theorem Hw.wr_ks (h : Hw) (f : Fld) (v i j : Nat) : (h.wr f v i j).ks = h.ks := rfl
@[simp] theorem Hw.wr_pk (h : Hw) (f : Fld) (v i j : Nat) : (h.wr f v i j).pk = h.pk := rfl
@[simp] theorem Hw.wr_mem (h : Hw) (f : Fld) (v i j : Nat) : (h.wr f v i j).mem = h.mem := rfl
@[simp] theorem Hw.wr_ts (h : Hw) (f : Fld) (v i j : Nat) : (h.wr f v i j).ts = h.ts := rfl
@[simp] theorem Hw.wr_port (h : Hw) (f : Fld) (v i j : Nat) : (h.wr f v i j).port = h.port := rfl
@[simp] theorem Hw.wr_recal (h : Hw) (f : Fld) (v i j : Nat) : (h.wr f v i j).recal = h.recal := rfl
@[simp] theorem Hw.wr_toHost (h : Hw) (f : Fld) (v i j : Nat) : (h.wr f v i j).toHost = h.toHost := rfl
@[simp] theorem Hw.wr_wraps (h : Hw) (f : Fld) (v i j : Nat) : (h.wr f v i j).wraps = h.wraps := rfl
@[simp] theorem Hw.wr_free (h : Hw) (f : Fld) (v i j : Nat) : (h.wr f v i j).free = h.free := rfl
@[simp] theorem Hw.wr_out (h : Hw) (f : Fld) (v i j : Nat) : (h.wr f v i j).out = h.out := rfl

@[simp] theorem Hw.inc_latch (h : Hw) (f : Fld) (i j n : Nat) : (h.inc f i j n).latch = h.latch := rfl
@[simp] theorem Hw.inc_stage (h : Hw) (f : Fld) (i j n : Nat) : (h.inc f i j n).stage = h.stage := rfl
@[simp] theorem Hw.inc_clk (h : Hw) (f : Fld) (i j n : Nat) : (h.inc f i j n).clk = h.clk := rfl
@[simp] theorem Hw.inc_host (h : Hw) (f : Fld) (i j n : Nat) : (h.inc f i j n).host = h.host := rfl
@[simp] theorem Hw.inc_ep (h : Hw) (f : Fld) (i j n : Nat) : (h.inc f i j n).ep = h.ep := rfl
@[simp] theorem Hw.inc_rcd (h : Hw) (f : Fld) (i j n : Nat) : (h.inc f i j n).rcd = h.rcd := rfl
@[simp] theorem Hw.inc_sf (h : Hw) (f : Fld) (i j n : Nat) : (h.inc f i j n).sf = h.sf := rfl
@[simp] theorem Hw.inc_pw (h : Hw) (f : Fld) (i j n : Nat) : (h.inc f i j n).pw = h.pw := rfl
@[simp] theorem Hw.inc_rx (h : Hw) (f : Fld) (i j n : Nat) : (h.inc f i j n).rx = h.rx := rfl
@[simp] theorem Hw.inc_map (h : Hw) (f : Fld) (i j n : Nat) : (h.inc f i j n).map = h.map := rfl
@[simp] theorem Hw.inc_act (h : Hw) (f : Fld) (i j n : Nat) : (h.inc f i j n).act = h.act := rfl
@[simp] theorem Hw.inc_up (h : Hw) (f : Fld) (i j n : Nat) : (h.inc f i j n).up = h.up := rfl
@[simp] theorem Hw.inc_herd (h : Hw) (f : Fld) (i j n : Nat) : (h.inc f i j n).herd = h.herd := rfl
@[simp] theorem Hw.inc_ptr (h : Hw) (f : Fld) (i j n : Nat) : (h.inc f i j n).ptr = h.ptr := rfl
@[simp] theorem Hw.inc_time (h : Hw) (f : Fld) (i j n : Nat) : (h.inc f i j n).time = h.time := rfl
@[simp] theorem Hw.inc_ks (h : Hw) (f : Fld) (i j n : Nat) : (h.inc f i j n).ks = h.ks := rfl
@[simp] theorem Hw.inc_pk (h : Hw) (f : Fld) (i j n : Nat) : (h.inc f i j n).pk = h.pk := rfl
@[simp] theorem Hw.inc_mem (h : Hw) (f : Fld) (i j n : Nat) : (h.inc f i j n).mem = h.mem := rfl
@[simp] theorem Hw.inc_ts (h : Hw) (f : Fld) (i j n : Nat) : (h.inc f i j n).ts = h.ts := rfl
@[simp] theorem Hw.inc_port (h : Hw) (f : Fld) (i j n : Nat) : (h.inc f i j n).port = h.port := rfl
@[simp] theorem Hw.inc_recal (h : Hw) (f : Fld) (i j n : Nat) : (h.inc f i j n).recal = h.recal := rfl
@[simp] theorem Hw.inc_toHost (h : Hw) (f : Fld) (i j n : Nat) : (h.inc f i j n).toHost = h.toHost := rfl
@[simp] theorem Hw.inc_free (h : Hw) (f : Fld) (i j n : Nat) : (h.inc f i j n).free = h.free := rfl
@[simp] theorem Hw.inc_out (h : Hw) (f : Fld) (i j n : Nat) : (h.inc f i j n).out = h.out := rfl

@[simp] theorem Hw.incW_latch (h : Hw) (f : Fld) (i j n : Nat) : (h.incW f i j n).latch = h.latch := rfl
@[simp] theorem Hw.incW_stage (h : Hw) (f : Fld) (i j n : Nat) : (h.incW f i j n).stage = h.stage := rfl
@[simp] theorem Hw.incW_clk (h : Hw) (f : Fld) (i j n : Nat) : (h.incW f i j n).clk = h.clk := rfl
@[simp] theorem Hw.incW_host (h : Hw) (f : Fld) (i j n : Nat) : (h.incW f i j n).host = h.host := rfl
@[simp] theorem Hw.incW_ep (h : Hw) (f : Fld) (i j n : Nat) : (h.incW f i j n).ep = h.ep := rfl
@[simp] theorem Hw.incW_rcd (h : Hw) (f : Fld) (i j n : Nat) : (h.incW f i j n).rcd = h.rcd := rfl
@[simp] theorem Hw.incW_sf (h : Hw) (f : Fld) (i j n : Nat) : (h.incW f i j n).sf = h.sf := rfl
@[simp] theorem Hw.incW_pw (h : Hw) (f : Fld) (i j n : Nat) : (h.incW f i j n).pw = h.pw := rfl
@[simp] theorem Hw.incW_rx (h : Hw) (f : Fld) (i j n : Nat) : (h.incW f i j n).rx = h.rx := rfl
@[simp] theorem Hw.incW_map (h : Hw) (f : Fld) (i j n : Nat) : (h.incW f i j n).map = h.map := rfl
@[simp] theorem Hw.incW_act (h : Hw) (f : Fld) (i j n : Nat) : (h.incW f i j n).act = h.act := rfl
@[simp] theorem Hw.incW_up (h : Hw) (f : Fld) (i j n : Nat) : (h.incW f i j n).up = h.up := rfl
@[simp] theorem Hw.incW_herd (h : Hw) (f : Fld) (i j n : Nat) : (h.incW f i j n).herd = h.herd := rfl
@[simp] theorem Hw.incW_ptr (h : Hw) (f : Fld) (i j n : Nat) : (h.incW f i j n).ptr = h.ptr := rfl
@[simp] theorem Hw.incW_time (h : Hw) (f : Fld) (i j n : Nat) : (h.incW f i j n).time = h.time := rfl
@[simp] theorem Hw.incW_ks (h : Hw) (f : Fld) (i j n : Nat) : (h.incW f i j n).ks = h.ks := rfl
@[simp] theorem Hw.incW_pk (h : Hw) (f : Fld) (i j n : Nat) : (h.incW f i j n).pk = h.pk := rfl
@[simp] theorem Hw.incW_mem (h : Hw) (f : Fld) (i j n : Nat) : (h.incW f i j n).mem = h.mem := rfl
@[simp] theorem Hw.incW_ts (h : Hw) (f : Fld) (i j n : Nat) : (h.incW f i j n).ts = h.ts := rfl
@[simp] theorem Hw.incW_port (h : Hw) (f : Fld) (i j n : Nat) : (h.incW f i j n).port = h.port := rfl
@[simp] theorem Hw.incW_recal (h : Hw) (f : Fld) (i j n : Nat) : (h.incW f i j n).recal = h.recal := rfl
@[simp] theorem Hw.incW_toHost (h : Hw) (f : Fld) (i j n : Nat) : (h.incW f i j n).toHost = h.toHost := rfl
@[simp] theorem Hw.incW_free (h : Hw) (f : Fld) (i j n : Nat) : (h.incW f i j n).free = h.free := rfl
@[simp] theorem Hw.incW_out (h : Hw) (f : Fld) (i j n : Nat) : (h.incW f i j n).out = h.out := rfl

@[simp] theorem Hw.emit_regs (h : Hw) (o : Out) : (h.emit o).regs = h.regs := rfl
@[simp] theorem Hw.emit_latch (h : Hw) (o : Out) : (h.emit o).latch = h.latch := rfl
@[simp] theorem Hw.emit_stage (h : Hw) (o : Out) : (h.emit o).stage = h.stage := rfl
@[simp] theorem Hw.emit_pcnt (h : Hw) (o : Out) : (h.emit o).pcnt = h.pcnt := rfl
@[simp] theorem Hw.emit_clk (h : Hw) (o : Out) : (h.emit o).clk = h.clk := rfl
@[simp] theorem Hw.emit_host (h : Hw) (o : Out) : (h.emit o).host = h.host := rfl
@[simp] theorem Hw.emit_ep (h : Hw) (o : Out) : (h.emit o).ep = h.ep := rfl
@[simp] theorem Hw.emit_rcd (h : Hw) (o : Out) : (h.emit o).rcd = h.rcd := rfl
@[simp] theorem Hw.emit_sf (h : Hw) (o : Out) : (h.emit o).sf = h.sf := rfl
@[simp] theorem Hw.emit_pw (h : Hw) (o : Out) : (h.emit o).pw = h.pw := rfl
@[simp] theorem Hw.emit_rx (h : Hw) (o : Out) : (h.emit o).rx = h.rx := rfl
@[simp] theorem Hw.emit_map (h : Hw) (o : Out) : (h.emit o).map = h.map := rfl
@[simp] theorem Hw.emit_act (h : Hw) (o : Out) : (h.emit o).act = h.act := rfl
@[simp] theorem Hw.emit_up (h : Hw) (o : Out) : (h.emit o).up = h.up := rfl
@[simp] theorem Hw.emit_herd (h : Hw) (o : Out) : (h.emit o).herd = h.herd := rfl
@[simp] theorem Hw.emit_ptr (h : Hw) (o : Out) : (h.emit o).ptr = h.ptr := rfl
@[simp] theorem Hw.emit_time (h : Hw) (o : Out) : (h.emit o).time = h.time := rfl
@[simp] theorem Hw.emit_ks (h : Hw) (o : Out) : (h.emit o).ks = h.ks := rfl
@[simp] theorem Hw.emit_pk (h : Hw) (o : Out) : (h.emit o).pk = h.pk := rfl
@[simp] theorem Hw.emit_mem (h : Hw) (o : Out) : (h.emit o).mem = h.mem := rfl
@[simp] theorem Hw.emit_ts (h : Hw) (o : Out) : (h.emit o).ts = h.ts := rfl
@[simp] theorem Hw.emit_port (h : Hw) (o : Out) : (h.emit o).port = h.port := rfl
@[simp] theorem Hw.emit_recal (h : Hw) (o : Out) : (h.emit o).recal = h.recal := rfl
@[simp] theorem Hw.emit_toHost (h : Hw) (o : Out) : (h.emit o).toHost = h.toHost := rfl
@[simp] theorem Hw.emit_wraps (h : Hw) (o : Out) : (h.emit o).wraps = h.wraps := rfl
@[simp] theorem Hw.emit_free (h : Hw) (o : Out) : (h.emit o).free = h.free := rfl

@[simp] theorem Hw.emit_rd (h : Hw) (o : Out) (x : Fld) (i' j' : Nat) : (h.emit o).rd x i' j' = h.rd x i' j' := rfl

@[simp] theorem Hw.setRx_regs (h : Hw) (k : Nat) (g : RxSt → RxSt) : (h.setRx k g).regs = h.regs := rfl
@[simp] theorem Hw.setRx_latch (h : Hw) (k : Nat) (g : RxSt → RxSt) : (h.setRx k g).latch = h.latch := rfl
@[simp] theorem Hw.setRx_stage (h : Hw) (k : Nat) (g : RxSt → RxSt) : (h.setRx k g).stage = h.stage := rfl
@[simp] theorem Hw.setRx_pcnt (h : Hw) (k : Nat) (g : RxSt → RxSt) : (h.setRx k g).pcnt = h.pcnt := rfl
@[simp] theorem Hw.setRx_clk (h : Hw) (k : Nat) (g : RxSt → RxSt) : (h.setRx k g).clk = h.clk := rfl
@[simp] theorem Hw.setRx_host (h : Hw) (k : Nat) (g : RxSt → RxSt) : (h.setRx k g).host = h.host := rfl
@[simp] theorem Hw.setRx_ep (h : Hw) (k : Nat) (g : RxSt → RxSt) : (h.setRx k g).ep = h.ep := rfl
@[simp] theorem Hw.setRx_rcd (h : Hw) (k : Nat) (g : RxSt → RxSt) : (h.setRx k g).rcd = h.rcd := rfl
@[simp] theorem Hw.setRx_sf (h : Hw) (k : Nat) (g : RxSt → RxSt) : (h.setRx k g).sf = h.sf := rfl
@[simp] theorem Hw.setRx_pw (h : Hw) (k : Nat) (g : RxSt → RxSt) : (h.setRx k g).pw = h.pw := rfl
@[simp] theorem Hw.setRx_map (h : Hw) (k : Nat) (g : RxSt → RxSt) : (h.setRx k g).map = h.map := rfl
@[simp] theorem Hw.setRx_act (h : Hw) (k : Nat) (g : RxSt → RxSt) : (h.setRx k g).act = h.act := rfl
@[simp] theorem Hw.setRx_up (h : Hw) (k : Nat) (g : RxSt → RxSt) : (h.setRx k g).up = h.up := rfl
@[simp] theorem Hw.setRx_herd (h : Hw) (k : Nat) (g : RxSt → RxSt) : (h.setRx k g).herd = h.herd := rfl
@[simp] theorem Hw.setRx_ptr (h : Hw) (k : Nat) (g : RxSt → RxSt) : (h.setRx k g).ptr = h.ptr := rfl
@[simp] theorem Hw.setRx_time (h : Hw) (k : Nat) (g : RxSt → RxSt) : (h.setRx k g).time = h.time := rfl
@[simp] theorem Hw.setRx_ks (h : Hw) (k : Nat) (g : RxSt → RxSt) : (h.setRx k g).ks = h.ks := rfl
@[simp] theorem Hw.setRx_pk (h : Hw) (k : Nat) (g : RxSt → RxSt) : (h.setRx k g).pk = h.pk := rfl
@[simp] theorem Hw.setRx_mem (h : Hw) (k : Nat) (g : RxSt → RxSt) : (h.setRx k g).mem = h.mem := rfl
@[simp] theorem Hw.setRx_ts (h : Hw) (k : Nat) (g : RxSt → RxSt) : (h.setRx k g).ts = h.ts := rfl
@[simp] theorem Hw.setRx_port (h : Hw) (k : Nat) (g : RxSt → RxSt) : (h.setRx k g).port = h.port := rfl
@[simp] theorem Hw.setRx_recal (h : Hw) (k : Nat) (g : RxSt → RxSt) : (h.setRx k g).recal = h.recal := rfl
@[simp] theorem Hw.setRx_toHost (h : Hw) (k : Nat) (g : RxSt → RxSt) : (h.setRx k g).toHost = h.toHost := rfl
@[simp] theorem Hw.setRx_wraps (h : Hw) (k : Nat) (g : RxSt → RxSt) : (h.setRx k g).wraps = h.wraps := rfl
@[simp] theorem Hw.setRx_free (h : Hw) (k : Nat) (g : RxSt → RxSt) : (h.setRx k g).free = h.free := rfl
@[simp] theorem Hw.setRx_out (h : Hw) (k : Nat) (g : RxSt → RxSt) : (h.setRx k g).out = h.out := rfl

@[simp] theorem Hw.setRx_rd (h : Hw) (k : Nat) (g : RxSt → RxSt) (x : Fld) (i' j' : Nat) : (h.setRx k g).rd x i' j' = h.rd x i' j' := rfl

@[simp] theorem Hw.setMap_regs (h : Hw) (k : Nat) (g : MapSt → MapSt) : (h.setMap k g).regs = h.regs := rfl
@[simp] theorem Hw.setMap_latch (h : Hw) (k : Nat) (g : MapSt → MapSt) : (h.setMap k g).latch = h.latch := rfl
@[simp] theorem Hw.setMap_stage (h : Hw) (k : Nat) (g : MapSt → MapSt) : (h.setMap k g).stage = h.stage := rfl
@[simp] theorem Hw.setMap_pcnt (h : Hw) (k : Nat) (g : MapSt → MapSt) : (h.setMap k g).pcnt = h.pcnt := rfl
@[simp] theorem Hw.setMap_clk (h : Hw) (k : Nat) (g : MapSt → MapSt) : (h.setMap k g).clk = h.clk := rfl
@[simp] theorem Hw.setMap_host (h : Hw) (k : Nat) (g : MapSt → MapSt) : (h.setMap k g).host = h.host := rfl
@[simp] theorem Hw.setMap_ep (h : Hw) (k : Nat) (g : MapSt → MapSt) : (h.setMap k g).ep = h.ep := rfl
@[simp] theorem Hw.setMap_rcd (h : Hw) (k : Nat) (g : MapSt → MapSt) : (h.setMap k g).rcd = h.rcd := rfl
@[simp] theorem Hw.setMap_sf (h : Hw) (k : Nat) (g : MapSt → MapSt) : (h.setMap k g).sf = h.sf := rfl
@[simp] theorem Hw.setMap_pw (h : Hw) (k : Nat) (g : MapSt → MapSt) : (h.setMap k g).pw = h.pw := rfl
@[simp] theorem Hw.setMap_rx (h : Hw) (k : Nat) (g : MapSt → MapSt) : (h.setMap k g).rx = h.rx := rfl
@[simp] theorem Hw.setMap_act (h : Hw) (k : Nat) (g : MapSt → MapSt) : (h.setMap k g).act = h.act := rfl
@[simp] theorem Hw.setMap_up (h : Hw) (k : Nat) (g : MapSt → MapSt) : (h.setMap k g).up = h.up := rfl
@[simp] theorem Hw.setMap_herd (h : Hw) (k : Nat) (g : MapSt → MapSt) : (h.setMap k g).herd = h.herd := rfl
@[simp] theorem Hw.setMap_ptr (h : Hw) (k : Nat) (g : MapSt → MapSt) : (h.setMap k g).ptr = h.ptr := rfl
@[simp] theorem Hw.setMap_time (h : Hw) (k : Nat) (g : MapSt → MapSt) : (h.setMap k g).time = h.time := rfl
@[simp] theorem Hw.setMap_ks (h : Hw) (k : Nat) (g : MapSt → MapSt) : (h.setMap k g).ks = h.ks := rfl
@[simp] theorem Hw.setMap_pk (h : Hw) (k : Nat) (g : MapSt → MapSt) : (h.setMap k g).pk = h.pk := rfl
@[simp] theorem Hw.setMap_mem (h : Hw) (k : Nat) (g : MapSt → MapSt) : (h.setMap k g).mem = h.mem := rfl
@[simp] theorem Hw.setMap_ts (h : Hw) (k : Nat) (g : MapSt → MapSt) : (h.setMap k g).ts = h.ts := rfl
@[simp] theorem Hw.setMap_port (h : Hw) (k : Nat) (g : MapSt → MapSt) : (h.setMap k g).port = h.port := rfl
@[simp] theorem Hw.setMap_recal (h : Hw) (k : Nat) (g : MapSt → MapSt) : (h.setMap k g).recal = h.recal := rfl
@[simp] theorem Hw.setMap_toHost (h : Hw) (k : Nat) (g : MapSt → MapSt) : (h.setMap k g).toHost = h.toHost := rfl
@[simp] theorem Hw.setMap_wraps (h : Hw) (k : Nat) (g : MapSt → MapSt) : (h.setMap k g).wraps = h.wraps := rfl
@[simp] theorem Hw.setMap_free (h : Hw) (k : Nat) (g : MapSt → MapSt) : (h.setMap k g).free = h.free := rfl
@[simp] theorem Hw.setMap_out (h : Hw) (k : Nat) (g : MapSt → MapSt) : (h.setMap k g).out = h.out := rfl

@[simp] theorem Hw.setMap_rd (h : Hw) (k : Nat) (g : MapSt → MapSt) (x : Fld) (i' j' : Nat) : (h.setMap k g).rd x i' j' = h.rd x i' j' := rfl

@[simp] theorem Hw.setAct_regs (h : Hw) (k : Nat) (g : ActSt → ActSt) : (h.setAct k g).regs = h.regs := rfl
@[simp] theorem Hw.setAct_latch (h : Hw) (k : Nat) (g : ActSt → ActSt) : (h.setAct k g).latch = h.latch := rfl
@[simp] theorem Hw.setAct_stage (h : Hw) (k : Nat) (g : ActSt → ActSt) : (h.setAct k g).stage = h.stage := rfl
@[simp] theorem Hw.setAct_pcnt (h : Hw) (k : Nat) (g : ActSt → ActSt) : (h.setAct k g).pcnt = h.pcnt := rfl
@[simp] theorem Hw.setAct_clk (h : Hw) (k : Nat) (g : ActSt → ActSt) : (h.setAct k g).clk = h.clk := rfl
@[simp] theorem Hw.setAct_host (h : Hw) (k : Nat) (g : ActSt → ActSt) : (h.setAct k g).host = h.host := rfl
@[simp] theorem Hw.setAct_ep (h : Hw) (k : Nat) (g : ActSt → ActSt) : (h.setAct k g).ep = h.ep := rfl
@[simp] theorem Hw.setAct_rcd (h : Hw) (k : Nat) (g : ActSt → ActSt) : (h.setAct k g).rcd = h.rcd := rfl
@[simp] theorem Hw.setAct_sf (h : Hw) (k : Nat) (g : ActSt → ActSt) : (h.setAct k g).sf = h.sf := rfl
@[simp] theorem Hw.setAct_pw (h : Hw) (k : Nat) (g : ActSt → ActSt) : (h.setAct k g).pw = h.pw := rfl
@[simp] theorem Hw.setAct_rx (h : Hw) (k : Nat) (g : ActSt → ActSt) : (h.setAct k g).rx = h.rx := rfl
@[simp] theorem Hw.setAct_map (h : Hw) (k : Nat) (g : ActSt → ActSt) : (h.setAct k g).map = h.map := rfl
@[simp] theorem Hw.setAct_up (h : Hw) (k : Nat) (g : ActSt → ActSt) : (h.setAct k g).up = h.up := rfl
@[simp] theorem Hw.setAct_herd (h : Hw) (k : Nat) (g : ActSt → ActSt) : (h.setAct k g).herd = h.herd := rfl
@[simp] theorem Hw.setAct_ptr (h : Hw) (k : Nat) (g : ActSt → ActSt) : (h.setAct k g).ptr = h.ptr := rfl
@[simp] theorem Hw.setAct_time (h : Hw) (k : Nat) (g : ActSt → ActSt) : (h.setAct k g).time = h.time := rfl
@[simp] theorem Hw.setAct_ks (h : Hw) (k : Nat) (g : ActSt → ActSt) : (h.setAct k g).ks = h.ks := rfl
@[simp] theorem Hw.setAct_pk (h : Hw) (k : Nat) (g : ActSt → ActSt) : (h.setAct k g).pk = h.pk := rfl
@[simp] theorem Hw.setAct_mem (h : Hw) (k : Nat) (g : ActSt → ActSt) : (h.setAct k g).mem = h.mem := rfl
@[simp] theorem Hw.setAct_ts (h : Hw) (k : Nat) (g : ActSt → ActSt) : (h.setAct k g).ts = h.ts := rfl
@[simp] theorem Hw.setAct_port (h : Hw) (k : Nat) (g : ActSt → ActSt) : (h.setAct k g).port = h.port := rfl
@[simp] theorem Hw.setAct_recal (h : Hw) (k : Nat) (g : ActSt → ActSt) : (h.setAct k g).recal = h.recal := rfl
@[simp] theorem Hw.setAct_toHost (h : Hw) (k : Nat) (g : ActSt → ActSt) : (h.setAct k g).toHost = h.toHost := rfl
@[simp] theorem Hw.setAct_wraps (h : Hw) (k : Nat) (g : ActSt → ActSt) : (h.setAct k g).wraps = h.wraps := rfl
@[simp] theorem Hw.setAct_free (h : Hw) (k : Nat) (g : ActSt → ActSt) : (h.setAct k g).free = h.free := rfl
@[simp] theorem Hw.setAct_out (h : Hw) (k : Nat) (g : ActSt → ActSt) : (h.setAct k g).out = h.out := rfl

@[simp] theorem Hw.setAct_rd (h : Hw) (k : Nat) (g : ActSt → ActSt) (x : Fld) (i' j' : Nat) : (h.setAct k g).rd x i' j' = h.rd x i' j' := rfl

@[simp] theorem Hw.setUp_regs (h : Hw) (k : Nat) (g : UpSt → UpSt) : (h.setUp k g).regs = h.regs := rfl
@[simp] theorem Hw.setUp_latch (h : Hw) (k : Nat) (g : UpSt → UpSt) : (h.setUp k g).latch = h.latch := rfl
@[simp] theorem Hw.setUp_stage (h : Hw) (k : Nat) (g : UpSt → UpSt) : (h.setUp k g).stage = h.stage := rfl
@[simp] theorem Hw.setUp_pcnt (h : Hw) (k : Nat) (g : UpSt → UpSt) : (h.setUp k g).pcnt = h.pcnt := rfl
@[simp] theorem Hw.setUp_clk (h : Hw) (k : Nat) (g : UpSt → UpSt) : (h.setUp k g).clk = h.clk := rfl
@[simp] theorem Hw.setUp_host (h : Hw) (k : Nat) (g : UpSt → UpSt) : (h.setUp k g).host = h.host := rfl
@[simp] theorem Hw.setUp_ep (h : Hw) (k : Nat) (g : UpSt → UpSt) : (h.setUp k g).ep = h.ep := rfl
@[simp] theorem Hw.setUp_rcd (h : Hw) (k : Nat) (g : UpSt → UpSt) : (h.setUp k g).rcd = h.rcd := rfl
@[simp] theorem Hw.setUp_sf (h : Hw) (k : Nat) (g : UpSt → UpSt) : (h.setUp k g).sf = h.sf := rfl
@[simp] theorem Hw.setUp_pw (h : Hw) (k : Nat) (g : UpSt → UpSt) : (h.setUp k g).pw = h.pw := rfl
@[simp] theorem Hw.setUp_rx (h : Hw) (k : Nat) (g : UpSt → UpSt) : (h.setUp k g).rx = h.rx := rfl
@[simp] theorem Hw.setUp_map (h : Hw) (k : Nat) (g : UpSt → UpSt) : (h.setUp k g).map = h.map := rfl
@[simp] theorem Hw.setUp_act (h : Hw) (k : Nat) (g : UpSt → UpSt) : (h.setUp k g).act = h.act := rfl
@[simp] theorem Hw.setUp_herd (h : Hw) (k : Nat) (g : UpSt → UpSt) : (h.setUp k g).herd = h.herd := rfl
@[simp] theorem Hw.setUp_ptr (h : Hw) (k : Nat) (g : UpSt → UpSt) : (h.setUp k g).ptr = h.ptr := rfl
@[simp] theorem Hw.setUp_time (h : Hw) (k : Nat) (g : UpSt → UpSt) : (h.setUp k g).time = h.time := rfl
@[simp] theorem Hw.setUp_ks (h : Hw) (k : Nat) (g : UpSt → UpSt) : (h.setUp k g).ks = h.ks := rfl
@[simp] theorem Hw.setUp_pk (h : Hw) (k : Nat) (g : UpSt → UpSt) : (h.setUp k g).pk = h.pk := rfl
@[simp] theorem Hw.setUp_mem (h : Hw) (k : Nat) (g : UpSt → UpSt) : (h.setUp k g).mem = h.mem := rfl
@[simp] theorem Hw.setUp_ts (h : Hw) (k : Nat) (g : UpSt → UpSt) : (h.setUp k g).ts = h.ts := rfl
@[simp] theorem Hw.setUp_port (h : Hw) (k : Nat) (g : UpSt → UpSt) : (h.setUp k g).port = h.port := rfl
@[simp] theorem Hw.setUp_recal (h : Hw) (k : Nat) (g : UpSt → UpSt) : (h.setUp k g).recal = h.recal := rfl
@[simp] theorem Hw.setUp_toHost (h : Hw) (k : Nat) (g : UpSt → UpSt) : (h.setUp k g).toHost = h.toHost := rfl
@[simp] theorem Hw.setUp_wraps (h : Hw) (k : Nat) (g : UpSt → UpSt) : (h.setUp k g).wraps = h.wraps := rfl
@[simp] theorem Hw.setUp_free (h : Hw) (k : Nat) (g : UpSt → UpSt) : (h.setUp k g).free = h.free := rfl
@[simp] theorem Hw.setUp_out (h : Hw) (k : Nat) (g : UpSt → UpSt) : (h.setUp k g).out = h.out := rfl

@[simp] theorem Hw.setUp_rd (h : Hw) (k : Nat) (g : UpSt → UpSt) (x : Fld) (i' j' : Nat) : (h.setUp k g).rd x i' j' = h.rd x i' j' := rfl

@[simp] theorem Hw.setHerd_regs (h : Hw) (k : Nat) (g : HerdSt → HerdSt) : (h.setHerd k g).regs = h.regs := rfl
@[simp] theorem Hw.setHerd_latch (h : Hw) (k : Nat) (g : HerdSt → HerdSt) : (h.setHerd k g).latch = h.latch := rfl
@[simp] theorem Hw.setHerd_stage (h : Hw) (k : Nat) (g : HerdSt → HerdSt) : (h.setHerd k g).stage = h.stage := rfl
@[simp] theorem Hw.setHerd_pcnt (h : Hw) (k : Nat) (g : HerdSt → HerdSt) : (h.setHerd k g).pcnt = h.pcnt := rfl
@[simp] theorem Hw.setHerd_clk (h : Hw) (k : Nat) (g : HerdSt → HerdSt) : (h.setHerd k g).clk = h.clk := rfl
@[simp] theorem Hw.setHerd_host (h : Hw) (k : Nat) (g : HerdSt → HerdSt) : (h.setHerd k g).host = h.host := rfl
@[simp] theorem Hw.setHerd_ep (h : Hw) (k : Nat) (g : HerdSt → HerdSt) : (h.setHerd k g).ep = h.ep := rfl
@[simp] theorem Hw.setHerd_rcd (h : Hw) (k : Nat) (g : HerdSt → HerdSt) : (h.setHerd k g).rcd = h.rcd := rfl
@[simp] theorem Hw.setHerd_sf (h : Hw) (k : Nat) (g : HerdSt → HerdSt) : (h.setHerd k g).sf = h.sf := rfl
@[simp] theorem Hw.setHerd_pw (h : Hw) (k : Nat) (g : HerdSt → HerdSt) : (h.setHerd k g).pw = h.pw := rfl
@[simp] theorem Hw.setHerd_rx (h : Hw) (k : Nat) (g : HerdSt → HerdSt) : (h.setHerd k g).rx = h.rx := rfl
@[simp] theorem Hw.setHerd_map (h : Hw) (k : Nat) (g : HerdSt → HerdSt) : (h.setHerd k g).map = h.map := rfl
@[simp] theorem Hw.setHerd_act (h : Hw) (k : Nat) (g : HerdSt → HerdSt) : (h.setHerd k g).act = h.act := rfl
@[simp] theorem Hw.setHerd_up (h : Hw) (k : Nat) (g : HerdSt → HerdSt) : (h.setHerd k g).up = h.up := rfl
@[simp] theorem Hw.setHerd_ptr (h : Hw) (k : Nat) (g : HerdSt → HerdSt) : (h.setHerd k g).ptr = h.ptr := rfl
@[simp] theorem Hw.setHerd_time (h : Hw) (k : Nat) (g : HerdSt → HerdSt) : (h.setHerd k g).time = h.time := rfl
@[simp] theorem Hw.setHerd_ks (h : Hw) (k : Nat) (g : HerdSt → HerdSt) : (h.setHerd k g).ks = h.ks := rfl
@[simp] theorem Hw.setHerd_pk (h : Hw) (k : Nat) (g : HerdSt → HerdSt) : (h.setHerd k g).pk = h.pk := rfl
@[simp] theorem Hw.setHerd_mem (h : Hw) (k : Nat) (g : HerdSt → HerdSt) : (h.setHerd k g).mem = h.mem := rfl
@[simp] theorem Hw.setHerd_ts (h : Hw) (k : Nat) (g : HerdSt → HerdSt) : (h.setHerd k g).ts = h.ts := rfl
@[simp] theorem Hw.setHerd_port (h : Hw) (k : Nat) (g : HerdSt → HerdSt) : (h.setHerd k g).port = h.port := rfl
@[simp] theorem Hw.setHerd_recal (h : Hw) (k : Nat) (g : HerdSt → HerdSt) : (h.setHerd k g).recal = h.recal := rfl
@[simp] theorem Hw.setHerd_toHost (h : Hw) (k : Nat) (g : HerdSt → HerdSt) : (h.setHerd k g).toHost = h.toHost := rfl
@[simp] theorem Hw.setHerd_wraps (h : Hw) (k : Nat) (g : HerdSt → HerdSt) : (h.setHerd k g).wraps = h.wraps := rfl
@[simp] theorem Hw.setHerd_free (h : Hw) (k : Nat) (g : HerdSt → HerdSt) : (h.setHerd k g).free = h.free := rfl
@[simp] theorem Hw.setHerd_out (h : Hw) (k : Nat) (g : HerdSt → HerdSt) : (h.setHerd k g).out = h.out := rfl

@[simp] theorem Hw.setHerd_rd (h : Hw) (k : Nat) (g : HerdSt → HerdSt) (x : Fld) (i' j' : Nat) : (h.setHerd k g).rd x i' j' = h.rd x i' j' := rfl

@[simp] theorem Hw.setPtr_regs (h : Hw) (k : Nat) (g : PtrSt → PtrSt) : (h.setPtr k g).regs = h.regs := rfl
@[simp] theorem Hw.setPtr_latch (h : Hw) (k : Nat) (g : PtrSt → PtrSt) : (h.setPtr k g).latch = h.latch := rfl
@[simp] theorem Hw.setPtr_stage (h : Hw) (k : Nat) (g : PtrSt → PtrSt) : (h.setPtr k g).stage = h.stage := rfl
@[simp] theorem Hw.setPtr_pcnt (h : Hw) (k : Nat) (g : PtrSt → PtrSt) : (h.setPtr k g).pcnt = h.pcnt := rfl
@[simp] theorem Hw.setPtr_clk (h : Hw) (k : Nat) (g : PtrSt → PtrSt) : (h.setPtr k g).clk = h.clk := rfl
@[simp] theorem Hw.setPtr_host (h : Hw) (k : Nat) (g : PtrSt → PtrSt) : (h.setPtr k g).host = h.host := rfl
@[simp] theorem Hw.setPtr_ep (h : Hw) (k : Nat) (g : PtrSt → PtrSt) : (h.setPtr k g).ep = h.ep := rfl
@[simp] theorem Hw.setPtr_rcd (h : Hw) (k : Nat) (g : PtrSt → PtrSt) : (h.setPtr k g).rcd = h.rcd := rfl
@[simp] theorem Hw.setPtr_sf (h : Hw) (k : Nat) (g : PtrSt → PtrSt) : (h.setPtr k g).sf = h.sf := rfl
@[simp] theorem Hw.setPtr_pw (h : Hw) (k : Nat) (g : PtrSt → PtrSt) : (h.setPtr k g).pw = h.pw := rfl
@[simp] theorem Hw.setPtr_rx (h : Hw) (k : Nat) (g : PtrSt → PtrSt) : (h.setPtr k g).rx = h.rx := rfl
@[simp] theorem Hw.setPtr_map (h : Hw) (k : Nat) (g : PtrSt → PtrSt) : (h.setPtr k g).map = h.map := rfl
@[simp] theorem Hw.setPtr_act (h : Hw) (k : Nat) (g : PtrSt → PtrSt) : (h.setPtr k g).act = h.act := rfl
@[simp] theorem Hw.setPtr_up (h : Hw) (k : Nat) (g : PtrSt → PtrSt) : (h.setPtr k g).up = h.up := rfl
@[simp] theorem Hw.setPtr_herd (h : Hw) (k : Nat) (g : PtrSt → PtrSt) : (h.setPtr k g).herd = h.herd := rfl
@[simp] theorem Hw.setPtr_time (h : Hw) (k : Nat) (g : PtrSt → PtrSt) : (h.setPtr k g).time = h.time := rfl
@[simp] theorem Hw.setPtr_ks (h : Hw) (k : Nat) (g : PtrSt → PtrSt) : (h.setPtr k g).ks = h.ks := rfl
@[simp] theorem Hw.setPtr_pk (h : Hw) (k : Nat) (g : PtrSt → PtrSt) : (h.setPtr k g).pk = h.pk := rfl
@[simp] theorem Hw.setPtr_mem (h : Hw) (k : Nat) (g : PtrSt → PtrSt) : (h.setPtr k g).mem = h.mem := rfl
@[simp] theorem Hw.setPtr_ts (h : Hw) (k : Nat) (g : PtrSt → PtrSt) : (h.setPtr k g).ts = h.ts := rfl
@[simp] theorem Hw.setPtr_port (h : Hw) (k : Nat) (g : PtrSt → PtrSt) : (h.setPtr k g).port = h.port := rfl
@[simp] theorem Hw.setPtr_recal (h : Hw) (k : Nat) (g : PtrSt → PtrSt) : (h.setPtr k g).recal = h.recal := rfl
@[simp] theorem Hw.setPtr_toHost (h : Hw) (k : Nat) (g : PtrSt → PtrSt) : (h.setPtr k g).toHost = h.toHost := rfl
@[simp] theorem Hw.setPtr_wraps (h : Hw) (k : Nat) (g : PtrSt → PtrSt) : (h.setPtr k g).wraps = h.wraps := rfl
@[simp] theorem Hw.setPtr_free (h : Hw) (k : Nat) (g : PtrSt → PtrSt) : (h.setPtr k g).free = h.free := rfl
@[simp] theorem Hw.setPtr_out (h : Hw) (k : Nat) (g : PtrSt → PtrSt) : (h.setPtr k g).out = h.out := rfl

@[simp] theorem Hw.setPtr_rd (h : Hw) (k : Nat) (g : PtrSt → PtrSt) (x : Fld) (i' j' : Nat) : (h.setPtr k g).rd x i' j' = h.rd x i' j' := rfl

@[simp] theorem Hw.setDom_regs (h : Hw) (k : Nat) (g : DomSt → DomSt) : (h.setDom k g).regs = h.regs := rfl
@[simp] theorem Hw.setDom_latch (h : Hw) (k : Nat) (g : DomSt → DomSt) : (h.setDom k g).latch = h.latch := rfl
@[simp] theorem Hw.setDom_stage (h : Hw) (k : Nat) (g : DomSt → DomSt) : (h.setDom k g).stage = h.stage := rfl
@[simp] theorem Hw.setDom_pcnt (h : Hw) (k : Nat) (g : DomSt → DomSt) : (h.setDom k g).pcnt = h.pcnt := rfl
@[simp] theorem Hw.setDom_clk (h : Hw) (k : Nat) (g : DomSt → DomSt) : (h.setDom k g).clk = h.clk := rfl
@[simp] theorem Hw.setDom_host (h : Hw) (k : Nat) (g : DomSt → DomSt) : (h.setDom k g).host = h.host := rfl
@[simp] theorem Hw.setDom_ep (h : Hw) (k : Nat) (g : DomSt → DomSt) : (h.setDom k g).ep = h.ep := rfl
@[simp] theorem Hw.setDom_rcd (h : Hw) (k : Nat) (g : DomSt → DomSt) : (h.setDom k g).rcd = h.rcd := rfl
@[simp] theorem Hw.setDom_sf (h : Hw) (k : Nat) (g : DomSt → DomSt) : (h.setDom k g).sf = h.sf := rfl
@[simp] theorem Hw.setDom_pw (h : Hw) (k : Nat) (g : DomSt → DomSt) : (h.setDom k g).pw = h.pw := rfl
@[simp] theorem Hw.setDom_rx (h : Hw) (k : Nat) (g : DomSt → DomSt) : (h.setDom k g).rx = h.rx := rfl
@[simp] theorem Hw.setDom_map (h : Hw) (k : Nat) (g : DomSt → DomSt) : (h.setDom k g).map = h.map := rfl
@[simp] theorem Hw.setDom_act (h : Hw) (k : Nat) (g : DomSt → DomSt) : (h.setDom k g).act = h.act := rfl
@[simp] theorem Hw.setDom_up (h : Hw) (k : Nat) (g : DomSt → DomSt) : (h.setDom k g).up = h.up := rfl
@[simp] theorem Hw.setDom_herd (h : Hw) (k : Nat) (g : DomSt → DomSt) : (h.setDom k g).herd = h.herd := rfl
@[simp] theorem Hw.setDom_ptr (h : Hw) (k : Nat) (g : DomSt → DomSt) : (h.setDom k g).ptr = h.ptr := rfl
@[simp] theorem Hw.setDom_ks (h : Hw) (k : Nat) (g : DomSt → DomSt) : (h.setDom k g).ks = h.ks := rfl
@[simp] theorem Hw.setDom_pk (h : Hw) (k : Nat) (g : DomSt → DomSt) : (h.setDom k g).pk = h.pk := rfl
@[simp] theorem Hw.setDom_mem (h : Hw) (k : Nat) (g : DomSt → DomSt) : (h.setDom k g).mem = h.mem := rfl
@[simp] theorem Hw.setDom_ts (h : Hw) (k : Nat) (g : DomSt → DomSt) : (h.setDom k g).ts = h.ts := rfl
@[simp] theorem Hw.setDom_port (h : Hw) (k : Nat) (g : DomSt → DomSt) : (h.setDom k g).port = h.port := rfl
@[simp] theorem Hw.setDom_recal (h : Hw) (k : Nat) (g : DomSt → DomSt) : (h.setDom k g).recal = h.recal := rfl
@[simp] theorem Hw.setDom_toHost (h : Hw) (k : Nat) (g : DomSt → DomSt) : (h.setDom k g).toHost = h.toHost := rfl
@[simp] theorem Hw.setDom_wraps (h : Hw) (k : Nat) (g : DomSt → DomSt) : (h.setDom k g).wraps = h.wraps := rfl
@[simp] theorem Hw.setDom_free (h : Hw) (k : Nat) (g : DomSt → DomSt) : (h.setDom k g).free = h.free := rfl
@[simp] theorem Hw.setDom_out (h : Hw) (k : Nat) (g : DomSt → DomSt) : (h.setDom k g).out = h.out := rfl

@[simp] theorem Hw.setDom_rd (h : Hw) (k : Nat) (g : DomSt → DomSt) (x : Fld) (i' j' : Nat) : (h.setDom k g).rd x i' j' = h.rd x i' j' := rfl

@[simp] theorem Hw.setCmp_regs (h : Hw) (k : Nat) (g : CmpSt → CmpSt) : (h.setCmp k g).regs = h.regs := rfl
@[simp] theorem Hw.setCmp_latch (h : Hw) (k : Nat) (g : CmpSt → CmpSt) : (h.setCmp k g).latch = h.latch := rfl
@[simp] theorem Hw.setCmp_stage (h : Hw) (k : Nat) (g : CmpSt → CmpSt) : (h.setCmp k g).stage = h.stage := rfl
@[simp] theorem Hw.setCmp_pcnt (h : Hw) (k : Nat) (g : CmpSt → CmpSt) : (h.setCmp k g).pcnt = h.pcnt := rfl
@[simp] theorem Hw.setCmp_clk (h : Hw) (k : Nat) (g : CmpSt → CmpSt) : (h.setCmp k g).clk = h.clk := rfl
@[simp] theorem Hw.setCmp_host (h : Hw) (k : Nat) (g : CmpSt → CmpSt) : (h.setCmp k g).host = h.host := rfl
@[simp] theorem Hw.setCmp_ep (h : Hw) (k : Nat) (g : CmpSt → CmpSt) : (h.setCmp k g).ep = h.ep := rfl
@[simp] theorem Hw.setCmp_rcd (h : Hw) (k : Nat) (g : CmpSt → CmpSt) : (h.setCmp k g).rcd = h.rcd := rfl
@[simp] theorem Hw.setCmp_sf (h : Hw) (k : Nat) (g : CmpSt → CmpSt) : (h.setCmp k g).sf = h.sf := rfl
@[simp] theorem Hw.setCmp_pw (h : Hw) (k : Nat) (g : CmpSt → CmpSt) : (h.setCmp k g).pw = h.pw := rfl
@[simp] theorem Hw.setCmp_rx (h : Hw) (k : Nat) (g : CmpSt → CmpSt) : (h.setCmp k g).rx = h.rx := rfl
@[simp] theorem Hw.setCmp_map (h : Hw) (k : Nat) (g : CmpSt → CmpSt) : (h.setCmp k g).map = h.map := rfl
@[simp] theorem Hw.setCmp_act (h : Hw) (k : Nat) (g : CmpSt → CmpSt) : (h.setCmp k g).act = h.act := rfl
@[simp] theorem Hw.setCmp_up (h : Hw) (k : Nat) (g : CmpSt → CmpSt) : (h.setCmp k g).up = h.up := rfl
@[simp] theorem Hw.setCmp_herd (h : Hw) (k : Nat) (g : CmpSt → CmpSt) : (h.setCmp k g).herd = h.herd := rfl
@[simp] theorem Hw.setCmp_ptr (h : Hw) (k : Nat) (g : CmpSt → CmpSt) : (h.setCmp k g).ptr = h.ptr := rfl
@[simp] theorem Hw.setCmp_ks (h : Hw) (k : Nat) (g : CmpSt → CmpSt) : (h.setCmp k g).ks = h.ks := rfl
@[simp] theorem Hw.setCmp_pk (h : Hw) (k : Nat) (g : CmpSt → CmpSt) : (h.setCmp k g).pk = h.pk := rfl
@[simp] theorem Hw.setCmp_mem (h : Hw) (k : Nat) (g : CmpSt → CmpSt) : (h.setCmp k g).mem = h.mem := rfl
@[simp] theorem Hw.setCmp_ts (h : Hw) (k : Nat) (g : CmpSt → CmpSt) : (h.setCmp k g).ts = h.ts := rfl
@[simp] theorem Hw.setCmp_port (h : Hw) (k : Nat) (g : CmpSt → CmpSt) : (h.setCmp k g).port = h.port := rfl
@[simp] theorem Hw.setCmp_recal (h : Hw) (k : Nat) (g : CmpSt → CmpSt) : (h.setCmp k g).recal = h.recal := rfl
@[simp] theorem Hw.setCmp_toHost (h : Hw) (k : Nat) (g : CmpSt → CmpSt) : (h.setCmp k g).toHost = h.toHost := rfl
@[simp] theorem Hw.setCmp_wraps (h : Hw) (k : Nat) (g : CmpSt → CmpSt) : (h.setCmp k g).wraps = h.wraps := rfl
@[simp] theorem Hw.setCmp_free (h : Hw) (k : Nat) (g : CmpSt → CmpSt) : (h.setCmp k g).free = h.free := rfl
@[simp] theorem Hw.setCmp_out (h : Hw) (k : Nat) (g : CmpSt → CmpSt) : (h.setCmp k g).out = h.out := rfl

@[simp] theorem Hw.setCmp_rd (h : Hw) (k : Nat) (g : CmpSt → CmpSt) (x : Fld) (i' j' : Nat) : (h.setCmp k g).rd x i' j' = h.rd x i' j' := rfl

@[simp] theorem Hw.setPin_regs (h : Hw) (k : Nat) (g : PinSt → PinSt) : (h.setPin k g).regs = h.regs := rfl
@[simp] theorem Hw.setPin_latch (h : Hw) (k : Nat) (g : PinSt → PinSt) : (h.setPin k g).latch = h.latch := rfl
@[simp] theorem Hw.setPin_stage (h : Hw) (k : Nat) (g : PinSt → PinSt) : (h.setPin k g).stage = h.stage := rfl
@[simp] theorem Hw.setPin_pcnt (h : Hw) (k : Nat) (g : PinSt → PinSt) : (h.setPin k g).pcnt = h.pcnt := rfl
@[simp] theorem Hw.setPin_clk (h : Hw) (k : Nat) (g : PinSt → PinSt) : (h.setPin k g).clk = h.clk := rfl
@[simp] theorem Hw.setPin_host (h : Hw) (k : Nat) (g : PinSt → PinSt) : (h.setPin k g).host = h.host := rfl
@[simp] theorem Hw.setPin_ep (h : Hw) (k : Nat) (g : PinSt → PinSt) : (h.setPin k g).ep = h.ep := rfl
@[simp] theorem Hw.setPin_rcd (h : Hw) (k : Nat) (g : PinSt → PinSt) : (h.setPin k g).rcd = h.rcd := rfl
@[simp] theorem Hw.setPin_sf (h : Hw) (k : Nat) (g : PinSt → PinSt) : (h.setPin k g).sf = h.sf := rfl
@[simp] theorem Hw.setPin_pw (h : Hw) (k : Nat) (g : PinSt → PinSt) : (h.setPin k g).pw = h.pw := rfl
@[simp] theorem Hw.setPin_rx (h : Hw) (k : Nat) (g : PinSt → PinSt) : (h.setPin k g).rx = h.rx := rfl
@[simp] theorem Hw.setPin_map (h : Hw) (k : Nat) (g : PinSt → PinSt) : (h.setPin k g).map = h.map := rfl
@[simp] theorem Hw.setPin_act (h : Hw) (k : Nat) (g : PinSt → PinSt) : (h.setPin k g).act = h.act := rfl
@[simp] theorem Hw.setPin_up (h : Hw) (k : Nat) (g : PinSt → PinSt) : (h.setPin k g).up = h.up := rfl
@[simp] theorem Hw.setPin_herd (h : Hw) (k : Nat) (g : PinSt → PinSt) : (h.setPin k g).herd = h.herd := rfl
@[simp] theorem Hw.setPin_ptr (h : Hw) (k : Nat) (g : PinSt → PinSt) : (h.setPin k g).ptr = h.ptr := rfl
@[simp] theorem Hw.setPin_ks (h : Hw) (k : Nat) (g : PinSt → PinSt) : (h.setPin k g).ks = h.ks := rfl
@[simp] theorem Hw.setPin_pk (h : Hw) (k : Nat) (g : PinSt → PinSt) : (h.setPin k g).pk = h.pk := rfl
@[simp] theorem Hw.setPin_mem (h : Hw) (k : Nat) (g : PinSt → PinSt) : (h.setPin k g).mem = h.mem := rfl
@[simp] theorem Hw.setPin_ts (h : Hw) (k : Nat) (g : PinSt → PinSt) : (h.setPin k g).ts = h.ts := rfl
@[simp] theorem Hw.setPin_port (h : Hw) (k : Nat) (g : PinSt → PinSt) : (h.setPin k g).port = h.port := rfl
@[simp] theorem Hw.setPin_recal (h : Hw) (k : Nat) (g : PinSt → PinSt) : (h.setPin k g).recal = h.recal := rfl
@[simp] theorem Hw.setPin_toHost (h : Hw) (k : Nat) (g : PinSt → PinSt) : (h.setPin k g).toHost = h.toHost := rfl
@[simp] theorem Hw.setPin_wraps (h : Hw) (k : Nat) (g : PinSt → PinSt) : (h.setPin k g).wraps = h.wraps := rfl
@[simp] theorem Hw.setPin_free (h : Hw) (k : Nat) (g : PinSt → PinSt) : (h.setPin k g).free = h.free := rfl
@[simp] theorem Hw.setPin_out (h : Hw) (k : Nat) (g : PinSt → PinSt) : (h.setPin k g).out = h.out := rfl

@[simp] theorem Hw.setPin_rd (h : Hw) (k : Nat) (g : PinSt → PinSt) (x : Fld) (i' j' : Nat) : (h.setPin k g).rd x i' j' = h.rd x i' j' := rfl

@[simp] theorem Hw.setRegion_regs (h : Hw) (k : Nat) (g : RegionSt → RegionSt) : (h.setRegion k g).regs = h.regs := rfl
@[simp] theorem Hw.setRegion_latch (h : Hw) (k : Nat) (g : RegionSt → RegionSt) : (h.setRegion k g).latch = h.latch := rfl
@[simp] theorem Hw.setRegion_stage (h : Hw) (k : Nat) (g : RegionSt → RegionSt) : (h.setRegion k g).stage = h.stage := rfl
@[simp] theorem Hw.setRegion_pcnt (h : Hw) (k : Nat) (g : RegionSt → RegionSt) : (h.setRegion k g).pcnt = h.pcnt := rfl
@[simp] theorem Hw.setRegion_clk (h : Hw) (k : Nat) (g : RegionSt → RegionSt) : (h.setRegion k g).clk = h.clk := rfl
@[simp] theorem Hw.setRegion_host (h : Hw) (k : Nat) (g : RegionSt → RegionSt) : (h.setRegion k g).host = h.host := rfl
@[simp] theorem Hw.setRegion_ep (h : Hw) (k : Nat) (g : RegionSt → RegionSt) : (h.setRegion k g).ep = h.ep := rfl
@[simp] theorem Hw.setRegion_rcd (h : Hw) (k : Nat) (g : RegionSt → RegionSt) : (h.setRegion k g).rcd = h.rcd := rfl
@[simp] theorem Hw.setRegion_pw (h : Hw) (k : Nat) (g : RegionSt → RegionSt) : (h.setRegion k g).pw = h.pw := rfl
@[simp] theorem Hw.setRegion_rx (h : Hw) (k : Nat) (g : RegionSt → RegionSt) : (h.setRegion k g).rx = h.rx := rfl
@[simp] theorem Hw.setRegion_map (h : Hw) (k : Nat) (g : RegionSt → RegionSt) : (h.setRegion k g).map = h.map := rfl
@[simp] theorem Hw.setRegion_act (h : Hw) (k : Nat) (g : RegionSt → RegionSt) : (h.setRegion k g).act = h.act := rfl
@[simp] theorem Hw.setRegion_up (h : Hw) (k : Nat) (g : RegionSt → RegionSt) : (h.setRegion k g).up = h.up := rfl
@[simp] theorem Hw.setRegion_herd (h : Hw) (k : Nat) (g : RegionSt → RegionSt) : (h.setRegion k g).herd = h.herd := rfl
@[simp] theorem Hw.setRegion_ptr (h : Hw) (k : Nat) (g : RegionSt → RegionSt) : (h.setRegion k g).ptr = h.ptr := rfl
@[simp] theorem Hw.setRegion_time (h : Hw) (k : Nat) (g : RegionSt → RegionSt) : (h.setRegion k g).time = h.time := rfl
@[simp] theorem Hw.setRegion_ks (h : Hw) (k : Nat) (g : RegionSt → RegionSt) : (h.setRegion k g).ks = h.ks := rfl
@[simp] theorem Hw.setRegion_pk (h : Hw) (k : Nat) (g : RegionSt → RegionSt) : (h.setRegion k g).pk = h.pk := rfl
@[simp] theorem Hw.setRegion_mem (h : Hw) (k : Nat) (g : RegionSt → RegionSt) : (h.setRegion k g).mem = h.mem := rfl
@[simp] theorem Hw.setRegion_ts (h : Hw) (k : Nat) (g : RegionSt → RegionSt) : (h.setRegion k g).ts = h.ts := rfl
@[simp] theorem Hw.setRegion_port (h : Hw) (k : Nat) (g : RegionSt → RegionSt) : (h.setRegion k g).port = h.port := rfl
@[simp] theorem Hw.setRegion_recal (h : Hw) (k : Nat) (g : RegionSt → RegionSt) : (h.setRegion k g).recal = h.recal := rfl
@[simp] theorem Hw.setRegion_toHost (h : Hw) (k : Nat) (g : RegionSt → RegionSt) : (h.setRegion k g).toHost = h.toHost := rfl
@[simp] theorem Hw.setRegion_wraps (h : Hw) (k : Nat) (g : RegionSt → RegionSt) : (h.setRegion k g).wraps = h.wraps := rfl
@[simp] theorem Hw.setRegion_free (h : Hw) (k : Nat) (g : RegionSt → RegionSt) : (h.setRegion k g).free = h.free := rfl
@[simp] theorem Hw.setRegion_out (h : Hw) (k : Nat) (g : RegionSt → RegionSt) : (h.setRegion k g).out = h.out := rfl

@[simp] theorem Hw.setRegion_rd (h : Hw) (k : Nat) (g : RegionSt → RegionSt) (x : Fld) (i' j' : Nat) : (h.setRegion k g).rd x i' j' = h.rd x i' j' := rfl

@[simp] theorem Hw.setRing_regs (h : Hw) (k : Nat) (g : RingSt → RingSt) : (h.setRing k g).regs = h.regs := rfl
@[simp] theorem Hw.setRing_latch (h : Hw) (k : Nat) (g : RingSt → RingSt) : (h.setRing k g).latch = h.latch := rfl
@[simp] theorem Hw.setRing_stage (h : Hw) (k : Nat) (g : RingSt → RingSt) : (h.setRing k g).stage = h.stage := rfl
@[simp] theorem Hw.setRing_pcnt (h : Hw) (k : Nat) (g : RingSt → RingSt) : (h.setRing k g).pcnt = h.pcnt := rfl
@[simp] theorem Hw.setRing_clk (h : Hw) (k : Nat) (g : RingSt → RingSt) : (h.setRing k g).clk = h.clk := rfl
@[simp] theorem Hw.setRing_ep (h : Hw) (k : Nat) (g : RingSt → RingSt) : (h.setRing k g).ep = h.ep := rfl
@[simp] theorem Hw.setRing_rcd (h : Hw) (k : Nat) (g : RingSt → RingSt) : (h.setRing k g).rcd = h.rcd := rfl
@[simp] theorem Hw.setRing_sf (h : Hw) (k : Nat) (g : RingSt → RingSt) : (h.setRing k g).sf = h.sf := rfl
@[simp] theorem Hw.setRing_pw (h : Hw) (k : Nat) (g : RingSt → RingSt) : (h.setRing k g).pw = h.pw := rfl
@[simp] theorem Hw.setRing_rx (h : Hw) (k : Nat) (g : RingSt → RingSt) : (h.setRing k g).rx = h.rx := rfl
@[simp] theorem Hw.setRing_map (h : Hw) (k : Nat) (g : RingSt → RingSt) : (h.setRing k g).map = h.map := rfl
@[simp] theorem Hw.setRing_act (h : Hw) (k : Nat) (g : RingSt → RingSt) : (h.setRing k g).act = h.act := rfl
@[simp] theorem Hw.setRing_up (h : Hw) (k : Nat) (g : RingSt → RingSt) : (h.setRing k g).up = h.up := rfl
@[simp] theorem Hw.setRing_herd (h : Hw) (k : Nat) (g : RingSt → RingSt) : (h.setRing k g).herd = h.herd := rfl
@[simp] theorem Hw.setRing_ptr (h : Hw) (k : Nat) (g : RingSt → RingSt) : (h.setRing k g).ptr = h.ptr := rfl
@[simp] theorem Hw.setRing_time (h : Hw) (k : Nat) (g : RingSt → RingSt) : (h.setRing k g).time = h.time := rfl
@[simp] theorem Hw.setRing_ks (h : Hw) (k : Nat) (g : RingSt → RingSt) : (h.setRing k g).ks = h.ks := rfl
@[simp] theorem Hw.setRing_pk (h : Hw) (k : Nat) (g : RingSt → RingSt) : (h.setRing k g).pk = h.pk := rfl
@[simp] theorem Hw.setRing_mem (h : Hw) (k : Nat) (g : RingSt → RingSt) : (h.setRing k g).mem = h.mem := rfl
@[simp] theorem Hw.setRing_ts (h : Hw) (k : Nat) (g : RingSt → RingSt) : (h.setRing k g).ts = h.ts := rfl
@[simp] theorem Hw.setRing_port (h : Hw) (k : Nat) (g : RingSt → RingSt) : (h.setRing k g).port = h.port := rfl
@[simp] theorem Hw.setRing_recal (h : Hw) (k : Nat) (g : RingSt → RingSt) : (h.setRing k g).recal = h.recal := rfl
@[simp] theorem Hw.setRing_toHost (h : Hw) (k : Nat) (g : RingSt → RingSt) : (h.setRing k g).toHost = h.toHost := rfl
@[simp] theorem Hw.setRing_wraps (h : Hw) (k : Nat) (g : RingSt → RingSt) : (h.setRing k g).wraps = h.wraps := rfl
@[simp] theorem Hw.setRing_free (h : Hw) (k : Nat) (g : RingSt → RingSt) : (h.setRing k g).free = h.free := rfl
@[simp] theorem Hw.setRing_out (h : Hw) (k : Nat) (g : RingSt → RingSt) : (h.setRing k g).out = h.out := rfl

@[simp] theorem Hw.setRing_rd (h : Hw) (k : Nat) (g : RingSt → RingSt) (x : Fld) (i' j' : Nat) : (h.setRing k g).rd x i' j' = h.rd x i' j' := rfl

@[simp] theorem Hw.setTs_regs (h : Hw) (k : Nat) (g : TsSt → TsSt) : (h.setTs k g).regs = h.regs := rfl
@[simp] theorem Hw.setTs_latch (h : Hw) (k : Nat) (g : TsSt → TsSt) : (h.setTs k g).latch = h.latch := rfl
@[simp] theorem Hw.setTs_stage (h : Hw) (k : Nat) (g : TsSt → TsSt) : (h.setTs k g).stage = h.stage := rfl
@[simp] theorem Hw.setTs_pcnt (h : Hw) (k : Nat) (g : TsSt → TsSt) : (h.setTs k g).pcnt = h.pcnt := rfl
@[simp] theorem Hw.setTs_clk (h : Hw) (k : Nat) (g : TsSt → TsSt) : (h.setTs k g).clk = h.clk := rfl
@[simp] theorem Hw.setTs_host (h : Hw) (k : Nat) (g : TsSt → TsSt) : (h.setTs k g).host = h.host := rfl
@[simp] theorem Hw.setTs_ep (h : Hw) (k : Nat) (g : TsSt → TsSt) : (h.setTs k g).ep = h.ep := rfl
@[simp] theorem Hw.setTs_rcd (h : Hw) (k : Nat) (g : TsSt → TsSt) : (h.setTs k g).rcd = h.rcd := rfl
@[simp] theorem Hw.setTs_sf (h : Hw) (k : Nat) (g : TsSt → TsSt) : (h.setTs k g).sf = h.sf := rfl
@[simp] theorem Hw.setTs_pw (h : Hw) (k : Nat) (g : TsSt → TsSt) : (h.setTs k g).pw = h.pw := rfl
@[simp] theorem Hw.setTs_rx (h : Hw) (k : Nat) (g : TsSt → TsSt) : (h.setTs k g).rx = h.rx := rfl
@[simp] theorem Hw.setTs_map (h : Hw) (k : Nat) (g : TsSt → TsSt) : (h.setTs k g).map = h.map := rfl
@[simp] theorem Hw.setTs_act (h : Hw) (k : Nat) (g : TsSt → TsSt) : (h.setTs k g).act = h.act := rfl
@[simp] theorem Hw.setTs_up (h : Hw) (k : Nat) (g : TsSt → TsSt) : (h.setTs k g).up = h.up := rfl
@[simp] theorem Hw.setTs_herd (h : Hw) (k : Nat) (g : TsSt → TsSt) : (h.setTs k g).herd = h.herd := rfl
@[simp] theorem Hw.setTs_ptr (h : Hw) (k : Nat) (g : TsSt → TsSt) : (h.setTs k g).ptr = h.ptr := rfl
@[simp] theorem Hw.setTs_time (h : Hw) (k : Nat) (g : TsSt → TsSt) : (h.setTs k g).time = h.time := rfl
@[simp] theorem Hw.setTs_ks (h : Hw) (k : Nat) (g : TsSt → TsSt) : (h.setTs k g).ks = h.ks := rfl
@[simp] theorem Hw.setTs_pk (h : Hw) (k : Nat) (g : TsSt → TsSt) : (h.setTs k g).pk = h.pk := rfl
@[simp] theorem Hw.setTs_mem (h : Hw) (k : Nat) (g : TsSt → TsSt) : (h.setTs k g).mem = h.mem := rfl
@[simp] theorem Hw.setTs_port (h : Hw) (k : Nat) (g : TsSt → TsSt) : (h.setTs k g).port = h.port := rfl
@[simp] theorem Hw.setTs_recal (h : Hw) (k : Nat) (g : TsSt → TsSt) : (h.setTs k g).recal = h.recal := rfl
@[simp] theorem Hw.setTs_toHost (h : Hw) (k : Nat) (g : TsSt → TsSt) : (h.setTs k g).toHost = h.toHost := rfl
@[simp] theorem Hw.setTs_wraps (h : Hw) (k : Nat) (g : TsSt → TsSt) : (h.setTs k g).wraps = h.wraps := rfl
@[simp] theorem Hw.setTs_free (h : Hw) (k : Nat) (g : TsSt → TsSt) : (h.setTs k g).free = h.free := rfl
@[simp] theorem Hw.setTs_out (h : Hw) (k : Nat) (g : TsSt → TsSt) : (h.setTs k g).out = h.out := rfl

@[simp] theorem Hw.setTs_rd (h : Hw) (k : Nat) (g : TsSt → TsSt) (x : Fld) (i' j' : Nat) : (h.setTs k g).rd x i' j' = h.rd x i' j' := rfl

@[simp] theorem Hw.setPort_regs (h : Hw) (k : Nat) (g : PortSt → PortSt) : (h.setPort k g).regs = h.regs := rfl
@[simp] theorem Hw.setPort_latch (h : Hw) (k : Nat) (g : PortSt → PortSt) : (h.setPort k g).latch = h.latch := rfl
@[simp] theorem Hw.setPort_stage (h : Hw) (k : Nat) (g : PortSt → PortSt) : (h.setPort k g).stage = h.stage := rfl
@[simp] theorem Hw.setPort_pcnt (h : Hw) (k : Nat) (g : PortSt → PortSt) : (h.setPort k g).pcnt = h.pcnt := rfl
@[simp] theorem Hw.setPort_clk (h : Hw) (k : Nat) (g : PortSt → PortSt) : (h.setPort k g).clk = h.clk := rfl
@[simp] theorem Hw.setPort_host (h : Hw) (k : Nat) (g : PortSt → PortSt) : (h.setPort k g).host = h.host := rfl
@[simp] theorem Hw.setPort_ep (h : Hw) (k : Nat) (g : PortSt → PortSt) : (h.setPort k g).ep = h.ep := rfl
@[simp] theorem Hw.setPort_rcd (h : Hw) (k : Nat) (g : PortSt → PortSt) : (h.setPort k g).rcd = h.rcd := rfl
@[simp] theorem Hw.setPort_sf (h : Hw) (k : Nat) (g : PortSt → PortSt) : (h.setPort k g).sf = h.sf := rfl
@[simp] theorem Hw.setPort_pw (h : Hw) (k : Nat) (g : PortSt → PortSt) : (h.setPort k g).pw = h.pw := rfl
@[simp] theorem Hw.setPort_rx (h : Hw) (k : Nat) (g : PortSt → PortSt) : (h.setPort k g).rx = h.rx := rfl
@[simp] theorem Hw.setPort_map (h : Hw) (k : Nat) (g : PortSt → PortSt) : (h.setPort k g).map = h.map := rfl
@[simp] theorem Hw.setPort_act (h : Hw) (k : Nat) (g : PortSt → PortSt) : (h.setPort k g).act = h.act := rfl
@[simp] theorem Hw.setPort_up (h : Hw) (k : Nat) (g : PortSt → PortSt) : (h.setPort k g).up = h.up := rfl
@[simp] theorem Hw.setPort_herd (h : Hw) (k : Nat) (g : PortSt → PortSt) : (h.setPort k g).herd = h.herd := rfl
@[simp] theorem Hw.setPort_ptr (h : Hw) (k : Nat) (g : PortSt → PortSt) : (h.setPort k g).ptr = h.ptr := rfl
@[simp] theorem Hw.setPort_time (h : Hw) (k : Nat) (g : PortSt → PortSt) : (h.setPort k g).time = h.time := rfl
@[simp] theorem Hw.setPort_ks (h : Hw) (k : Nat) (g : PortSt → PortSt) : (h.setPort k g).ks = h.ks := rfl
@[simp] theorem Hw.setPort_pk (h : Hw) (k : Nat) (g : PortSt → PortSt) : (h.setPort k g).pk = h.pk := rfl
@[simp] theorem Hw.setPort_mem (h : Hw) (k : Nat) (g : PortSt → PortSt) : (h.setPort k g).mem = h.mem := rfl
@[simp] theorem Hw.setPort_ts (h : Hw) (k : Nat) (g : PortSt → PortSt) : (h.setPort k g).ts = h.ts := rfl
@[simp] theorem Hw.setPort_recal (h : Hw) (k : Nat) (g : PortSt → PortSt) : (h.setPort k g).recal = h.recal := rfl
@[simp] theorem Hw.setPort_toHost (h : Hw) (k : Nat) (g : PortSt → PortSt) : (h.setPort k g).toHost = h.toHost := rfl
@[simp] theorem Hw.setPort_wraps (h : Hw) (k : Nat) (g : PortSt → PortSt) : (h.setPort k g).wraps = h.wraps := rfl
@[simp] theorem Hw.setPort_free (h : Hw) (k : Nat) (g : PortSt → PortSt) : (h.setPort k g).free = h.free := rfl
@[simp] theorem Hw.setPort_out (h : Hw) (k : Nat) (g : PortSt → PortSt) : (h.setPort k g).out = h.out := rfl

@[simp] theorem Hw.setPort_rd (h : Hw) (k : Nat) (g : PortSt → PortSt) (x : Fld) (i' j' : Nat) : (h.setPort k g).rd x i' j' = h.rd x i' j' := rfl

@[simp] theorem Hw.setMem_regs (h : Hw) (g : MemSt → MemSt) : (h.setMem g).regs = h.regs := rfl
@[simp] theorem Hw.setMem_latch (h : Hw) (g : MemSt → MemSt) : (h.setMem g).latch = h.latch := rfl
@[simp] theorem Hw.setMem_stage (h : Hw) (g : MemSt → MemSt) : (h.setMem g).stage = h.stage := rfl
@[simp] theorem Hw.setMem_pcnt (h : Hw) (g : MemSt → MemSt) : (h.setMem g).pcnt = h.pcnt := rfl
@[simp] theorem Hw.setMem_clk (h : Hw) (g : MemSt → MemSt) : (h.setMem g).clk = h.clk := rfl
@[simp] theorem Hw.setMem_host (h : Hw) (g : MemSt → MemSt) : (h.setMem g).host = h.host := rfl
@[simp] theorem Hw.setMem_ep (h : Hw) (g : MemSt → MemSt) : (h.setMem g).ep = h.ep := rfl
@[simp] theorem Hw.setMem_rcd (h : Hw) (g : MemSt → MemSt) : (h.setMem g).rcd = h.rcd := rfl
@[simp] theorem Hw.setMem_sf (h : Hw) (g : MemSt → MemSt) : (h.setMem g).sf = h.sf := rfl
@[simp] theorem Hw.setMem_pw (h : Hw) (g : MemSt → MemSt) : (h.setMem g).pw = h.pw := rfl
@[simp] theorem Hw.setMem_rx (h : Hw) (g : MemSt → MemSt) : (h.setMem g).rx = h.rx := rfl
@[simp] theorem Hw.setMem_map (h : Hw) (g : MemSt → MemSt) : (h.setMem g).map = h.map := rfl
@[simp] theorem Hw.setMem_act (h : Hw) (g : MemSt → MemSt) : (h.setMem g).act = h.act := rfl
@[simp] theorem Hw.setMem_up (h : Hw) (g : MemSt → MemSt) : (h.setMem g).up = h.up := rfl
@[simp] theorem Hw.setMem_herd (h : Hw) (g : MemSt → MemSt) : (h.setMem g).herd = h.herd := rfl
@[simp] theorem Hw.setMem_ptr (h : Hw) (g : MemSt → MemSt) : (h.setMem g).ptr = h.ptr := rfl
@[simp] theorem Hw.setMem_time (h : Hw) (g : MemSt → MemSt) : (h.setMem g).time = h.time := rfl
@[simp] theorem Hw.setMem_ks (h : Hw) (g : MemSt → MemSt) : (h.setMem g).ks = h.ks := rfl
@[simp] theorem Hw.setMem_pk (h : Hw) (g : MemSt → MemSt) : (h.setMem g).pk = h.pk := rfl
@[simp] theorem Hw.setMem_ts (h : Hw) (g : MemSt → MemSt) : (h.setMem g).ts = h.ts := rfl
@[simp] theorem Hw.setMem_port (h : Hw) (g : MemSt → MemSt) : (h.setMem g).port = h.port := rfl
@[simp] theorem Hw.setMem_recal (h : Hw) (g : MemSt → MemSt) : (h.setMem g).recal = h.recal := rfl
@[simp] theorem Hw.setMem_toHost (h : Hw) (g : MemSt → MemSt) : (h.setMem g).toHost = h.toHost := rfl
@[simp] theorem Hw.setMem_wraps (h : Hw) (g : MemSt → MemSt) : (h.setMem g).wraps = h.wraps := rfl
@[simp] theorem Hw.setMem_free (h : Hw) (g : MemSt → MemSt) : (h.setMem g).free = h.free := rfl
@[simp] theorem Hw.setMem_out (h : Hw) (g : MemSt → MemSt) : (h.setMem g).out = h.out := rfl

@[simp] theorem Hw.setMem_rd (h : Hw) (g : MemSt → MemSt) (x : Fld) (i' j' : Nat) : (h.setMem g).rd x i' j' = h.rd x i' j' := rfl

@[simp] theorem Hw.setPk_regs (h : Hw) (g : PkSt → PkSt) : (h.setPk g).regs = h.regs := rfl
@[simp] theorem Hw.setPk_latch (h : Hw) (g : PkSt → PkSt) : (h.setPk g).latch = h.latch := rfl
@[simp] theorem Hw.setPk_stage (h : Hw) (g : PkSt → PkSt) : (h.setPk g).stage = h.stage := rfl
@[simp] theorem Hw.setPk_pcnt (h : Hw) (g : PkSt → PkSt) : (h.setPk g).pcnt = h.pcnt := rfl
@[simp] theorem Hw.setPk_clk (h : Hw) (g : PkSt → PkSt) : (h.setPk g).clk = h.clk := rfl
@[simp] theorem Hw.setPk_host (h : Hw) (g : PkSt → PkSt) : (h.setPk g).host = h.host := rfl
@[simp] theorem Hw.setPk_ep (h : Hw) (g : PkSt → PkSt) : (h.setPk g).ep = h.ep := rfl
@[simp] theorem Hw.setPk_rcd (h : Hw) (g : PkSt → PkSt) : (h.setPk g).rcd = h.rcd := rfl
@[simp] theorem Hw.setPk_sf (h : Hw) (g : PkSt → PkSt) : (h.setPk g).sf = h.sf := rfl
@[simp] theorem Hw.setPk_pw (h : Hw) (g : PkSt → PkSt) : (h.setPk g).pw = h.pw := rfl
@[simp] theorem Hw.setPk_rx (h : Hw) (g : PkSt → PkSt) : (h.setPk g).rx = h.rx := rfl
@[simp] theorem Hw.setPk_map (h : Hw) (g : PkSt → PkSt) : (h.setPk g).map = h.map := rfl
@[simp] theorem Hw.setPk_act (h : Hw) (g : PkSt → PkSt) : (h.setPk g).act = h.act := rfl
@[simp] theorem Hw.setPk_up (h : Hw) (g : PkSt → PkSt) : (h.setPk g).up = h.up := rfl
@[simp] theorem Hw.setPk_herd (h : Hw) (g : PkSt → PkSt) : (h.setPk g).herd = h.herd := rfl
@[simp] theorem Hw.setPk_ptr (h : Hw) (g : PkSt → PkSt) : (h.setPk g).ptr = h.ptr := rfl
@[simp] theorem Hw.setPk_time (h : Hw) (g : PkSt → PkSt) : (h.setPk g).time = h.time := rfl
@[simp] theorem Hw.setPk_ks (h : Hw) (g : PkSt → PkSt) : (h.setPk g).ks = h.ks := rfl
@[simp] theorem Hw.setPk_mem (h : Hw) (g : PkSt → PkSt) : (h.setPk g).mem = h.mem := rfl
@[simp] theorem Hw.setPk_ts (h : Hw) (g : PkSt → PkSt) : (h.setPk g).ts = h.ts := rfl
@[simp] theorem Hw.setPk_port (h : Hw) (g : PkSt → PkSt) : (h.setPk g).port = h.port := rfl
@[simp] theorem Hw.setPk_recal (h : Hw) (g : PkSt → PkSt) : (h.setPk g).recal = h.recal := rfl
@[simp] theorem Hw.setPk_toHost (h : Hw) (g : PkSt → PkSt) : (h.setPk g).toHost = h.toHost := rfl
@[simp] theorem Hw.setPk_wraps (h : Hw) (g : PkSt → PkSt) : (h.setPk g).wraps = h.wraps := rfl
@[simp] theorem Hw.setPk_free (h : Hw) (g : PkSt → PkSt) : (h.setPk g).free = h.free := rfl
@[simp] theorem Hw.setPk_out (h : Hw) (g : PkSt → PkSt) : (h.setPk g).out = h.out := rfl

@[simp] theorem Hw.setPk_rd (h : Hw) (g : PkSt → PkSt) (x : Fld) (i' j' : Nat) : (h.setPk g).rd x i' j' = h.rd x i' j' := rfl

@[simp] theorem Hw.setRcd_regs (h : Hw) (g : RecorderSt → RecorderSt) : (h.setRcd g).regs = h.regs := rfl
@[simp] theorem Hw.setRcd_latch (h : Hw) (g : RecorderSt → RecorderSt) : (h.setRcd g).latch = h.latch := rfl
@[simp] theorem Hw.setRcd_stage (h : Hw) (g : RecorderSt → RecorderSt) : (h.setRcd g).stage = h.stage := rfl
@[simp] theorem Hw.setRcd_pcnt (h : Hw) (g : RecorderSt → RecorderSt) : (h.setRcd g).pcnt = h.pcnt := rfl
@[simp] theorem Hw.setRcd_clk (h : Hw) (g : RecorderSt → RecorderSt) : (h.setRcd g).clk = h.clk := rfl
@[simp] theorem Hw.setRcd_host (h : Hw) (g : RecorderSt → RecorderSt) : (h.setRcd g).host = h.host := rfl
@[simp] theorem Hw.setRcd_ep (h : Hw) (g : RecorderSt → RecorderSt) : (h.setRcd g).ep = h.ep := rfl
@[simp] theorem Hw.setRcd_sf (h : Hw) (g : RecorderSt → RecorderSt) : (h.setRcd g).sf = h.sf := rfl
@[simp] theorem Hw.setRcd_pw (h : Hw) (g : RecorderSt → RecorderSt) : (h.setRcd g).pw = h.pw := rfl
@[simp] theorem Hw.setRcd_rx (h : Hw) (g : RecorderSt → RecorderSt) : (h.setRcd g).rx = h.rx := rfl
@[simp] theorem Hw.setRcd_map (h : Hw) (g : RecorderSt → RecorderSt) : (h.setRcd g).map = h.map := rfl
@[simp] theorem Hw.setRcd_act (h : Hw) (g : RecorderSt → RecorderSt) : (h.setRcd g).act = h.act := rfl
@[simp] theorem Hw.setRcd_up (h : Hw) (g : RecorderSt → RecorderSt) : (h.setRcd g).up = h.up := rfl
@[simp] theorem Hw.setRcd_herd (h : Hw) (g : RecorderSt → RecorderSt) : (h.setRcd g).herd = h.herd := rfl
@[simp] theorem Hw.setRcd_ptr (h : Hw) (g : RecorderSt → RecorderSt) : (h.setRcd g).ptr = h.ptr := rfl
@[simp] theorem Hw.setRcd_time (h : Hw) (g : RecorderSt → RecorderSt) : (h.setRcd g).time = h.time := rfl
@[simp] theorem Hw.setRcd_ks (h : Hw) (g : RecorderSt → RecorderSt) : (h.setRcd g).ks = h.ks := rfl
@[simp] theorem Hw.setRcd_pk (h : Hw) (g : RecorderSt → RecorderSt) : (h.setRcd g).pk = h.pk := rfl
@[simp] theorem Hw.setRcd_mem (h : Hw) (g : RecorderSt → RecorderSt) : (h.setRcd g).mem = h.mem := rfl
@[simp] theorem Hw.setRcd_ts (h : Hw) (g : RecorderSt → RecorderSt) : (h.setRcd g).ts = h.ts := rfl
@[simp] theorem Hw.setRcd_port (h : Hw) (g : RecorderSt → RecorderSt) : (h.setRcd g).port = h.port := rfl
@[simp] theorem Hw.setRcd_recal (h : Hw) (g : RecorderSt → RecorderSt) : (h.setRcd g).recal = h.recal := rfl
@[simp] theorem Hw.setRcd_toHost (h : Hw) (g : RecorderSt → RecorderSt) : (h.setRcd g).toHost = h.toHost := rfl
@[simp] theorem Hw.setRcd_wraps (h : Hw) (g : RecorderSt → RecorderSt) : (h.setRcd g).wraps = h.wraps := rfl
@[simp] theorem Hw.setRcd_free (h : Hw) (g : RecorderSt → RecorderSt) : (h.setRcd g).free = h.free := rfl
@[simp] theorem Hw.setRcd_out (h : Hw) (g : RecorderSt → RecorderSt) : (h.setRcd g).out = h.out := rfl

@[simp] theorem Hw.setRcd_rd (h : Hw) (g : RecorderSt → RecorderSt) (x : Fld) (i' j' : Nat) : (h.setRcd g).rd x i' j' = h.rd x i' j' := rfl

@[simp] theorem Hw.setSf_regs (h : Hw) (g : SafetySt → SafetySt) : (h.setSf g).regs = h.regs := rfl
@[simp] theorem Hw.setSf_latch (h : Hw) (g : SafetySt → SafetySt) : (h.setSf g).latch = h.latch := rfl
@[simp] theorem Hw.setSf_stage (h : Hw) (g : SafetySt → SafetySt) : (h.setSf g).stage = h.stage := rfl
@[simp] theorem Hw.setSf_pcnt (h : Hw) (g : SafetySt → SafetySt) : (h.setSf g).pcnt = h.pcnt := rfl
@[simp] theorem Hw.setSf_clk (h : Hw) (g : SafetySt → SafetySt) : (h.setSf g).clk = h.clk := rfl
@[simp] theorem Hw.setSf_host (h : Hw) (g : SafetySt → SafetySt) : (h.setSf g).host = h.host := rfl
@[simp] theorem Hw.setSf_ep (h : Hw) (g : SafetySt → SafetySt) : (h.setSf g).ep = h.ep := rfl
@[simp] theorem Hw.setSf_rcd (h : Hw) (g : SafetySt → SafetySt) : (h.setSf g).rcd = h.rcd := rfl
@[simp] theorem Hw.setSf_pw (h : Hw) (g : SafetySt → SafetySt) : (h.setSf g).pw = h.pw := rfl
@[simp] theorem Hw.setSf_rx (h : Hw) (g : SafetySt → SafetySt) : (h.setSf g).rx = h.rx := rfl
@[simp] theorem Hw.setSf_map (h : Hw) (g : SafetySt → SafetySt) : (h.setSf g).map = h.map := rfl
@[simp] theorem Hw.setSf_act (h : Hw) (g : SafetySt → SafetySt) : (h.setSf g).act = h.act := rfl
@[simp] theorem Hw.setSf_up (h : Hw) (g : SafetySt → SafetySt) : (h.setSf g).up = h.up := rfl
@[simp] theorem Hw.setSf_herd (h : Hw) (g : SafetySt → SafetySt) : (h.setSf g).herd = h.herd := rfl
@[simp] theorem Hw.setSf_ptr (h : Hw) (g : SafetySt → SafetySt) : (h.setSf g).ptr = h.ptr := rfl
@[simp] theorem Hw.setSf_time (h : Hw) (g : SafetySt → SafetySt) : (h.setSf g).time = h.time := rfl
@[simp] theorem Hw.setSf_ks (h : Hw) (g : SafetySt → SafetySt) : (h.setSf g).ks = h.ks := rfl
@[simp] theorem Hw.setSf_pk (h : Hw) (g : SafetySt → SafetySt) : (h.setSf g).pk = h.pk := rfl
@[simp] theorem Hw.setSf_mem (h : Hw) (g : SafetySt → SafetySt) : (h.setSf g).mem = h.mem := rfl
@[simp] theorem Hw.setSf_ts (h : Hw) (g : SafetySt → SafetySt) : (h.setSf g).ts = h.ts := rfl
@[simp] theorem Hw.setSf_port (h : Hw) (g : SafetySt → SafetySt) : (h.setSf g).port = h.port := rfl
@[simp] theorem Hw.setSf_recal (h : Hw) (g : SafetySt → SafetySt) : (h.setSf g).recal = h.recal := rfl
@[simp] theorem Hw.setSf_toHost (h : Hw) (g : SafetySt → SafetySt) : (h.setSf g).toHost = h.toHost := rfl
@[simp] theorem Hw.setSf_wraps (h : Hw) (g : SafetySt → SafetySt) : (h.setSf g).wraps = h.wraps := rfl
@[simp] theorem Hw.setSf_free (h : Hw) (g : SafetySt → SafetySt) : (h.setSf g).free = h.free := rfl
@[simp] theorem Hw.setSf_out (h : Hw) (g : SafetySt → SafetySt) : (h.setSf g).out = h.out := rfl

@[simp] theorem Hw.setSf_rd (h : Hw) (g : SafetySt → SafetySt) (x : Fld) (i' j' : Nat) : (h.setSf g).rd x i' j' = h.rd x i' j' := rfl

@[simp] theorem Hw.setPw_regs (h : Hw) (g : PowerSt → PowerSt) : (h.setPw g).regs = h.regs := rfl
@[simp] theorem Hw.setPw_latch (h : Hw) (g : PowerSt → PowerSt) : (h.setPw g).latch = h.latch := rfl
@[simp] theorem Hw.setPw_stage (h : Hw) (g : PowerSt → PowerSt) : (h.setPw g).stage = h.stage := rfl
@[simp] theorem Hw.setPw_pcnt (h : Hw) (g : PowerSt → PowerSt) : (h.setPw g).pcnt = h.pcnt := rfl
@[simp] theorem Hw.setPw_clk (h : Hw) (g : PowerSt → PowerSt) : (h.setPw g).clk = h.clk := rfl
@[simp] theorem Hw.setPw_host (h : Hw) (g : PowerSt → PowerSt) : (h.setPw g).host = h.host := rfl
@[simp] theorem Hw.setPw_ep (h : Hw) (g : PowerSt → PowerSt) : (h.setPw g).ep = h.ep := rfl
@[simp] theorem Hw.setPw_rcd (h : Hw) (g : PowerSt → PowerSt) : (h.setPw g).rcd = h.rcd := rfl
@[simp] theorem Hw.setPw_sf (h : Hw) (g : PowerSt → PowerSt) : (h.setPw g).sf = h.sf := rfl
@[simp] theorem Hw.setPw_rx (h : Hw) (g : PowerSt → PowerSt) : (h.setPw g).rx = h.rx := rfl
@[simp] theorem Hw.setPw_map (h : Hw) (g : PowerSt → PowerSt) : (h.setPw g).map = h.map := rfl
@[simp] theorem Hw.setPw_act (h : Hw) (g : PowerSt → PowerSt) : (h.setPw g).act = h.act := rfl
@[simp] theorem Hw.setPw_up (h : Hw) (g : PowerSt → PowerSt) : (h.setPw g).up = h.up := rfl
@[simp] theorem Hw.setPw_herd (h : Hw) (g : PowerSt → PowerSt) : (h.setPw g).herd = h.herd := rfl
@[simp] theorem Hw.setPw_ptr (h : Hw) (g : PowerSt → PowerSt) : (h.setPw g).ptr = h.ptr := rfl
@[simp] theorem Hw.setPw_time (h : Hw) (g : PowerSt → PowerSt) : (h.setPw g).time = h.time := rfl
@[simp] theorem Hw.setPw_ks (h : Hw) (g : PowerSt → PowerSt) : (h.setPw g).ks = h.ks := rfl
@[simp] theorem Hw.setPw_pk (h : Hw) (g : PowerSt → PowerSt) : (h.setPw g).pk = h.pk := rfl
@[simp] theorem Hw.setPw_mem (h : Hw) (g : PowerSt → PowerSt) : (h.setPw g).mem = h.mem := rfl
@[simp] theorem Hw.setPw_ts (h : Hw) (g : PowerSt → PowerSt) : (h.setPw g).ts = h.ts := rfl
@[simp] theorem Hw.setPw_port (h : Hw) (g : PowerSt → PowerSt) : (h.setPw g).port = h.port := rfl
@[simp] theorem Hw.setPw_recal (h : Hw) (g : PowerSt → PowerSt) : (h.setPw g).recal = h.recal := rfl
@[simp] theorem Hw.setPw_toHost (h : Hw) (g : PowerSt → PowerSt) : (h.setPw g).toHost = h.toHost := rfl
@[simp] theorem Hw.setPw_wraps (h : Hw) (g : PowerSt → PowerSt) : (h.setPw g).wraps = h.wraps := rfl
@[simp] theorem Hw.setPw_free (h : Hw) (g : PowerSt → PowerSt) : (h.setPw g).free = h.free := rfl
@[simp] theorem Hw.setPw_out (h : Hw) (g : PowerSt → PowerSt) : (h.setPw g).out = h.out := rfl

@[simp] theorem Hw.setPw_rd (h : Hw) (g : PowerSt → PowerSt) (x : Fld) (i' j' : Nat) : (h.setPw g).rd x i' j' = h.rd x i' j' := rfl

@[simp] theorem Hw.setEp_regs (h : Hw) (g : EpochSt → EpochSt) : (h.setEp g).regs = h.regs := rfl
@[simp] theorem Hw.setEp_latch (h : Hw) (g : EpochSt → EpochSt) : (h.setEp g).latch = h.latch := rfl
@[simp] theorem Hw.setEp_stage (h : Hw) (g : EpochSt → EpochSt) : (h.setEp g).stage = h.stage := rfl
@[simp] theorem Hw.setEp_pcnt (h : Hw) (g : EpochSt → EpochSt) : (h.setEp g).pcnt = h.pcnt := rfl
@[simp] theorem Hw.setEp_clk (h : Hw) (g : EpochSt → EpochSt) : (h.setEp g).clk = h.clk := rfl
@[simp] theorem Hw.setEp_host (h : Hw) (g : EpochSt → EpochSt) : (h.setEp g).host = h.host := rfl
@[simp] theorem Hw.setEp_rcd (h : Hw) (g : EpochSt → EpochSt) : (h.setEp g).rcd = h.rcd := rfl
@[simp] theorem Hw.setEp_sf (h : Hw) (g : EpochSt → EpochSt) : (h.setEp g).sf = h.sf := rfl
@[simp] theorem Hw.setEp_pw (h : Hw) (g : EpochSt → EpochSt) : (h.setEp g).pw = h.pw := rfl
@[simp] theorem Hw.setEp_rx (h : Hw) (g : EpochSt → EpochSt) : (h.setEp g).rx = h.rx := rfl
@[simp] theorem Hw.setEp_map (h : Hw) (g : EpochSt → EpochSt) : (h.setEp g).map = h.map := rfl
@[simp] theorem Hw.setEp_act (h : Hw) (g : EpochSt → EpochSt) : (h.setEp g).act = h.act := rfl
@[simp] theorem Hw.setEp_up (h : Hw) (g : EpochSt → EpochSt) : (h.setEp g).up = h.up := rfl
@[simp] theorem Hw.setEp_herd (h : Hw) (g : EpochSt → EpochSt) : (h.setEp g).herd = h.herd := rfl
@[simp] theorem Hw.setEp_ptr (h : Hw) (g : EpochSt → EpochSt) : (h.setEp g).ptr = h.ptr := rfl
@[simp] theorem Hw.setEp_time (h : Hw) (g : EpochSt → EpochSt) : (h.setEp g).time = h.time := rfl
@[simp] theorem Hw.setEp_ks (h : Hw) (g : EpochSt → EpochSt) : (h.setEp g).ks = h.ks := rfl
@[simp] theorem Hw.setEp_pk (h : Hw) (g : EpochSt → EpochSt) : (h.setEp g).pk = h.pk := rfl
@[simp] theorem Hw.setEp_mem (h : Hw) (g : EpochSt → EpochSt) : (h.setEp g).mem = h.mem := rfl
@[simp] theorem Hw.setEp_ts (h : Hw) (g : EpochSt → EpochSt) : (h.setEp g).ts = h.ts := rfl
@[simp] theorem Hw.setEp_port (h : Hw) (g : EpochSt → EpochSt) : (h.setEp g).port = h.port := rfl
@[simp] theorem Hw.setEp_recal (h : Hw) (g : EpochSt → EpochSt) : (h.setEp g).recal = h.recal := rfl
@[simp] theorem Hw.setEp_toHost (h : Hw) (g : EpochSt → EpochSt) : (h.setEp g).toHost = h.toHost := rfl
@[simp] theorem Hw.setEp_wraps (h : Hw) (g : EpochSt → EpochSt) : (h.setEp g).wraps = h.wraps := rfl
@[simp] theorem Hw.setEp_free (h : Hw) (g : EpochSt → EpochSt) : (h.setEp g).free = h.free := rfl
@[simp] theorem Hw.setEp_out (h : Hw) (g : EpochSt → EpochSt) : (h.setEp g).out = h.out := rfl

@[simp] theorem Hw.setEp_rd (h : Hw) (g : EpochSt → EpochSt) (x : Fld) (i' j' : Nat) : (h.setEp g).rd x i' j' = h.rd x i' j' := rfl

@[simp] theorem Hw.setDet_regs (h : Hw) (c i : Nat) (d : DetSt) : (h.setDet c i d).regs = h.regs := rfl
@[simp] theorem Hw.setDet_latch (h : Hw) (c i : Nat) (d : DetSt) : (h.setDet c i d).latch = h.latch := rfl
@[simp] theorem Hw.setDet_stage (h : Hw) (c i : Nat) (d : DetSt) : (h.setDet c i d).stage = h.stage := rfl
@[simp] theorem Hw.setDet_pcnt (h : Hw) (c i : Nat) (d : DetSt) : (h.setDet c i d).pcnt = h.pcnt := rfl
@[simp] theorem Hw.setDet_clk (h : Hw) (c i : Nat) (d : DetSt) : (h.setDet c i d).clk = h.clk := rfl
@[simp] theorem Hw.setDet_host (h : Hw) (c i : Nat) (d : DetSt) : (h.setDet c i d).host = h.host := rfl
@[simp] theorem Hw.setDet_ep (h : Hw) (c i : Nat) (d : DetSt) : (h.setDet c i d).ep = h.ep := rfl
@[simp] theorem Hw.setDet_rcd (h : Hw) (c i : Nat) (d : DetSt) : (h.setDet c i d).rcd = h.rcd := rfl
@[simp] theorem Hw.setDet_pw (h : Hw) (c i : Nat) (d : DetSt) : (h.setDet c i d).pw = h.pw := rfl
@[simp] theorem Hw.setDet_rx (h : Hw) (c i : Nat) (d : DetSt) : (h.setDet c i d).rx = h.rx := rfl
@[simp] theorem Hw.setDet_map (h : Hw) (c i : Nat) (d : DetSt) : (h.setDet c i d).map = h.map := rfl
@[simp] theorem Hw.setDet_act (h : Hw) (c i : Nat) (d : DetSt) : (h.setDet c i d).act = h.act := rfl
@[simp] theorem Hw.setDet_up (h : Hw) (c i : Nat) (d : DetSt) : (h.setDet c i d).up = h.up := rfl
@[simp] theorem Hw.setDet_herd (h : Hw) (c i : Nat) (d : DetSt) : (h.setDet c i d).herd = h.herd := rfl
@[simp] theorem Hw.setDet_ptr (h : Hw) (c i : Nat) (d : DetSt) : (h.setDet c i d).ptr = h.ptr := rfl
@[simp] theorem Hw.setDet_time (h : Hw) (c i : Nat) (d : DetSt) : (h.setDet c i d).time = h.time := rfl
@[simp] theorem Hw.setDet_ks (h : Hw) (c i : Nat) (d : DetSt) : (h.setDet c i d).ks = h.ks := rfl
@[simp] theorem Hw.setDet_pk (h : Hw) (c i : Nat) (d : DetSt) : (h.setDet c i d).pk = h.pk := rfl
@[simp] theorem Hw.setDet_mem (h : Hw) (c i : Nat) (d : DetSt) : (h.setDet c i d).mem = h.mem := rfl
@[simp] theorem Hw.setDet_ts (h : Hw) (c i : Nat) (d : DetSt) : (h.setDet c i d).ts = h.ts := rfl
@[simp] theorem Hw.setDet_port (h : Hw) (c i : Nat) (d : DetSt) : (h.setDet c i d).port = h.port := rfl
@[simp] theorem Hw.setDet_recal (h : Hw) (c i : Nat) (d : DetSt) : (h.setDet c i d).recal = h.recal := rfl
@[simp] theorem Hw.setDet_toHost (h : Hw) (c i : Nat) (d : DetSt) : (h.setDet c i d).toHost = h.toHost := rfl
@[simp] theorem Hw.setDet_wraps (h : Hw) (c i : Nat) (d : DetSt) : (h.setDet c i d).wraps = h.wraps := rfl
@[simp] theorem Hw.setDet_free (h : Hw) (c i : Nat) (d : DetSt) : (h.setDet c i d).free = h.free := rfl
@[simp] theorem Hw.setDet_out (h : Hw) (c i : Nat) (d : DetSt) : (h.setDet c i d).out = h.out := rfl

@[simp] theorem Hw.setDet_rd (h : Hw) (c i : Nat) (d : DetSt) (x : Fld) (i' j' : Nat) : (h.setDet c i d).rd x i' j' = h.rd x i' j' := rfl

@[simp] theorem Hw.setJob_regs (h : Hw) (n : Nat) (s : JobSt) : (h.setJob n s).regs = h.regs := rfl
@[simp] theorem Hw.setJob_latch (h : Hw) (n : Nat) (s : JobSt) : (h.setJob n s).latch = h.latch := rfl
@[simp] theorem Hw.setJob_stage (h : Hw) (n : Nat) (s : JobSt) : (h.setJob n s).stage = h.stage := rfl
@[simp] theorem Hw.setJob_pcnt (h : Hw) (n : Nat) (s : JobSt) : (h.setJob n s).pcnt = h.pcnt := rfl
@[simp] theorem Hw.setJob_host (h : Hw) (n : Nat) (s : JobSt) : (h.setJob n s).host = h.host := rfl
@[simp] theorem Hw.setJob_ep (h : Hw) (n : Nat) (s : JobSt) : (h.setJob n s).ep = h.ep := rfl
@[simp] theorem Hw.setJob_rcd (h : Hw) (n : Nat) (s : JobSt) : (h.setJob n s).rcd = h.rcd := rfl
@[simp] theorem Hw.setJob_sf (h : Hw) (n : Nat) (s : JobSt) : (h.setJob n s).sf = h.sf := rfl
@[simp] theorem Hw.setJob_pw (h : Hw) (n : Nat) (s : JobSt) : (h.setJob n s).pw = h.pw := rfl
@[simp] theorem Hw.setJob_rx (h : Hw) (n : Nat) (s : JobSt) : (h.setJob n s).rx = h.rx := rfl
@[simp] theorem Hw.setJob_map (h : Hw) (n : Nat) (s : JobSt) : (h.setJob n s).map = h.map := rfl
@[simp] theorem Hw.setJob_act (h : Hw) (n : Nat) (s : JobSt) : (h.setJob n s).act = h.act := rfl
@[simp] theorem Hw.setJob_up (h : Hw) (n : Nat) (s : JobSt) : (h.setJob n s).up = h.up := rfl
@[simp] theorem Hw.setJob_herd (h : Hw) (n : Nat) (s : JobSt) : (h.setJob n s).herd = h.herd := rfl
@[simp] theorem Hw.setJob_ptr (h : Hw) (n : Nat) (s : JobSt) : (h.setJob n s).ptr = h.ptr := rfl
@[simp] theorem Hw.setJob_time (h : Hw) (n : Nat) (s : JobSt) : (h.setJob n s).time = h.time := rfl
@[simp] theorem Hw.setJob_ks (h : Hw) (n : Nat) (s : JobSt) : (h.setJob n s).ks = h.ks := rfl
@[simp] theorem Hw.setJob_pk (h : Hw) (n : Nat) (s : JobSt) : (h.setJob n s).pk = h.pk := rfl
@[simp] theorem Hw.setJob_mem (h : Hw) (n : Nat) (s : JobSt) : (h.setJob n s).mem = h.mem := rfl
@[simp] theorem Hw.setJob_ts (h : Hw) (n : Nat) (s : JobSt) : (h.setJob n s).ts = h.ts := rfl
@[simp] theorem Hw.setJob_port (h : Hw) (n : Nat) (s : JobSt) : (h.setJob n s).port = h.port := rfl
@[simp] theorem Hw.setJob_recal (h : Hw) (n : Nat) (s : JobSt) : (h.setJob n s).recal = h.recal := rfl
@[simp] theorem Hw.setJob_toHost (h : Hw) (n : Nat) (s : JobSt) : (h.setJob n s).toHost = h.toHost := rfl
@[simp] theorem Hw.setJob_wraps (h : Hw) (n : Nat) (s : JobSt) : (h.setJob n s).wraps = h.wraps := rfl
@[simp] theorem Hw.setJob_free (h : Hw) (n : Nat) (s : JobSt) : (h.setJob n s).free = h.free := rfl
@[simp] theorem Hw.setJob_out (h : Hw) (n : Nat) (s : JobSt) : (h.setJob n s).out = h.out := rfl

@[simp] theorem Hw.setJob_rd (h : Hw) (n : Nat) (s : JobSt) (x : Fld) (i' j' : Nat) : (h.setJob n s).rd x i' j' = h.rd x i' j' := rfl

end Sys2Proof.Machine
end

