-- ==== Sys2Proof/Laws/Regs.lean ====
section
/-! SUPPORT. What the shared operations on stores and register fields do: reads after writes (R12), counting
(R13, R344), and the indexed parts of the block. -/

namespace Sys2Proof.Machine

/-! ### Stores -/

section Stores
variable {κ ν : Type} [DecidableEq κ]

@[simp] theorem look_nil (k : κ) (d : ν) : look [] k d = d := rfl

@[simp] theorem look_store_same (m : List (κ × ν)) (k : κ) (v d : ν) : look (store m k v) k d = v := by
  induction m with
  | nil => simp [store, look]
  | cons p t ih =>
    obtain ⟨k', v'⟩ := p
    by_cases h : k' = k
    · simp [store, look, h]
    · simp [store, look, h, ih]

theorem look_store_ne (m : List (κ × ν)) {k k' : κ} (v d : ν) (hk : k ≠ k') : look (store m k v) k' d = look m k' d := by
  induction m with
  | nil => simp [store, look, hk]
  | cons p t ih =>
    obtain ⟨k'', v''⟩ := p
    by_cases h : k'' = k
    · subst h; simp [store, look, hk]
    · by_cases h' : k'' = k'
      · subst h'; simp [store, look, h]
      · simp [store, look, h, h', ih]

theorem look_store (m : List (κ × ν)) (k k' : κ) (v d : ν) :
    look (store m k v) k' d = if k = k' then v else look m k' d := by
  by_cases h : k = k'
  · subst h; simp
  · simp [h, look_store_ne]

end Stores

/-! ### Register fields -/

/-- R12: a read after a write of the same field gives the value written, cut to the field's width. -/
@[simp] theorem Hw.rd_wr_same (h : Hw) (f : Fld) (v i j : Nat) : (h.wr f v i j).rd f i j = v % 2 ^ f.width := by
  simp [Hw.rd, Hw.wr]

/-- A write leaves every field with another key as it was. -/
theorem Hw.rd_wr_ne (h : Hw) (f g : Fld) (v i j i' j' : Nat) (hk : f.key i j ≠ g.key i' j') :
    (h.wr f v i j).rd g i' j' = h.rd g i' j' := by
  simp [Hw.rd, Hw.wr, look_store_ne _ _ _ hk]

theorem Hw.rd_wr (h : Hw) (f g : Fld) (v i j i' j' : Nat) :
    (h.wr f v i j).rd g i' j' = if f.key i j = g.key i' j' then v % 2 ^ f.width else h.rd g i' j' := by
  simp [Hw.rd, Hw.wr, look_store]

theorem Hw.rd_inc (h : Hw) (f g : Fld) (i j n i' j' : Nat) :
    (h.inc f i j n).rd g i' j' = if f.key i j = g.key i' j' then satNat f.width (h.rd f i j + n) else h.rd g i' j' := by
  simp [Hw.rd, Hw.inc, look_store]

theorem Hw.rd_incW (h : Hw) (f g : Fld) (i j n i' j' : Nat) :
    (h.incW f i j n).rd g i' j' = if f.key i j = g.key i' j' then (h.rd f i j + n) % 2 ^ f.width else h.rd g i' j' := by
  simp [Hw.rd, Hw.incW, look_store]

@[simp] theorem Hw.wrB_eq (h : Hw) (f : Fld) (b : Bool) (i j : Nat) : h.wrB f b i j = h.wr f (b2n b) i j := rfl

@[simp] theorem b2n_true : b2n true = 1 := rfl
@[simp] theorem b2n_false : b2n false = 0 := rfl

@[simp] theorem Hw.on_eq (h : Hw) (f : Fld) (i j : Nat) : h.on f i j = (h.rd f i j != 0) := rfl

@[simp] theorem Hw.when_true (h : Hw) (g : Hw → Hw) : h.when true g = g h := rfl
@[simp] theorem Hw.when_false (h : Hw) (g : Hw → Hw) : h.when false g = h := rfl

@[simp] theorem Hw.each_nil {α : Type} (h : Hw) (g : Hw → α → Hw) : h.each [] g = h := rfl
@[simp] theorem Hw.each_cons {α : Type} (h : Hw) (x : α) (l : List α) (g : Hw → α → Hw) :
    h.each (x :: l) g = (g h x).each l g := rfl

/-! ### Indexed parts -/

@[simp] theorem Hw.setRx_rxAt (h : Hw) (k : Nat) (g : RxSt → RxSt) : (h.setRx k g).rxAt k = g (h.rxAt k) := by
  simp [Hw.setRx, Hw.rxAt]
@[simp] theorem Hw.setMap_mapAt (h : Hw) (k : Nat) (g : MapSt → MapSt) : (h.setMap k g).mapAt k = g (h.mapAt k) := by
  simp [Hw.setMap, Hw.mapAt]
@[simp] theorem Hw.setAct_actAt (h : Hw) (k : Nat) (g : ActSt → ActSt) : (h.setAct k g).actAt k = g (h.actAt k) := by
  simp [Hw.setAct, Hw.actAt]
@[simp] theorem Hw.setUp_upAt (h : Hw) (k : Nat) (g : UpSt → UpSt) : (h.setUp k g).upAt k = g (h.upAt k) := by
  simp [Hw.setUp, Hw.upAt]
@[simp] theorem Hw.setHerd_herdAt (h : Hw) (k : Nat) (g : HerdSt → HerdSt) :
    (h.setHerd k g).herdAt k = g (h.herdAt k) := by simp [Hw.setHerd, Hw.herdAt]
@[simp] theorem Hw.setPtr_ptrAt (h : Hw) (k : Nat) (g : PtrSt → PtrSt) : (h.setPtr k g).ptrAt k = g (h.ptrAt k) := by
  simp [Hw.setPtr, Hw.ptrAt]
@[simp] theorem Hw.setDom_domAt (h : Hw) (k : Nat) (g : DomSt → DomSt) : (h.setDom k g).domAt k = g (h.domAt k) := by
  simp [Hw.setDom, Hw.domAt]
@[simp] theorem Hw.setCmp_cmpAt (h : Hw) (k : Nat) (g : CmpSt → CmpSt) : (h.setCmp k g).cmpAt k = g (h.cmpAt k) := by
  simp [Hw.setCmp, Hw.cmpAt]
@[simp] theorem Hw.setPin_pinAt (h : Hw) (k : Nat) (g : PinSt → PinSt) : (h.setPin k g).pinAt k = g (h.pinAt k) := by
  simp [Hw.setPin, Hw.pinAt]
@[simp] theorem Hw.setRegion_regionAt (h : Hw) (k : Nat) (g : RegionSt → RegionSt) :
    (h.setRegion k g).regionAt k = g (h.regionAt k) := by simp [Hw.setRegion, Hw.regionAt]
@[simp] theorem Hw.setRing_ringAt (h : Hw) (k : Nat) (g : RingSt → RingSt) : (h.setRing k g).ringAt k = g (h.ringAt k) := by
  simp [Hw.setRing, Hw.ringAt]
@[simp] theorem Hw.setTs_tsAt (h : Hw) (k : Nat) (g : TsSt → TsSt) : (h.setTs k g).tsAt k = g (h.tsAt k) := by
  simp [Hw.setTs, Hw.tsAt]
@[simp] theorem Hw.setPort_portAt (h : Hw) (k : Nat) (g : PortSt → PortSt) : (h.setPort k g).portAt k = g (h.portAt k) := by
  simp [Hw.setPort, Hw.portAt]

@[simp] theorem Hw.emit_out (h : Hw) (o : Out) : (h.emit o).out = o :: h.out := rfl

end Sys2Proof.Machine
end

