-- ==== Sys2Proof/Laws/Events.lean ====
section
/-! SUPPORT. What events, records and completions can change (R357 to R361, R374, R375, R421, R422): the rings, the
recorder, the outputs, and the counters HI_EVT_DROP and EV_STATUS; nothing else of the block. -/

namespace Sys2Proof.Machine

/-- `h'` is `h` but for what noting an event can change. -/
structure OnlyNotes (h h' : Hw) : Prop where
  parts : h' = { h with regs := h'.regs, pcnt := h'.pcnt, wraps := h'.wraps, host := h'.host, rcd := h'.rcd, out := h'.out }
  rd : ∀ (f : Fld) (i j : Nat), f.reg ≠ .EV_STATUS → f.reg ≠ .HI_EVT_DROP → h'.rd f i j = h.rd f i j

theorem OnlyNotes.refl (h : Hw) : OnlyNotes h h := ⟨rfl, fun _ _ _ _ _ => rfl⟩

theorem OnlyNotes.trans {h h' h'' : Hw} (x : OnlyNotes h h') (y : OnlyNotes h' h'') : OnlyNotes h h'' := by
  refine ⟨?_, fun f i j e d => (y.rd f i j e d).trans (x.rd f i j e d)⟩
  have hy := y.parts
  rw [x.parts] at hy
  exact hy

theorem OnlyNotes.ite {h a b : Hw} {c : Prop} [Decidable c] (x : OnlyNotes h a) (y : OnlyNotes h b) :
    OnlyNotes h (if c then a else b) := by split <;> assumption

theorem notes_emit (h : Hw) (o : Out) : OnlyNotes h (h.emit o) := ⟨rfl, fun _ _ _ _ _ => rfl⟩

theorem notes_setRing (h : Hw) (r : Nat) (g : RingSt → RingSt) : OnlyNotes h (h.setRing r g) := ⟨rfl, fun _ _ _ _ _ => rfl⟩

theorem notes_vecNote (h : Hw) (v : Nat) : OnlyNotes h (h.vecNote v) := ⟨rfl, fun _ _ _ _ _ => rfl⟩

theorem notes_rcd (h : Hw) (x : RecorderSt) : OnlyNotes h { h with rcd := x } := ⟨rfl, fun _ _ _ _ _ => rfl⟩

theorem notes_host (h : Hw) (x : HostSt) : OnlyNotes h { h with host := x } := ⟨rfl, fun _ _ _ _ _ => rfl⟩

theorem notes_inc (h : Hw) (f : Fld) (i j n : Nat) (e : f.reg = .EV_STATUS ∨ f.reg = .HI_EVT_DROP) :
    OnlyNotes h (h.inc f i j n) := by
  refine ⟨rfl, fun g i' j' h1 h2 => ?_⟩
  rw [Hw.rd_inc, if_neg]
  intro hk
  have : f.reg = g.reg := congrArg FKey.reg hk
  rcases e with e | e
  · exact h1 (this ▸ e)
  · exact h2 (this ▸ e)

theorem notes_ringMoved (h : Hw) (r v : Nat) : OnlyNotes h (h.ringMoved r v) := by
  unfold Hw.ringMoved
  have x := (notes_setRing h r (fun s => { s with head := v })).trans (notes_emit _ (.head r v))
  dsimp only
  split
  · exact x.trans (notes_vecNote _ _)
  · exact x

theorem notes_pushEntry (h : Hw) (n : Nat) (e : Entry) : OnlyNotes h (h.pushEntry n e) :=
  ((notes_emit h _).trans (notes_setRing _ _ _)).trans (notes_ringMoved _ _ _)

theorem notes_tryEvent (h h' : Hw) (n code : Nat) (a b : List Byte) (e : h.tryEvent n code a b = some h') :
    OnlyNotes h h' := by
  unfold Hw.tryEvent at e
  dsimp only at e
  split at e
  · split at e
    · cases e; exact notes_pushEntry _ _ _
    · cases e
  · by_cases hl : ((h.ringAt (144 + n)).prod + 1) % h.ringSize (144 + n) = 0
    · simp only [hl, if_true] at e
      split at e
      · cases e
        exact (notes_pushEntry _ _ _).trans ((notes_pushEntry _ _ _).trans (notes_pushEntry _ _ _))
      · cases e
    · simp only [hl, if_false] at e
      split at e
      · cases e
        exact (notes_pushEntry _ _ _).trans (notes_pushEntry _ _ _)
      · cases e

theorem notes_route (h h' : Hw) (c code : Nat) (a b : List Byte) (e : h.route c code a b = some h') : OnlyNotes h h' := by
  unfold Hw.route at e
  split at e
  · exact notes_tryEvent _ _ _ _ _ _ e
  · cases e

theorem notes_eventDrop (h : Hw) (c code : Nat) (a b : List Byte) : OnlyNotes h (h.eventDrop c code a b) := by
  unfold Hw.eventDrop
  split
  · exact notes_route _ _ _ _ _ _ (by assumption)
  · exact notes_inc _ _ _ _ _ (.inr rfl)

theorem notes_eventCipher (h : Hw) (code : Nat) (a b : List Byte) : OnlyNotes h (h.eventCipher code a b) := by
  unfold Hw.eventCipher
  split
  · rename_i h' e
    split at e
    · exact notes_route _ _ _ _ _ _ e
    · cases e
  · split
    · exact ⟨rfl, fun _ _ _ _ _ => rfl⟩
    · exact notes_inc _ _ _ _ _ (.inr rfl)

theorem notes_placeRec (h : Hw) (r : Rec) : OnlyNotes h (h.placeRec r).1 := by
  unfold Hw.placeRec
  split
  · exact notes_inc _ _ _ _ _ (.inl rfl)
  · dsimp only
    split
    · exact (notes_rcd h _).trans (notes_inc _ _ _ _ _ (.inl rfl))
    · exact notes_rcd h _

theorem notes_mirrorRec (h : Hw) (r : Rec) : OnlyNotes h (h.mirrorRec r) :=
  OnlyNotes.ite (notes_eventDrop _ _ _ _ _) (OnlyNotes.refl _)

theorem notes_countLoss (h h' : Hw) (e : h.countLoss = some h') : OnlyNotes h h' := by
  unfold Hw.countLoss at e
  split at e
  · cases e
  · cases e; exact ⟨rfl, fun _ _ _ _ _ => rfl⟩

/-- R421, R422: making a record changes the recorder, the rings and their outputs, and no register but the two counters. -/
theorem notes_record (h : Hw) (sev source code : Nat) (data : List Byte) : OnlyNotes h (h.record sev source code data) := by
  have note (h : Hw) (r : Rec) : OnlyNotes h ((h.placeRec r).1.mirrorRec r) :=
    (notes_placeRec h r).trans (notes_mirrorRec _ r)
  unfold Hw.record
  dsimp only
  split
  · refine (note h (h.mkRec sev source code data)).trans ?_
    generalize (h.placeRec (h.mkRec sev source code data)).1.mirrorRec (h.mkRec sev source code data) = g
    split
    · exact notes_countLoss _ _ (by assumption)
    · split
      · refine (note g (g.mkRec sevWarn 0x2020 codeRingLoss (leBytes 4 1))).trans ?_
        cases e : Hw.countLoss _ with
        | none => exact OnlyNotes.refl _
        | some h' => exact notes_countLoss _ _ e
      · exact note _ _
  · exact note h _

theorem notes_recordOf (h : Hw) (sev source : Nat) (f : Fld) (i j : Nat) (data : List Byte) :
    OnlyNotes h (h.recordOf sev source f i j data) := notes_record _ _ _ _ _

theorem notes_recordOther (h : Hw) (sev source n : Nat) (data : List Byte) :
    OnlyNotes h (h.recordOther sev source n data) := notes_record _ _ _ _ _

theorem notes_complete (h : Hw) (n : Nat) (c : Compl) : OnlyNotes h (h.complete n c) :=
  OnlyNotes.ite (notes_pushEntry _ _ _) (notes_host h _)

theorem notes_cmdTake (h : Hw) (hd : CmdHdr) : OnlyNotes h (h.cmdTake hd) :=
  (notes_setRing h _ _).trans (notes_ringMoved _ _ _)

theorem notes_completeOpen (h : Hw) (p : OpenCmd → Bool) (st re rs : Nat) : OnlyNotes h (h.completeOpen p st re rs) := by
  unfold Hw.completeOpen
  split
  · exact OnlyNotes.refl _
  · exact (notes_host h _).trans (notes_complete _ _ _)

end Sys2Proof.Machine
end

