-- ==== Sys2Proof/Laws/Notes.lean ====
section
/-! SUPPORT. One lemma per field for every operation that notes an event: it leaves the field as it was. -/

namespace Sys2Proof.Machine

theorem OnlyNotes.latch {h h' : Hw} (x : OnlyNotes h h') : h'.latch = h.latch := by rw [x.parts]
theorem OnlyNotes.stage {h h' : Hw} (x : OnlyNotes h h') : h'.stage = h.stage := by rw [x.parts]
theorem OnlyNotes.clk {h h' : Hw} (x : OnlyNotes h h') : h'.clk = h.clk := by rw [x.parts]
theorem OnlyNotes.ep {h h' : Hw} (x : OnlyNotes h h') : h'.ep = h.ep := by rw [x.parts]
theorem OnlyNotes.sf {h h' : Hw} (x : OnlyNotes h h') : h'.sf = h.sf := by rw [x.parts]
theorem OnlyNotes.pw {h h' : Hw} (x : OnlyNotes h h') : h'.pw = h.pw := by rw [x.parts]
theorem OnlyNotes.rx {h h' : Hw} (x : OnlyNotes h h') : h'.rx = h.rx := by rw [x.parts]
theorem OnlyNotes.map {h h' : Hw} (x : OnlyNotes h h') : h'.map = h.map := by rw [x.parts]
theorem OnlyNotes.act {h h' : Hw} (x : OnlyNotes h h') : h'.act = h.act := by rw [x.parts]
theorem OnlyNotes.up {h h' : Hw} (x : OnlyNotes h h') : h'.up = h.up := by rw [x.parts]
theorem OnlyNotes.herd {h h' : Hw} (x : OnlyNotes h h') : h'.herd = h.herd := by rw [x.parts]
theorem OnlyNotes.ptr {h h' : Hw} (x : OnlyNotes h h') : h'.ptr = h.ptr := by rw [x.parts]
theorem OnlyNotes.time {h h' : Hw} (x : OnlyNotes h h') : h'.time = h.time := by rw [x.parts]
theorem OnlyNotes.ks {h h' : Hw} (x : OnlyNotes h h') : h'.ks = h.ks := by rw [x.parts]
theorem OnlyNotes.pk {h h' : Hw} (x : OnlyNotes h h') : h'.pk = h.pk := by rw [x.parts]
theorem OnlyNotes.mem {h h' : Hw} (x : OnlyNotes h h') : h'.mem = h.mem := by rw [x.parts]
theorem OnlyNotes.ts {h h' : Hw} (x : OnlyNotes h h') : h'.ts = h.ts := by rw [x.parts]
theorem OnlyNotes.port {h h' : Hw} (x : OnlyNotes h h') : h'.port = h.port := by rw [x.parts]
theorem OnlyNotes.recal {h h' : Hw} (x : OnlyNotes h h') : h'.recal = h.recal := by rw [x.parts]
theorem OnlyNotes.toHost {h h' : Hw} (x : OnlyNotes h h') : h'.toHost = h.toHost := by rw [x.parts]
theorem OnlyNotes.free {h h' : Hw} (x : OnlyNotes h h') : h'.free = h.free := by rw [x.parts]

@[simp] theorem Hw.record_latch (h : Hw) (sev source code : Nat) (data : List Byte) : (h.record sev source code data).latch = h.latch :=
  (notes_record h sev source code data).latch
@[simp] theorem Hw.record_stage (h : Hw) (sev source code : Nat) (data : List Byte) : (h.record sev source code data).stage = h.stage :=
  (notes_record h sev source code data).stage
@[simp] theorem Hw.record_clk (h : Hw) (sev source code : Nat) (data : List Byte) : (h.record sev source code data).clk = h.clk :=
  (notes_record h sev source code data).clk
@[simp] theorem Hw.record_ep (h : Hw) (sev source code : Nat) (data : List Byte) : (h.record sev source code data).ep = h.ep :=
  (notes_record h sev source code data).ep
@[simp] theorem Hw.record_sf (h : Hw) (sev source code : Nat) (data : List Byte) : (h.record sev source code data).sf = h.sf :=
  (notes_record h sev source code data).sf
@[simp] theorem Hw.record_pw (h : Hw) (sev source code : Nat) (data : List Byte) : (h.record sev source code data).pw = h.pw :=
  (notes_record h sev source code data).pw
@[simp] theorem Hw.record_rx (h : Hw) (sev source code : Nat) (data : List Byte) : (h.record sev source code data).rx = h.rx :=
  (notes_record h sev source code data).rx
@[simp] theorem Hw.record_map (h : Hw) (sev source code : Nat) (data : List Byte) : (h.record sev source code data).map = h.map :=
  (notes_record h sev source code data).map
@[simp] theorem Hw.record_act (h : Hw) (sev source code : Nat) (data : List Byte) : (h.record sev source code data).act = h.act :=
  (notes_record h sev source code data).act
@[simp] theorem Hw.record_up (h : Hw) (sev source code : Nat) (data : List Byte) : (h.record sev source code data).up = h.up :=
  (notes_record h sev source code data).up
@[simp] theorem Hw.record_herd (h : Hw) (sev source code : Nat) (data : List Byte) : (h.record sev source code data).herd = h.herd :=
  (notes_record h sev source code data).herd
@[simp] theorem Hw.record_ptr (h : Hw) (sev source code : Nat) (data : List Byte) : (h.record sev source code data).ptr = h.ptr :=
  (notes_record h sev source code data).ptr
@[simp] theorem Hw.record_time (h : Hw) (sev source code : Nat) (data : List Byte) : (h.record sev source code data).time = h.time :=
  (notes_record h sev source code data).time
@[simp] theorem Hw.record_ks (h : Hw) (sev source code : Nat) (data : List Byte) : (h.record sev source code data).ks = h.ks :=
  (notes_record h sev source code data).ks
@[simp] theorem Hw.record_pk (h : Hw) (sev source code : Nat) (data : List Byte) : (h.record sev source code data).pk = h.pk :=
  (notes_record h sev source code data).pk
@[simp] theorem Hw.record_mem (h : Hw) (sev source code : Nat) (data : List Byte) : (h.record sev source code data).mem = h.mem :=
  (notes_record h sev source code data).mem
@[simp] theorem Hw.record_ts (h : Hw) (sev source code : Nat) (data : List Byte) : (h.record sev source code data).ts = h.ts :=
  (notes_record h sev source code data).ts
@[simp] theorem Hw.record_port (h : Hw) (sev source code : Nat) (data : List Byte) : (h.record sev source code data).port = h.port :=
  (notes_record h sev source code data).port
@[simp] theorem Hw.record_recal (h : Hw) (sev source code : Nat) (data : List Byte) : (h.record sev source code data).recal = h.recal :=
  (notes_record h sev source code data).recal
@[simp] theorem Hw.record_toHost (h : Hw) (sev source code : Nat) (data : List Byte) : (h.record sev source code data).toHost = h.toHost :=
  (notes_record h sev source code data).toHost
@[simp] theorem Hw.record_free (h : Hw) (sev source code : Nat) (data : List Byte) : (h.record sev source code data).free = h.free :=
  (notes_record h sev source code data).free
@[simp] theorem Hw.record_rd (h : Hw) (sev source code : Nat) (data : List Byte) (x : Fld) (i' j' : Nat) (e : x.reg ≠ .EV_STATUS)
    (d : x.reg ≠ .HI_EVT_DROP) : (h.record sev source code data).rd x i' j' = h.rd x i' j' := (notes_record h sev source code data).rd x i' j' e d

@[simp] theorem Hw.recordOf_latch (h : Hw) (sev source : Nat) (f : Fld) (i j : Nat) (data : List Byte) : (h.recordOf sev source f i j data).latch = h.latch :=
  (notes_recordOf h sev source f i j data).latch
@[simp] theorem Hw.recordOf_stage (h : Hw) (sev source : Nat) (f : Fld) (i j : Nat) (data : List Byte) : (h.recordOf sev source f i j data).stage = h.stage :=
  (notes_recordOf h sev source f i j data).stage
@[simp] theorem Hw.recordOf_clk (h : Hw) (sev source : Nat) (f : Fld) (i j : Nat) (data : List Byte) : (h.recordOf sev source f i j data).clk = h.clk :=
  (notes_recordOf h sev source f i j data).clk
@[simp] theorem Hw.recordOf_ep (h : Hw) (sev source : Nat) (f : Fld) (i j : Nat) (data : List Byte) : (h.recordOf sev source f i j data).ep = h.ep :=
  (notes_recordOf h sev source f i j data).ep
@[simp] theorem Hw.recordOf_sf (h : Hw) (sev source : Nat) (f : Fld) (i j : Nat) (data : List Byte) : (h.recordOf sev source f i j data).sf = h.sf :=
  (notes_recordOf h sev source f i j data).sf
@[simp] theorem Hw.recordOf_pw (h : Hw) (sev source : Nat) (f : Fld) (i j : Nat) (data : List Byte) : (h.recordOf sev source f i j data).pw = h.pw :=
  (notes_recordOf h sev source f i j data).pw
@[simp] theorem Hw.recordOf_rx (h : Hw) (sev source : Nat) (f : Fld) (i j : Nat) (data : List Byte) : (h.recordOf sev source f i j data).rx = h.rx :=
  (notes_recordOf h sev source f i j data).rx
@[simp] theorem Hw.recordOf_map (h : Hw) (sev source : Nat) (f : Fld) (i j : Nat) (data : List Byte) : (h.recordOf sev source f i j data).map = h.map :=
  (notes_recordOf h sev source f i j data).map
@[simp] theorem Hw.recordOf_act (h : Hw) (sev source : Nat) (f : Fld) (i j : Nat) (data : List Byte) : (h.recordOf sev source f i j data).act = h.act :=
  (notes_recordOf h sev source f i j data).act
@[simp] theorem Hw.recordOf_up (h : Hw) (sev source : Nat) (f : Fld) (i j : Nat) (data : List Byte) : (h.recordOf sev source f i j data).up = h.up :=
  (notes_recordOf h sev source f i j data).up
@[simp] theorem Hw.recordOf_herd (h : Hw) (sev source : Nat) (f : Fld) (i j : Nat) (data : List Byte) : (h.recordOf sev source f i j data).herd = h.herd :=
  (notes_recordOf h sev source f i j data).herd
@[simp] theorem Hw.recordOf_ptr (h : Hw) (sev source : Nat) (f : Fld) (i j : Nat) (data : List Byte) : (h.recordOf sev source f i j data).ptr = h.ptr :=
  (notes_recordOf h sev source f i j data).ptr
@[simp] theorem Hw.recordOf_time (h : Hw) (sev source : Nat) (f : Fld) (i j : Nat) (data : List Byte) : (h.recordOf sev source f i j data).time = h.time :=
  (notes_recordOf h sev source f i j data).time
@[simp] theorem Hw.recordOf_ks (h : Hw) (sev source : Nat) (f : Fld) (i j : Nat) (data : List Byte) : (h.recordOf sev source f i j data).ks = h.ks :=
  (notes_recordOf h sev source f i j data).ks
@[simp] theorem Hw.recordOf_pk (h : Hw) (sev source : Nat) (f : Fld) (i j : Nat) (data : List Byte) : (h.recordOf sev source f i j data).pk = h.pk :=
  (notes_recordOf h sev source f i j data).pk
@[simp] theorem Hw.recordOf_mem (h : Hw) (sev source : Nat) (f : Fld) (i j : Nat) (data : List Byte) : (h.recordOf sev source f i j data).mem = h.mem :=
  (notes_recordOf h sev source f i j data).mem
@[simp] theorem Hw.recordOf_ts (h : Hw) (sev source : Nat) (f : Fld) (i j : Nat) (data : List Byte) : (h.recordOf sev source f i j data).ts = h.ts :=
  (notes_recordOf h sev source f i j data).ts
@[simp] theorem Hw.recordOf_port (h : Hw) (sev source : Nat) (f : Fld) (i j : Nat) (data : List Byte) : (h.recordOf sev source f i j data).port = h.port :=
  (notes_recordOf h sev source f i j data).port
@[simp] theorem Hw.recordOf_recal (h : Hw) (sev source : Nat) (f : Fld) (i j : Nat) (data : List Byte) : (h.recordOf sev source f i j data).recal = h.recal :=
  (notes_recordOf h sev source f i j data).recal
@[simp] theorem Hw.recordOf_toHost (h : Hw) (sev source : Nat) (f : Fld) (i j : Nat) (data : List Byte) : (h.recordOf sev source f i j data).toHost = h.toHost :=
  (notes_recordOf h sev source f i j data).toHost
@[simp] theorem Hw.recordOf_free (h : Hw) (sev source : Nat) (f : Fld) (i j : Nat) (data : List Byte) : (h.recordOf sev source f i j data).free = h.free :=
  (notes_recordOf h sev source f i j data).free
@[simp] theorem Hw.recordOf_rd (h : Hw) (sev source : Nat) (f : Fld) (i j : Nat) (data : List Byte) (x : Fld) (i' j' : Nat) (e : x.reg ≠ .EV_STATUS)
    (d : x.reg ≠ .HI_EVT_DROP) : (h.recordOf sev source f i j data).rd x i' j' = h.rd x i' j' := (notes_recordOf h sev source f i j data).rd x i' j' e d

@[simp] theorem Hw.recordOther_latch (h : Hw) (sev source n : Nat) (data : List Byte) : (h.recordOther sev source n data).latch = h.latch :=
  (notes_recordOther h sev source n data).latch
@[simp] theorem Hw.recordOther_stage (h : Hw) (sev source n : Nat) (data : List Byte) : (h.recordOther sev source n data).stage = h.stage :=
  (notes_recordOther h sev source n data).stage
@[simp] theorem Hw.recordOther_clk (h : Hw) (sev source n : Nat) (data : List Byte) : (h.recordOther sev source n data).clk = h.clk :=
  (notes_recordOther h sev source n data).clk
@[simp] theorem Hw.recordOther_ep (h : Hw) (sev source n : Nat) (data : List Byte) : (h.recordOther sev source n data).ep = h.ep :=
  (notes_recordOther h sev source n data).ep
@[simp] theorem Hw.recordOther_sf (h : Hw) (sev source n : Nat) (data : List Byte) : (h.recordOther sev source n data).sf = h.sf :=
  (notes_recordOther h sev source n data).sf
@[simp] theorem Hw.recordOther_pw (h : Hw) (sev source n : Nat) (data : List Byte) : (h.recordOther sev source n data).pw = h.pw :=
  (notes_recordOther h sev source n data).pw
@[simp] theorem Hw.recordOther_rx (h : Hw) (sev source n : Nat) (data : List Byte) : (h.recordOther sev source n data).rx = h.rx :=
  (notes_recordOther h sev source n data).rx
@[simp] theorem Hw.recordOther_map (h : Hw) (sev source n : Nat) (data : List Byte) : (h.recordOther sev source n data).map = h.map :=
  (notes_recordOther h sev source n data).map
@[simp] theorem Hw.recordOther_act (h : Hw) (sev source n : Nat) (data : List Byte) : (h.recordOther sev source n data).act = h.act :=
  (notes_recordOther h sev source n data).act
@[simp] theorem Hw.recordOther_up (h : Hw) (sev source n : Nat) (data : List Byte) : (h.recordOther sev source n data).up = h.up :=
  (notes_recordOther h sev source n data).up
@[simp] theorem Hw.recordOther_herd (h : Hw) (sev source n : Nat) (data : List Byte) : (h.recordOther sev source n data).herd = h.herd :=
  (notes_recordOther h sev source n data).herd
@[simp] theorem Hw.recordOther_ptr (h : Hw) (sev source n : Nat) (data : List Byte) : (h.recordOther sev source n data).ptr = h.ptr :=
  (notes_recordOther h sev source n data).ptr
@[simp] theorem Hw.recordOther_time (h : Hw) (sev source n : Nat) (data : List Byte) : (h.recordOther sev source n data).time = h.time :=
  (notes_recordOther h sev source n data).time
@[simp] theorem Hw.recordOther_ks (h : Hw) (sev source n : Nat) (data : List Byte) : (h.recordOther sev source n data).ks = h.ks :=
  (notes_recordOther h sev source n data).ks
@[simp] theorem Hw.recordOther_pk (h : Hw) (sev source n : Nat) (data : List Byte) : (h.recordOther sev source n data).pk = h.pk :=
  (notes_recordOther h sev source n data).pk
@[simp] theorem Hw.recordOther_mem (h : Hw) (sev source n : Nat) (data : List Byte) : (h.recordOther sev source n data).mem = h.mem :=
  (notes_recordOther h sev source n data).mem
@[simp] theorem Hw.recordOther_ts (h : Hw) (sev source n : Nat) (data : List Byte) : (h.recordOther sev source n data).ts = h.ts :=
  (notes_recordOther h sev source n data).ts
@[simp] theorem Hw.recordOther_port (h : Hw) (sev source n : Nat) (data : List Byte) : (h.recordOther sev source n data).port = h.port :=
  (notes_recordOther h sev source n data).port
@[simp] theorem Hw.recordOther_recal (h : Hw) (sev source n : Nat) (data : List Byte) : (h.recordOther sev source n data).recal = h.recal :=
  (notes_recordOther h sev source n data).recal
@[simp] theorem Hw.recordOther_toHost (h : Hw) (sev source n : Nat) (data : List Byte) : (h.recordOther sev source n data).toHost = h.toHost :=
  (notes_recordOther h sev source n data).toHost
@[simp] theorem Hw.recordOther_free (h : Hw) (sev source n : Nat) (data : List Byte) : (h.recordOther sev source n data).free = h.free :=
  (notes_recordOther h sev source n data).free
@[simp] theorem Hw.recordOther_rd (h : Hw) (sev source n : Nat) (data : List Byte) (x : Fld) (i' j' : Nat) (e : x.reg ≠ .EV_STATUS)
    (d : x.reg ≠ .HI_EVT_DROP) : (h.recordOther sev source n data).rd x i' j' = h.rd x i' j' := (notes_recordOther h sev source n data).rd x i' j' e d

@[simp] theorem Hw.eventDrop_latch (h : Hw) (c code : Nat) (a b : List Byte) : (h.eventDrop c code a b).latch = h.latch :=
  (notes_eventDrop h c code a b).latch
@[simp] theorem Hw.eventDrop_stage (h : Hw) (c code : Nat) (a b : List Byte) : (h.eventDrop c code a b).stage = h.stage :=
  (notes_eventDrop h c code a b).stage
@[simp] theorem Hw.eventDrop_clk (h : Hw) (c code : Nat) (a b : List Byte) : (h.eventDrop c code a b).clk = h.clk :=
  (notes_eventDrop h c code a b).clk
@[simp] theorem Hw.eventDrop_ep (h : Hw) (c code : Nat) (a b : List Byte) : (h.eventDrop c code a b).ep = h.ep :=
  (notes_eventDrop h c code a b).ep
@[simp] theorem Hw.eventDrop_sf (h : Hw) (c code : Nat) (a b : List Byte) : (h.eventDrop c code a b).sf = h.sf :=
  (notes_eventDrop h c code a b).sf
@[simp] theorem Hw.eventDrop_pw (h : Hw) (c code : Nat) (a b : List Byte) : (h.eventDrop c code a b).pw = h.pw :=
  (notes_eventDrop h c code a b).pw
@[simp] theorem Hw.eventDrop_rx (h : Hw) (c code : Nat) (a b : List Byte) : (h.eventDrop c code a b).rx = h.rx :=
  (notes_eventDrop h c code a b).rx
@[simp] theorem Hw.eventDrop_map (h : Hw) (c code : Nat) (a b : List Byte) : (h.eventDrop c code a b).map = h.map :=
  (notes_eventDrop h c code a b).map
@[simp] theorem Hw.eventDrop_act (h : Hw) (c code : Nat) (a b : List Byte) : (h.eventDrop c code a b).act = h.act :=
  (notes_eventDrop h c code a b).act
@[simp] theorem Hw.eventDrop_up (h : Hw) (c code : Nat) (a b : List Byte) : (h.eventDrop c code a b).up = h.up :=
  (notes_eventDrop h c code a b).up
@[simp] theorem Hw.eventDrop_herd (h : Hw) (c code : Nat) (a b : List Byte) : (h.eventDrop c code a b).herd = h.herd :=
  (notes_eventDrop h c code a b).herd
@[simp] theorem Hw.eventDrop_ptr (h : Hw) (c code : Nat) (a b : List Byte) : (h.eventDrop c code a b).ptr = h.ptr :=
  (notes_eventDrop h c code a b).ptr
@[simp] theorem Hw.eventDrop_time (h : Hw) (c code : Nat) (a b : List Byte) : (h.eventDrop c code a b).time = h.time :=
  (notes_eventDrop h c code a b).time
@[simp] theorem Hw.eventDrop_ks (h : Hw) (c code : Nat) (a b : List Byte) : (h.eventDrop c code a b).ks = h.ks :=
  (notes_eventDrop h c code a b).ks
@[simp] theorem Hw.eventDrop_pk (h : Hw) (c code : Nat) (a b : List Byte) : (h.eventDrop c code a b).pk = h.pk :=
  (notes_eventDrop h c code a b).pk
@[simp] theorem Hw.eventDrop_mem (h : Hw) (c code : Nat) (a b : List Byte) : (h.eventDrop c code a b).mem = h.mem :=
  (notes_eventDrop h c code a b).mem
@[simp] theorem Hw.eventDrop_ts (h : Hw) (c code : Nat) (a b : List Byte) : (h.eventDrop c code a b).ts = h.ts :=
  (notes_eventDrop h c code a b).ts
@[simp] theorem Hw.eventDrop_port (h : Hw) (c code : Nat) (a b : List Byte) : (h.eventDrop c code a b).port = h.port :=
  (notes_eventDrop h c code a b).port
@[simp] theorem Hw.eventDrop_recal (h : Hw) (c code : Nat) (a b : List Byte) : (h.eventDrop c code a b).recal = h.recal :=
  (notes_eventDrop h c code a b).recal
@[simp] theorem Hw.eventDrop_toHost (h : Hw) (c code : Nat) (a b : List Byte) : (h.eventDrop c code a b).toHost = h.toHost :=
  (notes_eventDrop h c code a b).toHost
@[simp] theorem Hw.eventDrop_free (h : Hw) (c code : Nat) (a b : List Byte) : (h.eventDrop c code a b).free = h.free :=
  (notes_eventDrop h c code a b).free
@[simp] theorem Hw.eventDrop_rd (h : Hw) (c code : Nat) (a b : List Byte) (x : Fld) (i' j' : Nat) (e : x.reg ≠ .EV_STATUS)
    (d : x.reg ≠ .HI_EVT_DROP) : (h.eventDrop c code a b).rd x i' j' = h.rd x i' j' := (notes_eventDrop h c code a b).rd x i' j' e d

@[simp] theorem Hw.eventCipher_latch (h : Hw) (code : Nat) (a b : List Byte) : (h.eventCipher code a b).latch = h.latch :=
  (notes_eventCipher h code a b).latch
@[simp] theorem Hw.eventCipher_stage (h : Hw) (code : Nat) (a b : List Byte) : (h.eventCipher code a b).stage = h.stage :=
  (notes_eventCipher h code a b).stage
@[simp] theorem Hw.eventCipher_clk (h : Hw) (code : Nat) (a b : List Byte) : (h.eventCipher code a b).clk = h.clk :=
  (notes_eventCipher h code a b).clk
@[simp] theorem Hw.eventCipher_ep (h : Hw) (code : Nat) (a b : List Byte) : (h.eventCipher code a b).ep = h.ep :=
  (notes_eventCipher h code a b).ep
@[simp] theorem Hw.eventCipher_sf (h : Hw) (code : Nat) (a b : List Byte) : (h.eventCipher code a b).sf = h.sf :=
  (notes_eventCipher h code a b).sf
@[simp] theorem Hw.eventCipher_pw (h : Hw) (code : Nat) (a b : List Byte) : (h.eventCipher code a b).pw = h.pw :=
  (notes_eventCipher h code a b).pw
@[simp] theorem Hw.eventCipher_rx (h : Hw) (code : Nat) (a b : List Byte) : (h.eventCipher code a b).rx = h.rx :=
  (notes_eventCipher h code a b).rx
@[simp] theorem Hw.eventCipher_map (h : Hw) (code : Nat) (a b : List Byte) : (h.eventCipher code a b).map = h.map :=
  (notes_eventCipher h code a b).map
@[simp] theorem Hw.eventCipher_act (h : Hw) (code : Nat) (a b : List Byte) : (h.eventCipher code a b).act = h.act :=
  (notes_eventCipher h code a b).act
@[simp] theorem Hw.eventCipher_up (h : Hw) (code : Nat) (a b : List Byte) : (h.eventCipher code a b).up = h.up :=
  (notes_eventCipher h code a b).up
@[simp] theorem Hw.eventCipher_herd (h : Hw) (code : Nat) (a b : List Byte) : (h.eventCipher code a b).herd = h.herd :=
  (notes_eventCipher h code a b).herd
@[simp] theorem Hw.eventCipher_ptr (h : Hw) (code : Nat) (a b : List Byte) : (h.eventCipher code a b).ptr = h.ptr :=
  (notes_eventCipher h code a b).ptr
@[simp] theorem Hw.eventCipher_time (h : Hw) (code : Nat) (a b : List Byte) : (h.eventCipher code a b).time = h.time :=
  (notes_eventCipher h code a b).time
@[simp] theorem Hw.eventCipher_ks (h : Hw) (code : Nat) (a b : List Byte) : (h.eventCipher code a b).ks = h.ks :=
  (notes_eventCipher h code a b).ks
@[simp] theorem Hw.eventCipher_pk (h : Hw) (code : Nat) (a b : List Byte) : (h.eventCipher code a b).pk = h.pk :=
  (notes_eventCipher h code a b).pk
@[simp] theorem Hw.eventCipher_mem (h : Hw) (code : Nat) (a b : List Byte) : (h.eventCipher code a b).mem = h.mem :=
  (notes_eventCipher h code a b).mem
@[simp] theorem Hw.eventCipher_ts (h : Hw) (code : Nat) (a b : List Byte) : (h.eventCipher code a b).ts = h.ts :=
  (notes_eventCipher h code a b).ts
@[simp] theorem Hw.eventCipher_port (h : Hw) (code : Nat) (a b : List Byte) : (h.eventCipher code a b).port = h.port :=
  (notes_eventCipher h code a b).port
@[simp] theorem Hw.eventCipher_recal (h : Hw) (code : Nat) (a b : List Byte) : (h.eventCipher code a b).recal = h.recal :=
  (notes_eventCipher h code a b).recal
@[simp] theorem Hw.eventCipher_toHost (h : Hw) (code : Nat) (a b : List Byte) : (h.eventCipher code a b).toHost = h.toHost :=
  (notes_eventCipher h code a b).toHost
@[simp] theorem Hw.eventCipher_free (h : Hw) (code : Nat) (a b : List Byte) : (h.eventCipher code a b).free = h.free :=
  (notes_eventCipher h code a b).free
@[simp] theorem Hw.eventCipher_rd (h : Hw) (code : Nat) (a b : List Byte) (x : Fld) (i' j' : Nat) (e : x.reg ≠ .EV_STATUS)
    (d : x.reg ≠ .HI_EVT_DROP) : (h.eventCipher code a b).rd x i' j' = h.rd x i' j' := (notes_eventCipher h code a b).rd x i' j' e d

@[simp] theorem Hw.complete_latch (h : Hw) (n : Nat) (c : Compl) : (h.complete n c).latch = h.latch :=
  (notes_complete h n c).latch
@[simp] theorem Hw.complete_stage (h : Hw) (n : Nat) (c : Compl) : (h.complete n c).stage = h.stage :=
  (notes_complete h n c).stage
@[simp] theorem Hw.complete_clk (h : Hw) (n : Nat) (c : Compl) : (h.complete n c).clk = h.clk :=
  (notes_complete h n c).clk
@[simp] theorem Hw.complete_ep (h : Hw) (n : Nat) (c : Compl) : (h.complete n c).ep = h.ep :=
  (notes_complete h n c).ep
@[simp] theorem Hw.complete_sf (h : Hw) (n : Nat) (c : Compl) : (h.complete n c).sf = h.sf :=
  (notes_complete h n c).sf
@[simp] theorem Hw.complete_pw (h : Hw) (n : Nat) (c : Compl) : (h.complete n c).pw = h.pw :=
  (notes_complete h n c).pw
@[simp] theorem Hw.complete_rx (h : Hw) (n : Nat) (c : Compl) : (h.complete n c).rx = h.rx :=
  (notes_complete h n c).rx
@[simp] theorem Hw.complete_map (h : Hw) (n : Nat) (c : Compl) : (h.complete n c).map = h.map :=
  (notes_complete h n c).map
@[simp] theorem Hw.complete_act (h : Hw) (n : Nat) (c : Compl) : (h.complete n c).act = h.act :=
  (notes_complete h n c).act
@[simp] theorem Hw.complete_up (h : Hw) (n : Nat) (c : Compl) : (h.complete n c).up = h.up :=
  (notes_complete h n c).up
@[simp] theorem Hw.complete_herd (h : Hw) (n : Nat) (c : Compl) : (h.complete n c).herd = h.herd :=
  (notes_complete h n c).herd
@[simp] theorem Hw.complete_ptr (h : Hw) (n : Nat) (c : Compl) : (h.complete n c).ptr = h.ptr :=
  (notes_complete h n c).ptr
@[simp] theorem Hw.complete_time (h : Hw) (n : Nat) (c : Compl) : (h.complete n c).time = h.time :=
  (notes_complete h n c).time
@[simp] theorem Hw.complete_ks (h : Hw) (n : Nat) (c : Compl) : (h.complete n c).ks = h.ks :=
  (notes_complete h n c).ks
@[simp] theorem Hw.complete_pk (h : Hw) (n : Nat) (c : Compl) : (h.complete n c).pk = h.pk :=
  (notes_complete h n c).pk
@[simp] theorem Hw.complete_mem (h : Hw) (n : Nat) (c : Compl) : (h.complete n c).mem = h.mem :=
  (notes_complete h n c).mem
@[simp] theorem Hw.complete_ts (h : Hw) (n : Nat) (c : Compl) : (h.complete n c).ts = h.ts :=
  (notes_complete h n c).ts
@[simp] theorem Hw.complete_port (h : Hw) (n : Nat) (c : Compl) : (h.complete n c).port = h.port :=
  (notes_complete h n c).port
@[simp] theorem Hw.complete_recal (h : Hw) (n : Nat) (c : Compl) : (h.complete n c).recal = h.recal :=
  (notes_complete h n c).recal
@[simp] theorem Hw.complete_toHost (h : Hw) (n : Nat) (c : Compl) : (h.complete n c).toHost = h.toHost :=
  (notes_complete h n c).toHost
@[simp] theorem Hw.complete_free (h : Hw) (n : Nat) (c : Compl) : (h.complete n c).free = h.free :=
  (notes_complete h n c).free
@[simp] theorem Hw.complete_rd (h : Hw) (n : Nat) (c : Compl) (x : Fld) (i' j' : Nat) (e : x.reg ≠ .EV_STATUS)
    (d : x.reg ≠ .HI_EVT_DROP) : (h.complete n c).rd x i' j' = h.rd x i' j' := (notes_complete h n c).rd x i' j' e d

@[simp] theorem Hw.completeOpen_latch (h : Hw) (p : OpenCmd → Bool) (st re rs : Nat) : (h.completeOpen p st re rs).latch = h.latch :=
  (notes_completeOpen h p st re rs).latch
@[simp] theorem Hw.completeOpen_stage (h : Hw) (p : OpenCmd → Bool) (st re rs : Nat) : (h.completeOpen p st re rs).stage = h.stage :=
  (notes_completeOpen h p st re rs).stage
@[simp] theorem Hw.completeOpen_clk (h : Hw) (p : OpenCmd → Bool) (st re rs : Nat) : (h.completeOpen p st re rs).clk = h.clk :=
  (notes_completeOpen h p st re rs).clk
@[simp] theorem Hw.completeOpen_ep (h : Hw) (p : OpenCmd → Bool) (st re rs : Nat) : (h.completeOpen p st re rs).ep = h.ep :=
  (notes_completeOpen h p st re rs).ep
@[simp] theorem Hw.completeOpen_sf (h : Hw) (p : OpenCmd → Bool) (st re rs : Nat) : (h.completeOpen p st re rs).sf = h.sf :=
  (notes_completeOpen h p st re rs).sf
@[simp] theorem Hw.completeOpen_pw (h : Hw) (p : OpenCmd → Bool) (st re rs : Nat) : (h.completeOpen p st re rs).pw = h.pw :=
  (notes_completeOpen h p st re rs).pw
@[simp] theorem Hw.completeOpen_rx (h : Hw) (p : OpenCmd → Bool) (st re rs : Nat) : (h.completeOpen p st re rs).rx = h.rx :=
  (notes_completeOpen h p st re rs).rx
@[simp] theorem Hw.completeOpen_map (h : Hw) (p : OpenCmd → Bool) (st re rs : Nat) : (h.completeOpen p st re rs).map = h.map :=
  (notes_completeOpen h p st re rs).map
@[simp] theorem Hw.completeOpen_act (h : Hw) (p : OpenCmd → Bool) (st re rs : Nat) : (h.completeOpen p st re rs).act = h.act :=
  (notes_completeOpen h p st re rs).act
@[simp] theorem Hw.completeOpen_up (h : Hw) (p : OpenCmd → Bool) (st re rs : Nat) : (h.completeOpen p st re rs).up = h.up :=
  (notes_completeOpen h p st re rs).up
@[simp] theorem Hw.completeOpen_herd (h : Hw) (p : OpenCmd → Bool) (st re rs : Nat) : (h.completeOpen p st re rs).herd = h.herd :=
  (notes_completeOpen h p st re rs).herd
@[simp] theorem Hw.completeOpen_ptr (h : Hw) (p : OpenCmd → Bool) (st re rs : Nat) : (h.completeOpen p st re rs).ptr = h.ptr :=
  (notes_completeOpen h p st re rs).ptr
@[simp] theorem Hw.completeOpen_time (h : Hw) (p : OpenCmd → Bool) (st re rs : Nat) : (h.completeOpen p st re rs).time = h.time :=
  (notes_completeOpen h p st re rs).time
@[simp] theorem Hw.completeOpen_ks (h : Hw) (p : OpenCmd → Bool) (st re rs : Nat) : (h.completeOpen p st re rs).ks = h.ks :=
  (notes_completeOpen h p st re rs).ks
@[simp] theorem Hw.completeOpen_pk (h : Hw) (p : OpenCmd → Bool) (st re rs : Nat) : (h.completeOpen p st re rs).pk = h.pk :=
  (notes_completeOpen h p st re rs).pk
@[simp] theorem Hw.completeOpen_mem (h : Hw) (p : OpenCmd → Bool) (st re rs : Nat) : (h.completeOpen p st re rs).mem = h.mem :=
  (notes_completeOpen h p st re rs).mem
@[simp] theorem Hw.completeOpen_ts (h : Hw) (p : OpenCmd → Bool) (st re rs : Nat) : (h.completeOpen p st re rs).ts = h.ts :=
  (notes_completeOpen h p st re rs).ts
@[simp] theorem Hw.completeOpen_port (h : Hw) (p : OpenCmd → Bool) (st re rs : Nat) : (h.completeOpen p st re rs).port = h.port :=
  (notes_completeOpen h p st re rs).port
@[simp] theorem Hw.completeOpen_recal (h : Hw) (p : OpenCmd → Bool) (st re rs : Nat) : (h.completeOpen p st re rs).recal = h.recal :=
  (notes_completeOpen h p st re rs).recal
@[simp] theorem Hw.completeOpen_toHost (h : Hw) (p : OpenCmd → Bool) (st re rs : Nat) : (h.completeOpen p st re rs).toHost = h.toHost :=
  (notes_completeOpen h p st re rs).toHost
@[simp] theorem Hw.completeOpen_free (h : Hw) (p : OpenCmd → Bool) (st re rs : Nat) : (h.completeOpen p st re rs).free = h.free :=
  (notes_completeOpen h p st re rs).free
@[simp] theorem Hw.completeOpen_rd (h : Hw) (p : OpenCmd → Bool) (st re rs : Nat) (x : Fld) (i' j' : Nat) (e : x.reg ≠ .EV_STATUS)
    (d : x.reg ≠ .HI_EVT_DROP) : (h.completeOpen p st re rs).rd x i' j' = h.rd x i' j' := (notes_completeOpen h p st re rs).rd x i' j' e d

@[simp] theorem Hw.cmdTake_latch (h : Hw) (hd : CmdHdr) : (h.cmdTake hd).latch = h.latch :=
  (notes_cmdTake h hd).latch
@[simp] theorem Hw.cmdTake_stage (h : Hw) (hd : CmdHdr) : (h.cmdTake hd).stage = h.stage :=
  (notes_cmdTake h hd).stage
@[simp] theorem Hw.cmdTake_clk (h : Hw) (hd : CmdHdr) : (h.cmdTake hd).clk = h.clk :=
  (notes_cmdTake h hd).clk
@[simp] theorem Hw.cmdTake_ep (h : Hw) (hd : CmdHdr) : (h.cmdTake hd).ep = h.ep :=
  (notes_cmdTake h hd).ep
@[simp] theorem Hw.cmdTake_sf (h : Hw) (hd : CmdHdr) : (h.cmdTake hd).sf = h.sf :=
  (notes_cmdTake h hd).sf
@[simp] theorem Hw.cmdTake_pw (h : Hw) (hd : CmdHdr) : (h.cmdTake hd).pw = h.pw :=
  (notes_cmdTake h hd).pw
@[simp] theorem Hw.cmdTake_rx (h : Hw) (hd : CmdHdr) : (h.cmdTake hd).rx = h.rx :=
  (notes_cmdTake h hd).rx
@[simp] theorem Hw.cmdTake_map (h : Hw) (hd : CmdHdr) : (h.cmdTake hd).map = h.map :=
  (notes_cmdTake h hd).map
@[simp] theorem Hw.cmdTake_act (h : Hw) (hd : CmdHdr) : (h.cmdTake hd).act = h.act :=
  (notes_cmdTake h hd).act
@[simp] theorem Hw.cmdTake_up (h : Hw) (hd : CmdHdr) : (h.cmdTake hd).up = h.up :=
  (notes_cmdTake h hd).up
@[simp] theorem Hw.cmdTake_herd (h : Hw) (hd : CmdHdr) : (h.cmdTake hd).herd = h.herd :=
  (notes_cmdTake h hd).herd
@[simp] theorem Hw.cmdTake_ptr (h : Hw) (hd : CmdHdr) : (h.cmdTake hd).ptr = h.ptr :=
  (notes_cmdTake h hd).ptr
@[simp] theorem Hw.cmdTake_time (h : Hw) (hd : CmdHdr) : (h.cmdTake hd).time = h.time :=
  (notes_cmdTake h hd).time
@[simp] theorem Hw.cmdTake_ks (h : Hw) (hd : CmdHdr) : (h.cmdTake hd).ks = h.ks :=
  (notes_cmdTake h hd).ks
@[simp] theorem Hw.cmdTake_pk (h : Hw) (hd : CmdHdr) : (h.cmdTake hd).pk = h.pk :=
  (notes_cmdTake h hd).pk
@[simp] theorem Hw.cmdTake_mem (h : Hw) (hd : CmdHdr) : (h.cmdTake hd).mem = h.mem :=
  (notes_cmdTake h hd).mem
@[simp] theorem Hw.cmdTake_ts (h : Hw) (hd : CmdHdr) : (h.cmdTake hd).ts = h.ts :=
  (notes_cmdTake h hd).ts
@[simp] theorem Hw.cmdTake_port (h : Hw) (hd : CmdHdr) : (h.cmdTake hd).port = h.port :=
  (notes_cmdTake h hd).port
@[simp] theorem Hw.cmdTake_recal (h : Hw) (hd : CmdHdr) : (h.cmdTake hd).recal = h.recal :=
  (notes_cmdTake h hd).recal
@[simp] theorem Hw.cmdTake_toHost (h : Hw) (hd : CmdHdr) : (h.cmdTake hd).toHost = h.toHost :=
  (notes_cmdTake h hd).toHost
@[simp] theorem Hw.cmdTake_free (h : Hw) (hd : CmdHdr) : (h.cmdTake hd).free = h.free :=
  (notes_cmdTake h hd).free
@[simp] theorem Hw.cmdTake_rd (h : Hw) (hd : CmdHdr) (x : Fld) (i' j' : Nat) (e : x.reg ≠ .EV_STATUS)
    (d : x.reg ≠ .HI_EVT_DROP) : (h.cmdTake hd).rd x i' j' = h.rd x i' j' := (notes_cmdTake h hd).rd x i' j' e d

@[simp] theorem Hw.ringMoved_latch (h : Hw) (r v : Nat) : (h.ringMoved r v).latch = h.latch :=
  (notes_ringMoved h r v).latch
@[simp] theorem Hw.ringMoved_stage (h : Hw) (r v : Nat) : (h.ringMoved r v).stage = h.stage :=
  (notes_ringMoved h r v).stage
@[simp] theorem Hw.ringMoved_clk (h : Hw) (r v : Nat) : (h.ringMoved r v).clk = h.clk :=
  (notes_ringMoved h r v).clk
@[simp] theorem Hw.ringMoved_ep (h : Hw) (r v : Nat) : (h.ringMoved r v).ep = h.ep :=
  (notes_ringMoved h r v).ep
@[simp] theorem Hw.ringMoved_sf (h : Hw) (r v : Nat) : (h.ringMoved r v).sf = h.sf :=
  (notes_ringMoved h r v).sf
@[simp] theorem Hw.ringMoved_pw (h : Hw) (r v : Nat) : (h.ringMoved r v).pw = h.pw :=
  (notes_ringMoved h r v).pw
@[simp] theorem Hw.ringMoved_rx (h : Hw) (r v : Nat) : (h.ringMoved r v).rx = h.rx :=
  (notes_ringMoved h r v).rx
@[simp] theorem Hw.ringMoved_map (h : Hw) (r v : Nat) : (h.ringMoved r v).map = h.map :=
  (notes_ringMoved h r v).map
@[simp] theorem Hw.ringMoved_act (h : Hw) (r v : Nat) : (h.ringMoved r v).act = h.act :=
  (notes_ringMoved h r v).act
@[simp] theorem Hw.ringMoved_up (h : Hw) (r v : Nat) : (h.ringMoved r v).up = h.up :=
  (notes_ringMoved h r v).up
@[simp] theorem Hw.ringMoved_herd (h : Hw) (r v : Nat) : (h.ringMoved r v).herd = h.herd :=
  (notes_ringMoved h r v).herd
@[simp] theorem Hw.ringMoved_ptr (h : Hw) (r v : Nat) : (h.ringMoved r v).ptr = h.ptr :=
  (notes_ringMoved h r v).ptr
@[simp] theorem Hw.ringMoved_time (h : Hw) (r v : Nat) : (h.ringMoved r v).time = h.time :=
  (notes_ringMoved h r v).time
@[simp] theorem Hw.ringMoved_ks (h : Hw) (r v : Nat) : (h.ringMoved r v).ks = h.ks :=
  (notes_ringMoved h r v).ks
@[simp] theorem Hw.ringMoved_pk (h : Hw) (r v : Nat) : (h.ringMoved r v).pk = h.pk :=
  (notes_ringMoved h r v).pk
@[simp] theorem Hw.ringMoved_mem (h : Hw) (r v : Nat) : (h.ringMoved r v).mem = h.mem :=
  (notes_ringMoved h r v).mem
@[simp] theorem Hw.ringMoved_ts (h : Hw) (r v : Nat) : (h.ringMoved r v).ts = h.ts :=
  (notes_ringMoved h r v).ts
@[simp] theorem Hw.ringMoved_port (h : Hw) (r v : Nat) : (h.ringMoved r v).port = h.port :=
  (notes_ringMoved h r v).port
@[simp] theorem Hw.ringMoved_recal (h : Hw) (r v : Nat) : (h.ringMoved r v).recal = h.recal :=
  (notes_ringMoved h r v).recal
@[simp] theorem Hw.ringMoved_toHost (h : Hw) (r v : Nat) : (h.ringMoved r v).toHost = h.toHost :=
  (notes_ringMoved h r v).toHost
@[simp] theorem Hw.ringMoved_free (h : Hw) (r v : Nat) : (h.ringMoved r v).free = h.free :=
  (notes_ringMoved h r v).free
@[simp] theorem Hw.ringMoved_rd (h : Hw) (r v : Nat) (x : Fld) (i' j' : Nat) (e : x.reg ≠ .EV_STATUS)
    (d : x.reg ≠ .HI_EVT_DROP) : (h.ringMoved r v).rd x i' j' = h.rd x i' j' := (notes_ringMoved h r v).rd x i' j' e d

end Sys2Proof.Machine
end

