-- ==== Sys2Proof/Laws/Flash.lean ====
section
/-! SUPPORT. The boot flash as memory: what its operations read back, and that each keeps the canonical form. -/

namespace Sys2Proof.Machine

theorem flashWf_cons (c : Host.Cell) (t : List Host.Cell) :
    flashWf (c :: t) = true ↔ c.2 ≠ erased ∧ (∀ x ∈ t, c.1 < x.1) ∧ flashWf t = true := by
  induction t generalizing c with
  | nil => simp [flashWf]
  | cons d t ih =>
    obtain ⟨k, v⟩ := c; obtain ⟨k', v'⟩ := d
    simp only [flashWf, Bool.and_eq_true, decide_eq_true_eq, bne_iff_ne, List.mem_cons, forall_eq_or_imp, and_assoc]
    constructor
    · rintro ⟨a, b, c⟩; exact ⟨a, b, fun x hx => Nat.lt_trans b (((ih (k', v')).1 c).2.1 x hx), c⟩
    · rintro ⟨a, b, -, c⟩; exact ⟨a, b, c⟩

/-- Below every listed address the flash reads as erased. -/
theorem flashAt_absent {m : List Host.Cell} {a : Nat} (h : ∀ x ∈ m, a ≠ x.1) : flashAt m a = erased := by
  induction m with
  | nil => rfl
  | cons c t ih =>
    have : ¬ c.1 = a := fun e => h c (by simp) e.symm
    simpa [flashAt, look, this] using ih (fun x hx => h x (by simp [hx]))

theorem flashSet_mem {m : List Host.Cell} {a : Nat} {b : Byte} {x : Host.Cell} (h : x ∈ flashSet m a b) : x ∈ m ∨ x.1 = a := by
  induction m with
  | nil => simp only [flashSet] at h; split at h <;> simp_all
  | cons c t ih =>
    simp only [flashSet] at h
    split at h <;> (try split at h) <;> (try split at h) <;> simp only [List.mem_cons] at h ⊢ <;> aesop

/-- Setting a byte keeps the canonical form. -/
theorem flashSet_wf {m : List Host.Cell} (a : Nat) (b : Byte) (h : flashWf m = true) : flashWf (flashSet m a b) = true := by
  induction m with
  | nil => simp only [flashSet]; split <;> simp_all [flashWf]
  | cons c t ih =>
    have w := (flashWf_cons c t).1 h
    simp only [flashSet]
    split
    · rename_i lt
      split
      · exact h
      · rename_i ne
        refine (flashWf_cons _ _).2 ⟨ne, ?_, h⟩
        intro x hx
        rcases List.mem_cons.1 hx with rfl | hx
        · exact lt
        · exact Nat.lt_trans lt (w.2.1 x hx)
    · split
      · rename_i e
        split
        · exact w.2.2
        · rename_i ne; exact (flashWf_cons _ _).2 ⟨ne, fun x hx => by simpa [e] using w.2.1 x hx, w.2.2⟩
      · rename_i n e
        refine (flashWf_cons _ _).2 ⟨w.1, ?_, ih w.2.2⟩
        intro x hx
        rcases flashSet_mem hx with hx | hx
        · exact w.2.1 x hx
        · simp only [hx]; omega

/-- A byte that was set reads back, and every other address reads as before. -/
theorem flashAt_set {m : List Host.Cell} (a : Nat) (b : Byte) (x : Nat) (h : flashWf m = true) :
    flashAt (flashSet m a b) x = if x = a then b else flashAt m x := by
  induction m with
  | nil =>
    by_cases e : b = erased <;> by_cases f : x = a <;> simp [flashSet, flashAt, look, e, f]
    exact fun g => absurd g.symm f
  | cons c t ih =>
    have w := (flashWf_cons c t).1 h
    obtain ⟨k, v⟩ := c
    have out : ∀ y, y ≤ k → flashAt t y = erased := fun y hy => flashAt_absent (fun z hz => by have := w.2.1 z hz; simp only at this; omega)
    have i := ih w.2.2
    simp only [flashSet, flashAt, look] at i out ⊢
    by_cases f : x = a
    · subst f
      have o := out x
      by_cases g : x < k
      · have g' : ¬ k = x := by omega
        by_cases e : b = erased
        · simp only [g, e, if_true, look, g', if_false]; exact o (by omega)
        · simp [g, e, look]
      · by_cases g' : x = k
        · by_cases e : b = erased
          · simp only [g', e, if_true]; subst g'; simpa using o (Nat.le_refl _)
          · simp [g', e, look]
        · have g'' : ¬ k = x := fun e => g' e.symm
          simp only [g, g', g'', if_false, look] at i ⊢; simpa using i
    · have f' : ¬ a = x := fun e => f e.symm
      by_cases g : a < k
      · by_cases e : b = erased <;> simp [g, e, look, f, f']
      · by_cases g' : a = k
        · subst g'
          by_cases e : b = erased <;> simp [e, look, f, f']
        · simp only [g, g', if_false, look, f] at i ⊢
          rw [i]

/-- A program keeps the canonical form. -/
theorem flashProg_wf {m : List Host.Cell} (a : Nat) (d : List Byte) (h : flashWf m = true) : flashWf (flashProg m a d) = true := by
  induction d generalizing m a with
  | nil => exact h
  | cons b t ih => exact ih (a + 1) (flashSet_wf a _ h)

/-- An erase keeps the canonical form. -/
theorem flashErase_wf {m : List Host.Cell} (a n : Nat) (h : flashWf m = true) : flashWf (flashErase m a n) = true := by
  induction m with
  | nil => rfl
  | cons c t ih =>
    have w := (flashWf_cons c t).1 h
    simp only [flashErase, List.filter_cons]
    split
    · exact (flashWf_cons _ _).2 ⟨w.1, fun x hx => w.2.1 x (List.mem_filter.1 hx).1, ih w.2.2⟩
    · exact ih w.2.2

/-- The flash right after reset is in the canonical form. -/
theorem reset_inv : State.reset.Inv := rfl

end Sys2Proof.Machine
end

