-- ==== Sys2Proof/Laws/Gate.lean ====
section
/-! SUPPORT. What the shared forms of the commands' meanings give: the command's own effect under the conditions of
Sys2Proof/Safety.lean. -/

namespace Sys2Proof.Machine

theorem Hw.inRegion_live {h : Hw} {r : Nat} (l : h.Live r) (f : Hw → Hw) : h.inRegion r f = f h := by
  simp [Hw.inRegion, l.1, l.2]

theorem Hw.inRegionNv_live {h : Hw} {r : Nat} (l : h.Live r) (n : NonVol) (f : Hw → Hw × NonVol) :
    h.inRegionNv n r f = f h := by
  simp [Hw.inRegionNv, l.1, l.2]

/-- An event of a region that does not run, or without VDD_FAWN, has no effect. -/
theorem Hw.inRegion_stopped {h : Hw} {r : Nat} (l : ¬ h.Live r) (f : Hw → Hw) : h.inRegion r f = h := by
  have : (h.pw.vddFawn && h.runs r) = false := by
    rw [Bool.eq_false_iff]; intro e; exact l (by simpa [Hw.Live] using e)
  simp [Hw.inRegion, this]

theorem Hw.barGate_open {h : Hw} {b : Nat} (l : h.Open b) (f : Hw → Hw) : h.barGate b f = f h := by
  simp [Hw.barGate, l.1, l.2.1, l.2.2]

theorem Hw.hostCmd_ready {h : Hw} {hd : CmdHdr} (l : h.Ready hd) (op : Nat) (f : Hw → Hw × Ans) :
    h.hostCmd hd op f = (h.cmdTake hd).cmdRun hd op f := by
  simp [Hw.hostCmd, l.1, l.2.1, l.2.2]

/-- An event in a region that runs answers the next state that its effect gives. -/
theorem next_of_live {s : State} {r : Nat} {f : Hw → Hw} {h : Hw} (l : s.hw.Live r) (e : f s.hw = h) :
    s.nextHw (s.hw.inRegion r f) = .next (s.withHw h) := by rw [Hw.inRegion_live l, e]; rfl

/-- An event whose effect leaves the block as it is answers the same state. -/
theorem Hw.inRegion_same {s : State} {r : Nat} {f : Hw → Hw} (e : f s.hw = s.hw) :
    s.nextHw (s.hw.inRegion r f) = .next s := by
  unfold Hw.inRegion; split
  · rw [e]; rfl
  · rfl

/-- A register write that is not gated answers the next state that its effect gives. -/
theorem next_of_open {s : State} {b : Nat} {f : Hw → Hw} {h : Hw} (l : s.hw.Open b) (e : f s.hw = h) :
    s.nextHw (s.hw.barGate b f) = .next (s.withHw h) := by rw [Hw.barGate_open l, e]; rfl

/-- A host command that its ring can start and that completes at once answers the state with its completion. -/
theorem next_of_done {s : State} {hd : CmdHdr} {op st re rs : Nat} {f : Hw → Hw × Ans} {h : Hw} (l : s.hw.Ready hd)
    (e : f (s.hw.cmdTake hd) = (h, .done st re rs)) :
    s.nextHw (s.hw.hostCmd hd op f) = .next (s.withHw (h.complete hd.compl (cmdAnswer hd st re rs))) := by
  rw [Hw.hostCmd_ready l, Hw.cmdRun, e]; rfl

end Sys2Proof.Machine
end

