-- ==== Sys2Proof/Laws/Write.lean ====
section
/-! SUPPORT. What a write of a register word does (R12): fields of the register take the bits of the word, and nothing
but the register's fields and its staged words changes. -/

namespace Sys2Proof.Machine

/-! ### Bits -/

theorem bits_mod (v l w : Nat) : bits v l w % 2 ^ w = bits v l w := Nat.mod_mod _ _

theorem bits_lt (v l w : Nat) : bits v l w < 2 ^ w := Nat.mod_lt _ (Nat.two_pow_pos w)

theorem bitOf_putBit_true (v : Nat) : bitOf (putBit v 0 true) 0 = true := by
  simp [bitOf, putBit, putBits, Nat.testBit_zero, Nat.mod_one]

theorem bitOf_putBit_false (v : Nat) : bitOf (putBit v 0 false) 0 = false := by
  simp [bitOf, putBit, putBits, Nat.testBit_zero, Nat.mod_one]

theorem bits_putBit_true (v : Nat) : bits (putBit v 0 true) 0 1 = 1 := by
  simp [bits, putBit, putBits, Nat.mod_one]

theorem bits_putBit_false (v : Nat) : bits (putBit v 0 false) 0 1 = 0 := by
  simp [bits, putBit, putBits, Nat.mod_one]

theorem putBits_zero_mod (v w x : Nat) : putBits v 0 w x % 2 ^ w = x % 2 ^ w := by
  simp [putBits, Nat.mod_one]

/-- A field that lies whole in word `w` takes the word's bits in its place. -/
theorem Fld.patch_whole (f : Fld) (old w v : Nat) (hl : 32 * w ≤ f.lsb) (hw : 0 < f.width)
    (hu : f.lsb + f.width ≤ 32 * w + 32) : f.patch old w v % 2 ^ f.width = bits v (f.lsb - 32 * w) f.width := by
  have h1 : max f.lsb (32 * w) = f.lsb := by omega
  have h2 : min (f.lsb + f.width) (32 * w + 32) = f.lsb + f.width := by omega
  have h3 : f.lsb < f.lsb + f.width := by omega
  have h4 : f.lsb + f.width - f.lsb = f.width := by omega
  simp only [Fld.patch, h1, h2, h3, if_true, h4, Nat.sub_self, putBits_zero_mod, bits_mod]

/-! ### Fields -/

theorem RegName.fields_all_reg (r : RegName) : r.fields.all (fun f => f.reg == r) = true := by cases r <;> rfl

theorem RegName.fields_reg {r : RegName} {f : Fld} (hf : f ∈ r.fields) : f.reg = r :=
  beq_iff_eq.mp (List.all_eq_true.mp r.fields_all_reg f hf)

theorem RegName.fields_lsb_nodup (r : RegName) : (r.fields.map (fun f => f.lsb)).Nodup := by cases r <;> decide

/-- Fields of one register with the same place are one field. -/
theorem RegName.field_of_lsb {r : RegName} {f g : Fld} (hf : f ∈ r.fields) (hg : g ∈ r.fields) (e : f.lsb = g.lsb) :
    f = g := List.inj_on_of_nodup_map r.fields_lsb_nodup hf hg e

/-! ### One field -/

/-- `h'` is `h` but for register fields with keys among `ks` and staged words. -/
structure OnlyFields (ks : List FKey) (h h' : Hw) : Prop where
  parts : h' = { h with regs := h'.regs, stage := h'.stage }
  rd : ∀ (f : Fld) (i j : Nat), f.key i j ∉ ks → h'.rd f i j = h.rd f i j

theorem OnlyFields.refl (ks : List FKey) (h : Hw) : OnlyFields ks h h := ⟨rfl, fun _ _ _ _ => rfl⟩

theorem OnlyFields.trans {ks : List FKey} {h h' h'' : Hw} (x : OnlyFields ks h h') (y : OnlyFields ks h' h'') :
    OnlyFields ks h h'' := by
  refine ⟨?_, fun f i j k => (y.rd f i j k).trans (x.rd f i j k)⟩
  have hy := y.parts
  rw [x.parts] at hy
  exact hy

theorem onlyFields_wr (h : Hw) (f : Fld) (v i j : Nat) (ks : List FKey) (hk : f.key i j ∈ ks) :
    OnlyFields ks h (h.wr f v i j) :=
  ⟨rfl, fun g i' j' hg => h.rd_wr_ne f g v i j i' j' (fun e => hg (e ▸ hk))⟩

theorem onlyFields_writeFld (h : Hw) (f : Fld) (w v i j : Nat) (ks : List FKey) (hk : f.key i j ∈ ks) :
    OnlyFields ks h (h.writeFld f w v i j) := by
  unfold Hw.writeFld
  split
  · exact onlyFields_wr _ _ _ _ _ _ hk
  · exact onlyFields_wr _ _ _ _ _ _ hk
  · exact ⟨rfl, fun _ _ _ _ => rfl⟩
  · exact OnlyFields.refl _ _

theorem onlyFields_foldl (l : List Fld) (g : Hw → Fld → Hw) (ks : List FKey)
    (hg : ∀ h f, f ∈ l → OnlyFields ks h (g h f)) (h : Hw) : OnlyFields ks h (l.foldl g h) := by
  induction l generalizing h with
  | nil => exact OnlyFields.refl _ _
  | cons f t ih =>
    exact (hg h f (List.mem_cons_self ..)).trans (ih (fun h f hf => hg h f (List.mem_cons_of_mem _ hf)) _)

/-- R12: a write of a register word changes the register's own fields and staged words alone. -/
theorem onlyFields_writeWord (h : Hw) (r : RegName) (w v i j : Nat) :
    OnlyFields (r.fields.map (fun f => f.key i j)) h (h.writeWord r w v i j) := by
  refine onlyFields_foldl _ _ _ (fun h f hf => ?_) h
  split
  · exact onlyFields_writeFld _ _ _ _ _ _ _ (List.mem_map.mpr ⟨f, hf, rfl⟩)
  · exact OnlyFields.refl _ _

theorem onlyFields_writeKeep (h : Hw) (r : RegName) (w v i j : Nat) (k : Fld → Bool) :
    OnlyFields (r.fields.map (fun f => f.key i j)) h (h.writeKeep r w v i j k) := by
  refine onlyFields_foldl _ _ _ (fun h f hf => ?_) h
  split
  · exact onlyFields_writeFld _ _ _ _ _ _ _ (List.mem_map.mpr ⟨f, hf, rfl⟩)
  · exact OnlyFields.refl _ _

theorem rd_foldl_other (l : List Fld) (g : Hw → Fld → Hw) (f : Fld) (i j : Nat)
    (hg : ∀ h x, x ∈ l → (g h x).rd f i j = h.rd f i j) (h : Hw) : (l.foldl g h).rd f i j = h.rd f i j := by
  induction l generalizing h with
  | nil => rfl
  | cons x t ih =>
    exact (ih (fun h y hy => hg h y (List.mem_cons_of_mem _ hy)) _).trans (hg h x (List.mem_cons_self ..))

theorem Hw.rd_writeFld_other (h : Hw) (f g : Fld) (w v i j : Nat) (e : g.key i j ≠ f.key i j) :
    (h.writeFld g w v i j).rd f i j = h.rd f i j :=
  (onlyFields_writeFld h g w v i j [g.key i j] (List.mem_singleton.mpr rfl)).rd f i j
    (fun hm => e (List.mem_singleton.mp hm).symm)

/-- R12, R481: what a guarded write of word `w` leaves in a field of the register: what the write of that one field leaves. -/
theorem Hw.rd_writeKeep (h : Hw) (r : RegName) (w v i j : Nat) (k : Fld → Bool) (f : Fld) (hf : f ∈ r.fields) :
    (h.writeKeep r w v i j k).rd f i j =
      if f.inWord w && !k f then (h.writeFld f w v i j).rd f i j else h.rd f i j := by
  obtain ⟨a, b, e⟩ := List.append_of_mem hf
  have hn := r.fields_lsb_nodup
  have other : ∀ x, x ∈ a ∨ x ∈ b → x.key i j ≠ f.key i j := by
    intro x hx ek
    have hl : x.lsb = f.lsb := congrArg FKey.lsb ek
    rw [e, List.map_append, List.map_cons] at hn
    have := List.nodup_append.mp hn
    rcases hx with hx | hx
    · exact this.2.2 x.lsb (List.mem_map.mpr ⟨x, hx, rfl⟩) f.lsb (List.mem_cons_self ..) hl
    · exact (List.nodup_cons.mp this.2.1).1 (hl ▸ List.mem_map.mpr ⟨x, hx, rfl⟩)
  have skip : ∀ (l : List Fld) (h : Hw), (∀ x ∈ l, x.key i j ≠ f.key i j) →
      (l.foldl (fun h f => if f.inWord w && !k f then h.writeFld f w v i j else h) h).rd f i j = h.rd f i j := by
    intro l h hl
    refine rd_foldl_other l _ f i j (fun h x hx => ?_) h
    split
    · exact h.rd_writeFld_other f x w v i j (hl x hx)
    · rfl
  have keep : ∀ (h h' : Hw), h.rd f i j = h'.rd f i j → (h.writeFld f w v i j).rd f i j = (h'.writeFld f w v i j).rd f i j := by
    intro h h' e
    unfold Hw.writeFld
    split
    · rw [Hw.rd_wr_same, Hw.rd_wr_same, e]
    · rw [Hw.rd_wr_same, Hw.rd_wr_same, e]
    · exact e
    · exact e
  unfold Hw.writeKeep
  rw [e, List.foldl_append, List.foldl_cons, skip b _ (fun x hx => other x (.inr hx))]
  have ha := skip a h (fun x hx => other x (.inl hx))
  split
  · exact keep _ _ ha
  · exact ha

/-- R12: what a write of word `w` leaves in a field of the register: what the write of that one field leaves. -/
theorem Hw.rd_writeWord (h : Hw) (r : RegName) (w v i j : Nat) (f : Fld) (hf : f ∈ r.fields) :
    (h.writeWord r w v i j).rd f i j = if f.inWord w then (h.writeFld f w v i j).rd f i j else h.rd f i j := by
  have e : h.writeWord r w v i j = h.writeKeep r w v i j (fun _ => false) := by
    unfold Hw.writeWord Hw.writeKeep; simp
  rw [e, h.rd_writeKeep r w v i j _ f hf]
  simp

/-- R12: an RW field that lies whole in the word takes its bits. -/
theorem Hw.rd_writeWord_rw (h : Hw) (r : RegName) (w v i j : Nat) (f : Fld) (hf : f ∈ r.fields) (ha : f.acc = .rw)
    (hw : 0 < f.width) (hl : 32 * w ≤ f.lsb) (hu : f.lsb + f.width ≤ 32 * w + 32) :
    (h.writeWord r w v i j).rd f i j = bits v (f.lsb - 32 * w) f.width := by
  have hi : f.inWord w = true := by simp [Fld.inWord]; omega
  rw [h.rd_writeWord r w v i j f hf, hi, if_pos rfl, Hw.writeFld]
  simp only [ha, Hw.rd_wr_same, f.patch_whole _ _ _ hl hw hu]

theorem Hw.rd_writeKeep_rw (h : Hw) (r : RegName) (w v i j : Nat) (k : Fld → Bool) (f : Fld) (hf : f ∈ r.fields)
    (ha : f.acc = .rw) (hk : k f = false) (hw : 0 < f.width) (hl : 32 * w ≤ f.lsb) (hu : f.lsb + f.width ≤ 32 * w + 32) :
    (h.writeKeep r w v i j k).rd f i j = bits v (f.lsb - 32 * w) f.width := by
  have hi : f.inWord w = true := by simp [Fld.inWord]; omega
  rw [h.rd_writeKeep r w v i j k f hf, hi, hk, Bool.not_false, Bool.and_true, if_pos rfl, Hw.writeFld]
  simp only [ha, Hw.rd_wr_same, f.patch_whole _ _ _ hl hw hu]

/-- R12: a field that a write does not change keeps its value: one that is read-only or cleared by reads, or that is
staged. -/
theorem Hw.rd_writeWord_ro (h : Hw) (r : RegName) (w v i j : Nat) (f : Fld) (hf : f ∈ r.fields) (ha : f.acc ≠ .rw)
    (hb : f.acc ≠ .w1c) : (h.writeWord r w v i j).rd f i j = h.rd f i j := by
  rw [h.rd_writeWord r w v i j f hf]
  split
  · unfold Hw.writeFld
    split
    · exact absurd (by assumption) ha
    · exact absurd (by assumption) hb
    · rfl
    · rfl
  · rfl


/-- A register without staged fields leaves the staged words as they are. -/
theorem Hw.writeKeep_stage (h : Hw) (r : RegName) (w v i j : Nat) (k : Fld → Bool)
    (hr : r.fields.all (fun f => f.acc != .ws) = true) : (h.writeKeep r w v i j k).stage = h.stage := by
  have hf := List.all_eq_true.mp hr
  unfold Hw.writeKeep
  generalize r.fields = l at hf
  induction l generalizing h with
  | nil => rfl
  | cons f t ih =>
    rw [List.foldl_cons, ih _ (fun g hg => hf g (List.mem_cons_of_mem _ hg))]
    split
    · have := hf f (List.mem_cons_self ..)
      unfold Hw.writeFld
      split <;> first | rfl | simp_all
    · rfl

theorem Hw.writeWord_stage (h : Hw) (r : RegName) (w v i j : Nat)
    (hr : r.fields.all (fun f => f.acc != .ws) = true) : (h.writeWord r w v i j).stage = h.stage := by
  have e : h.writeWord r w v i j = h.writeKeep r w v i j (fun _ => false) := by
    unfold Hw.writeWord Hw.writeKeep; simp
  rw [e, h.writeKeep_stage r w v i j _ hr]

@[simp] theorem Hw.writeWord_latch (h : Hw) (r : RegName) (w v i j : Nat) : (h.writeWord r w v i j).latch = h.latch := by
  rw [(onlyFields_writeWord h r w v i j).parts]
@[simp] theorem Hw.writeWord_pcnt (h : Hw) (r : RegName) (w v i j : Nat) : (h.writeWord r w v i j).pcnt = h.pcnt := by
  rw [(onlyFields_writeWord h r w v i j).parts]
@[simp] theorem Hw.writeWord_clk (h : Hw) (r : RegName) (w v i j : Nat) : (h.writeWord r w v i j).clk = h.clk := by
  rw [(onlyFields_writeWord h r w v i j).parts]
@[simp] theorem Hw.writeWord_host (h : Hw) (r : RegName) (w v i j : Nat) : (h.writeWord r w v i j).host = h.host := by
  rw [(onlyFields_writeWord h r w v i j).parts]
@[simp] theorem Hw.writeWord_ep (h : Hw) (r : RegName) (w v i j : Nat) : (h.writeWord r w v i j).ep = h.ep := by
  rw [(onlyFields_writeWord h r w v i j).parts]
@[simp] theorem Hw.writeWord_rcd (h : Hw) (r : RegName) (w v i j : Nat) : (h.writeWord r w v i j).rcd = h.rcd := by
  rw [(onlyFields_writeWord h r w v i j).parts]
@[simp] theorem Hw.writeWord_sf (h : Hw) (r : RegName) (w v i j : Nat) : (h.writeWord r w v i j).sf = h.sf := by
  rw [(onlyFields_writeWord h r w v i j).parts]
@[simp] theorem Hw.writeWord_pw (h : Hw) (r : RegName) (w v i j : Nat) : (h.writeWord r w v i j).pw = h.pw := by
  rw [(onlyFields_writeWord h r w v i j).parts]
@[simp] theorem Hw.writeWord_rx (h : Hw) (r : RegName) (w v i j : Nat) : (h.writeWord r w v i j).rx = h.rx := by
  rw [(onlyFields_writeWord h r w v i j).parts]
@[simp] theorem Hw.writeWord_map (h : Hw) (r : RegName) (w v i j : Nat) : (h.writeWord r w v i j).map = h.map := by
  rw [(onlyFields_writeWord h r w v i j).parts]
@[simp] theorem Hw.writeWord_act (h : Hw) (r : RegName) (w v i j : Nat) : (h.writeWord r w v i j).act = h.act := by
  rw [(onlyFields_writeWord h r w v i j).parts]
@[simp] theorem Hw.writeWord_up (h : Hw) (r : RegName) (w v i j : Nat) : (h.writeWord r w v i j).up = h.up := by
  rw [(onlyFields_writeWord h r w v i j).parts]
@[simp] theorem Hw.writeWord_herd (h : Hw) (r : RegName) (w v i j : Nat) : (h.writeWord r w v i j).herd = h.herd := by
  rw [(onlyFields_writeWord h r w v i j).parts]
@[simp] theorem Hw.writeWord_ptr (h : Hw) (r : RegName) (w v i j : Nat) : (h.writeWord r w v i j).ptr = h.ptr := by
  rw [(onlyFields_writeWord h r w v i j).parts]
@[simp] theorem Hw.writeWord_time (h : Hw) (r : RegName) (w v i j : Nat) : (h.writeWord r w v i j).time = h.time := by
  rw [(onlyFields_writeWord h r w v i j).parts]
@[simp] theorem Hw.writeWord_ks (h : Hw) (r : RegName) (w v i j : Nat) : (h.writeWord r w v i j).ks = h.ks := by
  rw [(onlyFields_writeWord h r w v i j).parts]
@[simp] theorem Hw.writeWord_pk (h : Hw) (r : RegName) (w v i j : Nat) : (h.writeWord r w v i j).pk = h.pk := by
  rw [(onlyFields_writeWord h r w v i j).parts]
@[simp] theorem Hw.writeWord_mem (h : Hw) (r : RegName) (w v i j : Nat) : (h.writeWord r w v i j).mem = h.mem := by
  rw [(onlyFields_writeWord h r w v i j).parts]
@[simp] theorem Hw.writeWord_ts (h : Hw) (r : RegName) (w v i j : Nat) : (h.writeWord r w v i j).ts = h.ts := by
  rw [(onlyFields_writeWord h r w v i j).parts]
@[simp] theorem Hw.writeWord_port (h : Hw) (r : RegName) (w v i j : Nat) : (h.writeWord r w v i j).port = h.port := by
  rw [(onlyFields_writeWord h r w v i j).parts]
@[simp] theorem Hw.writeWord_recal (h : Hw) (r : RegName) (w v i j : Nat) : (h.writeWord r w v i j).recal = h.recal := by
  rw [(onlyFields_writeWord h r w v i j).parts]
@[simp] theorem Hw.writeWord_toHost (h : Hw) (r : RegName) (w v i j : Nat) : (h.writeWord r w v i j).toHost = h.toHost := by
  rw [(onlyFields_writeWord h r w v i j).parts]
@[simp] theorem Hw.writeWord_wraps (h : Hw) (r : RegName) (w v i j : Nat) : (h.writeWord r w v i j).wraps = h.wraps := by
  rw [(onlyFields_writeWord h r w v i j).parts]
@[simp] theorem Hw.writeWord_free (h : Hw) (r : RegName) (w v i j : Nat) : (h.writeWord r w v i j).free = h.free := by
  rw [(onlyFields_writeWord h r w v i j).parts]
@[simp] theorem Hw.writeWord_out (h : Hw) (r : RegName) (w v i j : Nat) : (h.writeWord r w v i j).out = h.out := by
  rw [(onlyFields_writeWord h r w v i j).parts]
@[simp] theorem Hw.writeKeep_latch (h : Hw) (r : RegName) (w v i j : Nat) (k : Fld → Bool) :
    (h.writeKeep r w v i j k).latch = h.latch := by rw [(onlyFields_writeKeep h r w v i j k).parts]
@[simp] theorem Hw.writeKeep_pcnt (h : Hw) (r : RegName) (w v i j : Nat) (k : Fld → Bool) :
    (h.writeKeep r w v i j k).pcnt = h.pcnt := by rw [(onlyFields_writeKeep h r w v i j k).parts]
@[simp] theorem Hw.writeKeep_clk (h : Hw) (r : RegName) (w v i j : Nat) (k : Fld → Bool) :
    (h.writeKeep r w v i j k).clk = h.clk := by rw [(onlyFields_writeKeep h r w v i j k).parts]
@[simp] theorem Hw.writeKeep_host (h : Hw) (r : RegName) (w v i j : Nat) (k : Fld → Bool) :
    (h.writeKeep r w v i j k).host = h.host := by rw [(onlyFields_writeKeep h r w v i j k).parts]
@[simp] theorem Hw.writeKeep_ep (h : Hw) (r : RegName) (w v i j : Nat) (k : Fld → Bool) :
    (h.writeKeep r w v i j k).ep = h.ep := by rw [(onlyFields_writeKeep h r w v i j k).parts]
@[simp] theorem Hw.writeKeep_rcd (h : Hw) (r : RegName) (w v i j : Nat) (k : Fld → Bool) :
    (h.writeKeep r w v i j k).rcd = h.rcd := by rw [(onlyFields_writeKeep h r w v i j k).parts]
@[simp] theorem Hw.writeKeep_sf (h : Hw) (r : RegName) (w v i j : Nat) (k : Fld → Bool) :
    (h.writeKeep r w v i j k).sf = h.sf := by rw [(onlyFields_writeKeep h r w v i j k).parts]
@[simp] theorem Hw.writeKeep_pw (h : Hw) (r : RegName) (w v i j : Nat) (k : Fld → Bool) :
    (h.writeKeep r w v i j k).pw = h.pw := by rw [(onlyFields_writeKeep h r w v i j k).parts]
@[simp] theorem Hw.writeKeep_rx (h : Hw) (r : RegName) (w v i j : Nat) (k : Fld → Bool) :
    (h.writeKeep r w v i j k).rx = h.rx := by rw [(onlyFields_writeKeep h r w v i j k).parts]
@[simp] theorem Hw.writeKeep_map (h : Hw) (r : RegName) (w v i j : Nat) (k : Fld → Bool) :
    (h.writeKeep r w v i j k).map = h.map := by rw [(onlyFields_writeKeep h r w v i j k).parts]
@[simp] theorem Hw.writeKeep_act (h : Hw) (r : RegName) (w v i j : Nat) (k : Fld → Bool) :
    (h.writeKeep r w v i j k).act = h.act := by rw [(onlyFields_writeKeep h r w v i j k).parts]
@[simp] theorem Hw.writeKeep_up (h : Hw) (r : RegName) (w v i j : Nat) (k : Fld → Bool) :
    (h.writeKeep r w v i j k).up = h.up := by rw [(onlyFields_writeKeep h r w v i j k).parts]
@[simp] theorem Hw.writeKeep_herd (h : Hw) (r : RegName) (w v i j : Nat) (k : Fld → Bool) :
    (h.writeKeep r w v i j k).herd = h.herd := by rw [(onlyFields_writeKeep h r w v i j k).parts]
@[simp] theorem Hw.writeKeep_ptr (h : Hw) (r : RegName) (w v i j : Nat) (k : Fld → Bool) :
    (h.writeKeep r w v i j k).ptr = h.ptr := by rw [(onlyFields_writeKeep h r w v i j k).parts]
@[simp] theorem Hw.writeKeep_time (h : Hw) (r : RegName) (w v i j : Nat) (k : Fld → Bool) :
    (h.writeKeep r w v i j k).time = h.time := by rw [(onlyFields_writeKeep h r w v i j k).parts]
@[simp] theorem Hw.writeKeep_ks (h : Hw) (r : RegName) (w v i j : Nat) (k : Fld → Bool) :
    (h.writeKeep r w v i j k).ks = h.ks := by rw [(onlyFields_writeKeep h r w v i j k).parts]
@[simp] theorem Hw.writeKeep_pk (h : Hw) (r : RegName) (w v i j : Nat) (k : Fld → Bool) :
    (h.writeKeep r w v i j k).pk = h.pk := by rw [(onlyFields_writeKeep h r w v i j k).parts]
@[simp] theorem Hw.writeKeep_mem (h : Hw) (r : RegName) (w v i j : Nat) (k : Fld → Bool) :
    (h.writeKeep r w v i j k).mem = h.mem := by rw [(onlyFields_writeKeep h r w v i j k).parts]
@[simp] theorem Hw.writeKeep_ts (h : Hw) (r : RegName) (w v i j : Nat) (k : Fld → Bool) :
    (h.writeKeep r w v i j k).ts = h.ts := by rw [(onlyFields_writeKeep h r w v i j k).parts]
@[simp] theorem Hw.writeKeep_port (h : Hw) (r : RegName) (w v i j : Nat) (k : Fld → Bool) :
    (h.writeKeep r w v i j k).port = h.port := by rw [(onlyFields_writeKeep h r w v i j k).parts]
@[simp] theorem Hw.writeKeep_recal (h : Hw) (r : RegName) (w v i j : Nat) (k : Fld → Bool) :
    (h.writeKeep r w v i j k).recal = h.recal := by rw [(onlyFields_writeKeep h r w v i j k).parts]
@[simp] theorem Hw.writeKeep_toHost (h : Hw) (r : RegName) (w v i j : Nat) (k : Fld → Bool) :
    (h.writeKeep r w v i j k).toHost = h.toHost := by rw [(onlyFields_writeKeep h r w v i j k).parts]
@[simp] theorem Hw.writeKeep_wraps (h : Hw) (r : RegName) (w v i j : Nat) (k : Fld → Bool) :
    (h.writeKeep r w v i j k).wraps = h.wraps := by rw [(onlyFields_writeKeep h r w v i j k).parts]
@[simp] theorem Hw.writeKeep_free (h : Hw) (r : RegName) (w v i j : Nat) (k : Fld → Bool) :
    (h.writeKeep r w v i j k).free = h.free := by rw [(onlyFields_writeKeep h r w v i j k).parts]
@[simp] theorem Hw.writeKeep_out (h : Hw) (r : RegName) (w v i j : Nat) (k : Fld → Bool) :
    (h.writeKeep r w v i j k).out = h.out := by rw [(onlyFields_writeKeep h r w v i j k).parts]

end Sys2Proof.Machine
end

