-- ==== Sys2Proof/Laws/Frames.lean ====
section
/-! SUPPORT. Frames of register fields: how they compose over the shared operations. -/

namespace Sys2Proof.Machine

theorem SameFields.refl (ks : List FKey) (h : Hw) : SameFields ks h h := fun _ _ _ _ => rfl

theorem SameFields.trans {ks : List FKey} {a b c : Hw} (x : SameFields ks a b) (y : SameFields ks b c) : SameFields ks a c :=
  fun f i j hf => (y f i j hf).trans (x f i j hf)

theorem SameFields.mono {ks ls : List FKey} {a b : Hw} (x : SameFields ks a b) (hl : ks ⊆ ls) : SameFields ls a b :=
  fun f i j hf => x f i j (fun hk => hf (hl hk))

theorem SameFields.wr {ks : List FKey} {a b : Hw} (x : SameFields ks a b) (f : Fld) (v i j : Nat) (hk : f.key i j ∈ ks) :
    SameFields ks a (b.wr f v i j) :=
  fun g i' j' hg => (b.rd_wr_ne f g v i j i' j' (fun e => hg (e ▸ hk))).trans (x g i' j' hg)

theorem SameFields.inc {ks : List FKey} {a b : Hw} (x : SameFields ks a b) (f : Fld) (i j n : Nat) (hk : f.key i j ∈ ks) :
    SameFields ks a (b.inc f i j n) := by
  intro g i' j' hg
  have hn : f.key i j ≠ g.key i' j' := fun e => hg (e ▸ hk)
  rw [Hw.rd_inc, if_neg hn]
  exact x g i' j' hg

/-- A step that leaves the register store as it is keeps every frame. -/
theorem SameFields.of_regs {ks : List FKey} {a b c : Hw} (x : SameFields ks a b) (e : c.regs = b.regs) : SameFields ks a c :=
  fun f i j hf => (congrArg (fun r => look r (f.key i j) f.reset) e).trans (x f i j hf)

theorem SameFields.noted {ks : List FKey} {a b c : Hw} (x : SameFields ks a b) (y : OnlyNotes b c) : SameFieldsNoted ks a c :=
  fun f i j hf e d => (y.rd f i j e d).trans (x f i j hf)

end Sys2Proof.Machine
end

