-- ==== Sys2Proof/Laws/Freed.lean ====
section
/-! SUPPORT. What freeing a buffer can change (R198, R276, R296, R297): the pools, the counts of copies and usage, the
registers of the pools and what a record changes; no cipher state, no key, no other register. -/

namespace Sys2Proof.Machine

/-- A register that neither a pool nor a record writes. -/
def Fld.calm (f : Fld) : Prop :=
  f.reg ≠ .EV_STATUS ∧ f.reg ≠ .HI_EVT_DROP ∧ f.reg ≠ .BM_POOL_STATUS ∧ f.reg ≠ .BM_REJ_LAST

/-- `h'` keeps the cipher state of `h` and its registers outside the pools and the recorder. -/
structure FreeKeeps (h h' : Hw) : Prop where
  ks : h'.ks = h.ks
  pk : h'.pk = h.pk
  rd : ∀ (f : Fld) (i j : Nat), f.calm → h'.rd f i j = h.rd f i j

theorem FreeKeeps.refl (h : Hw) : FreeKeeps h h := ⟨rfl, rfl, fun _ _ _ _ => rfl⟩

theorem FreeKeeps.trans {a b c : Hw} (x : FreeKeeps a b) (y : FreeKeeps b c) : FreeKeeps a c :=
  ⟨y.ks.trans x.ks, y.pk.trans x.pk, fun f i j d => (y.rd f i j d).trans (x.rd f i j d)⟩

theorem freeKeeps_setMem (h : Hw) (g : MemSt → MemSt) : FreeKeeps h (h.setMem g) := ⟨rfl, rfl, fun _ _ _ _ => rfl⟩

theorem freeKeeps_setPool (h : Hw) (p : Nat) (s : PoolSt) : FreeKeeps h (h.setPool p s) := freeKeeps_setMem h _

theorem freeKeeps_wr (h : Hw) (f : Fld) (v i j : Nat) (e : f.reg = .BM_POOL_STATUS ∨ f.reg = .BM_REJ_LAST) : FreeKeeps h (h.wr f v i j) := by
  refine ⟨rfl, rfl, fun g i' j' d => Hw.rd_wr_ne h f g v i j i' j' ?_⟩
  intro hk
  have : f.reg = g.reg := congrArg FKey.reg hk
  rcases e with e | e <;> (rw [e] at this; first | exact d.2.2.1 this.symm | exact d.2.2.2 this.symm)

theorem freeKeeps_inc (h : Hw) (f : Fld) (i j n : Nat) (e : f.reg = .BM_POOL_STATUS) : FreeKeeps h (h.inc f i j n) := by
  refine ⟨rfl, rfl, fun g i' j' d => ?_⟩
  have hk : f.key i j ≠ g.key i' j' := by
    intro hk
    have : f.reg = g.reg := congrArg FKey.reg hk
    rw [e] at this
    exact d.2.2.1 this.symm
  rw [Hw.rd_inc, if_neg hk]

theorem freeKeeps_notes {h h' : Hw} (x : OnlyNotes h h') : FreeKeeps h h' :=
  ⟨x.ks, x.pk, fun f i j d => x.rd f i j d.1 d.2.1⟩

theorem FreeKeeps.ite {h a b : Hw} {c : Prop} [Decidable c] (x : FreeKeeps h a) (y : FreeKeeps h b) : FreeKeeps h (if c then a else b) := by
  split <;> assumption

theorem freeKeeps_poolSettle (h : Hw) (p : Nat) : FreeKeeps h (h.poolSettle p) := by
  unfold Hw.poolSettle
  have w (s : PoolSt) (a b : Nat) : FreeKeeps h (((h.setPool p s).wr BM_POOL_STATUS_FREE a p).wr BM_POOL_STATUS_CACHED b p) :=
    ((freeKeeps_setPool h p s).trans (freeKeeps_wr _ _ _ _ _ (.inl rfl))).trans (freeKeeps_wr _ _ _ _ _ (.inl rfl))
  dsimp only
  refine .ite (.ite ((w _ _ _).trans (freeKeeps_setPool _ _ _)) (w _ _ _)) (.ite ?_ (w _ _ _))
  exact ((w _ _ _).trans (freeKeeps_setPool _ _ _)).trans (freeKeeps_notes (notes_recordOther _ _ _ _ _))

theorem freeKeeps_poolDrained (h : Hw) (p : Nat) : FreeKeeps h (h.poolDrained p) := by
  unfold Hw.poolDrained
  refine .ite ?_ (.refl h)
  exact (((freeKeeps_wr h _ _ _ _ (.inl rfl)).trans (freeKeeps_setPool _ _ _)).trans (freeKeeps_wr _ _ _ _ _ (.inl rfl))).trans
    (freeKeeps_wr _ _ _ _ _ (.inl rfl))

theorem freeKeeps_bufPut (h : Hw) (p k : Nat) : FreeKeeps h (h.bufPut p k) := by
  unfold Hw.bufPut
  refine .ite ?_ (.ite ((freeKeeps_setPool h p _).trans (freeKeeps_poolDrained _ _)) ((freeKeeps_setPool h p _).trans (freeKeeps_poolSettle _ _)))
  exact ((freeKeeps_setPool h p _).trans (freeKeeps_inc _ _ _ _ _ rfl)).trans (freeKeeps_poolDrained _ _)

theorem freeKeeps_bufReject (h : Hw) (ptr tag st : Nat) : FreeKeeps h (h.bufReject ptr tag st) := by
  unfold Hw.bufReject
  have w (p : Nat) (g : MemSt → MemSt) : FreeKeeps h (((((h.inc BM_POOL_STATUS_REJECT p).wr BM_REJ_LAST_STATUS st).wr BM_REJ_LAST_SOURCE tag).wr
      BM_REJ_LAST_PTR ptr).setMem g) :=
    ((((freeKeeps_inc h _ _ _ _ rfl).trans (freeKeeps_wr _ _ _ _ _ (.inr rfl))).trans (freeKeeps_wr _ _ _ _ _ (.inr rfl))).trans
      (freeKeeps_wr _ _ _ _ _ (.inr rfl))).trans (freeKeeps_setMem _ _)
  exact .ite ((w _ _).trans (freeKeeps_notes (notes_recordOf _ _ _ _ _ _ _))) (w _ _)

/-- A buffer freed under PACKET's tag. -/
theorem freeKeeps_bufFree (h : Hw) (f : Frame) : FreeKeeps h (h.bufFree f) := by
  unfold Hw.bufFree
  split
  · refine .ite ?_ (.refl h)
    unfold Hw.bufFreePtr
    split
    · exact freeKeeps_bufPut _ _ _
    · exact freeKeeps_bufReject _ _ _ _
  · exact .refl h

/-- One copy of a frame freed: besides what its buffer changes, the counts of copies and usage. -/
theorem freed_keeps (h : Hw) (f : Frame) : (h.freed f).ks = h.ks ∧ (∀ (x : Fld) (i j : Nat), x.calm → (h.freed f).rd x i j = h.rd x i j) ∧
    (h.freed f).pk = { h.pk with copies := (h.freed f).pk.copies, usage := (h.freed f).pk.usage } := by
  unfold Hw.freed
  dsimp only
  split
  · exact ⟨rfl, fun _ _ _ _ => rfl, rfl⟩
  · have k := freeKeeps_bufFree (h.setPk (fun p => { p with copies := p.copies.filter (fun c => c.1 != f.id) })) f
    generalize (h.setPk (fun p => { p with copies := p.copies.filter (fun c => c.1 != f.id) })).bufFree f = y at k ⊢
    have e : y.pk = { h.pk with copies := h.pk.copies.filter (fun c => c.1 != f.id) } := k.pk
    have r : ∀ (x : Fld) (i j : Nat), x.calm → y.rd x i j = h.rd x i j := k.rd
    split
    · refine ⟨k.ks, r, ?_⟩
      dsimp only [Hw.setPk]
      rw [e]
    · exact ⟨k.ks, r, by rw [e]⟩

/-- The frames of abandoned work dropped: the cipher state and the registers outside the pools stay. -/
theorem workDrops_keep (l : List CipherWork) (h : Hw) : (h.each l Hw.workDrop).ks = h.ks ∧
    ∀ (x : Fld) (i j : Nat), x.calm → (h.each l Hw.workDrop).rd x i j = h.rd x i j := by
  induction l generalizing h with
  | nil => exact ⟨rfl, fun _ _ _ _ => rfl⟩
  | cons w t ih =>
    have e : h.each (w :: t) Hw.workDrop = (h.workDrop w).each t Hw.workDrop := rfl
    have d : (h.workDrop w).ks = h.ks ∧ ∀ (x : Fld) (i j : Nat), x.calm → (h.workDrop w).rd x i j = h.rd x i j := by
      unfold Hw.workDrop
      split
      · exact ⟨(freed_keeps h _).1, (freed_keeps h _).2.1⟩
      · exact ⟨rfl, fun _ _ _ _ => rfl⟩
    rw [e]
    exact ⟨(ih _).1.trans d.1, fun x i j c => ((ih _).2 x i j c).trans (d.2 x i j c)⟩

end Sys2Proof.Machine
end

