-- ==== Sys2Proof/Tests/Slice0.lean ====
section
/-! SUPPORT. Tests: a state and operands that meet the hypotheses of each statement, worked examples of the specification, and
the well-formedness checks. -/

set_option Elab.async false

namespace Sys2Proof.Tests
open Sys2Proof.Machine

/-- The block right after reset. -/
def w : Hw := State.reset.hw

/-- The state after reset with another block. -/
def st (h : Hw) : State := State.reset.withHw h

/-- Channel 0 of attachment 0, its activation channel, is in SYNC. -/
def wSync : Hw := w.wr LN_RX_STATUS_STATE rxSync 0 0

/-- The same with attachment 0 in activation state `x`. -/
def wAct (x : Nat) : Hw := wSync.wr LN_ATT_STATUS_STATE x 0

/-- Channel 1 of attachment 0 is in HUNT with one candidate. -/
def wHunt : Hw := (w.wr LN_RX_STATUS_STATE rxHunt 0 1).setRx 1 (fun r => { r with cands := [⟨7, 5, 0⟩] })

/-- `h` with a field of a configuration object of the current epoch. -/
def putCfg (h : Hw) (f : OFld) (v : Nat) (idx : Nat := 0) (k : Nat := 0) : Hw :=
  let o := putBits (look h.ep.cur (f.typ, idx) 0) (f.lsb + f.stride * k) f.width v
  { h with ep := { h.ep with cur := store h.ep.cur (f.typ, idx) o } }

/-- The header of a command of command ring 0. -/
def hdr : CmdHdr := ⟨0, 7, 0, false, true, 0⟩

/-- The block with one command on command ring 0 and completion ring 0 enabled. -/
def wRing : Hw :=
  (((w.wr HI_CFG_RUN 1).wr HI_RING_ENABLE 1 128).wr HI_RING_ENABLE 1 144).setRing 128 (fun s => { s with prod := 1 })

/-! ### The block as a whole -/

theorem witness_frontRuns : ({ State.reset with pending := [Instr.corePllRefChange] } : State).pending =
    Instr.corePllRefChange :: [] := by decide

theorem witness_flashKept : State.reset.Inv ∧ step State.reset = .next State.reset := ⟨rfl, rfl⟩

theorem witness_noSupply : (st ({ w with pw := { w.pw with vddFawn := false } }.wr SF_REGION_STATE stGated
    rgControl)).hw.pw.vddFawn = false ∧ (st ({ w with pw := { w.pw with vddFawn := false } }.wr SF_REGION_STATE
    stGated rgControl)).hw.runs rgControl = false ∧ Instr.corePllRefChange ≠ .vddFawnRise ∧ Instr.corePllRefChange ≠
    .vddFawnLoss := by decide

theorem witness_stoppedRegion : (w.wr SF_REGION_STATE stReloading rgLine).runs rgLine = false ∧ (w.wr SF_REGION_STATE
    stReloading rgControl).runs rgControl = false := by decide

theorem witness_counters : (7 : Nat) < 2 ^ 48 ∧ look
    { w with pcnt := [(LN_ATT_STAT_PLOAM_RX.key 0 0, 2 ^ 48 - 1)] }.pcnt (LN_ATT_STAT_PLOAM_RX.key 0 0) 0 < 2 ^ 48 ∧ 2
    ^ 48 ≤ look { w with pcnt := [(LN_ATT_STAT_PLOAM_RX.key 0 0, 2 ^ 48 - 1)] }.pcnt (LN_ATT_STAT_PLOAM_RX.key 0 0) 0
    + 7 := by decide

theorem witness_rounding : (0 : Nat) < 2 ∧ 2 * (roundDiv 3 2 * ((2 : Nat) : Int) - 3).natAbs = 2 := by decide

theorem witness_byteOrder : 0xABCD < 256 ^ 2 := by decide

theorem witness_signedFields : 0 < HD_ASYM_OVR_ASYM.width := by decide

theorem witness_nonVolatileFrame : Spec.writesNonVolatile .corePllRefChange = false ∧ Spec.writesFlash
    .corePllRefChange = false ∧ exec .corePllRefChange State.reset = .next State.reset := ⟨rfl, rfl, rfl⟩

theorem witness_ready : (st wRing).hw.Ready hdr := by unfold Hw.Ready; decide

/-! ### Boundaries, clock and downstream receivers -/

theorem witness_microtickBoundary : (st w).hw.pw.vddFawn = true ∧ (st w).hw.rd PW_STATUS_PSTATE ≠ 3 ∧ (st
    w).hw.clk.micro + 1 < (st w).hw.microCount := by decide

theorem witness_tickBoundaryAsleep : (st (w.wr PW_STATUS_PSTATE 3)).hw.pw.vddFawn = true ∧ (st (w.wr PW_STATUS_PSTATE
    3)).hw.rd PW_STATUS_PSTATE = 3 := by decide

theorem witness_corePllRefChange : (st wSync).hw.Live rgFawn ∧ (st wSync).hw.clk.src = .free ∧ (st wSync).hw.bestSrc =
    .chan 0 0 ∧ (st wSync).hw.clk.src ≠ .chan 0 0 := by unfold Hw.Live; decide

theorem witness_corePllFreeRun : (st { w with clk := { w.clk with src := .chan 0 0 } }).hw.Live rgFawn ∧ (st
    { w with clk := { w.clk with src := .chan 0 0 } }).hw.srcUsable (.chan 0 0) = false ∧ (st
    { w with clk := { w.clk with src := .chan 0 0 } }).hw.bestSrc = .free := by unfold Hw.Live; decide

theorem witness_clkRevert : (st { wSync with clk := { w.clk with revert := true, usable := [(0, 80000)] } }).hw.Live
    rgFawn ∧ (st { wSync with clk := { w.clk with revert := true, usable := [(0, 80000)] } }).hw.clk.revert = true :=
  by unfold Hw.Live; decide

theorem witness_glClkCtrlWrite : (st w).hw.Open (regBlock .GL_CLK_CTRL 0 0) := by unfold Hw.Open; decide

theorem witness_refoscStop : (st w).hw.Live rgFawn ∧ (st w).hw.rd PW_STATUS_PSTATE ≠ 3 ∧ (st w).hw.rd
    GL_CLK_STATUS_SRC_FREE ≠ 0 := by unfold Hw.Live; decide

theorem witness_rxEnable : (1 < 2 ∧ 3 < 4) ∧ (st w).hw.Open (regBlock .LN_RX_CTRL 1 3) ∧ (st w).hw.rd
    LN_RX_CTRL_ENABLE 1 3 = 0 := by unfold Hw.Open; decide

theorem witness_rxDisable : (1 < 2 ∧ 3 < 4) ∧ (st (w.wr LN_RX_CTRL_ENABLE 1 1 3)).hw.Open (regBlock .LN_RX_CTRL 1 3) ∧
    (st (w.wr LN_RX_CTRL_ENABLE 1 1 3)).hw.rd LN_RX_CTRL_ENABLE 1 3 = 1 := by unfold Hw.Open; decide

theorem witness_rxPoweredDown : wHunt.inSync 0 1 = false := by decide

theorem witness_rxSelftest : (st (w.setRx 1 (fun r => { r with selftest := true }))).hw.Live rgLine ∧ ((st (w.setRx 1
    (fun r => { r with selftest := true }))).hw.rxAt (4 * 0 + 1)).selftest = true := by unfold Hw.Live; decide

theorem witness_eqReset : (st wHunt).hw.Open (regBlock .LN_RX_EQ 0 1) ∧ bitOf 0x1000 12 = true ∧ (st wHunt).hw.inSync
    0 1 = false := by unfold Hw.Open; decide

theorem witness_losDeclared : (st wHunt).hw.Live rgLine ∧ (st wHunt).hw.rd LN_RX_STATUS_STATE 0 1 ≠ rxOff ∧ (st
    wHunt).hw.inSync 0 1 = false := by unfold Hw.Live; decide

theorem witness_eqConv : (st ((w.wr LN_RX_STATUS_CDR_LOCK 1 0 1).wr LN_RX_STATUS_STATE rxLos 0 1)).hw.Live rgLine ∧
    (st ((w.wr LN_RX_STATUS_CDR_LOCK 1 0 1).wr LN_RX_STATUS_STATE rxLos 0 1)).hw.rd LN_RX_STATUS_CDR_LOCK 0 1 = 1 :=
  by unfold Hw.Live; decide

theorem witness_candidateFound : (st wHunt).hw.Live rgLine ∧ (st wHunt).hw.rd LN_RX_STATUS_STATE 0 1 = rxHunt ∧ ((st
    wHunt).hw.rxAt 1).cands.length < 4 := by unfold Hw.Live; decide

theorem witness_confirmationReject : (st wHunt).hw.Live rgLine ∧ (st wHunt).hw.rd LN_RX_STATUS_STATE 0 1 = rxHunt ∧
    ((st wHunt).hw.rxAt (4 * 0 + 1)).cands.find? (fun y => y.pos == 7) = some ⟨7, 5, 0⟩ ∧ ¬ (1 ≤ (⟨7, 5, 0⟩ :
    Cand).tol ∧ true = true ∧ 6 % 2 ^ 51 = ((⟨7, 5, 0⟩ : Cand).sfc + 1) % 2 ^ 51) := by unfold Hw.Live; decide

theorem witness_confirmationSync : ((st wHunt).hw.rxAt (4 * 0 + 1)).cands.find? (fun y => y.pos == 7) = some ⟨7, 5, 0⟩
    ∧ 0 ≤ (⟨7, 5, 0⟩ : Cand).tol ∧ 6 % 2 ^ 51 = ((⟨7, 5, 0⟩ : Cand).sfc + 1) % 2 ^ 51 := by decide

theorem witness_expectedHit : (st wSync).hw.Live rgLine ∧ (st wSync).hw.inSync 0 0 = true ∧ 0 ≤ ((st wSync).hw.rxAt (4
    * 0 + 0)).syncErr := by unfold Hw.Live; decide

theorem witness_expectedLof : (st (wSync.wr LN_RX_STATUS_MISS_CNT 3 0 0)).hw.Live rgLine ∧ (st (wSync.wr
    LN_RX_STATUS_MISS_CNT 3 0 0)).hw.inSync 0 0 = true ∧ ¬ (0 ≤ ((st (wSync.wr LN_RX_STATUS_MISS_CNT 3 0 0)).hw.rxAt
    (4 * 0 + 0)).syncErr ∧ false = true) ∧ (st (wSync.wr LN_RX_STATUS_MISS_CNT 3 0 0)).hw.rd LN_RX_STATUS_MISS_CNT 0 0
    = 3 := by unfold Hw.Live; decide

theorem witness_pmClear : (st w).hw.Open (regBlock .LN_PM_CFG 0 0) ∧ bitOf 0x20000 17 = true ∧ (st w).hw.Open
    (regBlock .LN_MAP_CFG 0 0) := by unfold Hw.Open; decide

theorem witness_xgemFrameRx : ∃ h : Hw, h.Live rgLine ∧ 3 < 4 ∧ 0 < 4 ∧ h.inSync 0 0 = true ∧ h.mgmtPort 0 = 7 ∧ 8 ≠
    h.mgmtPort 0 ∧ bitOf (h.cfg CX_PON_FLAGS 0) 2 = false ∧ bitOf (h.cfg CX_PON_FLAGS 1) 2 = true ∧ 0 < 2 :=
  ⟨putCfg (wSync.wr HD_SWIDAN_CFG_XGEM_PORT 7 0) CX_PON_FLAGS 4 1, by unfold Hw.Live; decide +kernel⟩

/-! ### Activation, PLOAM, bursts and OMCI -/

theorem witness_hears : Spec.Hears (st (wAct aO5)) 0 ∧ (st (wAct aO5)).hw.hasId 0 = true ∧ (st (wAct aO5)).hw.actLive
    0 = true ∧ (st (wAct aO5)).hw.actState 0 = aO5 := by unfold Spec.Hears Hw.Live; decide

theorem witness_ploamIgnored : (st (wSync.wr LN_RX_STATUS_STATE rxSync 0 1)).hw.Live rgLine ∧ (st (wSync.wr
    LN_RX_STATUS_STATE rxSync 0 1)).hw.inSync 0 1 = true ∧ 1 ≠ (st (wSync.wr LN_RX_STATUS_STATE rxSync 0
    1)).hw.actChan 0 := by unfold Hw.Live; decide

theorem witness_actEnable : (st w).hw.Open (regBlock .LN_ATT_CTRL 0 0) ∧ (st w).hw.actState 0 = aOff ∧ bitOf 1 0 =
    true := by unfold Hw.Open; decide

theorem witness_assignOnuId : Spec.Hears (st (wAct aO23)) 0 ∧ (st (wAct aO23)).hw.actState 0 = aO23 :=
  by unfold Spec.Hears Hw.Live; decide

theorem witness_rangingTime : Spec.Hears (st (wAct aO4)) 0 ∧ (st (wAct aO4)).hw.actState 0 = aO4 ∧ 0 ≤ roundRat
    ((250000 : Rat) * 65536) ∧ roundRat ((250000 : Rat) * 65536) ≤ 65536000000 :=
  by unfold Spec.Hears Hw.Live; decide +kernel

theorem witness_rangingRefused : Spec.Hears (st (wAct aO5)) 0 ∧ (st (wAct aO5)).hw.hasId 0 = true ∧ 65536000000 <
    roundRat ((1000001 : Rat) * 65536) := by unfold Spec.Hears Hw.Live; decide +kernel

theorem witness_emergencyRelease : Spec.Hears (st ((wAct aO7).wr LN_ATT_CTRL_ACT_EN 1 0)) 0 ∧ (st ((wAct aO7).wr
    LN_ATT_CTRL_ACT_EN 1 0)).hw.actState 0 = aO7 ∧ (st ((wAct aO7).wr LN_ATT_CTRL_ACT_EN 1 0)).hw.rd
    LN_ATT_CTRL_ACT_EN 0 = 1 := by unfold Spec.Hears Hw.Live; decide

theorem witness_assignAllocId : Spec.Hears (st (wAct aO5)) 0 ∧ (st (wAct aO5)).hw.hasId 0 = true ∧ ((st (wAct
    aO5)).hw.actAt 0).allocs.contains 300 = false := by unfold Spec.Hears Hw.Live; decide

theorem witness_ploamQueueBound : (((wAct aO5).setAct 0 (fun x =>
    { x with ploamQ := List.replicate 16 { kind := 1, body := [] } })).actAt 0).ploamQ.length = 16 ∧ ∀ x ∈ (((wAct
    aO5).setAct 0 (fun x => { x with ploamQ := List.replicate 16 { kind := 1, body := [] } })).actAt 0).ploamQ, x.kind
    ≠ 0 := by decide

theorem witness_to1Expiry : ∃ h : Hw, h.Live rgLine ∧ 4 < h.clk.ut ∧ (h.actAt 0).to1 = some 4 ∧ h.actState 0 = aO4 :=
  ⟨{ (wAct aO4).setAct 0 (fun x => { x with to1 := some 4 }) with clk := { w.clk with ut := 5 } }, by unfold Hw.Live; decide⟩

theorem witness_to2Expiry : ∃ h : Hw, h.Live rgLine ∧ 4 < h.clk.ut ∧ (h.actAt 0).to2 = some 4 ∧ h.actState 0 = aO6 :=
  ⟨{ (wAct aO6).setAct 0 (fun x => { x with to2 := some 4 }) with clk := { w.clk with ut := 5 } }, by unfold Hw.Live; decide⟩

theorem witness_estopFlashCopy : ∃ h : Hw, h.Live rgFawn ∧ (h.actAt 1).estopDue.isSome = true :=
  ⟨w.setAct 1 (fun x => { x with estopDue := some 9 }), by unfold Hw.Live; decide⟩

theorem witness_opticsDelayRejected : ∃ h : Hw, h.Open (regBlock .LN_ATT_RESP 0 0) ∧ h.hasId 0 = true ∧ bits 5 0 32 ≠
    h.rd LN_OPT_RXDLY_D_RX 0 2 % 2 ^ 32 := ⟨wAct aO5, by unfold Hw.Open; decide⟩

/-- A planned burst of one allocation, handed over in time. -/
def wBurst (staged : Bool) : Burst :=
  { hdr := 9000000000000, launch := 9000000000000, stop := 9900000000000, grants := [⟨0, 300, 0, 8, false, false, 0, 0, false, 0⟩], kind := 0, staged := staged }

/-- A transmitter of an operating attachment that plans it. -/
def wTx (staged : Bool) : Hw :=
  ((wAct aO5).wr LN_TX_CTRL_ENABLE 1 0 0).setUp 0 (fun x => { x with bursts := [wBurst staged] })

theorem witness_burstStaging : ∃ h : Hw, h.Live rgLine ∧ h.nextUnstaged 0 = some (wBurst false) ∧ (wBurst false).kind
    ≠ 3 ∧ h.stageIn 0 (wBurst false) = (h, some (wBurst false)) :=
  ⟨wTx false, by refine ⟨⟨rfl, rfl⟩, rfl, by decide, ?_⟩; decide⟩

theorem witness_burstEnAssert : ∃ h : Hw, h.Live rgLine ∧ h.nextStaged 0 = some (wBurst true) ∧ h.maySend 0 (wBurst
    true).kind = true ∧ (h.upAt 0).en = false := ⟨wTx true, by unfold Hw.Live; decide⟩

theorem witness_burstLaunch : ∃ h : Hw, h.Live rgLine ∧ h.nextStaged 0 = some (wBurst true) ∧ (h.unplan 0 (wBurst
    true)).maySend 0 (wBurst true).kind = true := ⟨wTx true, by unfold Hw.Live; decide⟩

theorem witness_burstEnDeassert : ∃ h : Hw, h.Live rgLine ∧ h.nextStaged 0 = none ∧ (w.wr LN_TX_STATUS_ROGUE 1 0 0).rd
    LN_TX_STATUS_ROGUE 0 0 = 1 := ⟨wTx false, by unfold Hw.Live; decide⟩

theorem witness_omciAnswered : ∃ h : Hw, h.Live rgControl ∧ h.hasId 0 = true ∧ h.rd LN_ATT_CTRL_OMCI_MODE 0 = 0 ∧ 0 ≠
    2 := ⟨wAct aO5, by unfold Hw.Live; decide⟩

theorem witness_omciHeld : ∃ h : Hw, h.Live rgControl ∧ (h.actAt 0).omci.any (fun x => x.1 == 11) = true ∧ (h.actAt
    0).omci = [(11, 4)] ∧ 4 < h.clk.ut :=
  ⟨{ w.setAct 0 (fun x => { x with omci := [(11, 4)] }) with clk := { w.clk with ut := 5 } }, by unfold Hw.Live; decide⟩

/-! ### Herds and the dispersion estimator -/

/-- An attachment in O5 with SW_EN, PEER and a formed herd. -/
def wHerd : Hw := (((wAct aO5).wr HD_SWIDAN_CTRL_SW_EN 1 0).wr HD_SWIDAN_CTRL_PEER 1 0).wr HD_HERD_STATUS_FORMED 1 0

/-- A herd descriptor of channel 0 that starts 20 rows on. -/
def dsc : HerdDesc := ⟨1, 1, 20, [0, 0, 0, 0], 0⟩

theorem witness_memberStatus : ∃ h : Hw, h.Live rgLine ∧ (h.herdAt 0).statusDue = some 0 ∧ h.formed 0 = true ∧ 0 ≤
    h.tick := ⟨wHerd.setHerd 0 (fun e => { e with statusDue := some 0 }), by unfold Hw.Live; decide⟩

theorem witness_helloSend : ∃ h : Hw, h.Live rgLine ∧ (h.herdAt 0).helloDue = some 0 ∧ h.swEn 0 = true ∧ h.rd
    LN_ATT_STATUS_STATE 0 = 5 ∧ 0 ≤ h.tick :=
  ⟨wHerd.setHerd 0 (fun e => { e with helloDue := some 0 }), by unfold Hw.Live; decide⟩

theorem witness_herdDesc : ∃ h : Hw, h.Live rgLine ∧ h.swEn 0 = true ∧ (List.range 4).all (fun c => !bitOf dsc.active
    c || bitOf (h.rd HD_HERD_CFG_MEMBERS 0) c) = true ∧ dsc.hseq = (h.rd HD_HERD_STATUS_HSEQ 0 + 1) % 16 ∧ 20 ≤
    (dsc.start + 256 - 0 % 256) % 256 := ⟨wHerd.wr HD_HERD_CFG_MEMBERS 1 0, by unfold Hw.Live; decide⟩

theorem witness_herdDesc_refused : (List.range 4).any (fun c => bitOf dsc.active c && !bitOf ((st (wHerd.wr
    HD_HERD_CFG_MEMBERS 2 0)).hw.rd HD_HERD_CFG_MEMBERS 0) c) = true := by decide

theorem witness_herdDescSwitch : ∃ h : Hw, h.Live rgLine ∧ (h.herdAt 0).pendDesc = some dsc ∧ h.swEn 0 = true ∧ h.rd
    HD_SWIDAN_CTRL_PEER 0 = 1 :=
  ⟨wHerd.setHerd 0 (fun e => { e with pendDesc := some dsc }), by unfold Hw.Live; decide⟩

theorem witness_estimatorWrites : ∃ h : Hw, h.Open (regBlock .HD_SWIDAN_CTRL 1 0) ∧ h.Open (regBlock .HD_GRID 1 0) ∧
    h.Open (regBlock .HD_EST_CFG 1 0) ∧ h.Open (regBlock .HD_ASYM_OVR 1 0) ∧ bitOf 0 0 = false ∧ 6 < 7 :=
  ⟨w, by unfold Hw.Open; decide⟩

theorem witness_fitComplete : ∃ h : Hw, h.Live rgLine ∧ (h.herdAt 0).blockDone = true :=
  ⟨w.setHerd 0 (fun e => { e with blockDone := true }), by unfold Hw.Live; decide⟩

theorem witness_estimatorApply : ∃ h : Hw, h.Live rgLine ∧ (h.herdAt 0).applyNext = some ⟨1310000, 0, 0, 0, 0, 0, 0,
    0, false, []⟩ :=
  ⟨w.setHerd 0 (fun e => { e with applyNext := some ⟨1310000, 0, 0, 0, 0, 0, 0, 0, false, []⟩ }), ⟨⟨rfl, rfl⟩, rfl⟩⟩

/-! ### The time core -/

theorem witness_lsResync : ∃ h : Hw, h.Open (regBlock .TC_CTRL 0 0) ∧ h.time.lsResync = true :=
  ⟨{ w with time := { w.time with lsResync := true } }, by unfold Hw.Open; decide⟩

theorem witness_tcSetGo : ∃ h : Hw, (st w).hw.Open (regBlock .TC_SET 0 0) ∧ bitOf 0x80000000 31 = true ∧ (st w).hw.rd
    TC_STATUS_SEL = 0 ∧ h.Open (regBlock .TC_SET 0 0) ∧ h.rd TC_STATUS_SEL ≠ 0 :=
  ⟨w.wr TC_STATUS_SEL 1, by unfold Hw.Open; decide⟩

theorem witness_tcTodaInGo : (st w).hw.Open (regBlock .TC_TODA_IN 7 0) ∧ bitOf 0x80000000 31 = true ∧ bitOf 0 31 =
    false := by unfold Hw.Open; decide

theorem witness_todaChecked : ∃ h : Hw, (h.domAt 2).adopt = none ∧ (h.domAt 2).toda = some (0, 0) ∧ todaAgree (h.cfg
    TC_TODA_TOL 0 2) (0, 0) (8000, 1000000000) = true ∧ todaAgree (h.cfg TC_TODA_TOL 0 2) (0, 0) (8000, 3000000000) =
    false ∧ (h.domAt 2).pend = none := ⟨w.setDom 2 (fun s => { s with toda := some (0, 0) }), by decide⟩

theorem witness_sfcExtended : 2 ^ 32 ≤ 2 ^ 50 ∧ 2 ^ 50 < 2 ^ 51 - 2 ^ 32 := by decide

theorem witness_ladder_locked : ∃ h : Hw, h.rd SF_STATUS_GLOBAL = 0 ∧ h.rd SF_LEVEL_LEVEL ≠ 3 ∧ h.rd TC_STATUS_SERVO =
    3 := ⟨w.wr TC_STATUS_SERVO 3, by decide⟩

theorem witness_ladder_holding : ∃ h : Hw, h.rd SF_STATUS_GLOBAL = 0 ∧ h.rd SF_LEVEL_LEVEL ≠ 3 ∧ h.rd TC_STATUS_SERVO
    = 4 ∧ 0 ≤ h.rd TC_HOLD_ELAPSED_S ∧ h.rd TC_HOLD_ELAPSED_S ≤ h.cfg TC_HOLD_SPEC * 60 :=
  ⟨w.wr TC_STATUS_SERVO 4, by decide⟩

theorem witness_ladder_learned : ∃ h : Hw, h.rd TC_STATUS_SERVO = 4 ∧ h.cfg TC_HOLD_LEARN * 60 ≤ h.rd
    TC_HOLD_LEARNED_S := ⟨(w.wr TC_STATUS_SERVO 4).wr TC_HOLD_LEARNED_S 0xFFFFFFFF, by decide⟩

theorem witness_ladder_free : w.rd SF_STATUS_GLOBAL = 0 ∧ w.rd SF_LEVEL_LEVEL ≠ 3 ∧ w.rd TC_STATUS_SERVO < 2 :=
  by decide

theorem witness_ladder_degraded : (w.wr SF_STATUS_GLOBAL 1).rd SF_STATUS_GLOBAL ≠ 0 ∧ (w.wr SF_LEVEL_LEVEL 3).rd
    SF_LEVEL_LEVEL = 3 := by decide

theorem witness_ppsEdge : ∃ h : Hw, h.Live rgFawn ∧ h.cfg TC_PIN_MODE 0 5 = 4 ∧ h.cfg TC_PIN_FEATURE 0 5 = 0x8000 :=
  ⟨putCfg (putCfg w TC_PIN_MODE 4 0 5) TC_PIN_FEATURE 0x8000 0 5, by unfold Hw.Live; decide +kernel⟩

theorem witness_ppsMissing : ∃ h : Hw, h.Live rgFawn ∧ h.cfg TC_SRC 0 1 = 2 ∧ (h.domAt 1).ppsPred.isSome = true ∧ 1 ≤
    (h.domAt 1).ppsMiss :=
  ⟨(putCfg w TC_SRC 2 0 1).setDom 1 (fun e => { e with ppsPred := some 0, ppsMiss := 1 }), by unfold Hw.Live; decide +kernel⟩

theorem witness_ppsMissing_first : ∃ h : Hw, h.Live rgFawn ∧ h.cfg TC_SRC 0 1 = 2 ∧ (h.domAt 1).ppsPred.isSome = true
    ∧ (h.domAt 1).ppsMiss = 0 :=
  ⟨(putCfg w TC_SRC 2 0 1).setDom 1 (fun e => { e with ppsPred := some 0 }), by unfold Hw.Live; decide +kernel⟩

theorem witness_oscMeasured : ∃ h : Hw, h.Live rgFawn ∧ h.rd TC_STATUS_SERVO = 3 ∧ (st w).hw.rd TC_STATUS_SERVO ≠ 3 :=
  ⟨w.wr TC_STATUS_SERVO 3, by unfold Hw.Live; decide⟩

theorem witness_comparatorTarget : ∃ h : Hw, h.Live rgFawn ∧ (h.cmpAt 0).on = true ∧ h.cmpHas 0 (h.cmpAt 0).next =
    true ∧ (st (w.setCmp 0 (fun c => { c with next := 1 }))).hw.cmpHas 0 1 = false :=
  ⟨w.setCmp 0 (fun c => { c with on := true }), by unfold Hw.Live; decide⟩

theorem witness_comparatorEdge : ∃ h : Hw, h.cfg TC_PIN_MODE 0 (h.cfg TC_CMP_PIN 0 1) = 1 ∧ h.pinSquelched (h.cfg
    TC_CMP_PIN 0 1) = false ∧ bitOf h.sf.pinHiZ (h.cfg TC_CMP_PIN 0 1) = false :=
  ⟨putCfg (putCfg w TC_PIN_MODE 1 0 3) TC_CMP_PIN 3 0 1, by decide +kernel⟩

theorem witness_comparatorEdge_squelched : ∃ h : Hw, h.pinSquelched (h.cfg TC_CMP_PIN 0 1) = true :=
  ⟨putCfg (putCfg (putCfg w TC_PIN_MODE 1 0 3) TC_PIN_FLAGS 2 0 3) TC_CMP_PIN 3 0 1, by decide +kernel⟩

theorem witness_pulseEnd : ∃ h : Hw, h.Live rgFawn ∧ (h.cmpAt 2).stopAt = some 5 :=
  ⟨w.setCmp 2 (fun c => { c with stopAt := some 5 }), by unfold Hw.Live; decide⟩

theorem witness_captureDropped : ∃ h : Hw, h.Live rgFawn ∧ h.cfg TC_PIN_MODE 0 4 = 2 ∧ bitOf (bits (h.cfg TC_PIN_FLAGS
    0 4) 3 2) (1 - 1) = true ∧ (h.pinAt 4).lastCap = some 0 ∧ (20 * 65536 - 1 : Int) - 0 < 20 * 65536 :=
  ⟨(putCfg (putCfg w TC_PIN_MODE 2 0 4) TC_PIN_FLAGS 8 0 4).setPin 4 (fun q => { q with lastCap := some 0 }), by unfold Hw.Live; decide +kernel⟩

theorem witness_captureTaken : ∃ h : Hw, h.Live rgFawn ∧ h.cfg TC_PIN_MODE 0 4 = 2 ∧ bitOf (bits (h.cfg TC_PIN_FLAGS 0
    4) 3 2) (1 - 1) = true ∧ (h.pinAt 4).lastCap = some 0 ∧ (20 * 65536 : Int) ≤ 20 * 65536 - 0 ∧ (h.pinAt
    4).fifo.length < 64 :=
  ⟨(putCfg (putCfg w TC_PIN_MODE 2 0 4) TC_PIN_FLAGS 8 0 4).setPin 4 (fun q => { q with lastCap := some 0 }), by unfold Hw.Live; decide +kernel⟩

theorem witness_todSend : ∃ h : Hw, h.Live rgFawn ∧ (h.pinAt 6).tods = 9 :: [] ∧ h.cfg TC_PIN_MODE 0 6 = 3 ∧ bitOf
    h.sf.pinHiZ 6 = false ∧ bitOf (h.cfg TC_PIN_FLAGS 0 6) 5 = false :=
  ⟨(putCfg w TC_PIN_MODE 3 0 6).setPin 6 (fun q => { q with tods := [9] }), by unfold Hw.Live; decide +kernel⟩

theorem witness_todSend_nmea : ∃ h : Hw, bitOf (h.cfg TC_PIN_FLAGS 0 6) 5 = true ∧ h.pinSquelched 6 = false :=
  ⟨(putCfg (putCfg w TC_PIN_MODE 3 0 6) TC_PIN_FLAGS 32 0 6).setPin 6 (fun q => { q with tods := [9] }), by decide +kernel⟩

theorem witness_pinReadback : ∃ h : Hw, h.Live rgFawn ∧ h.cfg TC_PIN_MODE 0 7 = 1 ∧ h.sf.inject ≠ some (10, 7) ∧
    (h.pinAt 7).recheck = true ∧ (w.pinAt 7).recheck = false :=
  ⟨(putCfg w TC_PIN_MODE 1 0 7).setPin 7 (fun q => { q with recheck := true }), by unfold Hw.Live; decide +kernel⟩

/-! ### Station time service, attachments and ports -/

/-- Lane 3 locked and up, its port and every service enabled. -/
def wPort : Hw :=
  putCfg (putCfg (putCfg (((w.wr PF_LANE_STATUS_LINK 1 3).wr TS_LAT_VALID 1 3).wr TS_PORT_STATUS_STATE 1 3) TS_PORT_ENABLES 15 3)
    PF_PORT_FLAGS 5 3) PF_PORT_MAX_FRAME 1518 3

/-- A Delay_Req of domain 0. -/
def ptpIn : PtpIn := ⟨0, 0, 0, 2, 0, true, 0, 0, 0, false, 0, 0, 0⟩

/-- An NTP client request. -/
def ntpIn : NtpIn := ⟨0, 0, 3, 4, 48, 6, 0, 0, 0, 0⟩

/-- A frame of the least length with its FCS. -/
def goodFrame : List Byte := List.replicate 60 0 ++ fcsOf (List.replicate 60 0)

theorem witness_stationLaneLock : ∃ h : Hw, h.Live (tsRegion 127) ∧ 127 < 128 ∧ h.rd PF_LANE_STATUS_PWR 127 = 0 :=
  ⟨w, by unfold Hw.Live; decide⟩

theorem witness_syncRequest : ∃ h : Hw, h.Live (tsRegion 3) ∧ h.rd TS_PORT_STATUS_STATE 3 ≠ 0 :=
  ⟨wPort, by unfold Hw.Live; decide⟩

theorem witness_ptpDisabled : (st w).hw.rd TS_PORT_STATUS_STATE 3 = 0 ∧ (st w).hw.tsEn 3 enPtp = false ∧ (st
    w).hw.tsEn 3 enNtp = false ∧ (st w).hw.tsEn 3 enArp = false := by decide

theorem witness_requestsNoLat : ∃ h : Hw, h.Live (tsRegion 3) ∧ 3 < 128 ∧ h.portBase 3 = 3 ∧ h.rd TS_LAT_VALID 3 = 0 ∧
    h.tsEn 3 enPtp = true ∧ h.tsEn 3 enNtp = true ∧ h.tsEn 3 enArp = true :=
  ⟨wPort.wr TS_LAT_VALID 0 3, by unfold Hw.Live; decide +kernel⟩

theorem witness_delayReq : ∃ h : Hw, h.Live (tsRegion 3) ∧ h.tsServes 3 = true ∧ h.tsEn 3 enPtp = true ∧ h.tsLat 3 =
    true ∧ h.ptpOk 3 false ptpIn = true ∧ bucketLevel (h.tsAt 3).dUsed 16 (h.cfg TS_PORT_DREQ_LIMIT 3) ptpIn.cyc = (0,
    true) := ⟨putCfg wPort TS_PORT_DREQ_LIMIT 10 3, by unfold Hw.Live; decide +kernel⟩

theorem witness_delayReq_limit : ∃ h : Hw, h.Live (tsRegion 3) ∧ h.ptpOk 3 false ptpIn = true ∧ bucketLevel (h.tsAt
    3).dUsed 16 (h.cfg TS_PORT_DREQ_LIMIT 3) ptpIn.cyc = (16 * tokenUnit, false) ∧ ({ ptpIn with dom := 9 } :
    PtpIn).dom ≠ h.cfg TS_PORT_DOMAIN 3 :=
  ⟨(putCfg wPort TS_PORT_DREQ_LIMIT 10 3).setTs 3 (fun e => { e with dUsed := 16 * tokenUnit }), by unfold Hw.Live; decide +kernel⟩

theorem witness_pdelayReq : ∃ h : Hw, h.Live (tsRegion 3) ∧ h.ptpOk 3 true ptpIn = true ∧ bucketLevel (h.tsAt 3).dUsed
    16 (h.cfg TS_PORT_DREQ_LIMIT 3) ptpIn.cyc = (0, true) ∧ wPort.cfg TS_PORT_DELAY_MECH 3 = 0 :=
  ⟨putCfg (putCfg wPort TS_PORT_DREQ_LIMIT 10 3) TS_PORT_DELAY_MECH 1 3, by unfold Hw.Live; decide +kernel⟩

theorem witness_requestQueue : ∃ h : Hw, 16 ≤ ((h.tsAt 3).reqs.filter (fun x => x.kind == ({ kind := 1, since := 0 } :
    TsReq).kind)).length ∧ ((w.tsAt 3).reqs.filter (fun x => x.kind == 1)).length < 16 :=
  ⟨w.setTs 3 (fun e => { e with reqs := List.replicate 16 { kind := 1, since := 0 } }), by decide⟩

theorem witness_tokenBucket : 1 ≤ 16 ∧ 0 ≤ 0 * 10 ∧ (bucketLevel 0 16 10 0).2 = true := by decide

theorem witness_ntpRequest : ∃ h : Hw, h.Live (tsRegion 3) ∧ h.tsServes 3 = true ∧ h.tsEn 3 enNtp = true ∧ h.tsLat 3 =
    true ∧ ntpIn.mode = 3 ∧ ntpIn.vn = 4 ∧ ntpIn.len = 48 ∧ bucketLevel (h.tsAt 3).kUsed 1000 1000 ntpIn.cyc = (0,
    true) ∧ bucketLevel (h.tsAt 3).nUsed (h.cfg TS_PORT_NTP_BURST 3) (h.cfg TS_PORT_NTP_RATE 3) ntpIn.cyc = (0, true)
    := ⟨putCfg (putCfg wPort TS_PORT_NTP_BURST 5 3) TS_PORT_NTP_RATE 5 3, by unfold Hw.Live; decide +kernel⟩

theorem witness_ntpRequest_limit : ∃ h : Hw, h.Live (tsRegion 3) ∧ bucketLevel (h.tsAt 3).nUsed (h.cfg
    TS_PORT_NTP_BURST 3) (h.cfg TS_PORT_NTP_RATE 3) ntpIn.cyc = (0, false) ∧ h.cfg TS_PORT_NTP_KOD 3 = 0 ∧
    ({ ntpIn with mode := 4 } : NtpIn).mode ≠ 3 :=
  ⟨wPort.setTs 3 (fun e => { e with nUsed := 0 }), by unfold Hw.Live; decide⟩

theorem witness_esmcSends : ∃ h : Hw, h.Live (tsRegion 3) ∧ h.tsServes 3 = true ∧ h.tsEn 3 enEsmc = true ∧ h.tsEn 3
    enArp = true ∧ h.tsLat 3 = true ∧ h.tsLink 3 = true ∧ (h.tsAt 3).evDue = true ∧ (w.tsAt 3).evDue = false :=
  ⟨wPort.setTs 3 (fun e => { e with evDue := true }), by unfold Hw.Live; decide⟩

theorem witness_responderCommit : ∃ h : Hw, h.Live (tsRegion 3) ∧ h.tsGrant 3 = true ∧ h.tsNext 3 = some
    { kind := 0, since := 0 } ∧ w.tsGrant 3 = false ∧ wPort.tsNext 3 = none :=
  ⟨wPort.setTs 3 (fun e => { e with reqs := [{ kind := 0, since := 0 }] }), by unfold Hw.Live; decide +kernel⟩

theorem witness_syncCommit : ∃ h : Hw, ({ kind := 0, since := 0 } : TsReq).kind = 0 ∧ rungUsable (h.tsRung 3) = true ∧
    w.cfg TS_PORT_FAULT_ACTION 3 = 0 ∧ rungUsable ((w.wr TC_STATUS_RUNG 3).tsRung 3) = false :=
  ⟨w.wr TC_STATUS_RUNG 0, by decide⟩

theorem witness_attachmentFail : ∃ h : Hw, h.Live rgLine ∧ 0 < 2 ∧ h.failCriteria 0 = 1 :: [4] ∧ h.rd
    LN_ATT_HEALTH_FAILED 0 = 0 ∧ h.clk.ut < look h.pk.failFrom 0 h.clk.ut + 80 * h.holdoff 0 :=
  ⟨(putCfg w DUAL_ATT_HOLDOFF_A 1).wr LN_ATT_HEALTH_FAILED 0 0, by unfold Hw.Live; decide +kernel⟩

theorem witness_attachmentFail_held : ∃ h : Hw, h.failCriteria 0 = 1 :: [4] ∧ look h.pk.failFrom 0 h.clk.ut + 80 *
    (putCfg h DUAL_ATT_HOLDOFF_A 1).holdoff 0 ≤ h.clk.ut :=
  ⟨{ w with clk := { w.clk with ut := 81 } , pk := { w.pk with failFrom := [(0, 1)] } }, by decide +kernel⟩

theorem witness_attachmentRecover : ∃ h : Hw, h.Live rgLine ∧ 0 < 2 ∧ h.failCriteria 0 = [] ∧ h.rd
    LN_ATT_HEALTH_FAILED 0 ≠ 0 :=
  ⟨((wAct aO5).wr LN_TX_CTRL_ENABLE 1 0 0).wr LN_ATT_HEALTH_FAILED 1 0, by unfold Hw.Live; decide⟩

theorem witness_linkUp : ∃ h : Hw, h.Live (tsRegion 3) ∧ h.portBase 3 = 3 ∧ h.linkConds 3 = true ∧ 80 ≤ (h.portAt
    3).upFor ∧ h.rd PF_LANE_STATUS_LINK 3 = 0 ∧ h.portEnabled 3 = true ∧ w.linkConds 3 = false ∧ (w.portAt 3).upFor <
    80 :=
  ⟨((putCfg w PF_PORT_FLAGS 1 3).wr PF_LANE_STATUS_BLOCK_LOCK 1 3).setPort 3 (fun p => { p with upFor := 80 }), by unfold Hw.Live; decide +kernel⟩

theorem witness_laneIdle : (st w).hw.Live (tsRegion 3) ∧ bitOf ((st w).hw.cfg PF_PORT_FLAGS ((st w).hw.portBase 3)) 0
    = false := by unfold Hw.Live; decide

theorem witness_dfeEqReset : (st w).hw.Open (regBlock .PF_LANE_EQ 3 0) ∧ (st w).hw.rd PF_LANE_STATUS_LINK 3 = 0 ∧
    bitOf 0x1000 12 = true ∧ (st wPort).hw.rd PF_LANE_STATUS_LINK 3 ≠ 0 := by unfold Hw.Open; decide

theorem witness_macRxChecks : ∃ h : Hw, h.Live (tsRegion 3) ∧ 3 < 128 ∧ h.portBase 3 = 3 ∧ h.portEnabled 3 = true ∧
    h.rd PF_LANE_STATUS_LINK 3 ≠ 0 ∧ h.rxFill 3 + min (List.replicate 64 (0 : Byte)).length (h.cfg PF_PORT_MAX_FRAME
    3) ≤ h.rxCap 3 ∧ (List.replicate 63 (0 : Byte)).length < 64 ∧ 64 ≤ (List.replicate 64 (0 : Byte)).length ∧
    (List.replicate 64 (0 : Byte)).length ≤ h.cfg PF_PORT_MAX_FRAME 3 ∧ fcsOk (List.replicate 64 (0 : Byte)) = false
    := ⟨wPort, by unfold Hw.Live; decide +kernel⟩

theorem witness_macRxFull : ∃ h : Hw, h.Live (tsRegion 3) ∧ h.portEnabled 3 = true ∧ h.rxCap 3 < h.rxFill 3 + min 64
    (h.cfg PF_PORT_MAX_FRAME 3) :=
  ⟨(putCfg wPort PF_PORT_MAX_FRAME 9728 3).setPort 3 (fun p => { p with rx := [{ id := 0, bytes := List.replicate 65536 0, fcs := 4, src := 3, epoch := 0 }] }), by refine ⟨⟨rfl, rfl⟩, by decide +kernel, ?_⟩; simp [-List.reduceReplicate, Hw.rxFill, Hw.portAt, Hw.setPort, Hw.rxCap]; decide +kernel⟩

theorem witness_macFrameRx : ∃ h : Hw, 64 ≤ goodFrame.length ∧ goodFrame.length ≤ h.cfg PF_PORT_MAX_FRAME 3 ∧ fcsOk
    goodFrame = true ∧ beNat (slice goodFrame 12 2) ≠ 0x8808 ∧ ((h.inc PF_MAC_CNT_RX_FRAMES 3).incW
    PF_MAC_CNT_RX_OCTETS 3 0 64).toResponder 3 goodFrame = false := ⟨wPort, by decide +kernel⟩

theorem witness_pauses : ∃ h : Hw, h.Live (tsRegion 3) ∧ h.pauses 3 = true ∧ (h.portAt 3).xoff = false ∧ h.rxFill 3 ≤
    h.cfg PF_PORT_XON 3 * 256 := ⟨putCfg wPort PF_PORT_XON 16 3, by unfold Hw.Live; decide +kernel⟩

theorem witness_macFrameTx : ∃ h : Hw, h.Live (tsRegion 3) ∧ (h.portAt 3).tx =
    { id := 0, bytes := List.replicate 60 0, fcs := 0, src := 0, epoch := 0 } :: [] ∧ h.portTakes 3 = true ∧ h.runs
    (tsRegion 3) = true :=
  ⟨wPort.setPort 3 (fun p => { p with tx := [{ id := 0, bytes := List.replicate 60 0, fcs := 0, src := 0, epoch := 0 }] }), by unfold Hw.Live; decide +kernel⟩

theorem witness_laneRecal : ∃ h : Hw, h.Ready hdr ∧ (h.cmdTake hdr).runs (tsRegion 127) = true ∧ (h.cmdTake hdr).rd
    PF_LANE_STATUS_PWR 127 = 0 ∧ (h.cmdTake hdr).rd PF_RECAL_STATUS_BUSY (tsRegion 127 - rgPortW) = 0 ∧ 127 < 128 ∧ 1
    < 2 := ⟨wRing, by unfold Hw.Ready; decide⟩

theorem witness_laneRecalDone : ∃ h : Hw, h.Live 3 ∧ h.recal.find? (fun x => x.1 == 3) = some (3, ⟨2, false, 0, 0,
    none⟩) ∧ h.recal.find? (fun x => x.1 == 4) = none :=
  ⟨{ w with recal := [(3, ⟨2, false, 0, 0, none⟩)] }, by unfold Hw.Live; decide⟩

theorem witness_prbs : ∃ h : Hw, h.Live (tsRegion 3) ∧ h.rd PF_LANE_STATUS_PRBS_LOCK 3 ≠ 0 :=
  ⟨w.wr PF_LANE_STATUS_PRBS_LOCK 1 3, by unfold Hw.Live; decide⟩

/-! ### Parser engines -/

/-- A frame of the host's transmit ring 0. -/
def frm : Frame := { id := 1, bytes := List.replicate 64 0, fcs := 4, src := 130, epoch := 0 }

/-- Its item. -/
def itm : Item := ⟨1, .first frm, 0, 0, 130, 0, 0, 0, false, 0⟩

/-- A pass of it at the first instruction. -/
def pss : Pass :=
  { item := itm, frame := frm, second := false, wbase := 0, cursor := 0, g := List.replicate 8 0, mdata := List.replicate 16 0, pc := 0 }

/-- Engine 0 holds pass `p`, and the program is the one instruction `i`. -/
def wEng (i : PInstr) (p : Pass) : Hw :=
  { w with ep := { w.ep with progCur := [i.word] }, pk := { w.pk with passes := [(0, p)] } }

/-- Every instruction can issue there in the first pass's state. -/
theorem witness_issues (i : PInstr) : Spec.Issues (st (wEng i pss)) 0 i pss 255 := by
  refine ⟨⟨rfl, rfl⟩, rfl, ?_, rfl⟩
  have h : (w.ep.progCur = []) := rfl
  have e : (wEng i pss).progOf 0 = [i.word] := rfl
  have v : pss.waits i = false := by cases i <;> simp [Pass.waits, pss]
  show ((wEng i pss).runs rgPacket && ((wEng i pss).progOf 0)[0]? == some i.word && !pss.waits i) = true
  rw [e, v]; simp; rfl

theorem witness_sampleOff : bitOf (w.cfg PC_CFG_FLAGS) 1 = false := by decide

theorem witness_pLd : 0 + 252 + 2 ^ 2 ≤ 256 ∧ 256 < 0 + 253 + 2 ^ 2 := by decide

theorem witness_pAdv : 255 = (if 0 < 2 then 0 else 0) + (if 0 % 2 = 0 then 255 else 0) ∧ 255 ≤ 255 ∧ 255 < 256 :=
  by decide

theorem witness_pMark : 11 < 12 ∧ 12 ≤ 12 := by decide

theorem witness_pKeys : 0 + 224 + (31 + 1) ≤ 256 ∧ 256 < 0 + 225 + (31 + 1) := by decide

theorem witness_pLchk : pss.reg 0 < 1 ∧ 0 ≤ pss.reg 0 ∧ (pss.reg 0 : Int) ≤ ((60 : Nat) : Int) - ((pss.wbase +
    pss.cursor : Nat) : Int) ∧ ((pss.reg 0 : Nat) : Int) - 1 < (pss.reg 0 : Int) := by decide

theorem witness_pFwd_noDest : ({ pss with mdata := [0xFFFF, 0] } : Pass).mdata.getD 0 0 = 0xFFFF ∧ pss.mdata.getD 1 0
    = 0 := by decide

theorem witness_pFwd_badDest : ({ pss with mdata := [1088, 0] } : Pass).mdata.getD 0 0 ≠ 0xFFFF ∧ 1088 ≤
    ({ pss with mdata := [1088, 0] } : Pass).mdata.getD 0 0 % 4096 ∧ 2 ≤ ({ pss with mdata := [0, 2] } :
    Pass).mdata.getD 1 0 := by decide

theorem witness_pFwd_forward : ({ pss with mdata := [1087, 0] } : Pass).mdata.getD 0 0 % 4096 < 1088 ∧ pss.frame.src ≠
    128 ∧ pss.frame.src ≠ 129 ∧ pss.mdata.getD 2 0 / 2 ^ 14 % 4 ≠ 3 := by decide

theorem witness_pRecirc : pss.second = false ∧ ({ pss with second := true } : Pass).second = true := by decide

theorem witness_pBudget : ∃ h : Hw, h.passAt? 0 = some { pss with budget := 0 } ∧ h.canExec { pss with budget := 0 }
    .nop = true := ⟨wEng .nop { pss with budget := 0 }, by decide +kernel⟩

theorem witness_pDepth : ∃ h : Hw, PP_CNT_BUDGET.reg = .PP_CNT ∧ h.entryOf 0 5 ≠ 0xFFFF ∧ pss.handler = false ∧
    ({ pss with handler := true } : Pass).handler = true :=
  ⟨{ w with ep := { w.ep with headCur := [0, 0, 7 * 65536] } }, by decide⟩

theorem witness_hashResult : ∃ h : Hw, h.Live rgPacket ∧ h.passAt? 0 = some { pss with awaits := [.hash 0 5 none] } :=
  ⟨wEng .nop { pss with awaits := [.hash 0 5 none] }, ⟨⟨rfl, rfl⟩, rfl⟩⟩

theorem witness_hashResult_back : ({ pss with awaits := [.hash 0 5 (some (0, [], true))] } : Pass).awaits = .hash 0 5
    (some (0, [], true)) :: [] ∧ pss.awaits = [] := ⟨rfl, rfl⟩

theorem witness_lookupResult_miss : ∃ h : Hw, h.Live rgPacket ∧ h.passAt? 0 = some
    { pss with awaits := [.lookup 0 2 [0, 0, 0]] } ∧ h.tableHit 2 0 [0, 0, 0] = none :=
  ⟨wEng .nop { pss with awaits := [.lookup 0 2 [0, 0, 0]] }, ⟨⟨rfl, rfl⟩, rfl, rfl⟩⟩

/-- A flow and a port entry of the current epoch. -/
def ents : List TblEntry := [{ tbl := 0, key := [1], slot := 4, r0 := 7, r1 := 8, vis := 1 }, { tbl := 2, key := [0, 0, 0], slot := 0, r0 := 7, r1 := 8, vis := 1 }]

theorem witness_lookupResult_hit : ∃ h : Hw, h.tableHit 2 0 [0, 0, 0] = ents[1]? ∧ h.tableHit 0 0 [1] = ents[0]? ∧ (2
    : Nat) ≠ 0 ∧ (ents[0]?.map TblEntry.aux) = some 0 :=
  ⟨{ w with pk := { w.pk with tables := ents } }, by decide +kernel⟩

theorem witness_canonSymmetric : [10, 0, 0, 1].length = 4 ∧ [10, 0, 0, 2].length = 4 ∧ [0, 80].length = 2 ∧ [4,
    0].length = 2 ∧ [6].length = 1 := by decide

theorem witness_passPrivate : ∃ h : Hw, h.passAt? 0 = some pss ∧ h.canExec pss (.cmp 0 1) = true ∧ pss.budget = 255 +
    1 ∧ bitOf (h.cfg PC_CFG_FLAGS) 1 = false ∧ h.execP { pss with budget := 255 } (.cmp 0 1) = .go
    { pss with budget := 255, pc := 1, eq := true } := ⟨wEng (.cmp 0 1) pss, ⟨rfl, by decide +kernel, rfl, rfl, rfl⟩⟩

theorem witness_aluWraps : 2 ^ 32 - 1 < 2 ^ 32 ∧ 31 < 2 ^ 32 := by decide

theorem witness_parserRoundTrip : (PInstr.adv 3 7 255).wf = true ∧ (PInstr.bf 7 8191).wf = true := by decide

theorem witness_parserReserved : 0x18 * 2 ^ 27 < 2 ^ 32 ∧ 0x18 ≤ (0x18 * 2 ^ 27) / 2 ^ 27 := by decide

theorem witness_parserTargets : pWordOk 4 (PInstr.bf 0 3).word = true ∧ (PInstr.bf 0 3).target? = some 3 ∧ pWordOk 3
    (PInstr.bf 0 3).word = false := by decide

/-! ### Queues, bridge, pools and memory -/

/-- Two buffers of 256 bytes at 4,096 in pool 0 for the host; the second is allocated to ring 0. -/
def wPool : Hw :=
  let h := (putCfg (putCfg (putCfg (putCfg wRing BM_POOL_BASE 4096) BM_POOL_SIZE_LOG2 8) BM_POOL_COUNT 2) BM_POOL_FLAGS 255).wr
    BM_POOL_STATUS_ENABLED 1 0
  h.setPool 0 { h.poolAt 0 with cache := [0], tags := [(1, tagRing 0)] }

theorem witness_admission : ∃ h : Hw, (h.chargePolicer frm).2 = some frm ∧ h.overLimit frm = false ∧ 128 ≤ frm.src ∧
    (putCfg w TM_INGRESS_LIMIT 0 130).overLimit frm = true := ⟨putCfg w TM_INGRESS_LIMIT 1 0, by decide +kernel⟩

theorem witness_admission_red : ∃ h : Hw, (h.chargePolicer
    { frm with carry := { ({} : Carry) with mdata := [0, 0, 0, 0, 0, 0x8000] } }).1.overLimit frm = false ∧ (h.police
    0 frm).1 = 2 := ⟨putCfg w TM_POLICER_FLAGS 7, by decide +kernel⟩

theorem witness_queueLimits : ∃ h : Hw, 7 < 1024 ∧ h.portFlushes (7 / 8) = true ∧ 1024 ≤ 1088 ∧ h.fill 1088 < h.cfg
    TM_QUEUE_QLIMIT 1088 * 1024 ∧ (putCfg w TM_QUEUE_QLIMIT 0 1088).cfg TM_QUEUE_QLIMIT 1088 * 1024 ≤ (putCfg w
    TM_QUEUE_QLIMIT 0 1088).fill 1088 :=
  ⟨putCfg (putCfg w TM_QUEUE_QLIMIT 4 1088) TM_QUEUE_DP_LIMIT 2 1088, by decide +kernel⟩

theorem witness_eligibility : ∃ h : Hw, (h.queueAt 9).frames = [] ∧ h.cfg TM_QUEUE_SHAPER 9 ≠ 0xFFFF ∧ look
    h.pk.credits (h.cfg TM_QUEUE_SHAPER 9) 0 < 0 :=
  ⟨{ putCfg w TM_QUEUE_SHAPER 5 9 with pk := { w.pk with credits := [(5, -1)] } }, by decide +kernel⟩

theorem witness_schedulerSelect : (st w).hw.Live rgPacket ∧ 128 ≤ 128 ∧ ((st w).hw.nodeSelect 128).isNone = true :=
  by unfold Hw.Live; decide

/-- A queue of receive ring 0 with one frame and a posted buffer. -/
def wSel : Hw := ((w.wr HI_RING_ENABLE 1 64).setRing 64 (fun s => { s with prod := 1 })).setQueue 1024 { frames := [frm] }

theorem witness_schedulerSelect_some : (wSel.nodeSelect 128).isSome = true := by decide +kernel

theorem witness_nodeStopped : ∃ h : Hw, 9 ≤ 128 ∧ h.cfg TM_PORT_SHAPER 9 ≠ 0xFFFF ∧ look h.pk.credits (h.cfg
    TM_PORT_SHAPER 9) 0 < 0 :=
  ⟨{ putCfg w TM_PORT_SHAPER 5 9 with pk := { w.pk with credits := [(5, -1)] } }, by decide +kernel⟩

theorem witness_windowShares : (15 : Nat) < 16 ∧ 15 = 8 + 6 + 1 ∧ 2 ≤ 1 + (16 - 15) ∧
    ({ n := 15, tc := 8, urg := 6, nor := 1 } : Arb).pick true true true = some (2, {}) := by decide

theorem witness_windowPassesOn : (false || true || false) = true := by decide

theorem witness_policerColours : ∃ h : Hw, h.bucketsOf 0 = (64 * 65536, 128 * 65536) ∧ bitOf (h.cfg TM_POLICER_FLAGS
    0) 0 = true ∧ frm.len * 65536 ≤ 64 * 65536 ∧ 64 * 65536 < 65 * 65536 ∧ 128 * 65536 < 129 * 65536 :=
  ⟨putCfg (putCfg (putCfg w TM_POLICER_FLAGS 1) TM_POLICER_CBS 1) TM_POLICER_PBS 2, by decide +kernel⟩

theorem witness_refillBounded : ∃ h : Hw, 5 ∈ h.pk.credits.map Prod.fst :=
  ⟨{ w with pk := { w.pk with credits := [(5, -1)] } }, by decide⟩

theorem witness_stagingFill : (st w).hw.Live rgPacket ∧ stagedBytes ((st w).hw.stageAt 0) < (st w).hw.stageSize 0 ∧
    ((st w).hw.nodeSelect 129).isNone = true := by unfold Hw.Live; decide

theorem witness_stagingFull : ∃ h : Hw, h.stageSize 0 ≤ stagedBytes (h.stageAt 0) :=
  ⟨putCfg (w.setPk (fun p => { p with stages := [(0, { frames := [(1088, { frm with bytes := List.replicate 1024 0 })] })] })) TM_ALLOC_STAGE_KIB 1, by decide +kernel⟩

theorem witness_returnTimeout : ∃ h : Hw, h.Live rgPacket ∧ (look h.pk.groups 2 {}).due = some 4 ∧ h.rd
    TM_HOME_STATUS_STATE 2 = 3 ∧ 4 < h.clk.ut :=
  ⟨{ w with pk := { w.pk with groups := [(2, { due := some 4 })] }, clk := { w.clk with ut := 5 } }.wr TM_HOME_STATUS_STATE 3 2, by unfold Hw.Live; decide⟩

theorem witness_fifoEmpty : ∃ h : Hw, h.Live rgPacket ∧ h.rd TM_HOME_STATUS_STATE 2 = 1 ∧ (h.fifoAt 2).frames = [] :=
  ⟨w.wr TM_HOME_STATUS_STATE 1 2, by unfold Hw.Live; decide⟩

theorem witness_homingHome : ∃ h : Hw, h.rd TM_HOME_STATUS_STATE 2 = 0 ∧ h.groupHealthy 2 (h.groupHome 2) = false ∧
    h.groupHealthy 2 (1 - h.groupHome 2) = true :=
  ⟨(putCfg (w.wr LN_ATT_HEALTH_FAILED 0 1) DUAL_ATT_QSET_B 1600 0 2).wr TM_HOME_STATUS_STATE 0 2, by decide +kernel⟩

theorem witness_homingHome_held : (w.wr TM_HOME_STATUS_STATE 0 2).groupHealthy 2 ((w.wr TM_HOME_STATUS_STATE 0
    2).groupHome 2) = false ∧ (w.wr TM_HOME_STATUS_STATE 0 2).groupHealthy 2 (1 - (w.wr TM_HOME_STATUS_STATE 0
    2).groupHome 2) = false := by decide

theorem witness_bridgeDrain : ∃ h : Hw, h.Live rgPacket ∧ (h.fifoAt 16).frames ≠ [] ∧ h.rd LN_ATT_HEALTH_FAILED 0 = 0
    ∧ h.drainPick = some (16, 0) ∧ w.drainPick = none :=
  ⟨(w.wr LN_ATT_HEALTH_FAILED 0 0).setPk (fun p => { p with fifos := [(16, { frames := [(frm, 0)] })] }), by unfold Hw.Live; decide⟩

theorem witness_frerResetTimeout : ∃ h : Hw, h.Live rgPacket ∧ (look h.pk.rcv 3 {}).due = some 4 ∧ (look h.pk.rcv 4
    {}).due = none := ⟨w.setPk (fun p => { p with rcv := [(3, { due := some 4 })] }), by unfold Hw.Live; decide⟩

theorem witness_pointerChecks : wPool.poolOf 4351 = some 0 ∧ (4351 - wPool.cfg BM_POOL_BASE 0) % wPool.poolSize 0 ≠ 0
    ∧ wPool.poolOf 4096 = some 0 ∧ wPool.poolOf 4608 = none ∧ ((wPool.poolAt 0).tags.find? (fun x => x.1 == 1)) = some
    (1, tagRing 0) ∧ ((wPool.poolAt 0).tags.find? (fun x => x.1 == 0)) = none := by decide +kernel

theorem witness_rejectedFree : wPool.bufCheck 4608 (tagRing 0) = .error stRange ∧ wPool.bufCheck 4097 (tagRing 0) =
    .error stAlign ∧ wPool.bufCheck 4352 (tagRing 0) = .ok (0, 1) := by decide +kernel

theorem witness_allocFresh : (wPool.poolTake 0 (tagRing 0) 3).1 = some 0 := by decide +kernel

theorem witness_poolAllocRefused : ∃ h : Hw, h.Ready hdr ∧ (h.cmdTake hdr).runs rgMemory = true ∧ 32 < 33 ∧ 15 < 16 ∧
    ((wPool.wr SF_REGION_STATE stReloading rgMemory).cmdTake hdr).runs rgMemory = false :=
  ⟨wPool, by unfold Hw.Ready; decide +kernel⟩

theorem witness_poolAlloc : ∃ h : Hw, h.Ready hdr ∧ (h.cmdTake hdr).runs rgMemory = true ∧ 0 < 32 ∧ 32 ≤ 32 ∧ 0 ≤ 15 ∧
    (h.cmdTake hdr).poolOn 0 = true ∧ bitOf ((h.cmdTake hdr).cfg BM_POOL_FLAGS 0) useHost = true ∧ ((h.cmdTake
    hdr).poolTakeN 0 (tagRing hdr.ring) 1).1 = [4096] := ⟨wPool, by unfold Hw.Ready; decide +kernel⟩

theorem witness_poolFree : ∃ h : Hw, h.Ready hdr ∧ (h.cmdTake hdr).runs rgMemory = true ∧ ((h.cmdTake hdr).bufFreePtr
    (4352 % 2 ^ 40) (tagRing hdr.ring)).2 = stOk ∧ tagValid 0x1F = true ∧ (h.cmdTake hdr).bufCheck (4352 % 2 ^ 40)
    (tagRing hdr.ring) = .ok (0, 1) := ⟨wPool, by unfold Hw.Ready; decide +kernel⟩

/-- Channel 0 active, channel 1 a healthy spare. -/
def wMem : Hw := wRing.wr BM_MEM_STATUS_CH_STATE (putBits (putBits 0 0 4 chActive) 4 4 chSpare)

theorem witness_memRepair : ∃ h : Hw, h.Ready hdr ∧ (h.cmdTake hdr).runs rgMemory = true ∧ (h.cmdTake hdr).chState 0 =
    chActive ∧ (h.cmdTake hdr).mem.migr = none ∧ (h.cmdTake hdr).spareCh = some 1 ∧ (h.cmdTake hdr).chState 7 ≠
    chActive ∧ [0, 1, 2, 3].length ≤ 4 := ⟨wMem, by unfold Hw.Ready; decide +kernel⟩

theorem witness_migration : ∃ h : Hw, h.Live rgMemory ∧ h.mem.migr = some
    { src := 0, dst := 1, cmd := some (0, 7, 0), done := true } ∧ w.mem.migr = none :=
  ⟨w.setMem (fun m => { m with migr := some { src := 0, dst := 1, cmd := some (0, 7, 0), done := true } }), by unfold Hw.Live; decide⟩

theorem witness_patrolScrub : ∃ h : Hw, h.Live rgMemory ∧ 0 < h.sectors ∧ h.sectorAt h.mem.scrubAt = (0, 0) ∧
    h.mem.poison.contains (0, 0) = false :=
  ⟨(w.wr BM_MEM_GEOM_CAP_GIB 1).setMem (fun m => { m with poison := [(3, 5)] }), by unfold Hw.Live; decide⟩

theorem witness_patrolScrub_poisoned : ∃ h : Hw, h.Live rgMemory ∧ 0 < h.sectors ∧ h.sectorAt h.mem.scrubAt = (0, 0) ∧
    h.mem.poison.contains (0, 0) = true :=
  ⟨(w.wr BM_MEM_GEOM_CAP_GIB 1).setMem (fun m => { m with poison := [(0, 0)] }), by unfold Hw.Live; decide⟩

/-- A frame that names secure channel 2,047. -/
def mdFrm (k : Nat) : Frame := { frm with carry := { frm.carry with mdata := [0xFFFF, 0, 0, 0, 0, 0, 0xFFFF, 0x8000 + k] } }

theorem witness_securedEgress : ∃ h : Hw, bitOf ((mdFrm 2047).md 7) 15 = true ∧ 2047 = bits ((mdFrm 2047).md 7) 0 13 ∧
    2047 < 2048 ∧ 2048 ≤ bits ((mdFrm 2048).md 7) 0 13 ∧ bitOf (h.cfgFor (mdFrm 2047).epoch CX_SC_FLAGS 2047) 0 = true
    ∧ bitOf (h.cfgFor (mdFrm 2047).epoch CX_SC_FLAGS 2047) 1 = false ∧ h.cfgFor (mdFrm 2047).epoch CX_SC_PORT 2047 =
    127 ∧ bitOf (h.cfgFor (mdFrm 2047).epoch CX_SC_FLAGS 2046) 0 = false ∧ bitOf (frm.md 7) 15 = false :=
  ⟨putCfg (putCfg w CX_SC_FLAGS 1 2047) CX_SC_PORT 127 2047, by decide +kernel⟩

/-! ### The key store, cipher lanes and MACsec -/

/-- Slot 20 holds a key for MACsec, bound to no work. -/
def wKey : Hw := (((wRing.wr CX_SLOT_ATTR_STATE 1 20).wr CX_SLOT_ATTR_USE 2 20).wr CX_SLOT_ATTR_EXPORTABLE 1 20).wr CX_KS_STATUS_DKEK_VALID 1

theorem witness_lockedStore : ∃ h : Hw, h.Ready hdr ∧ (h.cmdTake hdr).rd CX_KS_STATUS_ALARM ≠ 0 :=
  ⟨wRing.wr CX_KS_STATUS_ALARM 1, by unfold Hw.Ready; decide⟩

theorem witness_ownedSlot : ∃ h : Hw, h.rd CX_KS_STATUS_ALARM = 0 ∧ 47 < 8192 ∧ h.slotOwner (h.keyBase 0 + 7) = some 0
    := ⟨(wAct aO5).wr LN_ATT_CTRL_KEY_BASE 5 0, by decide⟩

theorem witness_keyCommands : ∃ h : Hw, h.Ready hdr ∧ (h.cmdTake hdr).rd CX_KS_STATUS_ALARM = 0 ∧ 8191 < 8192 ∧
    (h.cmdTake hdr).slotOwner 20 = none ∧ (h.cmdTake hdr).slotOwner 8191 = none ∧ (h.cmdTake hdr).rd
    CX_SLOT_ATTR_STATE 8191 = 0 ∧ (h.cmdTake hdr).rd CX_SLOT_ATTR_STATE 20 = 1 ∧ (h.cmdTake hdr).rd
    CX_SLOT_ATTR_EXPORTABLE 20 ≠ 0 ∧ (h.cmdTake hdr).rd CX_KS_STATUS_DKEK_VALID ≠ 0 :=
  ⟨wKey, by unfold Hw.Ready; decide⟩

theorem witness_keyGen : (wKey.wr CX_KS_STATUS_TRNG_OK 1).rd CX_KS_STATUS_TRNG_OK ≠ 0 ∧ (wKey.wr CX_KS_STATUS_TRNG_OK
    0).rd CX_KS_STATUS_TRNG_OK = 0 ∧ 1 < 2 ∧ 31 < 32 ∧ (2 ≤ 2 ∨ 32 ≤ 0 ∨ 2 ≤ 0) := by decide

theorem witness_keyLoadRefused : 4 % 8 ≠ 0 ∧ 8 % 8 = 0 ∧ 33 ≠ 32 ∧ 33 ≠ 48 ∧ (st wRing).hw.Ready hdr ∧ (wRing.cmdTake
    hdr).rd CX_KS_STATUS_DKEK_VALID = 0 ∧ (wRing.cmdTake hdr).slotOwner 8191 = none := by unfold Hw.Ready; decide

theorem witness_keyErase : ∃ h : Hw, 8192 < 8191 + 2 ∧ h.rd LN_ATT_STATUS_STATE 0 = 0 ∧ h.rd LN_ATT_STATUS_STATE 1 = 0
    ∧ h.workOn 20 (h.slotGen 20) = false ∧ h.ks.held = [] := ⟨wKey, by decide⟩

theorem witness_slotErased : ∃ h : Hw, h.rd CX_SLOT_ATTR_STATE 20 = 1 ∧ h.workOn 20 (h.slotGen 20) = true :=
  ⟨{ wKey with ks := { w.ks with works := [⟨1, 0, 0, 20, 0, 0, false, false, none, none, true, false⟩] } }, by decide⟩

theorem witness_zeroised : 7 < 2 ^ CX_KS_STATUS_CAUSE.width := by decide

theorem witness_ksZeroise : (st w).hw.Open (regBlock .CX_KS_CTRL 0 0) ∧ bitOf 2 1 = true ∧ (st w).hw.Live rgFawn ∧ 2 ≤
    4 ∧ 4 ≤ 4 := by unfold Hw.Live Hw.Open; decide

theorem witness_alarmClr : ∃ h : Hw, h.Open (regBlock .CX_KS_CTRL 0 0) ∧ bitOf 1 0 = true ∧ h.rd CX_KS_STATUS_ALARM ≠
    0 ∧ 2 ≤ h.rd CX_KS_STATUS_CAUSE ∧ h.rd CX_KS_STATUS_CAUSE ≤ 4 ∧ h.rd CX_KS_STATUS_CAUSE ≠ 6 ∧ h.ks.imageDkek =
    none ∧ { w with ks := { w.ks with imageDkek := some 9 } }.ks.imageDkek = some 9 :=
  ⟨(w.wr CX_KS_STATUS_ALARM 1).wr CX_KS_STATUS_CAUSE 4, by unfold Hw.Open; decide⟩

/-- A free cipher lane for each cluster. -/
def wLane : Hw := (wKey.wr CX_LANE_STATUS_IN_SERVICE (2 ^ 128 - 1)).wr CX_CLU_STATUS_IN_SERVICE 255

theorem witness_downWork : ∃ h : Hw, h.Live rgPacket ∧ 9 < 10 ∧ h.ks.waits.find? (fun y => y.stream == 9) = some ⟨9,
    20, frm⟩ ∧ h.rd CX_SLOT_ATTR_STATE 20 = 1 ∧ h.pickLane (h.streamPath 9) = some 16 ∧ h.ks.waits.find? (fun y =>
    y.stream == 0) = some ⟨0, 21, frm⟩ ∧ h.rd CX_SLOT_ATTR_STATE 21 ≠ 1 ∧ wKey.pickLane (h.streamPath 9) = none :=
  ⟨{ wLane with ks := { wLane.ks with waits := [⟨9, 20, frm⟩, ⟨0, 21, frm⟩] } }, by unfold Hw.Live; decide +kernel⟩

theorem witness_upWork : ∃ h : Hw, h.Live rgPacket ∧ 3 < 4 ∧ h.upEnc (3 / 2) 0 = false ∧ h.upEnc (3 / 2) 65534 = true
    ∧ (h.pk.stages.find? (fun y => y.1 / 64 == 3 / 2 && y.2.frames.any (fun z => z.2.id == 1))).isSome = true ∧ h.rd
    CX_SLOT_ATTR_STATE (8 * h.rd LN_ATT_CTRL_KEY_BASE (3 / 2) + (5 - 1)) = 1 ∧ h.pickLane 2 = some 32 :=
  ⟨(putCfg (wLane.wr LN_ATT_CTRL_KEY_BASE 2 1) CX_PON_FLAGS 1 1).setStage 127 { frames := [(1600, frm)], sent := 0 }, by unfold Hw.Live; decide +kernel⟩

theorem witness_homeFirst : wLane.pickLane 7 = some 112 ∧ 15 < 16 ∧ wLane.laneFree (16 * homeCluster 7 + 15) = true :=
  by decide +kernel

theorem witness_macsecNumber : ∃ h : Hw, h.Live rgPacket ∧ 3 < 2048 ∧ h.ks.waits.find? (fun y => y.stream == 32 + 3) =
    some ⟨35, 0, frm⟩ ∧ h.scFlag 3 1 = false ∧ 12 ≤ frm.edited.length ∧ frm.edited.length + 4 + h.secExpand 3 ≤ min
    (h.cfg PF_PORT_MAX_FRAME (h.cfg CX_SC_PORT 3)) 9728 ∧ (h.scAt 3).cur = some 1 ∧ (h.scAt 3).sa 1 = some
    { slot := 20, pn := 5, ssci := 0, salt := 0 } ∧ 5 ≤ h.pnLast 3 ∧ h.rd CX_SLOT_ATTR_STATE 20 = 1 ∧ h.pickLane
    (h.streamPath (32 + 3)) = some 80 ∧ 5 ≠ h.cfg CX_SC_PN_THR 3 ∧ h.scFlag 3 6 = false ∧ h.scFlag 3 2 = false :=
  ⟨{ ((putCfg (putCfg (putCfg wLane CX_SC_FLAGS 1 3) CX_SC_PN_THR 100 3) PF_PORT_MAX_FRAME 1518 0).setSc 3 (fun _ => { sas := [(1, { slot := 20, pn := 5, ssci := 0, salt := 0 })], cur := some 1 })) with ks := { w.ks with scs := [(3, { sas := [(1, { slot := 20, pn := 5, ssci := 0, salt := 0 })], cur := some 1 })], waits := [⟨35, 0, frm⟩] } }, by unfold Hw.Live; decide +kernel⟩

/-- A frame with a SecTAG, without an SCI. -/
def secFrm : Frame := { frm with bytes := List.replicate 12 0 ++ [0x88, 0xE5, 1, 0, 0, 0, 0, 7] ++ List.replicate 44 0 }

/-- A frame with a SecTAG and the SCI 0x0102030405060708. -/
def sciFrm : Frame := { frm with bytes := List.replicate 12 0 ++ [0x88, 0xE5, 0x21, 0, 0, 0, 0, 7, 1, 2, 3, 4, 5, 6, 7, 8] ++ List.replicate 36 0 }

theorem witness_secEntry : ∃ h : Hw, beNat (slice secFrm.bytes 12 2) = 0x88E5 ∧ h.rxChan 0 secFrm = some 2047 ∧
    h.rxChan 127 secFrm = none ∧ beNat (slice frm.bytes 12 2) ≠ 0x88E5 ∧ beNat (slice frm.bytes 12 2) ≠ 0x888E ∧ 2047
    ∈ h.rxChans frm.epoch 0 ∧ h.cfgFor frm.epoch CX_SC_VALIDATE 2047 = 2 ∧ beNat (slice (List.replicate 12 0 ++ [0x88,
    0x8E]) 12 2) = 0x888E := ⟨putCfg (putCfg wKey CX_SC_FLAGS 35 2047) CX_SC_VALIDATE 2 2047, by decide +kernel⟩

theorem witness_rxChannel : ∃ h : Hw, h.rxChan 127 sciFrm = some 0 ∧ (secTag sciFrm).sci = some 0x0102030405060708 ∧
    h.rxChan 127 secFrm = none ∧ (secTag secFrm).sci = none :=
  ⟨putCfg (putCfg (putCfg wKey CX_SC_FLAGS 3 0) CX_SC_PORT 127 0) CX_SC_SCI 0x0807060504030201 0, by decide +kernel⟩

theorem witness_rxRelease : ∃ h : Hw, h.cfg CX_SC_VALIDATE 3 = 2 ∧ h.cfg CX_SC_VALIDATE 4 = 1 ∧ (h.scAt 3).sa 1 = some
    { slot := 20, pn := 5, ssci := 0, salt := 0 } ∧ h.scFlag 3 4 = true ∧ 4 < 5 ∧ h.scFlag 4 4 = false :=
  ⟨(putCfg (putCfg (putCfg wKey CX_SC_FLAGS 19 3) CX_SC_VALIDATE 2 3) CX_SC_VALIDATE 1 4).setSc 3 (fun _ => { sas := [(1, { slot := 20, pn := 5, ssci := 0, salt := 0 })] }), by decide +kernel⟩

theorem witness_frameDone : ∃ h : Hw, h.Live rgPacket ∧ h.ks.works.find? (fun x => x.wid == 1 && !x.done) = some ⟨1,
    0, 0, 20, 0, 0, false, false, none, none, true, false⟩ ∧ h.ks.works.find? (fun x => x.wid == 2 && !x.done) = none
    :=
  ⟨{ w with ks := { w.ks with works := [⟨1, 0, 0, 20, 0, 0, false, false, none, none, true, false⟩] } }, by unfold Hw.Live; decide⟩

theorem witness_staleGen : ∃ h : Hw, h.Live rgPacket ∧ h.ks.shadows = [⟨20, 0, 5, 1⟩] ∧ (⟨20, 0, 5, 1⟩ : Shadow).since
    + 80 ≤ h.clk.ut ∧ h.ks.erasing = [] ∧ h.ks.held = [] ∧ h.ks.erases = [] :=
  ⟨{ w with ks := { w.ks with shadows := [⟨20, 0, 5, 1⟩] }, clk := { w.clk with ut := 81 } }, by unfold Hw.Live; decide⟩

theorem witness_saInstall : ∃ h : Hw, h.Ready hdr ∧ (h.cmdTake hdr).rd CX_KS_STATUS_ALARM = 0 ∧ 2047 < 2048 ∧ 3 < 4 ∧
    (h.cmdTake hdr).scFlag 2047 0 = true ∧ (h.cmdTake hdr).scFlag 2047 1 = false ∧ 0 < 1 ∧ 1 ≤ (h.cmdTake hdr).pnLast
    2047 ∧ (h.cmdTake hdr).slotOwner 20 = none ∧ ((h.cmdTake hdr).scAt 2047).sa 3 = none ∧ (h.cmdTake hdr).rd
    CX_SLOT_ATTR_TYPE 20 = suiteType ((h.cmdTake hdr).cfg CX_SC_SUITE 2047) ∧ bitOf ((h.cmdTake hdr).rd
    CX_SLOT_ATTR_USE 20) 1 = true := ⟨putCfg wKey CX_SC_FLAGS 1 2047, by unfold Hw.Ready; decide +kernel⟩

theorem witness_saPresent : ∃ h : Hw, h.Ready hdr ∧ (h.cmdTake hdr).rd CX_KS_STATUS_ALARM = 0 ∧ ((h.cmdTake hdr).scAt
    2047).sa 3 = some { slot := 20, pn := 5, ssci := 0, salt := 0 } ∧ ((h.cmdTake hdr).scAt 2047).cur = some 3 ∧
    ((h.cmdTake hdr).scAt 2047).cur ≠ some 2 ∧ ((h.cmdTake hdr).scAt 2047).next = none ∧ (h.cmdTake hdr).scFlag 2047 1
    = false :=
  ⟨(putCfg wKey CX_SC_FLAGS 1 2047).setSc 2047 (fun _ => { sas := [(3, { slot := 20, pn := 5, ssci := 0, salt := 0 })], cur := some 3 }), by unfold Hw.Ready; decide +kernel⟩

/-! ### The dispatcher, service cores and mailboxes -/

/-- Item 1 on list 0, of which engine 0 is free. -/
def wItem : Hw := ((w.wr PP_ENG_STATUS_ENG_IN_SERVICE 1).wr PP_ENG_STATUS_CLU_IN_SERVICE 1).setList 0 [itm]

theorem witness_listTakesItem : ∃ h : Hw, (h.listAt 0).length < h.listRoom 0 itm.work ∧ (putCfg w SV_DISPATCH_CAP 256
    0 0).listRoom 0 itm.work ≤ (w.listAt 0).length := ⟨putCfg w SV_DISPATCH_CAP 257 0 0, by decide +kernel⟩

theorem witness_listPressure : ∃ h : Hw, h.cfg SV_DISPATCH_BP_OFF 0 4 ≤ h.cfg SV_DISPATCH_BP_ON 0 4 ∧ h.cfg
    SV_DISPATCH_BP_ON 0 4 < [itm, itm, itm].length ∧ h.cfg SV_DISPATCH_BP_OFF 0 4 < [itm, itm].length ∧ [itm].length ≤
    h.cfg SV_DISPATCH_BP_OFF 0 4 :=
  ⟨putCfg (putCfg w SV_DISPATCH_BP_OFF 1 0 4) SV_DISPATCH_BP_ON 2 0 4, by decide +kernel⟩

theorem witness_dispatchSelect : ∃ h : Hw, h.runs rgControl = true ∧ h.unitFree 0 = true ∧ h.releaseRoom (if 0 < 48
    then 0 else 1) = true ∧ (h.takeItem 0 0).isSome = true ∧ ((wItem.setList 0 []).pickItem (if 0 < 48 then 0 else 1)
    0).isNone = true ∧ (w.wr PP_ENG_STATUS_ENG_IN_SERVICE 0).unitFree 0 = false := ⟨wItem, by decide +kernel⟩

theorem witness_atomicTag : ∃ h : Hw, h.atomic 4064 = true ∧ (3, { itm with tag := 4064 }) ∈ h.pk.svc ∧ itm.id = 1 :=
  ⟨w.setPk (fun p => { p with svc := [(3, { itm with tag := 4064 })] }), by decide⟩

theorem witness_releaseOrder : ∃ h : Hw, h.orderOf itm.tag = 7 :: [1] ∧ 7 ≠ itm.id ∧ h.pk.waits.any (fun x => x.1 ==
    7) = false := ⟨w.setPk (fun p => { p with order := [(0, [7, 1])] }), by decide⟩

theorem witness_coreItem : ∃ h : Hw, h.Live rgControl ∧ h.pk.svc.find? (fun x => x.1 == 48 + 2) = some (50, itm) ∧
    itm.work.frame? = some frm := ⟨w.setPk (fun p => { p with svc := [(50, itm)] }), by unfold Hw.Live; decide⟩

theorem witness_coreFailed : ∃ h : Hw, 2 < 16 ∧ ((h.setCore 2 5 0).quarantine (0x7010 + 2) 2).coresIn 3 ≠ [] :=
  ⟨w.wr SV_CORE_STATUS_STATE 3 4, by decide +kernel⟩

theorem witness_unsupportedOpcode : (Instr.unsupportedOpcode hdr 0x06).wf = true ∧ (st wRing).hw.Ready hdr :=
  by unfold Hw.Ready; decide

/-- An image of no payload for this part. -/
def img : List Byte := leBytes 4 0x4E564944 ++ leBytes 2 1 ++ leBytes 6 0 ++ leBytes 4 7 ++ leBytes 4 64 ++ leBytes 4 0 ++ leBytes 2 0

theorem witness_fwUpdate : ∃ h : Hw, h.Ready hdr ∧ (h.cmdTake hdr).pk.fwUp = none ∧ (h.cmdTake hdr).coresIn 3 ≠ [] ∧
    64 % 64 = 0 ∧ (h.cmdTake hdr).fwCheck img true = none ∧ (h.cmdTake hdr).fwCheck img false = some (stRange, 2) :=
  ⟨((wRing.wr SV_FW_STATUS_MIN_SEC_VER 7).wr SV_CORE_STATUS_STATE 3 4).wr ID_REV_MAJOR 1, by unfold Hw.Ready; decide +kernel⟩

theorem witness_fwRollback : ∃ h : Hw, leNat (slice img 0 4) = 0x4E564944 ∧ leNat (slice img 4 2) = 1 ∧ leNat (slice
    img 16 4) ≤ 196608 ∧ leNat (slice img 16 4) % 64 = 0 ∧ leNat (slice img 24 2) ≤ h.rd ID_REV_MAJOR * 256 + h.rd
    ID_REV_MINOR ∧ leNat (slice img 12 4) < h.rd SV_FW_STATUS_MIN_SEC_VER :=
  ⟨w.wr SV_FW_STATUS_MIN_SEC_VER 8, by decide⟩

theorem witness_fwSwap : ∃ h : Hw, h.Live rgControl ∧ h.pk.fwUp = some
    { ver := 9, sec := 7, todo := [3], spare := 4, ring := 0, cmd := 7 } ∧ 3 ≠ 4 ∧ 9 < 2 ^ 32 ∧ look (h.pk.svc.map
    (fun x => (x.1, true))) (48 + 3) false = false :=
  ⟨w.setPk (fun p => { p with fwUp := some { ver := 9, sec := 7, todo := [3], spare := 4, ring := 0, cmd := 7 } }), by unfold Hw.Live; decide⟩

theorem witness_pmDump : ∃ h : Hw, h.Ready hdr ∧ ((h.cmdTake hdr).pmKind 35).isSome = true ∧ 0 < 1 ∧ 4351 + 1 ≤ 4352 ∧
    4352 < 4351 + 2 ∧ 35 < 36 ∧ 36 ≤ 36 := ⟨wRing, by unfold Hw.Ready; decide⟩

/-! ### Rings, epochs and register access -/

theorem witness_hostCmdForms : ∃ h : Hw, w.cmdReady hdr = false ∧ h.cmdReady hdr = true ∧ h.cmdPhaseOk
    { hdr with phase := false } = false ∧ h.cmdPhaseOk hdr = true ∧ h.complOk { hdr with compl := 63 } = false ∧
    h.cmdReady { hdr with compl := 63 } = true := ⟨wRing, by decide⟩

theorem witness_completionWritten : 1 ≤ wRing.ringRoom (144 + 0) ∧ wRing.ringRoom (144 + 1) = 0 ∧ 7 < 8 := by decide

theorem witness_eventDropped : ∃ h : Hw, w.rd HI_EVT_ROUTE_ENABLE 5 = 0 ∧ h.rd HI_EVT_ROUTE_ENABLE 5 ≠ 0 ∧ 1 ≤
    h.ringRoom (144 + h.rd HI_EVT_ROUTE_RING 5) ∧ (w.wr HI_EVT_ROUTE_ENABLE 1 5).ringRoom (144 + (w.wr
    HI_EVT_ROUTE_ENABLE 1 5).rd HI_EVT_ROUTE_RING 5) = 0 := ⟨wRing.wr HI_EVT_ROUTE_ENABLE 1 5, by decide⟩

theorem witness_cipherEvents : ∃ h : Hw, h.host.cipherQ ≠ [] ∧ 64 ≤ h.host.cipherQ.length ∧
    ({ w with host := { w.host with cipherQ := [(0, [], [])] } } : Hw).host.cipherQ.length < 64 :=
  ⟨{ w with host := { w.host with cipherQ := List.replicate 64 (0, [], []) } }, by decide⟩

theorem witness_ringEnableWrite : (st w).hw.Open (regBlock .HI_RING 215 0) ∧ (st w).hw.rd HI_RING_ENABLE 215 = 0 ∧
    bitOf 0x1001 0 = true ∧ bitOf 0 0 = false ∧ (st wRing).hw.rd HI_RING_ENABLE 144 ≠ 0 ∧ (st wRing).hw.Open (regBlock
    .HI_RING 144 0) ∧ (st wRing).hw.Open (regBlock .HI_EMERG 0 0) := by unfold Hw.Open; decide

theorem witness_doorbellSlot : ∃ h : Hw, 4 < (h.ringAt 3).slot ∧ 3 < 144 ∧ (h.ringAt 3).cons + h.ringSize 3 < 65 ∧
    (h.ringAt 3).slot ≤ 64 ∧ 64 ≤ (h.ringAt 3).cons + h.ringSize 3 ∧ (h.ringAt 144).prod < 1 ∧ 0 ≤ (h.ringAt 144).prod
    := ⟨w.setRing 3 (fun s => { s with slot := 5 }), by decide⟩

theorem witness_txDescriptor : ∃ h : Hw, h.Live rgControl ∧ h.ringOn 0 = true ∧ (h.ringAt 0).cons < (h.ringAt 0).prod
    ∧ h.sourceHeld (130 + 0) = false ∧ h.runs rgPacket = true ∧ true = passPhase (h.ringSize 0) (h.ringAt 0).cons ∧
    (w.ringAt 0).prod ≤ (w.ringAt 0).cons ∧ 13 < 14 ∧ 9724 < 9725 ∧ (List.replicate 14 (0 : Byte)).length = 14 :=
  ⟨(w.wr HI_RING_ENABLE 1 0).setRing 0 (fun s => { s with prod := 1 }), by unfold Hw.Live; decide⟩

theorem witness_txDropped : (w.wr SF_LEVEL_HELD 2).rd SF_LEVEL_HELD = 2 ∧ w.rd SF_LEVEL_HELD ≠ 2 ∧ bitOf 4 2 = true ∧
    bitOf 4 0 = false ∧ 1024 ≤ 1024 := by decide

theorem witness_rxWriteback : ∃ h : Hw, h.Live rgControl ∧ h.toHost.find? (fun x => x.1 == 64 + 0) = some (64, frm) ∧
    h.ringOn (64 + 0) = true ∧ (h.ringAt (64 + 0)).cons < (h.ringAt (64 + 0)).prod ∧ 59 < frm.bytes.length - frm.fcs ∧
    frm.bytes.length - frm.fcs ≤ 60 ∧ w.toHost.find? (fun x => x.1 == 64 + 0) = none :=
  ⟨{ (w.wr HI_RING_ENABLE 1 64).setRing 64 (fun s => { s with prod := 1 }) with toHost := [(64, frm)] }, by unfold Hw.Live; decide⟩

theorem witness_msixSignal : ∃ h : Hw, h.Live rgControl ∧ (look h.host.vecs 4 {}).count ≠ 0 ∧ max 1 (h.rd
    HI_VEC_MOD_CNT 4) ≤ (look h.host.vecs 4 {}).count ∧ (look w.host.vecs 4 {}).count = 0 :=
  ⟨{ w.wr HI_VEC_MOD_CNT 2 4 with host := { w.host with vecs := [(4, { count := 2, since := 0 })] } }, by unfold Hw.Live; decide⟩

theorem witness_msixSignal_waits : ∃ h : Hw, (look h.host.vecs 4 {}).count < max 1 (h.rd HI_VEC_MOD_CNT 4) ∧ h.clk.ut
    < (look h.host.vecs 4 {}).since + h.rd HI_VEC_MOD_UT 4 :=
  ⟨{ (w.wr HI_VEC_MOD_CNT 2 4).wr HI_VEC_MOD_UT 80 4 with host := { w.host with vecs := [(4, { count := 1, since := 0 })] } }, by decide⟩

theorem witness_epochOpen : ∃ h : Hw, h.Ready hdr ∧ (h.cmdTake hdr).pstate = psNone ∧ (h.cmdTake hdr).ep.rollback =
    false ∧ (h.cmdTake hdr).rd HI_EPOCH_STATUS_DRAINING = 0 ∧ hdr.epoch = (h.cmdTake hdr).rd HI_EPOCH_STATUS_CURRENT ∧
    ({ hdr with epoch := 9 } : CmdHdr).epoch ≠ (h.cmdTake hdr).rd HI_EPOCH_STATUS_CURRENT :=
  ⟨wRing, by unfold Hw.Ready; decide⟩

theorem witness_epochOpen_drains : ∃ h : Hw, h.Ready hdr ∧ (h.cmdTake hdr).rd HI_EPOCH_STATUS_DRAINING ≠ 0 ∧
    (h.cmdTake hdr).rd HI_EPOCH_STATUS_PREVIOUS = noEpoch ∧ ((h.wr HI_EPOCH_STATUS_PREVIOUS 3).cmdTake hdr).rd
    HI_EPOCH_STATUS_PREVIOUS ≠ noEpoch := ⟨wRing.wr HI_EPOCH_STATUS_DRAINING 1, by unfold Hw.Ready; decide⟩

/-- The block of wRing with epoch 0 pending in state `x`. -/
def wPend (x : Nat) : Hw := (wRing.wr HI_EPOCH_STATUS_PENDING 0).wr HI_EPOCH_STATUS_PSTATE x

theorem witness_stagingStops : (st (wPend psValidating)).hw.Ready hdr ∧ hdr.epoch = ((wPend psValidating).cmdTake
    hdr).pendNum ∧ ((wPend psValidating).cmdTake hdr).pstate ≠ psNone ∧ ((wPend psValidating).cmdTake hdr).pstate ≠
    psOpen ∧ (wRing.cmdTake hdr).pstate = psNone := by unfold Hw.Ready; decide

/-- A configuration image of one object of eight octets. -/
def cfgImg : List Byte :=
  let r := leBytes 2 1 ++ leBytes 2 0 ++ leBytes 4 8 ++ leBytes 8 0
  leBytes 4 0x43474645 ++ leBytes 2 1 ++ leBytes 2 1 ++ leBytes 4 80 ++ leBytes 4 (crc32c 0xFFFFFFFF r) ++ leBytes 48 0 ++ r

theorem witness_cfgLoad : (st (wPend psOpen)).hw.Ready hdr ∧ ((wPend psOpen).cmdTake hdr).pstate = psOpen ∧ hdr.epoch
    = ((wPend psOpen).cmdTake hdr).pendNum ∧ 4 % 8 ≠ 0 ∧ 8 % 8 = 0 ∧ imgParse [] = none ∧ cfgImg.length = 80 :=
  by unfold Hw.Ready; decide +kernel

theorem witness_objectStaged : ObjType.ofCode 1 = some .TIME_CORE ∧ 0 < ObjType.TIME_CORE.count ∧ ObjType.TIME_CORE ≠
    .PARSER_PROG := by decide

theorem witness_tblWrite : ∃ h : Hw, 3 < 4 ∧ 3 ≤ 3 ∧ 1 ≤ 1 ∧ 0 < 65536 ∧ 65536 < 65537 ∧ ((wPend psOpen).cmdTake
    hdr).runs rgPacket = true ∧ (h.cmdTake hdr).runs rgPacket = false :=
  ⟨(wPend psOpen).wr SF_REGION_STATE stReloading rgPacket, by decide⟩

theorem witness_entryRefused : ∃ h : Hw, (h.pk.tables.find? (fun t => t.vis == 4 && sameEntry t (listEntry 0
    (List.replicate 64 0)))).isSome = true ∧ w.pk.tables.find? (fun t => t.vis == 4 && sameEntry t (listEntry 0
    (List.replicate 64 0))) = none :=
  ⟨{ w with pk := { w.pk with tables := [{ listEntry 0 (List.replicate 64 0) with vis := 4 }] } }, by decide +kernel⟩

theorem witness_epochCommit : ∃ h : Hw, h.Ready hdr ∧ (h.cmdTake hdr).pstate = psOpen ∧ hdr.epoch = (h.cmdTake
    hdr).pendNum ∧ (h.cmdTake hdr).tick + 8000000 < 8000001 ∧ 8000000 ≤ (h.cmdTake hdr).tick + 8000000 :=
  ⟨wPend psOpen, by unfold Hw.Ready; decide⟩

theorem witness_validationDone : ∃ h : Hw, h.Live rgControl ∧ h.pstate = psValidating ∧ h.ep.valid = false ∧ w.pstate
    ≠ psValidating := ⟨wPend psValidating, by unfold Hw.Live; decide⟩

theorem witness_epochAbort : ((wPend psArmed).cmdTake hdr).pstate = psArmed ∧ ((wPend psOpen).cmdTake hdr).pstate ≠
    psNone ∧ hdr.epoch = ((wPend psOpen).cmdTake hdr).pendNum ∧ ((wPend psOpen).cmdTake hdr).pstate ≠ psArmed :=
  by decide

theorem witness_epochRollback : ∃ h : Hw, h.Ready hdr ∧ (h.cmdTake hdr).pstate = psNone ∧ (h.cmdTake hdr).ep.rollback
    = false ∧ hdr.epoch = (h.cmdTake hdr).rd HI_EPOCH_STATUS_CURRENT ∧ (h.cmdTake hdr).rd HI_EPOCH_STATUS_PREVIOUS ≠
    noEpoch ∧ (wRing.cmdTake hdr).rd HI_EPOCH_STATUS_PREVIOUS = noEpoch :=
  ⟨wRing.wr HI_EPOCH_STATUS_PREVIOUS 3, by unfold Hw.Ready; decide⟩

theorem witness_epochArm : ∃ h : Hw, (∀ r ∈ [rgLine, rgFawn, rgPortW, rgPortE, rgPacket, rgMemory, rgControl],
    h.regionState r ≠ stStopped ∧ h.regionState r ≠ stReloading) ∧ (∀ r ∈ [rgLine, rgFawn, rgPortW, rgPortE, rgPacket,
    rgMemory, rgControl], h.regionReady [] r = true) ∧ h.ep.rollback = false ∧ h.pstate = psValidating ∧ h.rd
    HI_EPOCH_STATUS_DRAINING = 0 ∧ h.ep.flipTick ≤ h.tick + 1 ∧ h.regionReady [rgPacket] rgPacket = false :=
  ⟨{ wPend psValidating with ep := { w.ep with valid := true, flipTick := 1 } }, by decide⟩

theorem witness_noFlip : w.ep.rbArmed = false ∧ w.pstate ≠ psArmed := by decide

theorem witness_drainEnd : ∃ h : Hw, h.Live rgControl ∧ h.rd HI_EPOCH_STATUS_DRAINING ≠ 0 ∧ h.framesOf h.ep.drainNum =
    false ∧ h.ep.drainUt + h.drainLimit < h.clk.ut :=
  ⟨{ wRing.wr HI_EPOCH_STATUS_DRAINING 1 with clk := { w.clk with ut := 100000000 } }, by unfold Hw.Live; decide⟩

theorem witness_drainHeld : ∃ h : Hw, h.framesOf h.ep.drainNum = true ∧ h.clk.ut ≤ h.ep.drainUt + h.drainLimit ∧ h.rd
    HI_EPOCH_STATUS_DRAINING = 0 := ⟨{ w with toHost := [(64, frm)] }, by decide⟩

theorem witness_gatedBlocks : ∃ h : Hw, 0x5000 / 0x1000 ≠ 0 ∧ 0x5000 / 0x1000 ≠ rgFawn ∧ 0x5000 ≠ 0x5040 ∧
    h.regionState (0x5000 / 0x1000) = stReloading ∧ 0x2FFF / 0x1000 = rgFawn :=
  ⟨w.wr SF_REGION_STATE stReloading 5, by decide⟩

theorem witness_gatedAccess : ∃ h : Hw, (barAt (17 * 0x10000)).block = (barAt (17 * 0x10000)).block ∧ h.barOn = true ∧
    h.decodes 0x1000 = true ∧ h.gatedBlock 0x1000 = true ∧ h.rd SF_REGION_GATED_ACCESS 1 = 0 :=
  ⟨w.wr SF_REGION_STATE stReloading 1, by decide⟩

theorem witness_badAcc : (st w).hw.barOn = true ∧ (2 ≠ 4 ∧ 2 ≠ 8) ∧ 6 % 4 ≠ 0 ∧ 12 % 8 ≠ 0 := by decide

theorem witness_pcieLinkTrained : (st w).hw.Live rgFawn ∧ (st w).hw.rd PW_STATUS_PSTATE ≠ 3 :=
  by unfold Hw.Live; decide

theorem witness_barSilent : (st { w with pw := { w.pw with link := false } }).hw.barOn = false := by decide

theorem witness_guardedFields : wRing.rd HI_RING_ENABLE 128 ≠ 0 ∧ 1 ≠ 2 ∧ wRing.rd HI_CFG_RUN ≠ 0 := by decide

theorem witness_offsets : barAt 8 = .none ∧ barAt 264 = .reg .GL_TICK_NUM 0 0 0 ∧ barAt (2 ^ 20) = .reg .LN_RX_CTRL 0
    0 0 ∧ (barAt (2 ^ 20)).block = 0x1000 ∧ (barAt (2 ^ 20 + 4)).block = 0x1000 ∧ (st w).hw.Open (regBlock
    .GL_TICK_NUM 0 0) ∧ w.latch.find? (fun x => x.1 == ⟨.GL_TICK_NUM, 0, 0, 0⟩) = none ∧ RegName.GL_TICK_NUM ≠
    .GL_DBG_DATA ∧ RegName.GL_TICK_NUM ≠ .LN_FB_CAP := by unfold Hw.Open; decide

theorem witness_latchedWord : ∃ h : Hw, barAt 268 = .reg .GL_TICK_NUM 0 0 1 ∧ (h.latch.find? (fun x => x.1 ==
    ⟨.GL_TICK_NUM, 1, 0, 0⟩)).map Prod.snd = some 3 := ⟨{ w with latch := [(⟨.GL_TICK_NUM, 1, 0, 0⟩, 3)] }, by decide⟩

/-! ### Supervision, regions and the event recorder -/

theorem witness_cellError : (st w).hw.Live rgFawn ∧ (st w).hw.Live rgPacket ∧ (st w).hw.Live rgControl ∧ 7 < 8 ∧ 1 < 2
    ∧ 2 ≤ 15 ∧ (w.wr SF_REGION_STATE stFailed 5).runs (0x5000 / 0x1000) = false ∧ 41 < 42 := by unfold Hw.Live; decide

theorem witness_detectionOnset : 13 < 14 ∧ (w.detAt 1 0).now = false ∧ (w.detAt 1 0).last = false := by decide

/-- Detection 1 was found in the tick before, detection 2 in this one. -/
def wDet : Hw := { w with sf := { w.sf with dets := [((1, 0), { last := true }), ((2, 0), { now := true })], reactReq := 2 } }

theorem witness_detectionGoesOn : (wDet.detAt 1 0).now = false ∧ (wDet.detAt 1 0).last = true ∧ (wDet.detAt 2 0).now =
    true ∧ wDet.sf.reactReq ≠ 0 ∧ wDet.sf.reactPorts = [] ∧ wDet.sf.reactPins = [] := by decide

theorem witness_sfAck : ∃ h : Hw, h.Open (regBlock .SF_CTRL 0 0) ∧ 2 ∈ h.latched ∧ h.classAbsent 2 = false ∧ (∀ k ∈
    (w.wr SF_STATUS_GLOBAL 1).latched, (w.wr SF_STATUS_GLOBAL 1).classAbsent k = true) ∧ (w.wr SF_STATUS_GLOBAL 1).rd
    SF_STATUS_GLOBAL ≠ 0 ∧ w.sf.acked = false ∧ { w with sf := { w.sf with acked := true } }.sf.acked = true :=
  ⟨(wDet.wr SF_STATUS_CLASS 2).wr SF_STATUS_GLOBAL 1, by unfold Hw.Open; decide⟩

theorem witness_crossCheck : ∃ h : Hw, 3 < 4 ∧ [(3, 2 ^ 60), (0, 0), (1, 0)].find? (fun q : Nat × Int => q.1 == 3) =
    some (3, 2 ^ 60) ∧ h.srcFaulty 3 = false ∧ h.suspects [(3, 2 ^ 60), (0, 0), (1, 0)] (3, 2 ^ 60) = true ∧ h.cfg
    TC_XCHK_N ≤ look h.sf.suspect 3 0 + 1 ∧ 1 ≤ h.cfg TC_XCHK_N ∧ h.suspects [(3, 0), (0, 0)] (3, 0) = false :=
  ⟨putCfg w TC_XCHK_N 1, by decide +kernel⟩

theorem witness_crossCheck_recovers : ∃ h : Hw, h.srcFaulty 3 = true ∧ [(3, 0)].any (fun q : Nat × Int => q.1 != 3 &&
    h.disagree (3, 0) q) = false ∧ 79999 ≤ look h.sf.agree 3 0 :=
  ⟨{ w.wr SF_STATUS_MODEL_FAULTY 1 with sf := { w.sf with agree := [(3, 79999)] } }, by decide⟩

theorem witness_selfCheck : ∃ h : Hw, h.runs rgControl = true ∧ h.Open (regBlock .SF_CTRL 0 0) ∧ h.Live rgFawn ∧
    h.sf.chkTicks < h.cfg TC_SELFCHK_H * 28800000 ∧ { h with sf := { h.sf with chkTicks := 28800000 } }.cfg
    TC_SELFCHK_H * 28800000 ≤ { h with sf := { h.sf with chkTicks := 28800000 } }.sf.chkTicks :=
  ⟨putCfg w TC_SELFCHK_H 1, by unfold Hw.Live Hw.Open; decide +kernel⟩

theorem witness_injection : (st w).hw.Open (regBlock .SF_CTRL 0 0) ∧ bits 0x5AFE0B30 16 16 = 0x5AFE ∧
    (w.sf.inject.getD (0, 0)).1 ≠ 6 ∧ bits 0x5AFE0B30 4 4 ∈ [2, 3, 4, 5, 7, 8, 9, 10, 11] ∧ bits 0x30 16 16 ≠ 0x5AFE ∧
    11 < bits 0x5AFE00C0 4 4 := by unfold Hw.Open; decide

theorem witness_thermal : ∃ h : Hw, h.Live rgFawn ∧ 8 ≤ h.sf.hotRun ∧ h.sf.coolFrom = some 0 ∧ 0 + 38400000 ≤ h.clk.ut
    ∧ w.sf.hotRun < 8 ∧ w.sf.coolFrom = none :=
  ⟨{ w with sf := { w.sf with hotRun := 8, coolFrom := some 0, toCauses := [1, 5] }, clk := { w.clk with ut := 38400000 } }, by unfold Hw.Live; decide⟩

theorem witness_levelCommands : (st w).hw.Open (regBlock .SF_LEVEL_CMD 0 0) ∧ [5].all (· == 5) = true ∧ [5, 1].all (·
    == 5) = false := by unfold Hw.Open; decide

theorem witness_levelShown : ∃ h : Hw, h.levelHeld.rd SF_STATUS_GLOBAL ≠ 0 ∧ 3 < 4 ∧ 3 ≠ h.rd SF_LEVEL_LEVEL ∧ 7 < 2 ^
    SF_LEVEL_CAUSE.width := ⟨w.wr SF_STATUS_GLOBAL 1, by decide +kernel⟩

theorem witness_regions : (st w).hw.Live rgFawn ∧ rgControl ≠ rgFawn ∧ 1 ≤ rgControl ∧ rgControl ≤ 7 ∧ w.runs
    rgControl = true ∧ rgPacket ∈ [rgPortW, rgPortE, rgPacket, rgMemory, rgControl] ∧ w.regionState rgPacket = stRun ∧
    (w.regionAt rgPacket).offPend = false ∧ (3 : Nat) ≠ 2 ∧ (w.wr SF_REGION_AUTO_DIS 1 5).rd SF_REGION_AUTO_DIS
    rgPacket ≠ 0 := by unfold Hw.Live; decide

theorem witness_regionReload : ∃ h : Hw, h.Live rgFawn ∧ h.rd SF_REGION_STATE rgPortE = stStopped ∧ (h.regionAt
    rgPortE).offPend = false ∧ rgPortE ∈ [rgLine, rgPortW, rgPortE, rgPacket, rgControl] ∧ (h.regionAt rgPortE).cause
    ∈ [1, 2, 3, 4] ∧ w.rd SF_REGION_STATE rgPortE ≠ stStopped :=
  ⟨(w.wr SF_REGION_STATE stStopped rgPortE).setRegion rgPortE (fun x => { x with cause := 4 }), by unfold Hw.Live; decide⟩

theorem witness_reloadWrite : (st w).hw.Open (regBlock .SF_REGION 7 0) ∧ bitOf 1 0 = true ∧ bitOf 2 0 = false ∧ 1 ≤ 7
    ∧ 7 ≤ 7 ∧ 7 ≠ rgFawn ∧ (st w).hw.regionState 7 = stRun ∧ (w.wr SF_REGION_STATE stReloading 7).rd SF_REGION_STATE 7
    = stReloading := by unfold Hw.Open; decide

theorem witness_regionReady : ∃ h : Hw, h.Live rgFawn ∧ rgPortW ∈ [rgPortW, rgPortE] ∧ h.rd SF_REGION_STATE rgPortW =
    stReloading ∧ (h.regionAt rgPortW).cause ≠ 0 ∧ w.rd SF_REGION_STATE rgPortW ≠ stReloading ∧ (w.wr SF_REGION_STATE
    stReloading rgMemory).runs rgMemory = false ∧ w.timeOnly = false :=
  ⟨(w.wr SF_REGION_STATE stReloading rgPortW).setRegion rgPortW (fun x => { x with cause := 4 }), by unfold Hw.Live; decide⟩

theorem witness_reloadTimeout : ∃ h : Hw, h.Live rgFawn ∧ h.rd SF_REGION_STATE rgPortW = stReloading ∧ (h.regionAt
    rgPortW).offPend = false ∧ (h.regionAt rgPortW).began + reloadBound rgPortW < h.tick ∧ w.tick ≤ (w.regionAt
    rgPortW).began + reloadBound rgPortW :=
  ⟨(w.wr SF_REGION_STATE stReloading rgPortW).wr GL_TICK_NUM_TICK (reloadBound rgPortW + 1), by unfold Hw.Live; decide⟩

theorem witness_controlLost : ∃ h : Hw, h.Live rgFawn ∧ h.sf.ctlFrom = some 0 ∧ 0 + 1280000 < h.clk.ut ∧ w.sf.ctlFrom
    = none :=
  ⟨{ w with sf := { w.sf with ctlFrom := some 0 }, clk := { w.clk with ut := 1280001 } }, by unfold Hw.Live; decide⟩

/-- A record of severity MAJOR. -/
def rcd : Rec := ⟨0, 0, 0, 0, 0, 0, 3, 2, 0x2000, 0x8001, leBytes 32 0⟩

theorem witness_recordPlaced : ringPlace [] 0 = some (0, false) ∧ ringPlace ((List.range 256).map (fun k => (k, ⟨k,
    false, rcd⟩))) 2 = none ∧ ringPlace ((List.range 256).map (fun k => (k, ⟨k, false, rcd⟩))) 3 = some (0, true) :=
  by decide +kernel

theorem witness_opHours : ∃ h : Hw, h.Live rgFawn ∧ 1800000 ≤ h.rcd.hourTick ∧ w.rcd.hourTick < 1800000 :=
  ⟨{ w with rcd := { w.rcd with hourTick := 1800000 } }, by unfold Hw.Live; decide⟩

/-- One uncommitted record, and a flash that is ready. -/
def wLog : Hw := { w with rcd := { w.rcd with ring := [(0, ⟨0, false, rcd⟩)], made := 1 }, pw := { w.pw with logOfs := 4096 } }

theorem witness_logWrite : ∃ h : Hw, h.Live rgFawn ∧ h.flashReady = true ∧ h.rcd.stopped = false ∧ h.logBusy = false ∧
    h.pw.flashOp = none ∧ h.oldestOpen = some (0, ⟨0, false, rcd⟩) ∧ h.rd EV_CFG_FLASH_MIN ≤ rcd.sev ∧ h.erasedSlot
    State.reset.nv = some 0 ∧ w.oldestOpen = none ∧ rcd.sev < (h.wr EV_CFG_FLASH_MIN 4).rd EV_CFG_FLASH_MIN ∧ rcd.code
    ≠ 0x8009 := ⟨wLog, by unfold Hw.Live; decide +kernel⟩

theorem witness_logWriteDone : ∃ h : Hw, h.Live rgFawn ∧ h.rcd.job = some (0, 5) ∧ h.rcd.rewrite = none ∧ h.rcd.tries
    = 0 ∧ w.rcd.job = none ∧ { h with rcd := { h.rcd with tries := 1 } }.rcd.tries ≠ 0 :=
  ⟨{ wLog with rcd := { wLog.rcd with job := some (0, 5) } }, by unfold Hw.Live; decide⟩

theorem witness_recordRead : (st w).hw.Open (regBlock .EV_RD_CTRL 0 0) ∧ bitOf 0x20000000 29 = true ∧ bitOf 5 29 =
    false := by unfold Hw.Open; decide

theorem witness_readDone : ∃ h : Hw, h.Live rgFawn ∧ h.rcd.readWait = true ∧ h.rd EV_RD_CTRL_RING ≠ 0 ∧
    h.rcd.ring.find? (fun x => x.1 == h.rd EV_RD_CTRL_INDEX) = some (0, ⟨0, false, rcd⟩) ∧ w.rcd.readWait = false :=
  ⟨{ wLog with rcd := { wLog.rcd with readWait := true } }.wr EV_RD_CTRL_RING 1, by unfold Hw.Live; decide⟩

theorem witness_readDone_log : ∃ h : Hw, h.rcd.readWait = true ∧ h.rd EV_RD_CTRL_RING = 0 ∧ h.logBusy = false ∧
    h.pw.flashOp = none ∧ h.rd EV_RD_CTRL_INDEX < 32768 :=
  ⟨{ wLog with rcd := { wLog.rcd with readWait := true } }.wr EV_RD_CTRL_INDEX 32767, by decide⟩

theorem witness_logErase : ∃ h : Hw, h.Open (regBlock .EV_CTRL 0 0) ∧ h.Live rgFawn ∧ h.rcd.erasing = some 3 ∧
    h.rcd.job = none ∧ h.rcd.erasing ≠ none ∧ bits 0xE5A50001 16 16 = 0xE5A5 ∧ bitOf 0xE5A50001 0 = true ∧
    wLog.flashReady = true ∧ wLog.rcd.erasing = none ∧ bits 1 16 16 ≠ 0xE5A5 :=
  ⟨{ wLog with rcd := { wLog.rcd with erasing := some 3 } }, by unfold Hw.Live Hw.Open; decide⟩

/-! ### Power, reset, start-up, flash and JTAG -/

/-- VDD_FAWN is present and FAWN runs, in P3. -/
def wP3 : Hw := w.wr PW_STATUS_PSTATE 3

theorem witness_vddFawnLow : (st w).hw.Live rgFawn ∧ 1640 < 1650 ∧ ¬ 1650 < 1650 ∧ ¬ 1800 < 1800 :=
  by unfold Hw.Live; decide

theorem witness_pwrOkFall : ∃ h : Hw, h.Live rgFawn ∧ h.rd PW_STATUS_PSTATE ≠ 3 ∧ h.clk.refosc = false ∧ w.clk.refosc
    = true ∧ w.rd PW_STATUS_PSTATE ≠ 3 :=
  ⟨{ w with clk := { w.clk with refosc := false } }, by unfold Hw.Live; decide⟩

theorem witness_pwrOkFallCounter : (w.rd TC_INCR_INC : Int) ≤ (({ w with time := { w.time with now := 2 ^ 60 } } :
    Hw).time.now : Int) := by decide

theorem witness_chipReset : 3 < 4 := by decide

theorem witness_sysRstN : (st w).hw.Live rgFawn ∧ (st w).hw.rd PW_STATUS_PSTATE ≠ 3 := by unfold Hw.Live; decide

theorem witness_perstN : ∃ h : Hw, h.Live rgFawn ∧ h.rd PW_STATUS_PSTATE ≠ 3 ∧ h.rd PW_CTRL_PERST_SCOPE = 0 ∧ w.rd
    PW_CTRL_PERST_SCOPE ≠ 0 := ⟨w.wr PW_CTRL_PERST_SCOPE 0, by unfold Hw.Live; decide⟩

theorem witness_wakeInputs : ∃ h : Hw, h.Live rgFawn ∧ h.rd PW_STATUS_PSTATE = 3 ∧ h.pw.inStandby = false :=
  ⟨wP3, by unfold Hw.Live; decide⟩

theorem witness_pwrOkRise : ∃ h : Hw, h.Live rgFawn ∧ h.rd PW_STATUS_PWR_OK = 0 ∧ h.rcd.restored = false ∧ (w.wr
    PW_STATUS_PWR_OK 0).rcd.restored = true ∧ (w.wr PW_STATUS_PWR_OK 1).rd PW_STATUS_PWR_OK ≠ 0 :=
  ⟨{ w.wr PW_STATUS_PWR_OK 0 with rcd := { w.rcd with restored := false } }, by unfold Hw.Live; decide⟩

/-- A block whose identity is not loaded yet. -/
def wCold : Hw := { w with pw := { w.pw with product := false } }

/-- What BOOT finds in a flash of `n` bytes whose sections are good. -/
def bootIn (n : Nat) : BootIn := ⟨n, true, true, true, true, none, [], [], 0, [], [], [], [], 0⟩

theorem witness_bootRecovery : ∃ h : Hw, h.Live rgFawn ∧ h.pw.product = false ∧ h.pw.recovery = false ∧ h.rd
    PW_STATUS_PSTATE ≠ 3 ∧ h.rd PW_BOOT_STATUS_FAIL_CODE = 0 ∧ (bootIn 4096).size < 2 ^ 24 ∧ 2 ^ 24 ≤ (bootIn (2 ^
    24)).size ∧ bootHeaderOk State.reset.nv (2 ^ 24) = false ∧ w.pw.product = true :=
  ⟨wCold, by unfold Hw.Live; decide⟩

/-- A flash with a header of one section, the supervisor firmware at 4 MiB. -/
def goodFlash : List Host.Cell :=
  [(0, 0x42), (1, 0x4F), (2, 0x4F), (3, 0x54), (4, 1), (5, 0), (6, 1), (7, 0), (8, 0), (9, 0x10), (10, 0), (11, 0), (12, 0), (13, 0),
   (14, 0x30), (15, 0), (64, 3), (65, 0), (66, 0), (68, 0), (69, 0), (70, 0x40), (71, 0), (72, 0), (73, 1), (74, 0), (75, 0)]

theorem witness_bootPasses : ∃ h : Hw, h.Live rgFawn ∧ h.pw.product = false ∧ h.pw.recovery = false ∧ h.rd
    PW_STATUS_PSTATE ≠ 3 ∧ 2 ^ 24 ≤ (bootIn (2 ^ 24)).size ∧ flashWf goodFlash = true ∧ bootHeaderOk
    { State.reset.nv with flash := goodFlash } (bootIn (2 ^ 24)).size = true ∧ (bootIn (2 ^ 24)).keysOk = true ∧
    (bootIn (2 ^ 24)).factoryOk = true ∧ (bootIn (2 ^ 24)).productOk = true ∧ sectionOf
    { State.reset.nv with flash := goodFlash } 5 0 = none := ⟨wCold, by unfold Hw.Live; decide +kernel⟩

theorem witness_startUp : ∃ h : Hw, h.Live rgFawn ∧ h.pw.product = true ∧ h.pw.recovery = false ∧ h.rd
    PW_STATUS_PSTATE ≠ 3 ∧ h.pw.signed = 0 ∧ wCold.pw.product = false := ⟨w, by unfold Hw.Live; decide⟩

theorem witness_regionStarts : ∃ h : Hw, rgPacket ∈ [rgControl, rgPacket, rgPortW, rgPortE, rgLine] ∧ h.regionEnabled
    rgPacket = true ∧ (h.regionAt rgPacket).powered = false ∧ h.rd SF_REGION_STATE rgPacket ≠ stFailed ∧ (w.regionAt
    rgPacket).powered = true := ⟨w.setRegion rgPacket (fun x => { x with powered := false }), by decide⟩

theorem witness_standbyWrite : (st w).hw.Open (regBlock .PW_CTRL 0 0) ∧ bits 0x5B1D0001 16 16 = 0x5B1D ∧ bitOf
    0x5B1D0001 0 = true ∧ bits 1 16 16 ≠ 0x5B1D ∧ bitOf 0x5B1D0000 0 = false := by unfold Hw.Open; decide

theorem witness_standbyWakeTimeout : ∃ h : Hw, h.Live rgFawn ∧ h.pw.wakeFrom = some 0 ∧ 0 + 12800 ≤ h.clk.ut ∧ h.rd
    PW_STATUS_PWR_OK = 0 ∧ 12799 < 0 + 12800 ∧ w.pw.wakeFrom = none :=
  ⟨{ w.wr PW_STATUS_PWR_OK 0 with pw := { w.pw with wakeFrom := some 0 }, clk := { w.clk with ut := 12800 } }, by unfold Hw.Live; decide⟩

theorem witness_stateChosen : ∃ h : Hw, h.choose 32 = 4 ∧ 1 < h.unitTol 32 ∧ (w.wr PW_TOL_TOL_US 1 32).unitTol 32 ≤ 1
    ∧ (h.wr PW_TOL_TOL_US 79 32).choose 32 = 3 ∧ unitStates 32 = [] ++ 4 :: [3] ∧ 3 ∈ [3] ∧ h.choose 32 ≠ 0 :=
  ⟨{ w.wr PW_TOL_TOL_US 80 32 with clk := { w.clk with ut := 100000 } }, by decide⟩

theorem witness_refusals : ∃ h : Hw, (w.wr SF_REGION_STATE stFailed rgPacket).runs (unitRegion 32) = false ∧ h.runs
    (unitRegion 33) = true ∧ (h.blkAt 33).wakeNow = true :=
  ⟨w.setBlk 33 (fun b => { b with wakeNow := true }), by decide⟩

theorem witness_powerStateEntered : ∃ h : Hw, h.Live rgFawn ∧ (h.blkAt 49).entering = some 9 ∧ 32 ≤ 49 ∧ 49 < 50 ∧ 9 <
    2 ^ PW_BLK_STATE_STATE.width ∧ (w.blkAt 32).entering = none :=
  ⟨w.setBlk 49 (fun b => { b with entering := some 9 }), by unfold Hw.Live; decide⟩

theorem witness_blockWake : ∃ h : Hw, h.Live rgFawn ∧ 32 ≤ 40 ∧ 40 < 50 ∧ h.rd PW_BLK_STATE_TARGET 40 < h.rd
    PW_BLK_STATE_STATE 40 ∧ h.rd PW_BLK_STATE_STATE 40 ≠ 4 ∧ h.rd PW_BLK_STATE_STATE 40 ≠ 7 ∧ w.rd PW_BLK_STATE_STATE
    40 ≤ w.rd PW_BLK_STATE_TARGET 40 ∧ 7 < 8 ∧ (h.regionAt 7).wake = none :=
  ⟨w.wr PW_BLK_STATE_STATE 6 40, by unfold Hw.Live; decide⟩

/-- A voltage request waits for its acknowledgement. -/
def wReq (k n : Nat) : Hw := { w with pw := { w.pw with vreqs := [{ rail := 0, mv := 750, kind := k, tries := n }] }, clk := { w.clk with ut := 1 } }

theorem witness_pmbus : ∃ h : Hw, h.Live rgFawn ∧ h.pw.vreqs = [{ rail := 0, mv := 750, kind := 0, tries := 0 }] ∧ 0 <
    h.clk.ut ∧ 0 < 3 ∧ w.clk.ut ≤ 0 ∧ w.pw.vreqs = [] := ⟨wReq 0 0, by unfold Hw.Live; decide⟩

theorem witness_pmbus_gives_up : ∃ h : Hw, h.Live rgFawn ∧ h.pw.vreqs =
    [{ rail := 0, mv := 750, kind := 2, tries := 3 }] ∧ 0 < h.clk.ut ∧ 3 ≤ 3 ∧ (2 : Nat) = 2 ∧ (0 : Nat) ≠ 16 :=
  ⟨wReq 2 3, by unfold Hw.Live; decide⟩

theorem witness_avsTarget : ∃ h : Hw, h.Live rgFawn ∧ h.rd PW_STATUS_PSTATE ≠ 3 ∧ h.timeOnly = false ∧ (h.wr
    PW_AVS_TARGET_MV 700).rd PW_AVS_TARGET_MV ≠ mvOf 750 ∧ (h.wr PW_AVS_TARGET_MV 750).rd PW_AVS_TARGET_MV = mvOf 750
    ∧ mvOf 0 = 700 ∧ mvOf 801 = 800 := ⟨w, by unfold Hw.Live; decide⟩

theorem witness_powerSum : ∃ h : Hw, h.Live rgFawn ∧ h.rd PW_PLIMIT_LIMIT_W ≠ 0 ∧ h.rd PW_PLIMIT_LIMIT_W < 21 ∧
    h.pw.ocFault = false ∧ 2 ≤ h.pw.overRun :=
  ⟨{ w.wr PW_PLIMIT_LIMIT_W 20 with pw := { w.pw with overRun := 2 } }, by unfold Hw.Live; decide⟩

theorem witness_powerSum_falls : ∃ h : Hw, h.Live rgFawn ∧ h.pw.ocFault = false ∧ 17 + h.rd PW_PLIMIT_HYST_W < h.rd
    PW_PLIMIT_LIMIT_W ∧ 59 ≤ h.pw.underRun ∧ h.rd PW_STATUS_PLIMIT ≠ 0 :=
  ⟨{ ((w.wr PW_PLIMIT_LIMIT_W 20).wr PW_PLIMIT_HYST_W 2).wr PW_STATUS_PLIMIT 1 with pw := { w.pw with underRun := 59 } }, by unfold Hw.Live; decide⟩

theorem witness_pmbAlert : (st w).hw.Live rgFawn := by unfold Hw.Live; decide

theorem witness_padRelease : ∃ h : Hw, h.Open (regBlock .PW_PAD_RELEASE 0 0) ∧ 1 ∈ [1, 3, 4, 5, 6, 7] ∧ h.runs 1 =
    true ∧ (h.wr SF_REGION_STATE stGated 1).runs 1 = false := ⟨w, by unfold Hw.Open; decide⟩

theorem witness_enableWrite : ∃ h : Hw, h.Open (regBlock .GL_REGION_CTRL 0 0) ∧ bitOf (2 ^ rgPacket) rgPacket = true ∧
    bitOf (2 ^ rgPacket) rgMemory = false ∧ (∀ r ∈ [rgLine, rgPortW, rgPortE, rgPacket, rgMemory], h.regionEnabled r =
    bitOf 255 r) := ⟨w, by unfold Hw.Open; decide⟩

theorem witness_enableWrite_one : ∃ h : Hw, (bitOf (255 - 2 ^ rgPortW) rgPacket = false ∨ bitOf (255 - 2 ^ rgPortW)
    rgMemory = true) ∧ (∀ r ∈ [rgLine, rgPortW, rgPortE, rgPacket, rgMemory], r ≠ rgPortW → h.regionEnabled r = bitOf
    (255 - 2 ^ rgPortW) r) ∧ h.regionEnabled rgPortW ≠ bitOf (255 - 2 ^ rgPortW) rgPortW := ⟨w, by decide⟩

theorem witness_enableEffect : rgMemory ∈ [rgPortW, rgPortE, rgPacket, rgMemory] ∧ (w.regionAt rgMemory).powered =
    true ∧ w.rd SF_REGION_STATE rgMemory = stRun := by decide

theorem witness_debugRead : ∃ h : Hw, h.barOn = true ∧ h.rd GL_DBG_CTRL_AUTO_INC = 0 ∧ h.rd GL_DBG_CTRL_ENABLE ≠ 0 ∧
    h.gatedBlock (h.rd GL_DBG_ADDR_BLOCK) = false ∧ h.rd GL_DBG_ADDR_BLOCK = 0x5040 ∧ (h.wr GL_DBG_ADDR_BLOCK
    0x6000).rd GL_DBG_ADDR_BLOCK ≠ 0x5040 ∧ (h.wr SF_REGION_STATE stGated rgPacket).gatedBlock 0x5030 = true ∧ w.rd
    GL_DBG_CTRL_ENABLE = 0 := ⟨(w.wr GL_DBG_CTRL_ENABLE 1).wr GL_DBG_ADDR_BLOCK 0x5040, by decide⟩

theorem witness_flashOperation : ∃ h : Hw, h.Open (regBlock .GL_FLASH_CTRL 0 0) ∧ (1, Instr.flashProgram 0xF1A5FF01) ∈
    [(0, Instr.flashRead 0xF1A5FF01), (1, .flashProgram 0xF1A5FF01), (2, .erase4k 0xF1A5FF01), (3, .erase64k
    0xF1A5FF01)] ∧ bitOf 0xF1A5FF01 15 = true ∧ (h.writeWord .GL_FLASH_CTRL 0 (putBits 0xF1A58000 0 3 1) 0 0).rd
    GL_FLASH_CTRL_BUSY = 0 ∧ (h.writeWord .GL_FLASH_CTRL 0 (putBits 0xF1A58000 0 3 1) 0 0).flashDenied 1 0xF1A5 (h.rd
    GL_FLASH_ADDR_ADDR) 1 = false ∧ bits 0x8000 16 16 ≠ 0xF1A5 ∧ bitOf 0 15 = false :=
  ⟨w.wr GL_FLASH_ADDR_ADDR 0x300000, by unfold Hw.Open; decide⟩

theorem witness_flashDone : ∃ h : Hw, h.Live rgFawn ∧ h.pw.flashOp = some (1, 0, 1, [0x42]) ∧ h.logBusy = false ∧
    w.pw.flashOp = none ∧ { w with rcd := { w.rcd with erasing := some 3 } }.logBusy = true :=
  ⟨{ w with pw := { w.pw with flashOp := some (1, 0, 1, [0x42]) } }, by unfold Hw.Live; decide⟩

theorem witness_flashBytes : flashWf [] = true ∧ flashWf goodFlash = true ∧ (0 ≤ 0 ∧ 0 < 0 + [(0x42 : Byte)].length)
    := by decide

theorem witness_scanAccess : (st w).hw.Live rgFawn := by unfold Hw.Live; decide

theorem witness_jtagInstruction : (st w).hw.Live rgFawn ∧ 5 < 6 ∧ (6 : Nat) = 6 := by unfold Hw.Live; decide

theorem witness_padLevels : ∃ h : Hw, ({ w with pw := { w.pw with vddFawn := false } } : Hw).pw.vddFawn = false ∧
    w.gpOff = false ∧ (w.wr SF_REGION_STATE stGated rgLine).runs rgLine = false ∧ h.gpOff = false ∧ h.rd
    PW_STATUS_PSTATE = 3 ∧ w.rd PW_PAD_CFG_HELD rgControl = 0 ∧ (w.wr PW_PAD_CFG_HELD 1 rgControl).rd PW_PAD_CFG_HELD
    rgControl ≠ 0 ∧ (w.wr PW_PAD_CFG_MODE 1 rgControl).rd PW_PAD_CFG_MODE rgControl ≠ 0 :=
  ⟨w.wr PW_STATUS_PSTATE 3, by decide⟩

/-! Worked examples of the specification, each with its source. -/

/-- What a step leaves of a block that has one command waiting. -/
def run (h : Hw) (c : Instr) : Option Hw :=
  match step { State.reset with hw := h, pending := [c] } with
  | .next t => if t.pending = [] then some t.hw else none
  | _ => none

/-- A field after the command. -/
def field (h : Hw) (c : Instr) (f : Fld) (i : Nat := 0) (j : Nat := 0) : Option Nat := (run h c).map (fun t => t.rd f i j)

/-- Log entry 1: an empty queue. -/
theorem test_idle : step State.reset = .next State.reset := rfl

/-- R23, chapter 1: a stretch of D = 58,009 makes 103 microticks, the last of 4,549 cycles. -/
theorem test_stretch :
    (({ w with clk := { w.clk with pendD := some 58009 } } : Hw).stretchBoundary 0).microCount = 103 ∧
    ({ w with clk := { w.clk with stretch := 58009, micro := 102 } } : Hw).cyclesLeft = 4549 := by decide

/-- R68: LN_PM_SD resets to 0x02F7_6000. -/
theorem test_sd_reset : w.rd LN_PM_SD_SD_BITS = 49766400 := by decide

/-- Table 2-6: ten seconds of class 2 begin unavailable time at the first of them; a second of errors before them counts. -/
theorem test_unavailable :
    let s (l : List Nat) : Hw := w.setRx 0 (fun r => { r with window := l })
    ((s (List.replicate 11 2)).pmEnter 0 0).rd LN_PM_UAS = 1 ∧ ((s (1 :: List.replicate 10 2)).pmEnter 0 0).rd LN_PM_ES = 1 ∧
    ((s (List.replicate 9 2 ++ [0, 2])).pmEnter 0 0).rd LN_PM_SES = 1 := by decide +kernel

/-- Table 3-5: the bursts of ticks n and n+5 launch within 1 ps of 7,037,569.616 ns and 7,716,953.282 ns. -/
def wRange : Hw := (w.wr LN_OPT_RXDLY_D_RX 121242 0 0).wr LN_OPT_TXDLY_D_TX 157286 0 0
theorem test_ranging :
    ((wRange.planAt 0 0 0 0 458752121242 [] 2 2000 0 0).hdr - 461214162354).natAbs < 66 ∧
    ((wRange.planAt 0 0 0 0 491520121242 [] 0 10000 0 11081849242).hdr - 505738250289).natAbs < 66 := by decide

/-- Chapter 4, 20 km: λ0 = 1,311,998 pm, K = 1,759.93 fs/nm², ASYM = −106,165 and CONF = 252. -/
def wFibre : Hw :=
  [1342000, 1330000, 1338000, 1350000, 1270000, 1286000].zipIdx.foldl (fun h x => h.wr HD_LAMBDA_LAMBDA_PM x.1 0 x.2)
    (w.wr HD_EST_LIM_U_LIM 60)
theorem test_fit :
    let m (a b y : Rat) : Meas := ⟨a, b, y, weightOf 13107⟩
    let r := wFibre.fit 0 3 [m 1330 1342 (-493), m 1338 1342 (-191), m 1350 1342 461, m 1286 1270 (-997)] [0, 1, 2, 3]
    r.fail = false ∧ r.lambda0 = 1311998 ∧ roundRat (r.k * 100000) = 175993 ∧ roundRat (r.a * 256) = -106165 ∧ r.conf = 252 := by
  decide +kernel

/-- R122, chapter 4: T_rt = 195,842.378 ns and G_FS = 4,896,000 fs/m give 20,000 m. -/
theorem test_length :
    ((w.wr HD_GROUP_DLY_G_FS 4896000).setHerd 0 (fun e => { e with range := some (12834726085, 0) })).fibreLength 0 = 20000 := by decide

/-- R181, chapter 6: the worked conversion. -/
theorem test_ntp : (putCfg w TC_UTC_OFS 37).ntpTime 124518408093696001149501 = 0xF4EA31D68000004B := by decide +kernel

/-- Chapter 7: S(700) is 768 bytes. -/
theorem test_bridge_size : bridgeSize { frm with bytes := List.replicate 700 0 } = 768 := by decide +kernel

/-- Table 9-14. -/
theorem test_parser_words : [0x0A400000, 0x404088A8, 0x49000008, 0x4A000014, 0x59900000, 0x7E80C000, 0x9DB80000, 0x6CBE0000, 0x72980000].map pDecode =
    [some (.ld 2 1 0), some (.cmpi 2 0x88A8), some (.bf 1 8), some (.bf 2 20), some (.mark 3 2), some (.lookup 6 2 0 6), some (.lchk 5 2 7 0),
      some (.keyr 37 7 2), some (.hash 2 1 0 24)] := by decide

/-- R245: the CRC-32C of the nine digits 1 to 9. -/
theorem test_crc : crc32c 0xFFFFFFFF ([0x31, 0x32, 0x33, 0x34, 0x35, 0x36, 0x37, 0x38, 0x39] : List Byte) = 0xE3069283 := by decide +kernel

/-- Table 10-4: the credit at the boundary of microtick m, and after the frame of 1,520 bytes. -/
theorem test_shaper :
    let h := putCfg (putCfg { w with pk := { w.pk with credits := [(9, -22020096)] } } TM_SHAPER_RATE 0x0186A000 9) TM_SHAPER_BURST 65535 9
    look h.refillShapers.pk.credits 9 0 = 3579904 ∧ look (h.refillShapers.chargeShaper 9 1520).pk.credits 9 0 = -96034816 := by decide +kernel

/-- Table 10-3: with weights 4, 2 and 1, frames of 1,000, 1,500 and 500 bytes give heads F of 250, 750 and 500; the first queue is served. -/
def wQueues : Hw :=
  [(1088, 1000, 4), (1089, 1500, 2), (1090, 500, 1)].foldl
    (fun h x => (putCfg h TM_QUEUE_WEIGHT x.2.2 x.1).linkTail x.1 { frm with bytes := List.replicate x.2.1 0 }) w
theorem test_wfq : [1088, 1089, 1090].map (fun q => (wQueues.queueAt q).fHead) = [250 * 65536, 750 * 65536, 500 * 65536] ∧
    (wQueues.nodePick 129).map Prod.fst = some 1088 := by decide +kernel

/-- Tables 11-5 and 11-6: the pools of the example, their choice, and the five frees. -/
def wPools : Hw :=
  let a (h : Hw) (x : Nat × Nat × Nat × Nat × Nat) : Hw :=
    (putCfg (putCfg (putCfg (putCfg h BM_POOL_SIZE_LOG2 x.2.1 x.1) BM_POOL_BASE x.2.2.1 x.1) BM_POOL_COUNT x.2.2.2.1 x.1) BM_POOL_FLAGS x.2.2.2.2 x.1).wr
      BM_POOL_STATUS_ENABLED 1 x.1
  [(0, 8, 0, 65536, 0x18), (1, 11, 0x1000000, 16384, 0x3C), (2, 14, 0x4010000000, 262144, 8)].foldl a w
def freeOf (h : Hw) (p t : Nat) : Nat :=
  match h.bufCheck p t with
  | .ok _ => stOk
  | .error e => e
theorem test_pools :
    [128, 1582, 2164, 9792].map (fun n => (wPools.poolChoice usePkt n).headD 9) = [0, 1, 2, 2] ∧
    (let h := wPools.setPool 1 { wPools.poolAt 1 with tags := [(2, 0x43), (4, 0x15)] }
     [freeOf h 0x1001000 0x43, freeOf wPools 0x1001000 0x43, freeOf h 0x1001400 0x43, freeOf h 0x3000000 0x43, freeOf h 0x1002000 0x43] =
       [stOk, stDoubleFree, stAlign, stRange, stNotOwner]) := by decide +kernel

/-- Table 15-4: A is the suspect of the three sources of the example at tick n+1, in 2^-16 ns. -/
theorem test_suspect :
    let l : List (Nat × Int) := [(0, -9830400), (1, 26214), (3, 13107)]
    let h := putCfg (putCfg w TC_XCHK_AB 50) TC_XCHK_OSC 40
    h.suspects l (0, -9830400) = true ∧ h.suspects l (1, 26214) = false ∧ h.suspects l (3, 13107) = false := by decide +kernel

/-- Chapter 17: in TIME-ONLY a read of TM_Q_CNT[0] returns 0xFA11_5020 and is shown in SF_REGION[5]. -/
def wGated : Hw := w.wr SF_REGION_STATE stGated rgPacket
theorem test_gated : (run wGated (.gatedAccess 0x5A0000 none)).map (fun t => (t.out.head?, t.rd SF_REGION_GATED_ACCESS 5,
    t.rd SF_REGION_GATED_BLOCK 5, t.rd SF_REGION_GATED_CNT 5)) = some (some (.bar 0x5A0000 0xFA115020), 1, 0x5020, 1) := by decide +kernel

/-- R478: IDCODE. -/
theorem test_idcode : (run w (.jtagInstruction 1 false)).map (fun t => t.out.head?) = some (some (.jtag 1 0xA912856F)) := by decide

/-! Well-formedness: each check refuses a term that breaks it alone, and takes the same command without the break. -/

def wfHd : CmdHdr := ⟨0, 0, 0, false, true, 0⟩
def wfFrame : FrameIn := ⟨0, 0, 0, true, 0, []⟩
def wfPtp : PtpIn := ⟨0, 0, 0, 0, 0, true, 0, 0, 0, false, 0, 0, 0⟩
def wfNtp : NtpIn := ⟨0, 0, 0, 0, 0, 0, 0, 0, 0, 0⟩
def wfDesc : HerdDesc := ⟨0, 0, 0, [], 0⟩
def wfMicro : MicroIn := ⟨[], [], [], [], ⟨true, [], [], []⟩, ⟨0, [], []⟩⟩
def wfTick : TickIn := ⟨wfMicro, [], [], 0, [], [], 0, 0, [], [], [], [], 0, 0, false, false⟩

theorem test_wf_header : [(⟨16, 0, 0, false, true, 0⟩ : CmdHdr), ⟨0, 65536, 0, false, true, 0⟩, ⟨0, 0, 256, false, true, 0⟩,
    ⟨0, 0, 0, false, true, 4294967296⟩].all (fun hd => !hd.wf) = true := by decide

theorem test_wf_boundary : [{ wfMicro with ovr := [8] }, { wfMicro with ovr := [12] }, { wfMicro with seen := [8] },
    { wfMicro with lanes := [⟨128, 0, 0, 0, 0, 0, 0⟩] }, { wfMicro with lanes := [⟨0, 256, 0, 0, 0, 0, 0⟩] },
    { wfMicro with pwr := ⟨256, [], []⟩ }].all (fun x => !x.wf && !{ wfTick with micro := x }.wf && !(Instr.microtickBoundary x).wf) = true ∧
    [{ wfTick with ovr := [9] }, { wfTick with d := 194400 }].all (fun x => !x.wf && !(Instr.tickBoundary x).wf) = true := by decide

theorem test_wf_refuses_1 : [Instr.glClkCtrlWrite 4294967296, .rxEnable 2 0 0, .rxEnable 0 4 0, .rxEnable 0 0 4294967296, .rxDisable 2 0 0,
    .rxDisable 0 4 0, .rxDisable 0 0 4294967296, .rxSelftestDone 2 0 false, .rxSelftestDone 0 4 false, .eqReset 2 0 0,
    .eqReset 0 4 0, .eqReset 0 0 4294967296, .losDeclared 2 0 false, .losDeclared 0 4 false, .cdrLock 2 0 0,
    .cdrLock 0 4 0, .cdrLock 0 0 4294967296, .eqConv 2 0, .eqConv 0 4, .candidateFound 2 0 0 0, .candidateFound 0 4 0 0,
    .candidateFound 0 0 0 2251799813685248, .confirmationPoint 2 0 0 0 false wfFrame,
    .confirmationPoint 0 4 0 0 false wfFrame, .expectedPositionCheck 2 0 0 false wfFrame,
    .expectedPositionCheck 0 4 0 false wfFrame, .alignerParityError 2 0, .alignerParityError 0 4, .codewordDecoded 2 0 0 0,
    .codewordDecoded 0 4 0 0, .codewordDecoded 0 0 3 0, .lnMapCfgWrite 2 0, .lnMapCfgWrite 0 4294967296, .pmClear 2 0 0,
    .pmClear 0 4 0, .pmClear 0 0 4294967296, .xgemFrameRx 2 0 0 0 [] false false, .xgemFrameRx 0 5 0 0 [] false false,
    .xgemFrameRx 0 0 65536 0 [] false false, .xgemFrameRx 0 0 0 3 [] false false, .actEnWrite 2 0,
    .actEnWrite 0 4294967296, .burstProfile 2 0 false 0 0 0 false, .burstProfile 0 4 false 0 0 0 false,
    .burstProfile 0 0 false 2 0 0 false, .burstProfile 0 0 false 0 4 0 false, .assignOnuId 2 0 false 0 0,
    .assignOnuId 0 4 false 0 0].all (fun c => !c.wf) = true := by decide +kernel

theorem test_wf_refuses_2 : [Instr.assignOnuId 0 0 false 18446744073709551616 0, .assignOnuId 0 0 false 0 1023, .rangingTime 2 0 false false 0,
    .rangingTime 0 4 false false 0, .deactivateOnuId 2 0 false none, .deactivateOnuId 0 4 false none,
    .disableSerialNumber 2 0 false false none, .disableSerialNumber 0 4 false false none, .requestRegistration 2 0 false,
    .requestRegistration 0 4 false, .assignAllocId 2 0 false 0 false, .assignAllocId 0 4 false 0 false,
    .assignAllocId 0 0 false 16384 false, .keyControl 2 0 false 0 false, .keyControl 0 4 false 0 false,
    .profileMessage 2 0 false none, .profileMessage 0 4 false none, .sleepAllow 2 0 false, .sleepAllow 0 4 false,
    .tuningControl 2 0 false, .tuningControl 0 4 false, .changePowerLevel 2 0 false false,
    .changePowerLevel 0 4 false false, .protectionControl 2 0 false, .protectionControl 0 4 false,
    .otherPloam 2 0 false false, .otherPloam 0 4 false false, .ploamIgnored 2 0, .ploamIgnored 0 4, .to1Expiry 2,
    .to2Expiry 2, .estopFlashCopy 2, .opticsDelayWrite 2 0 0 0, .opticsDelayWrite 0 3 0 0, .opticsDelayWrite 0 0 4 0,
    .opticsDelayWrite 0 0 0 4294967296, .burstStaging 4 0 0, .burstEnAssert 4, .burstLaunch 4, .burstEnDeassert 4,
    .burstWatchdogTrip 4, .omciMessageRx 2 0 0 0 0 0 false [], .omciMessageRx 0 4 0 0 0 0 false [],
    .omciMessageRx 0 0 256 0 0 0 false [], .omciMessageRx 0 0 0 65536 0 0 false [],
    .omciMessageRx 0 0 0 0 65536 0 false [], .omciMessageRx 0 0 0 0 0 65536 false [], .omciCfgAnswer 2 0].all (fun c => !c.wf) = true := by decide +kernel

theorem test_wf_refuses_3 : [Instr.omciCfgAnswer 0 65536, .omciHoldExpiry 2, .memberStatus 2, .helloSend 2, .hello 2 0, .hello 0 281474976710656,
    .herdDesc 2 0 wfDesc 0, .herdDesc 0 65536 wfDesc 0, .herdDescSwitch 2, .twinReport 2 0 0, .twinReport 0 0 256,
    .eqdU1 2 0 0, .eqdU1 0 65536 0, .eqdU1 0 0 18446744073709551616, .rangeInfo 2 0, .rangeInfo 0 18446744073709551616,
    .bondAlloc 2 0 [], .bondAlloc 0 65536 [], .swEnWrite 2 0, .swEnWrite 0 4294967296, .hdWavelengthWrite 2 0 0,
    .hdWavelengthWrite 0 7 0, .hdWavelengthWrite 0 0 4294967296, .estimatorModeWrite 2 0, .estimatorModeWrite 0 4294967296,
    .asymOverrideWrite 2 0, .asymOverrideWrite 0 4294967296, .fitComplete 2 [], .estimatorApply 2, .lsResync 4294967296,
    .tcSetGo 4294967296, .todaAttribute 2 0 0 0, .todaAttribute 0 4294967296 0 0, .todaAttribute 0 0 281474976710656 0,
    .todaAttribute 0 0 0 1000000000, .tcTodaInGo 2 0, .tcTodaInGo 0 4294967296, .domainQualified 2, .ppsEdge 8 0,
    .comparatorTarget 32, .pulseEnd 32, .timeCapture 8 0 0, .timeCapture 0 2 0, .todMessageSend 8, .pinReadback 8 false,
    .stationLaneLock 128 0 0, .stationLaneLock 0 268435456 0, .stationLaneLock 0 0 268435456].all (fun c => !c.wf) = true := by decide +kernel

theorem test_wf_refuses_4 : [Instr.sync 130, .announce 130, .delayReq 130 wfPtp, .pdelayReq 130 wfPtp, .ntpRequest 130 wfNtp,
    .arpRequest 130 false 0 0, .arpRequest 0 false 281474976710656 0,
    .arpRequest 0 false 0 340282366920938463463374607431768211456, .esmcRx 130, .esmcInfoPdu 130, .esmcEventPdu 130,
    .responderCommit 130 0 0, .responderCommit 0 0 9729, .txLate 130, .attachmentFail 2, .attachmentRecover 2,
    .returnTimeout 16, .fifoEmpty 16, .frerResetTimeout 1024, .linkUp 128, .laneIdle 128, .dfeEqReset 128 0,
    .dfeEqReset 0 4294967296, .macFrameRx 128 0 false false [], .pauseTimerExpiry 128, .pauseGenerate 128,
    .pauseRefresh 128, .macFrameTx 128, .laneRecal ⟨16, 0, 0, false, true, 0⟩ 0 0, .laneRecal wfHd 256 0,
    .laneRecal wfHd 0 256, .laneRecalDone 3 268435456 0 0, .laneRecalDone 3 0 268435456 0, .laneRecalDone 5 0 0 0,
    .pNop 48, .pLd 0 8 0 0, .pLd 0 0 3 0, .pLd 0 0 0 256, .pLd 48 0 0 0, .pLdi 0 8 0, .pLdi 0 0 65536, .pLdi 48 0 0,
    .pLdih 0 8 0, .pLdih 0 0 65536, .pLdih 48 0 0, .pExtb 0 8 0 0 0, .pExtb 0 0 8 0 0, .pExtb 0 0 0 32 0].all (fun c => !c.wf) = true := by decide +kernel

theorem test_wf_refuses_5 : [Instr.pExtb 0 0 0 0 32, .pExtb 48 0 0 0 0, .pAlu 0 8 0 0 0, .pAlu 0 0 8 0 0, .pAlu 0 0 0 8 0, .pAlu 0 0 0 0 8,
    .pAlu 48 0 0 0 0, .pAlui 0 8 0 0 0, .pAlui 0 0 8 0 0, .pAlui 0 0 0 8 0, .pAlui 0 0 0 0 65536, .pAlui 48 0 0 0 0,
    .pCmp 0 8 0, .pCmp 0 0 8, .pCmp 48 0 0, .pCmpi 0 8 0, .pCmpi 0 0 65536, .pCmpi 48 0 0, .pBf 0 8 0, .pBf 0 0 8192,
    .pBf 48 0 0, .pAdv 0 4 0 0, .pAdv 0 0 8 0, .pAdv 0 0 0 256, .pAdv 48 0 0 0, .pMark 0 16 0, .pMark 0 0 16,
    .pMark 48 0 0, .pKey 0 33 0 31, .pKey 0 64 0 0, .pKey 0 0 256 0, .pKey 0 0 0 32, .pKey 48 0 0 0, .pKeyr 0 61 0 3,
    .pKeyr 0 64 0 0, .pKeyr 0 0 8 0, .pKeyr 0 0 0 4, .pKeyr 48 0 0 0, .pHash 0 8 0 0 0, .pHash 0 0 2 0 0, .pHash 0 0 0 2 0,
    .pHash 0 0 0 1 28, .pHash 48 0 0 0 0, .hashResult 48 0, .hashResult 0 8, .pLookup 0 8 0 0 0, .pLookup 0 0 4 0 0,
    .pLookup 0 0 0 0 8].all (fun c => !c.wf) = true := by decide +kernel

theorem test_wf_refuses_6 : [Instr.pLookup 0 0 0 64 0, .pLookup 0 0 0 25 0, .pLookup 0 0 1 17 0, .pLookup 48 0 0 0 0, .lookupResult 48 0 false,
    .lookupResult 0 8 false, .pSetm 0 12 0, .pSetm 0 0 8, .pSetm 48 0 0, .pSetmi 0 12 0, .pSetmi 0 0 65536, .pSetmi 48 0 0,
    .pGetm 0 8 0, .pGetm 0 0 12, .pGetm 48 0 0, .pLchk 0 8 0 0 0, .pLchk 0 0 3 0 0, .pLchk 0 0 0 8 0, .pLchk 0 0 0 0 65536,
    .pLchk 48 0 0 0 0, .pFwd 48, .pExc 0 7, .pExc 0 32, .pExc 48 8, .pDrop 0 16, .pDrop 48 0, .pRecirc 0 2 0,
    .pRecirc 0 0 8192, .pRecirc 48 0 0, .schedulerSelect 257, .stagingFill 128,
    .poolAlloc ⟨16, 0, 0, false, true, 0⟩ 0 0 0 0, .poolAlloc wfHd 256 0 0 0, .poolAlloc wfHd 0 65536 0 0,
    .poolAlloc wfHd 0 0 4294967296 0, .poolAlloc wfHd 0 0 0 18446744073709551616, .poolFree ⟨16, 0, 0, false, true, 0⟩ [],
    .poolXfer ⟨16, 0, 0, false, true, 0⟩ 0 0, .poolXfer wfHd 256 0, .poolXfer wfHd 0 18446744073709551616,
    .memRepair ⟨16, 0, 0, false, true, 0⟩ 0 [], .memRepair wfHd 256 [], .poolFillDone 16, .zqRecal 256 0, .zqRecal 0 256,
    .patrolScrub 0 3, .cipherWorkIssue 0 2080 0 0 0, .cipherWorkIssue 0 0 65536 0 0].all (fun c => !c.wf) = true := by decide +kernel

theorem test_wf_refuses_7 : [Instr.cipherWorkIssue 0 0 0 3 0, .staleGenTimeout 8192, .keyLoad ⟨16, 0, 0, false, true, 0⟩ 0 0 0 0 0 [],
    .keyLoad wfHd 65536 0 0 0 0 [], .keyLoad wfHd 0 256 0 0 0 [], .keyLoad wfHd 0 0 65536 0 0 [],
    .keyLoad wfHd 0 0 0 65536 0 [], .keyLoad wfHd 0 0 0 0 18446744073709551616 [],
    .keyGen ⟨16, 0, 0, false, true, 0⟩ 0 0 0 0, .keyGen wfHd 65536 0 0 0, .keyGen wfHd 0 256 0 0, .keyGen wfHd 0 0 256 0,
    .keyGen wfHd 0 0 0 256, .keyExport ⟨16, 0, 0, false, true, 0⟩ 0 0 0 0, .keyExport wfHd 65536 0 0 0,
    .keyExport wfHd 0 256 0 0, .keyExport wfHd 0 0 65536 0, .keyExport wfHd 0 0 0 18446744073709551616,
    .keyErase ⟨16, 0, 0, false, true, 0⟩ 0 0, .keyErase wfHd 65536 0, .keyErase wfHd 0 65536,
    .keyZeroise ⟨16, 0, 0, false, true, 0⟩, .dkekProvision ⟨16, 0, 0, false, true, 0⟩ 0 0 0,
    .dkekProvision wfHd 18446744073709551616 0 0, .dkekProvision wfHd 0 18446744073709551616 0,
    .dkekProvision wfHd 0 0 115792089237316195423570985008687907853269984665640564039457584007913129639936,
    .saInstall ⟨16, 0, 0, false, true, 0⟩ 0 0 0 0 0 0, .saInstall wfHd 65536 0 0 0 0 0, .saInstall wfHd 0 256 0 0 0 0,
    .saInstall wfHd 0 0 65536 0 0 0, .saInstall wfHd 0 0 0 18446744073709551616 0 0, .saInstall wfHd 0 0 0 0 4294967296 0,
    .saInstall wfHd 0 0 0 0 0 79228162514264337593543950336, .saSwitch ⟨16, 0, 0, false, true, 0⟩ 0 0,
    .saSwitch wfHd 65536 0, .saSwitch wfHd 0 256, .saRead ⟨16, 0, 0, false, true, 0⟩ 0 0, .saRead wfHd 65536 0,
    .saRead wfHd 0 256, .saRetire ⟨16, 0, 0, false, true, 0⟩ 0 0, .saRetire wfHd 65536 0, .saRetire wfHd 0 256,
    .cxKsZeroise 4294967296, .alarmClr 4294967296 false, .zeroiseSensor 1, .zeroiseSensor 5, .dispatchSelect 64 0,
    .coreItemTimeout 16].all (fun c => !c.wf) = true := by decide +kernel

theorem test_wf_refuses_8 : [Instr.ping ⟨16, 0, 0, false, true, 0⟩ [], .ping wfHd (List.replicate 41 0), .fwInfo ⟨16, 0, 0, false, true, 0⟩,
    .omciRefuse ⟨16, 0, 0, false, true, 0⟩ 0 0, .omciRefuse wfHd 256 0, .omciRefuse wfHd 0 65536,
    .fwUpdate ⟨16, 0, 0, false, true, 0⟩ 0 [] false, .fwUpdate wfHd 18446744073709551616 [] false,
    .pmDump ⟨16, 0, 0, false, true, 0⟩ 0 0 0 0, .pmDump wfHd 256 0 0 0, .pmDump wfHd 0 65536 0 0, .pmDump wfHd 0 0 65536 0,
    .pmDump wfHd 0 0 0 18446744073709551616, .ringEnableWrite 216 0, .ringEnableWrite 0 4294967296,
    .txDescriptor 64 false false 0 0 0 [], .txDescriptor 0 false false 65536 0 0 [],
    .txDescriptor 0 false false 0 256 0 [], .txDescriptor 0 false false 0 0 65536 [], .rxWriteback 64 0,
    .rxWriteback 0 65536, .msixSignal 256, .unsupportedOpcode ⟨16, 0, 0, false, true, 0⟩ 64, .unsupportedOpcode wfHd 1,
    .unsupportedOpcode wfHd 256, .epochOpen ⟨16, 0, 0, false, true, 0⟩, .cfgLoad ⟨16, 0, 0, false, true, 0⟩ 0 0 [],
    .cfgLoad wfHd 4294967296 0 [], .cfgLoad wfHd 0 18446744073709551616 [],
    .tblWrite ⟨16, 0, 0, false, true, 0⟩ 0 0 0 0 [], .tblWrite wfHd 256 0 0 0 [], .tblWrite wfHd 0 256 0 0 [],
    .tblWrite wfHd 0 0 4294967296 0 [], .tblWrite wfHd 0 0 0 18446744073709551616 [],
    .epochCommit ⟨16, 0, 0, false, true, 0⟩ 0, .epochCommit wfHd 18446744073709551616,
    .epochAbort ⟨16, 0, 0, false, true, 0⟩, .epochRollback ⟨16, 0, 0, false, true, 0⟩, .badAcc 16777216 0 none,
    .unassignedAccess 16777216 none, .gatedAccess 16777216 none, .rcRead 16777216, .latchingRead 16777216,
    .registerWrite 16777216 0, .registerWrite 0 4294967296, .cellError 65536 0 0 0 0, .regionWatchdogTrip 8,
    .regionReload 8 0].all (fun c => !c.wf) = true := by decide +kernel

theorem test_wf_refuses_9 : [Instr.regionReload 0 256, .sfRegionReloadWrite 8 0, .sfRegionReloadWrite 0 4294967296, .regionReady 8,
    .reloadTimeout 8, .selfchk 8192, .selfchkPeriodic 8192, .inject 4294967296, .evRecordRead 4294967296,
    .evLogErase 4294967296, .startUp 256 0, .startUp 0 65536, .standby 4294967296, .blockWake 0 false 65536 0,
    .padRelease 4294967296, .regionEnableWrite 4294967296, .flashRead 4294967296, .flashProgram 4294967296,
    .erase4k 4294967296, .erase64k 4294967296, .nopCmd ⟨16, 0, 0, false, true, 0⟩,
    .mboxUnknownType ⟨16, 0, 0, false, true, 0⟩ 4, .mboxUnknownType wfHd 256, .mboxUnknownType wfHd 2, .coreRelease 16 0 0,
    .coreRelease 0 4 0, .coreRelease 0 0 65536, .prbsLock 128, .prbsLockLoss 128 0, .pcieLinkTrained 64 0,
    .pcieLinkTrained 0 16, .jtagInstruction 8 false].all (fun c => !c.wf) = true := by decide +kernel

theorem test_wf_takes_1 : [Instr.microtickBoundary wfMicro, .tickBoundary wfTick, .corePllRefChange, .clkRevert, .glClkCtrlWrite 0, .refoscStop,
    .refoscRestart, .rxEnable 0 0 0, .rxDisable 0 0 0, .rxSelftestDone 0 0 false, .eqReset 0 0 0, .losDeclared 0 0 false,
    .cdrLock 0 0 0, .eqConv 0 0, .candidateFound 0 0 0 0, .confirmationPoint 0 0 0 0 false wfFrame,
    .expectedPositionCheck 0 0 0 false wfFrame, .alignerParityError 0 0, .codewordDecoded 0 0 0 0, .lnMapCfgWrite 0 0,
    .pmClear 0 0 0, .xgemFrameRx 0 0 0 0 [] false false, .actEnWrite 0 0, .burstProfile 0 0 false 0 0 0 false,
    .assignOnuId 0 0 false 0 0, .rangingTime 0 0 false false 0, .deactivateOnuId 0 0 false none,
    .disableSerialNumber 0 0 false false none, .requestRegistration 0 0 false, .assignAllocId 0 0 false 0 false,
    .keyControl 0 0 false 0 false, .profileMessage 0 0 false none, .sleepAllow 0 0 false, .tuningControl 0 0 false,
    .changePowerLevel 0 0 false false, .protectionControl 0 0 false, .otherPloam 0 0 false false, .ploamIgnored 0 0,
    .to1Expiry 0, .to2Expiry 0, .estopFlashCopy 0, .opticsDelayWrite 0 0 0 0, .burstStaging 0 0 0, .burstEnAssert 0,
    .burstLaunch 0, .burstEnDeassert 0, .burstWatchdogTrip 0, .omciMessageRx 0 0 0 0 0 0 false []].all Instr.wf = true := by decide +kernel

theorem test_wf_takes_2 : [Instr.omciCfgAnswer 0 0, .omciHoldExpiry 0, .memberStatus 0, .helloSend 0, .hello 0 0, .herdDesc 0 0 wfDesc 0,
    .herdDescSwitch 0, .twinReport 0 0 0, .eqdU1 0 0 0, .rangeInfo 0 0, .bondAlloc 0 0 [], .swEnWrite 0 0,
    .hdWavelengthWrite 0 0 0, .estimatorModeWrite 0 0, .asymOverrideWrite 0 0, .fitComplete 0 [], .estimatorApply 0,
    .lockstepMismatch 0, .lsResync 0, .tcSetGo 0, .todaAttribute 0 0 0 0, .tcTodaInGo 0 0, .domainQualified 0,
    .holdoverTimerExpiry, .ppsEdge 0 0, .ppsMissing false, .oscModelMeasure 0 0 0, .comparatorTarget 0, .pulseEnd 0,
    .timeCapture 0 0 0, .todMessageSend 0, .pinReadback 0 false, .stationLaneLock 0 0 0, .sync 0, .announce 0,
    .delayReq 0 wfPtp, .pdelayReq 0 wfPtp, .ntpRequest 0 wfNtp, .arpRequest 0 false 0 0, .esmcRx 0, .esmcInfoPdu 0,
    .esmcEventPdu 0, .responderCommit 0 0 0, .txLate 0, .attachmentFail 0, .attachmentRecover 0, .returnTimeout 0,
    .fifoEmpty 0].all Instr.wf = true := by decide +kernel

theorem test_wf_takes_3 : [Instr.bridgeDrain, .frerResetTimeout 0, .linkUp 0, .laneIdle 0, .dfeEqReset 0 0, .macFrameRx 0 0 false false [],
    .pauseTimerExpiry 0, .pauseGenerate 0, .pauseRefresh 0, .macFrameTx 0, .laneRecal wfHd 0 0, .laneRecalDone 3 0 0 0,
    .pNop 0, .pLd 0 0 0 0, .pLdi 0 0 0, .pLdih 0 0 0, .pExtb 0 0 0 0 0, .pAlu 0 0 0 0 0, .pAlui 0 0 0 0 0, .pCmp 0 0 0,
    .pCmpi 0 0 0, .pBf 0 0 0, .pAdv 0 0 0 0, .pMark 0 0 0, .pKey 0 0 0 0, .pKeyr 0 0 0 0, .pHash 0 0 0 0 0,
    .hashResult 0 0, .pLookup 0 0 0 0 0, .lookupResult 0 0 false, .pSetm 0 0 0, .pSetmi 0 0 0, .pGetm 0 0 0,
    .pLchk 0 0 0 0 0, .pFwd 0, .pExc 0 8, .pDrop 0 0, .pRecirc 0 0 0, .schedulerSelect 0, .stagingFill 0,
    .poolAlloc wfHd 0 0 0 0, .poolFree wfHd [], .poolXfer wfHd 0 0, .memRepair wfHd 0 [], .poolFillDone 0, .zqRecal 0 0,
    .patrolScrub 0 0, .migrationComplete].all Instr.wf = true := by decide +kernel

theorem test_wf_takes_4 : [Instr.cipherWorkIssue 0 0 0 0 0, .cipherFrameDone 0 false, .staleGenTimeout 0, .keyLoad wfHd 0 0 0 0 0 [],
    .keyGen wfHd 0 0 0 0, .keyExport wfHd 0 0 0 0, .keyErase wfHd 0 0, .keyZeroise wfHd, .dkekProvision wfHd 0 0 0,
    .saInstall wfHd 0 0 0 0 0 0, .saSwitch wfHd 0 0, .saRead wfHd 0 0, .saRetire wfHd 0 0, .cxKsZeroise 0,
    .alarmClr 0 false, .zeroiseSensor 2, .trngHealthFail, .dispatchSelect 0 0, .coreItemTimeout 0, .ping wfHd [],
    .fwInfo wfHd, .omciRefuse wfHd 0 0, .fwUpdate wfHd 0 [] false, .fwUpdateSwap false, .pmDump wfHd 0 0 0 0,
    .ringEnableWrite 0 0, .txDescriptor 0 false false 0 0 0 [], .rxWriteback 0 0, .msixSignal 0,
    .unsupportedOpcode wfHd 64, .epochOpen wfHd, .cfgLoad wfHd 0 0 [], .tblWrite wfHd 0 0 0 0 [], .epochCommit wfHd 0,
    .epochValidationDone, .epochAbort wfHd, .epochRollback wfHd, .epochDrainEnd, .epochDrainTimeout, .rollbackNow,
    .ringStop, .pollNow, .badAcc 0 0 none, .unassignedAccess 0 none, .gatedAccess 0 none, .rcRead 0, .latchingRead 0,
    .registerWrite 0 0].all Instr.wf = true := by decide +kernel

theorem test_wf_takes_5 : [Instr.cellError 0 0 0 0 0, .regionWatchdogTrip 0, .regionReload 0 0, .sfRegionReloadWrite 0 0, .regionReady 0,
    .reloadTimeout 0, .thermalEmergency, .thermalClear, .levelCmdReturn, .levelCmdTimeOnly, .levelCmdSafe, .sfAck,
    .selfchk 0, .selfchkPeriodic 0, .inject 0, .opHoursTick, .flashRecordWrite, .evRecordRead 0, .evReadDone,
    .evLogErase 0, .vddFawnRise, .vddFawnLoss, .vddFawnLow 0, .pwrOkFall 0, .pwrOkRise 0, .sysRstN, .perstN,
    .boot (bootIn 0), .startUp 0 0, .standby 0, .standbyWakeTimeout, .powerStateEntered 0, .blockWake 0 false 0 0,
    .pmbusRequestDone false, .pmbusRetry, .avsTargetUpdate 0 0, .powerSumCheck 0, .pmbAlert false, .padRelease 0,
    .regionEnableWrite 0, .debugRead false, .flashRead 0, .flashProgram 0, .erase4k 0, .erase64k 0, .flashOpDone false,
    .scanAccessEnable, .nopCmd wfHd].all Instr.wf = true := by decide +kernel

theorem test_wf_takes_6 : [Instr.mboxUnknownType wfHd 4, .coreRelease 0 0 0, .memRepairDone false, .trngHealthPass, .controlLost,
    .logWriteDone false, .logEraseDone, .prbsLock 0, .prbsLockLoss 0 0, .pcieLinkTrained 0 0, .jtagInstruction 0 false].all Instr.wf = true := by decide +kernel

end Sys2Proof.Tests
end

section
/-! Accesses to unassigned offsets of BAR0 (R35): no block owns one, so no gate but BAR0's own stands before it. -/

namespace Sys2Proof.Machine

/-- R399, R400: the GLOBAL window, which an offset without a target counts to, is never gated. -/
theorem Hw.gatedBlock_global (h : Hw) : h.gatedBlock 0 = false := by simp [Hw.gatedBlock]

/-- Table 16-5, note (a): the GLOBAL window decodes in every boot. -/
theorem Hw.decodes_global (h : Hw) : h.decodes 0 = true := by simp [Hw.decodes]

/-- Where BAR0 answers, the GLOBAL window is open. -/
theorem Hw.open_global {h : Hw} (hon : h.barOn = true) : h.Open 0 :=
  ⟨hon, h.decodes_global, h.gatedBlock_global⟩

@[simp] theorem BarTgt.block_none : BarTgt.none.block = 0 := rfl

theorem Hw.barRead_none {h : Hw} {off : Nat} (n : NonVol) (hat : barAt off = .none) (hon : h.barOn = true) :
    h.barRead n off = h.emit (.bar off 0) := by
  obtain ⟨-, hdec, hgate⟩ := Hw.open_global hon
  simp [Hw.barRead, hat, hon, hdec, hgate]

theorem Hw.barWrite_none {h : Hw} {off : Nat} (n : NonVol) (v : Nat) (hat : barAt off = .none) (hon : h.barOn = true) :
    h.barWrite n off v = h := by
  rw [Hw.barWrite, hat, BarTgt.block_none, Hw.barGate_open (Hw.open_global hon)]

theorem exec_unassignedAccess (off : Nat) (data : Option Nat) (s : State) :
    exec (.unassignedAccess off data) s = .next (s.withHw (s.hw.barWord s.nv off data)) := rfl

/-- Settles O50: an unassigned offset has no owning block, so a read reaches the arm that emits 0 and a write the arm
that keeps the block as it is. -/
theorem unassignedAccess : Obligations.UnassignedAccess := by
  unfold Obligations.UnassignedAccess Spec.unassignedAccess
  intro s off v hat hon
  constructor
  · calc exec (.unassignedAccess off none) s
        = .next (s.withHw (s.hw.barRead s.nv off)) := exec_unassignedAccess off none s
      _ = .next (s.withHw (s.hw.emit (.bar off 0))) := by rw [Hw.barRead_none s.nv hat hon]
  · calc exec (.unassignedAccess off (some v)) s
        = .next (s.withHw (s.hw.barWrite s.nv off v)) := exec_unassignedAccess off (some v) s
      _ = .next (s.withHw s.hw) := by rw [Hw.barWrite_none s.nv v hat hon]
      _ = .next s := rfl

end Sys2Proof.Machine
end

section
/-! Flags and arithmetic of the parser engines (R240), the results of lookups (R251, R252) and the instruction budget (R242).
An instruction that issues is counted for sampling and then acts on its own pass alone, so what it leads to is read off
`Hw.execP`. -/

namespace Sys2Proof.Machine

/-! ### Issue of an instruction (R242, R243) -/

/-- Within the budget, an instruction is counted for sampling and its result acts. -/
theorem Hw.parser_issue {h : Hw} {e n : Nat} {i : PInstr} {p : Pass} (hat : h.passAt? e = some p)
    (hexec : h.canExec p i = true) (hbud : p.budget = n + 1) :
    h.parser e i = (h.sample e p i.word).passGo e { p with budget := n }
      ((h.sample e p i.word).execP { p with budget := n } i) := by
  simp [Hw.parser, hat, hexec, hbud]

theorem Hw.parser_exhausted {h : Hw} {e : Nat} {i : PInstr} {p : Pass} (hat : h.passAt? e = some p)
    (hexec : h.canExec p i = true) (hbud : p.budget = 0) : h.parser e i = h.passDepth e p PP_CNT_BUDGET := by
  simp [Hw.parser, hat, hexec, hbud]

/-- An instruction that issues and whose result is to go on with pass `q` goes on with it. -/
theorem next_of_issues {s : State} {e n : Nat} {i : PInstr} {p q : Pass} (hi : Spec.Issues s e i p n)
    (hgo : (s.hw.sample e p i.word).execP { p with budget := n } i = .go q) :
    s.nextHw (s.hw.inRegion rgPacket (fun h => h.parser e i)) = Spec.GoesOn s e i p q := by
  obtain ⟨hlive, hat, hexec, hbud⟩ := hi
  exact next_of_live hlive (by rw [Hw.parser_issue hat hexec hbud, hgo]; rfl)

/-! ### The commands -/

theorem exec_pAlu (e d a b fn : Nat) (s : State) :
    exec (.pAlu e d a b fn) s = s.nextHw (s.hw.inRegion rgPacket (fun h => h.parser e (.alu d a b fn))) := rfl

theorem exec_pAlui (e d a fn imm : Nat) (s : State) :
    exec (.pAlui e d a fn imm) s = s.nextHw (s.hw.inRegion rgPacket (fun h => h.parser e (.alui d a fn imm))) := rfl

theorem exec_pCmp (e a b : Nat) (s : State) :
    exec (.pCmp e a b) s = s.nextHw (s.hw.inRegion rgPacket (fun h => h.parser e (.cmp a b))) := rfl

theorem exec_pCmpi (e a imm : Nat) (s : State) :
    exec (.pCmpi e a imm) s = s.nextHw (s.hw.inRegion rgPacket (fun h => h.parser e (.cmpi a imm))) := rfl

theorem exec_lookupResult (e d : Nat) (err : Bool) (s : State) :
    exec (.lookupResult e d err) s = s.nextHw (s.hw.inRegion rgPacket (fun h => h.lookupResult e d err)) := rfl

/-! ### What the arithmetic instructions lead to -/

theorem Hw.execP_alu (h : Hw) (p : Pass) (d a b fn : Nat) :
    h.execP p (.alu d a b fn) = .go (p.put d (aluFn fn (p.reg a) (p.reg b))) := rfl

theorem Hw.execP_alui (h : Hw) (p : Pass) (d a fn imm : Nat) :
    h.execP p (.alui d a fn imm) = .go (p.put d (aluFn fn (p.reg a) imm)) := rfl

theorem cmpFlags_eq (a b : Nat) : cmpFlags a b = (decide (a = b), decide (a < b), decide (b < a)) := rfl

theorem Hw.execP_cmp (h : Hw) (p : Pass) (a b : Nat) : h.execP p (.cmp a b) = .go { p.next with
    eq := decide (p.reg a = p.reg b), lt := decide (p.reg a < p.reg b), gt := decide (p.reg b < p.reg a) } := by
  rw [Hw.execP, cmpFlags_eq]

theorem Hw.execP_cmpi (h : Hw) (p : Pass) (a imm : Nat) : h.execP p (.cmpi a imm) = .go { p.next with
    eq := decide (p.reg a = imm), lt := decide (p.reg a < imm), gt := decide (imm < p.reg a) } := by
  rw [Hw.execP, cmpFlags_eq]

/-- R240: ALU and ALUI. -/
theorem pAlu : Spec.pAlu := by
  intro s e n d a b fn imm p
  constructor
  · intro hi
    rw [exec_pAlu, next_of_issues hi (Hw.execP_alu ..)]; rfl
  · intro hi
    rw [exec_pAlui, next_of_issues hi (Hw.execP_alui ..)]; rfl

/-- R240: CMP and CMPI. -/
theorem pCmp : Spec.pCmp := by
  intro s e n a b imm p
  constructor
  · intro hi
    rw [exec_pCmp, next_of_issues hi (Hw.execP_cmp ..)]; rfl
  · intro hi
    rw [exec_pCmpi, next_of_issues hi (Hw.execP_cmpi ..)]; rfl

/-! ### Results of lookups (R251, R252) -/

/-- The result of register `d`'s lookup finds it where it is the oldest that the pass awaits. -/
theorem takeAwait_lookup (d tbl : Nat) (k : List Byte) (r : List Await) :
    takeAwait (fun a => a.isLookup && a.regs.head? == some d) (.lookup d tbl k :: r) = some (.lookup d tbl k, r) := by
  simp [takeAwait, Await.isLookup, Await.regs]

theorem Hw.lookupResult_miss {h : Hw} {e d tbl : Nat} {p : Pass} {k : List Byte} {r : List Await}
    (hat : h.passAt? e = some p) (haw : p.awaits = .lookup d tbl k :: r) (hmiss : h.tableHit tbl p.frame.epoch k = none)
    (err : Bool) : h.lookupResult e d err = h.setPass e (({ p with awaits := r } : Pass).lookupDone d tbl none) := by
  simp [Hw.lookupResult, hat, haw, takeAwait_lookup, hmiss]

theorem Hw.lookupResult_hit {h : Hw} {e d tbl : Nat} {p : Pass} {k : List Byte} {r : List Await} {t : TblEntry}
    (hat : h.passAt? e = some p) (haw : p.awaits = .lookup d tbl k :: r) (hhit : h.tableHit tbl p.frame.epoch k = some t) :
    h.lookupResult e d false = h.setPass e (({ p with awaits := r } : Pass).lookupDone d tbl (some t)) := by
  simp [Hw.lookupResult, hat, haw, takeAwait_lookup, hhit]

theorem Pass.lookupDone_none (p : Pass) (d tbl : Nat) : p.lookupDone d tbl none =
    { p with g := (p.g.set d 0).set ((d + 1) % 8) 0, eq := false, lt := false, gt := false } := rfl

/-- Outside the flow table a hit writes its two words and the flags alone. -/
theorem Pass.lookupDone_some {tbl : Nat} (p : Pass) (d : Nat) (t : TblEntry) (htbl : tbl ≠ 0) :
    p.lookupDone d tbl (some t) =
      { p with g := (p.g.set d t.r0).set ((d + 1) % 8) t.r1, eq := true, lt := false, gt := false } := by
  simp [Pass.lookupDone, htbl]

/-- R252: a hit in the flow table also writes FLOW. -/
theorem Pass.lookupDone_flow {t : TblEntry} (p : Pass) (d : Nat) (haux : t.aux ≠ 1) : p.lookupDone d 0 (some t) =
    { p with g := (p.g.set d t.r0).set ((d + 1) % 8) t.r1, eq := true, lt := false, gt := false, mdata := p.mdata.set 6 t.slot } := by
  simp [Pass.lookupDone, haux]

/-- R240, R251, R252: what the arrival of a lookup's result does. -/
theorem lookupResult : Spec.lookupResult := by
  intro s e d tbl p k r hlive hat haw
  refine ⟨fun hmiss err => ?_, fun t hhit htbl => ?_, fun t hhit htbl haux => ?_⟩
  · rw [exec_lookupResult]
    exact next_of_live hlive (by rw [Hw.lookupResult_miss hat haw hmiss, Pass.lookupDone_none])
  · rw [exec_lookupResult]
    exact next_of_live hlive (by rw [Hw.lookupResult_hit hat haw hhit, Pass.lookupDone_some _ _ _ htbl])
  · subst htbl
    rw [exec_lookupResult]
    exact next_of_live hlive (by rw [Hw.lookupResult_hit hat haw hhit, Pass.lookupDone_flow _ _ haux])

/-! ### What an instruction leaves of the flags (R240) -/

/-- EQ, LT and GT as they were. -/
def Pass.SameCmp (p q : Pass) : Prop := q.eq = p.eq ∧ q.lt = p.lt ∧ q.gt = p.gt

/-- END not cleared. -/
def Pass.KeepsEnd (p q : Pass) : Prop := p.fin = true → q.fin = true

/-- What an instruction other than a comparison keeps of the flags. -/
def Pass.KeepsFlags (p q : Pass) : Prop := p.SameCmp q ∧ p.KeepsEnd q

theorem Pass.KeepsFlags.of_eq {p q : Pass} (heq : q.eq = p.eq) (hlt : q.lt = p.lt) (hgt : q.gt = p.gt)
    (hfin : q.fin = p.fin) : p.KeepsFlags q := ⟨⟨heq, hlt, hgt⟩, fun h => hfin.trans h⟩

/-- A guarded instruction that goes on has passed its guard. -/
theorem PRes.of_ite_go {c : Prop} [Decidable c] {r x : PRes} {q : Pass} (hgo : (if c then r else x) = .go q)
    (hr : r ≠ .go q := by nofun) : x = .go q := by
  split at hgo
  · exact absurd hgo hr
  · exact hgo

/-- A read of the window goes on only with what its continuation makes of the bytes. -/
theorem Pass.window_go {p q : Pass} {off n : Nat} {f : List Byte → Bool → Pass} (hgo : p.window off n f = .go q) :
    ∃ b e, q = f b e := by
  cases PRes.of_ite_go hgo
  exact ⟨_, _, rfl⟩

theorem Pass.doLd_keepsFlags {p q : Pass} {d sz off : Nat} (hgo : p.doLd d sz off = .go q) : p.KeepsFlags q := by
  obtain ⟨b, e, rfl⟩ := Pass.window_go hgo
  exact ⟨⟨rfl, rfl, rfl⟩, fun h => by simp [h]⟩

theorem Pass.doKey_keepsFlags {p q : Pass} {koff off len : Nat} (hgo : p.doKey koff off len = .go q) : p.KeepsFlags q := by
  obtain ⟨b, e, rfl⟩ := Pass.window_go hgo
  exact ⟨⟨rfl, rfl, rfl⟩, fun h => by simp [h]⟩

theorem Pass.doAdv_keepsFlags {p q : Pass} {mode s imm : Nat} (hgo : p.doAdv mode s imm = .go q) : p.KeepsFlags q := by
  cases PRes.of_ite_go hgo
  exact .of_eq rfl rfl rfl rfl

theorem Pass.doMark_keepsFlags {p q : Pass} {n typ : Nat} (hgo : p.doMark n typ = .go q) : p.KeepsFlags q := by
  cases PRes.of_ite_go hgo
  exact .of_eq rfl rfl rfl rfl

theorem Pass.doLchk_keepsFlags {p q : Pass} {a mode b min : Nat} (hgo : p.doLchk a mode b min = .go q) :
    p.KeepsFlags q := by
  cases PRes.of_ite_go (PRes.of_ite_go hgo)
  exact .of_eq rfl rfl rfl rfl

theorem Pass.doFwd_ne_go {p q : Pass} : p.doFwd ≠ .go q :=
  fun hgo => nomatch PRes.of_ite_go (PRes.of_ite_go hgo)

theorem Pass.doRecirc_ne_go {p q : Pass} {wadv entry : Nat} : p.doRecirc wadv entry ≠ .go q :=
  fun hgo => nomatch PRes.of_ite_go hgo

/-- BF reads the flags and moves the program counter alone. -/
theorem Pass.branch_keepsFlags (p : Pass) (c : Bool) (target : Nat) :
    p.KeepsFlags (if c then { p with pc := target } else p.next) := by
  cases c <;> exact .of_eq rfl rfl rfl rfl

/-- A comparison sets the three flags and leaves END. -/
theorem Hw.execP_cmp_keepsEnd {h : Hw} {p q : Pass} {a b : Nat} (hgo : h.execP p (.cmp a b) = .go q) : p.KeepsEnd q := by
  rw [Hw.execP_cmp] at hgo
  cases hgo; exact id

theorem Hw.execP_cmpi_keepsEnd {h : Hw} {p q : Pass} {a imm : Nat} (hgo : h.execP p (.cmpi a imm) = .go q) :
    p.KeepsEnd q := by
  rw [Hw.execP_cmpi] at hgo
  cases hgo; exact id

/-- R240: every instruction but the two comparisons keeps the flags: most write none at all, LD and KEY can set END, and
the verdicts do not go on. -/
theorem Hw.execP_keepsFlags {h : Hw} {p q : Pass} {i : PInstr} (hgo : h.execP p i = .go q)
    (hcmp : ∀ a b, i ≠ .cmp a b) (hcmpi : ∀ a m, i ≠ .cmpi a m) : p.KeepsFlags q := by
  cases i with
  | cmp a b => exact absurd rfl (hcmp a b)
  | cmpi a m => exact absurd rfl (hcmpi a m)
  | ld => exact Pass.doLd_keepsFlags hgo
  | key => exact Pass.doKey_keepsFlags hgo
  | adv => exact Pass.doAdv_keepsFlags hgo
  | mark => exact Pass.doMark_keepsFlags hgo
  | lchk => exact Pass.doLchk_keepsFlags hgo
  | bf => cases hgo; exact Pass.branch_keepsFlags ..
  | fwd => exact absurd hgo Pass.doFwd_ne_go
  | recirc => exact absurd hgo Pass.doRecirc_ne_go
  | exc | drop => cases hgo
  | nop | ldi | ldih | extb | alu | alui | keyr | hash | lookup | setm | setmi | getm =>
    cases hgo; exact .of_eq rfl rfl rfl rfl

/-- R240: which instructions change the flags. -/
theorem flagsKept : Spec.flagsKept := by
  intro h p q i hgo
  refine ⟨fun hcmp hcmpi => (Hw.execP_keepsFlags hgo hcmp hcmpi).1, ?_⟩
  cases i with
  | cmp => exact Hw.execP_cmp_keepsEnd hgo
  | cmpi => exact Hw.execP_cmpi_keepsEnd hgo
  | _ => exact (Hw.execP_keepsFlags hgo nofun nofun).2

/-! ### The arithmetic of FN (R240) -/

theorem aluFn_lt {fn a b : Nat} (ha : a < 2 ^ 32) : aluFn fn a b < 2 ^ 32 := by
  unfold aluFn
  split
  case h_3 => exact Nat.and_le_left.trans_lt ha
  case h_7 => exact (Nat.shiftRight_le _ _).trans_lt (Nat.mod_lt _ (by decide))
  all_goals exact Nat.mod_lt _ (by decide)

theorem aluFn_add (a b : Nat) : aluFn 0 a b = (a + b) % 2 ^ 32 := rfl

/-- The function code is a variable here: by `rfl` at the numeral 1 the kernel would count to 2^32. -/
theorem aluFn_sub {fn : Nat} (hfn : fn = 1) (a b : Nat) : aluFn fn a b = (a + 2 ^ 32 - b % 2 ^ 32) % 2 ^ 32 := by
  unfold aluFn
  split
  case h_2 => rfl
  all_goals contradiction

theorem aluFn_sub_add {a : Nat} (b : Nat) (ha : a < 2 ^ 32) : (aluFn 1 a b + b) % 2 ^ 32 = a := by
  rw [aluFn_sub rfl]
  omega

theorem aluFn_shiftLeft (a b : Nat) : aluFn 5 a b = a * 2 ^ (b % 32) % 2 ^ 32 :=
  congrArg (· % 2 ^ 32) (Nat.shiftLeft_eq a (b % 32))

theorem aluFn_shiftRight {a : Nat} (b : Nat) (ha : a < 2 ^ 32) : aluFn 6 a b = a / 2 ^ (b % 32) :=
  calc aluFn 6 a b = (a % 2 ^ 32) >>> (b % 32) := rfl
    _ = a / 2 ^ (b % 32) := by rw [Nat.mod_eq_of_lt ha, Nat.shiftRight_eq_div_pow]

theorem aluFn_move (a : Nat) {b : Nat} (hb : b < 2 ^ 32) : aluFn 7 a b = b := Nat.mod_eq_of_lt hb

/-- R240: exactly one of EQ, LT and GT. -/
theorem cmpFlags_exactlyOne (a b : Nat) :
    cmpFlags a b = (true, false, false) ∨ cmpFlags a b = (false, true, false) ∨ cmpFlags a b = (false, false, true) := by
  rw [cmpFlags_eq]
  rcases Nat.lt_trichotomy a b with hlt | rfl | hgt
  · exact .inr (.inl (by simp [hlt, hlt.ne, hlt.le]))
  · exact .inl (by simp)
  · exact .inr (.inr (by simp [hgt, hgt.ne', hgt.le]))

/-- R240: the results of FN and the flags of a comparison. -/
theorem aluWraps : Spec.aluWraps := fun _ a b ha hb =>
  ⟨aluFn_lt ha, aluFn_add a b, aluFn_sub_add b ha, aluFn_shiftLeft a b, aluFn_shiftRight b ha, aluFn_move a hb,
    cmpFlags_exactlyOne a b⟩

/-! ### The family -/

/-- R242: the 257th instruction of a pass. -/
theorem pBudget : Spec.pBudget := fun _ _ _ _ hat hexec hbud => Hw.parser_exhausted hat hexec hbud

/-- Settles O28: an instruction that issues acts through `Hw.execP` on its pass alone, a lookup's result through
`Pass.lookupDone`, and `Hw.execP_keepsFlags` goes through the instructions once. -/
theorem parserFlags : Obligations.ParserFlags :=
  ⟨pAlu, pCmp, lookupResult, flagsKept, aluWraps, pBudget⟩

end Sys2Proof.Machine
end

section
/-! EPOCH_OPEN (R379, R382, R383) and the opcodes outside Table 14-6 (R370): both complete at once, so what each does is
the block and the answer that its effect gives, which `next_of_done` turns into the next state. -/

namespace Sys2Proof.Machine

/-! ### An opcode outside Table 14-6 (R370) -/

theorem exec_unsupportedOpcode (hd : CmdHdr) (op : Nat) (s : State) : exec (.unsupportedOpcode hd op) s =
    s.nextHw (s.hw.hostCmd hd op (fun h => (h, .fail stUnsupported))) := rfl

/-- The command stands for the opcodes of no other command alone. -/
theorem notMem_cmdSet_of_wf {hd : CmdHdr} {op : Nat} (hwf : (Instr.unsupportedOpcode hd op).wf = true) : op ∉ cmdSet := by
  have hparts : (hd.wf && !cmdSet.contains op && decide (op < 256)) = true := hwf
  simp only [Bool.and_eq_true] at hparts
  obtain ⟨⟨-, hout⟩, -⟩ := hparts
  simpa using hout

/-- Settles O43: a well-formed command carries an opcode outside Table 14-6, and its effect hands back the block that took
it, with UNSUPPORTED. -/
theorem unsupportedOpcode : Obligations.UnsupportedOpcode := by
  unfold Obligations.UnsupportedOpcode Spec.unsupportedOpcode
  refine ⟨fun hd op hwf => notMem_cmdSet_of_wf hwf, fun s hd op hready => ?_⟩
  rw [exec_unsupportedOpcode]
  exact next_of_done hready rfl

/-! ### EPOCH_OPEN (R379, R382, R383) -/

theorem exec_epochOpen (hd : CmdHdr) (s : State) :
    exec (.epochOpen hd) s = s.nextHw (s.hw.hostCmd hd 0x10 (fun h => h.epochOpen hd)) := rfl

theorem Hw.drains_iff (h : Hw) : h.drains = true ↔ h.rd HI_EPOCH_STATUS_DRAINING ≠ 0 := by simp [Hw.drains]

/-- What makes EPOCH_OPEN complete BUSY: an epoch is pending, or a rollback waits or drains. A drain without a previous
epoch is a rollback's. -/
def Hw.OpenBusy (h : Hw) : Prop :=
  h.pstate ≠ psNone ∨ h.ep.rollback = true ∨ (h.drains = true ∧ h.rd HI_EPOCH_STATUS_PREVIOUS = noEpoch)

theorem Hw.openBusy_iff (h : Hw) : h.OpenBusy ↔ h.pstate ≠ psNone ∨ h.ep.rollback = true ∨
    (h.rd HI_EPOCH_STATUS_DRAINING ≠ 0 ∧ h.rd HI_EPOCH_STATUS_PREVIOUS = noEpoch) := by
  rw [Hw.OpenBusy, Hw.drains_iff]

theorem Hw.not_openBusy {h : Hw} (hnone : h.pstate = psNone) (hroll : h.ep.rollback = false)
    (hdrain : h.rd HI_EPOCH_STATUS_DRAINING = 0 ∨ h.rd HI_EPOCH_STATUS_PREVIOUS ≠ noEpoch) : ¬ h.OpenBusy := by
  rw [Hw.openBusy_iff]
  rintro (hpend | hback | ⟨hdr, hprev⟩)
  · exact hpend hnone
  · exact Bool.false_ne_true (hroll.symm.trans hback)
  · exact hdrain.elim hdr (· hprev)

theorem Hw.epochOpen_busy {h : Hw} (hd : CmdHdr) (hbusy : h.OpenBusy) : h.epochOpen hd = (h, .fail stBusy h.pendNum) :=
  if_pos hbusy

theorem Hw.epochOpen_stale {h : Hw} {hd : CmdHdr} (hfree : ¬ h.OpenBusy) (hbase : hd.epoch ≠ h.rd HI_EPOCH_STATUS_CURRENT) :
    h.epochOpen hd = (h, .fail stStale) :=
  (if_neg hfree).trans (if_pos hbase)

/-- HI_EPOCH_STATUS with epoch `n` pending and OPEN. -/
def Hw.showPending (h : Hw) (n : Nat) : Hw := (h.wr HI_EPOCH_STATUS_PENDING n).wr HI_EPOCH_STATUS_PSTATE psOpen

@[simp] theorem Hw.showPending_pending (h : Hw) (n : Nat) : (h.showPending n).rd HI_EPOCH_STATUS_PENDING = n % 2 ^ 32 := by
  rw [Hw.showPending, Hw.rd_wr_ne _ _ _ _ _ _ _ _ (by decide), Hw.rd_wr_same]

@[simp] theorem Hw.showPending_pstate (h : Hw) (n : Nat) : (h.showPending n).rd HI_EPOCH_STATUS_PSTATE = psOpen :=
  Hw.rd_wr_same ..

@[simp] theorem Hw.showPending_ep (h : Hw) (n : Nat) : (h.showPending n).ep = h.ep := rfl

theorem Hw.showPending_sameFields {h u : Hw} (hregs : u.regs = h.regs) (n : Nat) :
    SameFields [HI_EPOCH_STATUS_PENDING.key 0 0, HI_EPOCH_STATUS_PSTATE.key 0 0] h (u.showPending n) :=
  .wr (.wr (.of_regs (.refl _ h) hregs) _ _ _ _ (by simp)) _ _ _ _ (by simp)

/-- R379, R382: an accepted EPOCH_OPEN gives the highest number plus one to an epoch that starts from the current one's
objects and program, writes no register but HI_EPOCH_STATUS, and answers the number. -/
theorem Hw.epochOpen_opens {h : Hw} {hd : CmdHdr} (hfree : ¬ h.OpenBusy) (hbase : hd.epoch = h.rd HI_EPOCH_STATUS_CURRENT) :
    ∃ u : Hw, h.epochOpen hd = (u.showPending (h.ep.highest + 1), .ok (h.ep.highest + 1)) ∧ u.regs = h.regs ∧
      u.ep.highest = h.ep.highest + 1 ∧ u.ep.pend = h.ep.cur ∧ u.ep.cur = h.ep.cur ∧ u.ep.progPend = h.ep.progCur :=
  ⟨_, (if_neg hfree).trans (if_neg (not_not_intro hbase)), rfl, rfl, rfl, rfl, rfl⟩

/-- Settles O46: the three branches of `Hw.epochOpen`, BUSY before the base (log entry 24), and the fields that the opened
epoch shows. -/
theorem epochOpen : Obligations.EpochOpen := by
  unfold Obligations.EpochOpen Spec.epochOpen
  rintro s hd h hready rfl
  rw [exec_epochOpen]
  refine ⟨fun hbusy => ?busy, fun hnone hroll hdrain hbase => ?stale, fun hnone hroll hdrain hbase => ?opens⟩
  case busy => exact next_of_done hready (Hw.epochOpen_busy hd ((Hw.openBusy_iff _).mpr hbusy))
  case stale => exact next_of_done hready (Hw.epochOpen_stale (Hw.not_openBusy hnone hroll hdrain) hbase)
  case opens =>
    obtain ⟨u, hopen, hregs, hhigh, hpend, hcur, hprog⟩ :=
      Hw.epochOpen_opens (Hw.not_openBusy hnone hroll hdrain) hbase
    exact ⟨_, next_of_done hready hopen, u.showPending_pending _, u.showPending_pstate _, hhigh, hpend, hcur, hprog,
      Hw.showPending_sameFields hregs _⟩

end Sys2Proof.Machine
end

section
/-! Gated accesses (R399, R400): which blocks are gated, and what an access to one returns and shows in SF_REGION. -/

namespace Sys2Proof.Machine

/-! ### Which blocks are gated -/

/-- R400: GLOBAL, FAWN and the key store are never gated. -/
theorem Hw.gatedBlock_exempt (h : Hw) {b : Nat} (hex : b / 0x1000 = 0 ∨ b / 0x1000 = rgFawn ∨ b = 0x5040) :
    h.gatedBlock b = false := if_pos hex

theorem Hw.gatedBlock_of_not_exempt (h : Hw) {b : Nat} (hex : ¬ (b / 0x1000 = 0 ∨ b / 0x1000 = rgFawn ∨ b = 0x5040)) :
    h.gatedBlock b = (h.regionState (b / 0x1000) == stStopped || h.regionState (b / 0x1000) == stReloading ||
      h.regionState (b / 0x1000) == stGated || !(h.regionAt (b / 0x1000)).powered || h.blockOff b) := if_neg hex

theorem gatedBlocks : Spec.gatedBlocks := by
  refine fun h b => ⟨h.gatedBlock_exempt, fun hglobal hfawn hks hoff => ?_⟩
  rw [h.gatedBlock_of_not_exempt (by simp [hglobal, hfawn, hks])]
  rcases hoff with hst | hst | hst | hst <;> simp [hst]

/-- BAR0 answers for block `b`, which is gated. -/
def Hw.Gated (h : Hw) (b : Nat) : Prop := h.barOn = true ∧ h.decodes b = true ∧ h.gatedBlock b = true

/-! ### What a gated access shows in SF_REGION -/

theorem Hw.gatedAccess_first {h : Hw} {b : Nat} (hclear : h.rd SF_REGION_GATED_ACCESS (b / 0x1000) = 0) :
    h.gatedAccess b = ((h.wr SF_REGION_GATED_BLOCK b (b / 0x1000)).wr SF_REGION_GATED_ACCESS 1 (b / 0x1000)).inc
      SF_REGION_GATED_CNT (b / 0x1000) := by
  simp [Hw.gatedAccess, hclear]

theorem Hw.gatedAccess_again {h : Hw} {b : Nat} (hset : h.rd SF_REGION_GATED_ACCESS (b / 0x1000) ≠ 0) :
    h.gatedAccess b = (h.wr SF_REGION_GATED_ACCESS 1 (b / 0x1000)).inc SF_REGION_GATED_CNT (b / 0x1000) := by
  have hon : h.on SF_REGION_GATED_ACCESS (b / 0x1000) = true := by simpa using hset
  rw [Hw.gatedAccess, hon]
  rfl

/-- The fields of SF_REGION[r] that a gated access can change. -/
def gatedKeys (r : Nat) : List FKey :=
  [SF_REGION_GATED_ACCESS.key r 0, SF_REGION_GATED_CNT.key r 0, SF_REGION_GATED_BLOCK.key r 0]

theorem Hw.gatedAccess_sameFields (h : Hw) (b : Nat) : SameFields (gatedKeys (b / 0x1000)) h (h.gatedAccess b) := by
  by_cases hclear : h.rd SF_REGION_GATED_ACCESS (b / 0x1000) = 0
  · rw [Hw.gatedAccess_first hclear]
    exact (((SameFields.refl _ h).wr _ _ _ _ (by simp [gatedKeys])).wr _ _ _ _ (by simp [gatedKeys])).inc _ _ _ _
      (by simp [gatedKeys])
  · rw [Hw.gatedAccess_again hclear]
    exact ((SameFields.refl _ h).wr _ _ _ _ (by simp [gatedKeys])).inc _ _ _ _ (by simp [gatedKeys])

@[simp] theorem Hw.gatedAccess_pw (h : Hw) (b : Nat) : (h.gatedAccess b).pw = h.pw := by
  by_cases hclear : h.rd SF_REGION_GATED_ACCESS (b / 0x1000) = 0
  · simp [Hw.gatedAccess_first hclear]
  · simp [Hw.gatedAccess_again hclear]

@[simp] theorem Hw.gatedAccess_sf (h : Hw) (b : Nat) : (h.gatedAccess b).sf = h.sf := by
  by_cases hclear : h.rd SF_REGION_GATED_ACCESS (b / 0x1000) = 0
  · simp [Hw.gatedAccess_first hclear]
  · simp [Hw.gatedAccess_again hclear]

theorem Hw.gatedAccess_flag (h : Hw) (b : Nat) : (h.gatedAccess b).rd SF_REGION_GATED_ACCESS (b / 0x1000) = 1 := by
  by_cases hclear : h.rd SF_REGION_GATED_ACCESS (b / 0x1000) = 0
  · simp [Hw.gatedAccess_first hclear, Hw.rd_inc, Fld.key]
  · simp [Hw.gatedAccess_again hclear, Hw.rd_inc, Fld.key]

theorem Hw.gatedAccess_count (h : Hw) (b : Nat) : (h.gatedAccess b).rd SF_REGION_GATED_CNT (b / 0x1000) =
    satNat SF_REGION_GATED_CNT.width (h.rd SF_REGION_GATED_CNT (b / 0x1000) + 1) := by
  by_cases hclear : h.rd SF_REGION_GATED_ACCESS (b / 0x1000) = 0
  · simp [Hw.gatedAccess_first hclear, Hw.rd_inc, Hw.rd_wr, Fld.key]
  · simp [Hw.gatedAccess_again hclear, Hw.rd_inc, Hw.rd_wr, Fld.key]

theorem Hw.gatedAccess_block_first {h : Hw} {b : Nat} (hclear : h.rd SF_REGION_GATED_ACCESS (b / 0x1000) = 0) :
    (h.gatedAccess b).rd SF_REGION_GATED_BLOCK (b / 0x1000) = b % 2 ^ SF_REGION_GATED_BLOCK.width := by
  simp [Hw.gatedAccess_first hclear, Hw.rd_inc, Hw.rd_wr, Fld.key]

theorem Hw.gatedAccess_block_again {h : Hw} {b : Nat} (hset : h.rd SF_REGION_GATED_ACCESS (b / 0x1000) ≠ 0) :
    (h.gatedAccess b).rd SF_REGION_GATED_BLOCK (b / 0x1000) = h.rd SF_REGION_GATED_BLOCK (b / 0x1000) := by
  simp [Hw.gatedAccess_again hset, Hw.rd_inc, Hw.rd_wr, Fld.key]

/-! ### The block stays gated

The second word of an 8-byte access finds the block as gated as the first did. -/

theorem Hw.regionState_congr {h t : Hw} {r : Nat} (hstate : t.rd SF_REGION_STATE r = h.rd SF_REGION_STATE r)
    (hsf : t.sf = h.sf) : t.regionState r = h.regionState r := by
  unfold Hw.regionState Hw.regionAt
  rw [hstate, hsf]

theorem Hw.blockOff_congr {h t : Hw} (hblk : ∀ i, t.rd PW_BLK_STATE_STATE i = h.rd PW_BLK_STATE_STATE i)
    (hheld : t.rd SF_LEVEL_HELD = h.rd SF_LEVEL_HELD) (hatt : t.rd SF_LEVEL_TO_ATT = h.rd SF_LEVEL_TO_ATT) (b : Nat) :
    t.blockOff b = h.blockOff b := by
  unfold Hw.blockOff Hw.timeOnly
  rw [hblk, hheld, hatt]

/-- Whether a block is gated rests on its region, the blocks' power states, and the attachment that TIME-ONLY keeps. -/
theorem Hw.gatedBlock_congr {h t : Hw} {b : Nat} (hstate : t.regionState (b / 0x1000) = h.regionState (b / 0x1000))
    (hoff : t.blockOff b = h.blockOff b) (hsf : t.sf = h.sf) : t.gatedBlock b = h.gatedBlock b := by
  simp only [Hw.gatedBlock, Hw.regionAt, hstate, hoff, hsf]

theorem Hw.gatedBlock_gatedAccess (h : Hw) (b c : Nat) : (h.gatedAccess b).gatedBlock c = h.gatedBlock c := by
  have hrd (f : Fld) (i : Nat) (hf : f.key i 0 ∉ gatedKeys (b / 0x1000)) : (h.gatedAccess b).rd f i = h.rd f i :=
    h.gatedAccess_sameFields b f i 0 hf
  refine Hw.gatedBlock_congr (Hw.regionState_congr (hrd _ _ ?_) (h.gatedAccess_sf b))
    (Hw.blockOff_congr (fun i => hrd _ i ?_) (hrd _ 0 ?_) (hrd _ 0 ?_) c) (h.gatedAccess_sf b)
  all_goals simp [gatedKeys, Fld.key]

theorem Hw.Gated.second_word {h : Hw} {b : Nat} (hg : h.Gated b) :
    (h.gatedAccess b).decodes b = true ∧ (h.gatedAccess b).gatedBlock b = true := by
  obtain ⟨-, hdec, hgate⟩ := hg
  exact ⟨by simpa [Hw.decodes] using hdec, (h.gatedBlock_gatedAccess b b).trans hgate⟩

/-! ### Accesses -/

theorem Hw.barGate_gated {h : Hw} {b : Nat} (hg : h.Gated b) (f : Hw → Hw) : h.barGate b f = h.gatedAccess b := by
  obtain ⟨hon, hdec, hgate⟩ := hg
  simp [Hw.barGate, hon, hdec, hgate]

theorem Hw.barRead_gated {h : Hw} {b off : Nat} (n : NonVol) (hg : h.Gated b) (hat : (barAt off).block = b) :
    h.barRead n off = (h.gatedAccess b).emit (.bar off (gatedWord b)) := by
  obtain ⟨hon, hdec, hgate⟩ := hg
  subst hat
  simp [Hw.barRead, hon, hdec, hgate]

theorem Hw.barWrite_gated {h : Hw} {b off : Nat} (n : NonVol) (v : Nat) (hg : h.Gated b) (hat : (barAt off).block = b) :
    h.barWrite n off v = h.gatedAccess b := by
  rw [Hw.barWrite, hat, Hw.barGate_gated hg]

/-- An 8-byte access on a multiple of 8 is two words (log entry 66). -/
theorem Hw.badAccess_twoWords {h : Hw} {off : Nat} (n : NonVol) (data : Option Nat) (hon : h.barOn = true) (hoff : off % 8 = 0) :
    h.badAccess n off 8 data = (h.barWord n off (data.map (fun v => bits v 0 32))).barSecond n (off + 4)
      (data.map (fun v => bits v 32 32)) := by
  simp [Hw.badAccess, hon, hoff]

theorem Hw.barSecond_read_gated {h : Hw} {b off : Nat} (n : NonVol) (hdec : h.decodes b = true) (hgate : h.gatedBlock b = true)
    (hfst : (barAt off).block = b) (hsnd : (barAt (off + 4)).block = b) :
    h.barSecond n (off + 4) none = h.emit (.bar (off + 4) (gatedWord b)) := by
  simp [Hw.barSecond, hfst, hsnd, hdec, hgate]

theorem Hw.barSecond_write_gated {h : Hw} {b off : Nat} (n : NonVol) (v : Nat) (hdec : h.decodes b = true)
    (hgate : h.gatedBlock b = true) (hfst : (barAt off).block = b) (hsnd : (barAt (off + 4)).block = b) :
    h.barSecond n (off + 4) (some v) = h := by
  simp [Hw.barSecond, hfst, hsnd, hdec, hgate]

theorem Hw.badAccess_read_gated {h : Hw} {b off : Nat} (n : NonVol) (hg : h.Gated b) (hoff : off % 8 = 0)
    (hfst : (barAt off).block = b) (hsnd : (barAt (off + 4)).block = b) :
    h.badAccess n off 8 none =
      ((h.gatedAccess b).emit (.bar off (gatedWord b))).emit (.bar (off + 4) (gatedWord b)) := by
  obtain ⟨hdec, hgate⟩ := hg.second_word
  calc h.badAccess n off 8 none = (h.barRead n off).barSecond n (off + 4) none := Hw.badAccess_twoWords n none hg.1 hoff
    _ = ((h.gatedAccess b).emit (.bar off (gatedWord b))).barSecond n (off + 4) none := by rw [Hw.barRead_gated n hg hfst]
    _ = _ := Hw.barSecond_read_gated n hdec hgate hfst hsnd

theorem Hw.badAccess_write_gated {h : Hw} {b off : Nat} (n : NonVol) (v : Nat) (hg : h.Gated b) (hoff : off % 8 = 0)
    (hfst : (barAt off).block = b) (hsnd : (barAt (off + 4)).block = b) :
    h.badAccess n off 8 (some v) = h.gatedAccess b := by
  obtain ⟨hdec, hgate⟩ := hg.second_word
  calc h.badAccess n off 8 (some v) = (h.barWrite n off (bits v 0 32)).barSecond n (off + 4) (some (bits v 32 32)) :=
        Hw.badAccess_twoWords n (some v) hg.1 hoff
    _ = (h.gatedAccess b).barSecond n (off + 4) (some (bits v 32 32)) := by rw [Hw.barWrite_gated n _ hg hfst]
    _ = h.gatedAccess b := Hw.barSecond_write_gated n _ hdec hgate hfst hsnd

/-! ### The family -/

theorem exec_gatedAccess (off : Nat) (data : Option Nat) (s : State) :
    exec (.gatedAccess off data) s = .next (s.withHw (s.hw.barWord s.nv off data)) := rfl

theorem exec_badAcc (off size : Nat) (data : Option Nat) (s : State) :
    exec (.badAcc off size data) s = .next (s.withHw (s.hw.badAccess s.nv off size data)) := rfl

theorem gatedWrite : Spec.gatedWrite := fun _ _ f hon hdec hgate => Hw.barGate_gated ⟨hon, hdec, hgate⟩ f

/-- Settles O49: a gated block answers before the target of the access is looked at, and the note in SF_REGION leaves the
block gated for the second word of 8 bytes. -/
theorem gatedAccess : Obligations.GatedAccess := by
  refine ⟨gatedBlocks, fun s off v b hat hon hdec hgate => ?_, gatedWrite⟩
  have hg : s.hw.Gated b := ⟨hon, hdec, hgate⟩
  refine ⟨?read, ?write, fun hoff hsnd => ⟨?read8, ?write8⟩, s.hw.gatedAccess_flag b, s.hw.gatedAccess_count b,
    Hw.gatedAccess_block_again, Hw.gatedAccess_block_first, s.hw.gatedAccess_sameFields b, s.hw.gatedAccess_pw b,
    s.hw.gatedAccess_sf b⟩
  case read => exact (exec_gatedAccess ..).trans (by rw [Hw.barWord, Hw.barRead_gated s.nv hg hat, gatedWord])
  case write => exact (exec_gatedAccess ..).trans (by rw [Hw.barWord, Hw.barWrite_gated s.nv v hg hat])
  case read8 => exact (exec_badAcc ..).trans (by rw [Hw.badAccess_read_gated s.nv hg hoff hat hsnd, gatedWord])
  case write8 => exact (exec_badAcc ..).trans (by rw [Hw.badAccess_write_gated s.nv v hg hoff hat hsnd])

end Sys2Proof.Machine
end

section
/-! Reloads that the host requests (R402), and the limit on automatic ones (R18). -/

namespace Sys2Proof.Machine

/-! ### A write of the word with RELOAD and AUTO_DIS (R402) -/

theorem exec_sfRegionReloadWrite (r v : Nat) (s : State) : exec (.sfRegionReloadWrite r v) s =
    s.nextHw (s.hw.barGate (regBlock .SF_REGION r 0) (fun h => h.reloadWrite r v)) := rfl

theorem Hw.reloadWrite_dropped {h : Hw} {r v : Nat}
    (hdrop : bitOf v 0 = false ∨ r = rgFawn ∨ (h.writeWord .SF_REGION 2 v r 0).regionState r = stReloading) :
    h.reloadWrite r v = h.writeWord .SF_REGION 2 v r 0 := by
  rcases hdrop with hbit | hfawn | hst
  · simp [Hw.reloadWrite, hbit]
  · simp [Hw.reloadWrite, hfawn]
  · simp [Hw.reloadWrite, hst]

theorem Hw.reloadWrite_asks {h : Hw} {r v : Nat} (hbit : bitOf v 0 = true) (hfawn : r ≠ rgFawn)
    (hrun : (h.writeWord .SF_REGION 2 v r 0).regionState r = stRun) :
    h.reloadWrite r v = (h.writeWord .SF_REGION 2 v r 0).askReload r 2 := by
  simp [Hw.reloadWrite, hbit, hfawn, hrun, stRun, stReloading, stGated]

/-- R12: STATE is read-only, so a write of SF_REGION leaves the state of the region. -/
theorem Hw.regionState_writeWord (h : Hw) (w v r : Nat) : (h.writeWord .SF_REGION w v r 0).regionState r = h.regionState r :=
  Hw.regionState_congr (h.rd_writeWord_ro .SF_REGION w v r 0 SF_REGION_STATE (by simp [RegName.fields]) (by decide) (by decide))
    (h.writeWord_sf ..)

theorem Hw.regionState_reloading {h : Hw} {r : Nat} (hzero : r ≠ 0) (hfawn : r ≠ rgFawn)
    (hst : h.rd SF_REGION_STATE r = stReloading) : h.regionState r = stReloading := by
  simp [Hw.regionState, hzero, hfawn, hst, stRun, stReloading]

theorem Hw.autoDis_writeWord (h : Hw) (v r : Nat) : (h.writeWord .SF_REGION 2 v r 0).rd SF_REGION_AUTO_DIS r = bits v 1 1 :=
  h.rd_writeWord_rw .SF_REGION 2 v r 0 SF_REGION_AUTO_DIS (by simp [RegName.fields]) rfl (by decide) (by decide) (by decide)

theorem reloadWrite : Spec.reloadWrite := by
  intro s r v hopen
  refine ⟨fun hbit => ?unasked, fun _ hdrop => ?dropped, fun hbit _ _ hfawn hrun => ?asks, s.hw.autoDis_writeWord v r⟩
  all_goals rw [exec_sfRegionReloadWrite]
  case unasked => exact next_of_open hopen (Hw.reloadWrite_dropped (.inl hbit))
  case dropped =>
    refine next_of_open hopen (Hw.reloadWrite_dropped (.inr ?_))
    rw [Hw.regionState_writeWord]
    by_cases hfawn : r = rgFawn
    · exact .inl hfawn
    · obtain ⟨hzero, hst⟩ := hdrop.resolve_left hfawn
      exact .inr (Hw.regionState_reloading hzero hfawn hst)
  case asks => exact next_of_open hopen (Hw.reloadWrite_asks hbit hfawn ((s.hw.regionState_writeWord ..).trans hrun))

/-! ### The pending epoch is discarded (R394)

It leaves the supervisor's part and the registers other than those of the epochs, the tables and the notes. -/

/-- What every step of a loop keeps, the loop keeps. -/
theorem Hw.each_keeps {α β : Type} (p : Hw → β) {g : Hw → α → Hw} (hg : ∀ h x, p (g h x) = p h) (l : List α) (h : Hw) :
    p (h.each l g) = p h := by
  induction l generalizing h with
  | nil => rfl
  | cons x xs ih => rw [Hw.each_cons, ih, hg]

theorem Hw.rd_wr_of_reg_ne {f g : Fld} (hreg : f.reg ≠ g.reg) (h : Hw) (v i j i' j' : Nat) :
    (h.wr f v i j).rd g i' j' = h.rd g i' j' :=
  h.rd_wr_ne f g v i j i' j' (fun hkey => hreg (congrArg FKey.reg hkey))

theorem Hw.showTables_sf (h : Hw) : h.showTables.sf = h.sf :=
  Hw.each_keeps Hw.sf (fun h _ => h.wr_sf ..) _ h

theorem Hw.showTables_rd {f : Fld} (htbl : f.reg ≠ .PP_TBL_STAT) (h : Hw) (i j : Nat) : h.showTables.rd f i j = h.rd f i j :=
  Hw.each_keeps (fun h => h.rd f i j) (fun h _ => Hw.rd_wr_of_reg_ne htbl.symm h ..) _ h

theorem Hw.epochDiscard_sf (h : Hw) : h.epochDiscard.sf = h.sf := Hw.showTables_sf _

theorem Hw.epochDiscard_rd {f : Fld} (htbl : f.reg ≠ .PP_TBL_STAT) (hep : f.reg ≠ .HI_EPOCH_STATUS) (h : Hw) (i j : Nat) :
    h.epochDiscard.rd f i j = h.rd f i j := by
  simp only [Hw.epochDiscard]
  rw [Hw.showTables_rd htbl, Hw.rd_wr_of_reg_ne hep.symm, Hw.rd_wr_of_reg_ne hep.symm, Hw.setPk_rd, Hw.setEp_rd]

theorem Hw.epochReload_sf (h : Hw) : h.epochReload.sf = h.sf := by
  rw [Hw.epochReload, Hw.epochDrop]
  split
  · rfl
  · exact (notes_completeOpen ..).sf.trans h.epochDiscard_sf

theorem Hw.epochReload_rd {f : Fld} (htbl : f.reg ≠ .PP_TBL_STAT) (hep : f.reg ≠ .HI_EPOCH_STATUS) (hev : f.reg ≠ .EV_STATUS)
    (hdrop : f.reg ≠ .HI_EVT_DROP) (h : Hw) (i j : Nat) : h.epochReload.rd f i j = h.rd f i j := by
  rw [Hw.epochReload, Hw.epochDrop]
  split
  · rfl
  · exact ((notes_completeOpen ..).rd f i j hev hdrop).trans (Hw.epochDiscard_rd htbl hep h i j)

/-! ### A region stops (R401, step 1) -/

theorem Hw.regionStop_of_ne_line {r : Nat} (hline : r ≠ rgLine) (h : Hw) : h.regionStop r =
    (((h.when (r == rgControl) Hw.padLatch).setState r stStopped).setReady r false).wr PW_PAD_CFG_HELD 1 r := if_neg hline

theorem Hw.padLatch_sf (h : Hw) : h.padLatch.sf = h.sf := by
  rw [Hw.padLatch]
  split <;> rfl

theorem Hw.regionStop_sf {r : Nat} (hline : r ≠ rgLine) (h : Hw) : (h.regionStop r).sf = h.sf := by
  rw [Hw.regionStop_of_ne_line hline]
  show (h.when (r == rgControl) Hw.padLatch).sf = h.sf
  cases r == rgControl
  · rfl
  · exact h.padLatch_sf

theorem Hw.regionStop_state {r : Nat} (hline : r ≠ rgLine) (h : Hw) : (h.regionStop r).rd SF_REGION_STATE r = stStopped := by
  rw [Hw.regionStop_of_ne_line hline, Hw.rd_wr_of_reg_ne (by decide), Hw.setReady, Hw.rd_wr_of_reg_ne (by decide), Hw.setState,
    Hw.rd_wr_same]
  rfl

theorem Hw.regionStop_held {r : Nat} (hline : r ≠ rgLine) (h : Hw) : (h.regionStop r).rd PW_PAD_CFG_HELD r = 1 := by
  rw [Hw.regionStop_of_ne_line hline, Hw.rd_wr_same]
  rfl

/-! ### A reload begins (R18) -/

/-- The regions of the statement: all but LINE can stop and reload alike; FAWN never does. -/
theorem region_of_mem {r : Nat} (hmem : r ∈ [rgPortW, rgPortE, rgPacket, rgMemory, rgControl]) :
    r ≠ rgLine ∧ r ≠ rgFawn ∧ r ≠ 0 ∧ ¬ 7 < r := by
  revert r
  decide

theorem Hw.reloadStart_fawn (h : Hw) (c : Nat) : h.reloadStart rgFawn c = h := by simp [Hw.reloadStart]

theorem Hw.regionAt_ctlFrom (h : Hw) (x : Option Nat) (r : Nat) :
    ({ h with sf := { h.sf with ctlFrom := x } } : Hw).regionAt r = h.regionAt r := rfl

section
variable {h : Hw} {r : Nat} (hmem : r ∈ [rgPortW, rgPortE, rgPacket, rgMemory, rgControl]) (hrun : h.regionState r = stRun)
  (hoff : (h.regionAt r).offPend = false)
include hmem hrun hoff

theorem Hw.reloadStart_limited {c : Nat} (hauto : c ≠ 2)
    (hlim : 2 ≤ (h.recentAutos r).length ∨ h.rd SF_REGION_AUTO_DIS r ≠ 0) : h.reloadStart r c = h.regionFail r := by
  obtain ⟨-, hfawn, hzero, hle⟩ := region_of_mem hmem
  have hovr : (c != 2 && (decide (2 ≤ (h.recentAutos r).length) || h.on SF_REGION_AUTO_DIS r)) = true := by
    simpa [hauto] using hlim
  simp only [Hw.reloadStart]
  rw [if_neg (by simp [hfawn, hzero, hle, hoff]), if_neg (by simp [hrun]), if_pos hovr]

/-- What the host's request does before the pending epoch is discarded: the region has stopped and keeps what it notes of its
reload. -/
theorem Hw.reloadStart_host : ∃ t : Hw, h.reloadStart r 2 = t.epochReload ∧ t.regs = (h.regionStop r).regs ∧
    t.regionAt r = { h.regionAt r with began := h.tick, cause := 2, autos := h.recentAutos r } := by
  obtain ⟨hline, hfawn, hzero, hle⟩ := region_of_mem hmem
  have hat : (h.regionStop r).regionAt r = h.regionAt r := by rw [Hw.regionAt, Hw.regionStop_sf hline, Hw.regionAt]
  simp only [Hw.reloadStart]
  rw [if_neg (by simp [hfawn, hzero, hle, hoff]), if_neg (by simp [hrun]), if_neg (by simp)]
  refine ⟨_, rfl, ?regs, ?note⟩
  case regs => split <;> rfl
  case note =>
    split
    · rw [Hw.regionAt_ctlFrom, Hw.setRegion_regionAt, hat, if_pos trivial]
    · rw [Hw.setRegion_regionAt, hat, if_pos trivial]

theorem Hw.reloadStart_host_stops :
    (h.reloadStart r 2).rd SF_REGION_STATE r = stStopped ∧ (h.reloadStart r 2).rd PW_PAD_CFG_HELD r = 1 ∧
      ((h.reloadStart r 2).regionAt r).cause = 2 ∧ ((h.reloadStart r 2).regionAt r).autos = h.recentAutos r := by
  obtain ⟨hline, -⟩ := region_of_mem hmem
  obtain ⟨t, ht, hregs, hnote⟩ := Hw.reloadStart_host hmem hrun hoff
  have hrd (f : Fld) : t.rd f r = (h.regionStop r).rd f r := by rw [Hw.rd, hregs, Hw.rd]
  have hat : t.epochReload.regionAt r = t.regionAt r := by rw [Hw.regionAt, Hw.epochReload_sf, Hw.regionAt]
  rw [ht, hat, hnote]
  refine ⟨?state, ?held, rfl, rfl⟩
  case state =>
    rw [Hw.epochReload_rd (by decide) (by decide) (by decide) (by decide), hrd, Hw.regionStop_state hline]
  case held =>
    rw [Hw.epochReload_rd (by decide) (by decide) (by decide) (by decide), hrd, Hw.regionStop_held hline]

end

theorem reloadBegins : Spec.reloadBegins := fun h _ c => ⟨h.reloadStart_fawn c, fun hmem hrun hoff =>
  ⟨fun hauto hlim => Hw.reloadStart_limited hmem hrun hoff hauto hlim, Hw.reloadStart_host_stops hmem hrun hoff⟩⟩

/-- Settles O54: a write of SF_REGION leaves STATE as it is, so the request is decided by the state before it; the reload
that begins stops the region, and the discard of the pending epoch keeps the region's registers. -/
theorem hostReload : Obligations.HostReload := ⟨reloadWrite, reloadBegins⟩

end Sys2Proof.Machine
end

section
/-! The block as a whole: a step and its front command, what a command answers, and the non-volatile memory, whose boot flash
keeps its canonical form (R454, R423 to R425, R431, R434, R439). -/

namespace Sys2Proof.Machine

/-! ### Steps -/

theorem step_idle {s : State} (hnil : s.pending = []) : step s = .next s := by simp [step, hnil]

theorem step_front {s : State} {c : Instr} {l : List Instr} (hfront : s.pending = c :: l) :
    step s = exec c { s with pending := l } := by simp [step, hfront]

/-- Settles O1: the queue's front is what `step` matches on. -/
theorem stepRunsFront : Obligations.StepRunsFront := fun _ _ _ hfront => step_front hfront

/-- A command's meaning ends in a next state of the same queue, whichever of the shared forms it has. -/
theorem everyCommandAnswers_spec : Spec.everyCommandAnswers := by
  intro c s
  cases c <;> exact ⟨_, _, rfl⟩

/-- Settles O2, by the forms that the commands' meanings share. -/
theorem everyCommandAnswers : Obligations.EveryCommandAnswers := ⟨fun _ => step_idle, everyCommandAnswers_spec⟩

/-- Settles O5: after reset no register field is listed, so each reads its reset value. -/
theorem resetState : Obligations.ResetState :=
  ⟨reset_inv, rfl, fun _ _ _ => rfl, rfl, rfl, rfl, rfl, rfl, rfl, rfl, fun _ => rfl⟩

/-! ### Which commands write the non-volatile memory -/

/-- Every command but the ten changes the block alone. -/
theorem exec_nextHw {c : Instr} (hother : Spec.writesNonVolatile c = false) (s : State) : ∃ h, exec c s = s.nextHw h := by
  cases c
  case estopFlashCopy | opHoursTick | flashRecordWrite | logWriteDone | logEraseDone | boot | startUp | blockWake | flashOpDone
      | jtagInstruction => cases hother
  all_goals exact ⟨_, rfl⟩

theorem nonVolatileFrame_spec : Spec.nonVolatileFrame := by
  intro c s t hother hexec
  obtain ⟨h, hnext⟩ := exec_nextHw hother s
  cases hnext.symm.trans hexec
  rfl

/-- An operation on the non-volatile memory keeps what it has of it and what it leaves where its region does not run. -/
theorem Hw.inRegionNv_keeps {P : NonVol → Prop} (h : Hw) {n : NonVol} (r : Nat) {f : Hw → Hw × NonVol} (hn : P n)
    (hf : ∀ h, P (f h).2) : P (h.inRegionNv n r f).2 := by
  unfold Hw.inRegionNv
  split
  · exact hf h
  · exact hn

theorem Hw.opHours_flash (h : Hw) (n : NonVol) : (h.opHours n).2.flash = n.flash := by
  unfold Hw.opHours
  dsimp only
  split
  · rfl
  · split <;> rfl

theorem Hw.jtagInstr_flash (h : Hw) (n : NonVol) (i : Nat) (o : Bool) : (h.jtagInstr n i o).2.flash = n.flash := by
  unfold Hw.jtagInstr
  dsimp only
  split
  · rfl
  · split <;> rfl

/-- The three of the ten that write no byte of the flash: the emergency-stop copy, the hours and the fuses. -/
theorem flashFrame_spec : Spec.flashFrame := by
  intro c s t hflash hexec
  cases hnv : Spec.writesNonVolatile c with
  | false => rw [nonVolatileFrame_spec c s t hnv hexec]
  | true =>
    cases c
    case estopFlashCopy a =>
      cases hexec
      exact Hw.inRegionNv_keeps (P := fun n => n.flash = s.nv.flash) _ _ rfl (fun _ => rfl)
    case opHoursTick =>
      cases hexec
      exact Hw.inRegionNv_keeps (P := fun n => n.flash = s.nv.flash) _ _ rfl (fun h => h.opHours_flash s.nv)
    case jtagInstruction i o =>
      cases hexec
      exact Hw.inRegionNv_keeps (P := fun n => n.flash = s.nv.flash) _ _ rfl (fun h => h.jtagInstr_flash s.nv i o)
    case flashRecordWrite | logWriteDone | logEraseDone | boot | startUp | blockWake | flashOpDone => cases hflash
    all_goals cases hnv

/-- Settles O4: every other command's meaning is a next state with the block alone changed. -/
theorem nonVolatileFrame : Obligations.NonVolatileFrame := ⟨nonVolatileFrame_spec, flashFrame_spec⟩

/-! ### The canonical form of the boot flash

Each operation that changes bytes is built of programs and erases, which keep the form (Laws/Flash). -/

/-- The boot flash is in its canonical form. -/
def NonVol.Canonical (n : NonVol) : Prop := flashWf n.flash = true

section
variable {n : NonVol} (hc : n.Canonical)
include hc

theorem NonVol.Canonical.program (a : Nat) (d : List Byte) : NonVol.Canonical { n with flash := flashProg n.flash a d } :=
  flashProg_wf a d hc

theorem NonVol.Canonical.erase (a k : Nat) : NonVol.Canonical { n with flash := flashErase n.flash a k } := flashErase_wf a k hc

theorem Hw.rewriteErase_canonical (h : Hw) : (h.rewriteErase n).Canonical := by
  unfold Hw.rewriteErase
  split
  · exact hc.erase _ _
  · exact hc

theorem Hw.rewriteResume_canonical (h : Hw) : (h.rewriteResume n).2.Canonical := by
  unfold Hw.rewriteResume
  split
  · exact h.rewriteErase_canonical hc
  · exact hc

theorem Hw.logWrite_canonical (h : Hw) : (h.logWrite n).2.Canonical := by
  unfold Hw.logWrite
  split
  · exact hc
  · split
    · exact hc
    · dsimp only
      split
      · exact hc
      · split
        · exact hc.program _ _
        · split
          · exact hc
          · exact Hw.rewriteErase_canonical hc _

theorem Hw.logWriteDone_canonical (h : Hw) (slow : Bool) : (h.logWriteDone n slow).2.Canonical := by
  unfold Hw.logWriteDone
  split
  · exact hc
  · split
    · dsimp only
      split
      · exact Hw.rewriteErase_canonical hc _
      · exact hc
    · dsimp only
      split
      · exact hc.program _ _
      · exact hc.program _ _

theorem Hw.logEraseDone_canonical (h : Hw) : (h.logEraseDone n).2.Canonical := by
  unfold Hw.logEraseDone
  split
  · exact hc
  · split
    · exact hc
    · exact (hc.erase _ _).program _ _

theorem Hw.flashDone_canonical (h : Hw) (slow : Bool) : (h.flashDone n slow).2.Canonical := by
  unfold Hw.flashDone
  split
  · exact hc
  · split
    · exact hc
    · dsimp only
      split
      · exact hc
      · split
        · exact hc.program _ _
        · exact hc.erase _ _

/-- Of the banks, that of the flash writer alone touches the flash: its rewrite buffer's sector is erased again. -/
theorem Hw.bankRebuild_canonical (h : Hw) (b : Nat) : (h.bankRebuild n b).2.Canonical := by
  unfold Hw.bankRebuild
  split
  case h_7 =>
    split
    · exact h.rewriteErase_canonical hc
    · exact hc
  all_goals exact hc

theorem Hw.bankCheck_canonical (h : Hw) (l : List Nat) (bad : Nat) : (h.bankCheck n l bad).2.Canonical := by
  unfold Hw.bankCheck
  refine List.foldlRecOn (motive := fun x : Hw × NonVol => x.2.Canonical) _ _ hc (fun x hx b _ => ?_)
  exact Hw.bankRebuild_canonical hx _ b

theorem Hw.boot_canonical (h : Hw) (x : BootIn) : (h.boot n x).2.Canonical := by
  unfold Hw.boot
  split
  · exact hc
  · split
    · exact hc
    · split
      · exact hc
      · have hr (g : Hw) : ((g.bootCounts n).1.rewriteResume (g.bootCounts n).2).2.Canonical :=
          Hw.rewriteResume_canonical (n := (g.bootCounts n).2) hc _
        dsimp only
        split
        · exact hr _
        · split
          · exact hr _
          · split <;> exact hr _

theorem Hw.startUp_canonical (h : Hw) (bad banks : Nat) : (h.startUp n bad banks).2.Canonical := by
  unfold Hw.startUp
  split
  · exact hc
  · exact h.bankCheck_canonical hc (List.range 14) banks

theorem Hw.regionWake_canonical (h : Hw) (r : Nat) (pll : Bool) (banks bad : Nat) :
    (h.regionWake n r pll banks bad).2.Canonical := by
  unfold Hw.regionWake
  split
  · split
    · exact hc
    · split
      · exact hc
      · dsimp only
        split
        · exact h.bankCheck_canonical hc _ _
        · exact hc
  · exact hc

theorem Hw.blockWake_canonical (h : Hw) (u : Nat) (pll : Bool) (banks bad : Nat) :
    (h.blockWake n u pll banks bad).2.Canonical := by
  unfold Hw.blockWake
  split
  · exact h.regionWake_canonical hc _ _ _ _
  · split
    · dsimp only
      split
      · exact hc
      · split <;> exact hc
    · exact hc

end

/-- Every command keeps the canonical form: seven by their operation, the others leave the flash as it is. -/
theorem exec_inv {c : Instr} {s t : State} (hinv : s.Inv) (hexec : exec c s = .next t) : t.Inv := by
  have hc : s.nv.Canonical := hinv
  cases hflash : Spec.writesFlash c with
  | false => rw [State.Inv, flashFrame_spec c s t hflash hexec]; exact hinv
  | true =>
    cases c
    case flashRecordWrite => cases hexec; exact Hw.inRegionNv_keeps _ _ hc (fun h => h.logWrite_canonical hc)
    case logWriteDone slow => cases hexec; exact Hw.inRegionNv_keeps _ _ hc (fun h => h.logWriteDone_canonical hc slow)
    case logEraseDone => cases hexec; exact Hw.inRegionNv_keeps _ _ hc (fun h => h.logEraseDone_canonical hc)
    case boot x => cases hexec; exact Hw.inRegionNv_keeps _ _ hc (fun h => h.boot_canonical hc x)
    case startUp bad banks => cases hexec; exact Hw.inRegionNv_keeps _ _ hc (fun h => h.startUp_canonical hc bad banks)
    case blockWake u pll banks bad =>
      cases hexec
      exact Hw.inRegionNv_keeps _ _ hc (fun h => h.blockWake_canonical hc u pll banks bad)
    case flashOpDone slow => cases hexec; exact Hw.inRegionNv_keeps _ _ hc (fun h => h.flashDone_canonical hc slow)
    all_goals cases hflash

/-- Settles O3: a step is its front command, and each command keeps the canonical form. -/
theorem flashStaysCanonical : Obligations.FlashStaysCanonical := by
  intro s t hinv hstep
  cases hq : s.pending with
  | nil => rw [step_idle hq] at hstep; cases hstep; exact hinv
  | cons c l => rw [step_front hq] at hstep; exact exec_inv (s := { s with pending := l }) hinv hstep

end Sys2Proof.Machine
end

section
/-! Instruction words of the parser engines (Table 9-3, R239, R258): an instruction and its word give each other back. -/

namespace Sys2Proof.Machine

/-! ### Words of instructions in their widths -/

theorem bits_eq_div (v l w : Nat) : bits v l w = v / 2 ^ l % 2 ^ w := by rw [bits, Nat.shiftRight_eq_div_pow]

theorem PInstr.op_lt (i : PInstr) : i.op < 24 := by cases i <;> simp [PInstr.op]

/-- HASH reads 13 or 37 bytes of the key buffer, so its offset lies below 64. -/
theorem PInstr.hash_koff_lt {d c v6 koff : Nat} (hwf : (PInstr.hash d c v6 koff).wf = true) :
    d < 8 ∧ c < 2 ∧ v6 < 2 ∧ koff < 64 := by
  obtain ⟨hd, hc, hv6, hk⟩ := of_decide_eq_true hwf
  refine ⟨hd, hc, hv6, ?_⟩
  split at hk <;> omega

theorem PInstr.fields_lt {i : PInstr} (hwf : i.wf = true) : i.fields < 2 ^ 27 := by
  cases i
  case hash =>
    obtain ⟨hd, hc, hv6, hk⟩ := PInstr.hash_koff_lt hwf
    simp only [PInstr.fields]
    omega
  all_goals
    simp only [PInstr.wf, decide_eq_true_eq] at hwf
    simp only [PInstr.fields]
    omega

theorem PInstr.word_lt {i : PInstr} (hwf : i.wf = true) : i.word < 2 ^ 32 := by
  have hop := PInstr.op_lt i
  have hfields := PInstr.fields_lt hwf
  rw [PInstr.word]
  omega

/-- The opcode stands above the fields. -/
theorem PInstr.bits_op {i : PInstr} (hwf : i.wf = true) : bits i.word 27 5 = i.op := by
  have hop := PInstr.op_lt i
  have hfields := PInstr.fields_lt hwf
  rw [PInstr.word, bits_eq_div]
  omega

/-- Each field is read back from its place. -/
theorem pDecodeFields_word {i : PInstr} (hwf : i.wf = true) : pDecodeFields i.op i.word = some i := by
  cases i
  case nop | fwd => rfl
  case hash =>
    obtain ⟨hd, hc, hv6, hk⟩ := PInstr.hash_koff_lt hwf
    simp only [pDecodeFields, PInstr.op, PInstr.word, PInstr.fields, bits_eq_div, Option.some.injEq, PInstr.hash.injEq]
    omega
  all_goals
    simp only [PInstr.wf, decide_eq_true_eq] at hwf
    simp only [pDecodeFields, PInstr.op, PInstr.word, PInstr.fields, bits_eq_div, Option.some.injEq, PInstr.ld.injEq,
      PInstr.ldi.injEq, PInstr.ldih.injEq, PInstr.extb.injEq, PInstr.alu.injEq, PInstr.alui.injEq, PInstr.cmp.injEq,
      PInstr.cmpi.injEq, PInstr.bf.injEq, PInstr.adv.injEq, PInstr.mark.injEq, PInstr.key.injEq, PInstr.keyr.injEq,
      PInstr.lookup.injEq, PInstr.setm.injEq, PInstr.setmi.injEq, PInstr.getm.injEq, PInstr.lchk.injEq, PInstr.exc.injEq,
      PInstr.drop.injEq, PInstr.recirc.injEq]
    omega

/-! ### What a word spells -/

theorem pDecode_of_fields {w : Nat} {i : PInstr} (hfields : pDecodeFields (bits w 27 5) w = some i) (hword : i.word = w) :
    pDecode w = some i := by
  unfold pDecode
  rw [hfields]
  exact if_pos hword

theorem pDecode_word {i : PInstr} (hwf : i.wf = true) : pDecode i.word = some i :=
  pDecode_of_fields ((congrArg (pDecodeFields · i.word) (PInstr.bits_op hwf)).trans (pDecodeFields_word hwf)) rfl

theorem word_of_pDecode {w : Nat} {i : PInstr} (hdec : pDecode w = some i) : i.word = w := by
  unfold pDecode at hdec
  split at hdec
  · cases hdec
  · split at hdec
    · cases hdec; assumption
    · cases hdec

theorem pDecodeFields_reserved {op : Nat} (hop : 0x18 ≤ op) (w : Nat) : pDecodeFields op w = none := by
  unfold pDecodeFields
  split
  case h_25 => rfl
  all_goals omega

theorem pDecode_reserved {w : Nat} (hw : w < 2 ^ 32) (hop : 0x18 ≤ w / 2 ^ 27) : pDecode w = none := by
  have hbits : 0x18 ≤ bits w 27 5 := by rw [bits_eq_div]; omega
  rw [pDecode, pDecodeFields_reserved hbits]

theorem target_lt_of_pWordOk {count w t : Nat} {i : PInstr} (hok : pWordOk count w = true) (hdec : pDecode w = some i)
    (htgt : i.target? = some t) : t < count := by
  simp only [pWordOk, hdec, htgt, Bool.and_eq_true, decide_eq_true_eq] at hok
  exact hok.2

/-- Settles O31: the opcode and each field lie in disjoint bits of the word, and a word is kept only where it is the word of
what its fields spell. -/
theorem parserWordRoundTrip : Obligations.ParserWordRoundTrip :=
  ⟨fun _ hwf => ⟨pDecode_word hwf, PInstr.word_lt hwf⟩, fun _ _ => word_of_pDecode, fun _ => pDecode_reserved,
    fun _ _ _ _ => target_lt_of_pWordOk⟩

end Sys2Proof.Machine
end

section
/-! What each parser instruction leads to (R239 to R242, R247 to R250, R256), and that a pass which goes on changes nothing but
itself (R246). -/

namespace Sys2Proof.Machine

/-! ### Issue and sampling -/

/-- R350: with sampling off, counting an instruction changes nothing. -/
theorem Hw.sample_off {h : Hw} (hoff : bitOf (h.cfg PC_CFG_FLAGS) 1 = false) (e w : Nat) (p : Pass) : h.sample e p w = h := by
  simp [Hw.sample, hoff]

/-- An instruction that issues acts on the block as its result says. -/
theorem next_of_result {s : State} {e n : Nat} {i : PInstr} {p : Pass} {r : PRes} (hi : Spec.Issues s e i p n)
    (hr : (s.hw.sample e p i.word).execP { p with budget := n } i = r) :
    s.nextHw (s.hw.inRegion rgPacket (fun h => h.parser e i)) =
      .next (s.withHw ((s.hw.sample e p i.word).passGo e { p with budget := n } r)) := by
  obtain ⟨hlive, hat, hexec, hbud⟩ := hi
  exact next_of_live hlive (by rw [Hw.parser_issue hat hexec hbud, hr])

/-! ### Instructions that only change their pass -/

theorem pNop : Spec.pNop := fun _ _ _ _ hi => next_of_issues hi rfl

theorem pLoads : Spec.pLoads := fun _ _ _ _ _ _ _ _ _ =>
  ⟨fun hi => next_of_issues hi rfl, fun hi => next_of_issues hi rfl, fun hi => next_of_issues hi rfl⟩

/-- R242: a read that stays within the window. -/
theorem Pass.window_of_le {p : Pass} {off n : Nat} (hle : p.cursor + off + n ≤ 256) (f : List Byte → Bool → Pass) :
    p.window off n f = .go (f (p.read (p.cursor + off) n).1 (p.read (p.cursor + off) n).2) := by
  rw [Pass.window, if_neg (by omega)]

/-- R242: a read that would reach window byte 256. -/
theorem Pass.window_of_lt {p : Pass} {off n : Nat} (hlt : 256 < p.cursor + off + n) (f : List Byte → Bool → Pass) :
    p.window off n f = .depth PP_CNT_WINDOW := if_pos hlt

theorem Pass.doLd_of_le {p : Pass} {sz off : Nat} (hle : p.cursor + off + 2 ^ sz ≤ 256) (d : Nat) : p.doLd d sz off =
    .go { p.put d (beNat ((List.range (2 ^ sz)).map (fun k => p.byte (p.cursor + off + k)))) with
      fin := p.fin || decide (p.limit < p.wbase + (p.cursor + off) + 2 ^ sz) } := Pass.window_of_le hle _

theorem Pass.doLd_of_lt {p : Pass} {sz off : Nat} (hlt : 256 < p.cursor + off + 2 ^ sz) (d : Nat) :
    p.doLd d sz off = .depth PP_CNT_WINDOW := Pass.window_of_lt hlt _

theorem pLd : Spec.pLd := fun _ _ n d _ _ p hi =>
  ⟨fun hle => next_of_issues hi (Pass.doLd_of_le (p := { p with budget := n }) hle d),
    fun hlt => next_of_result hi (Pass.doLd_of_lt (p := { p with budget := n }) hlt d)⟩

theorem pWindowByte : Spec.pWindowByte := fun _ _ => ⟨fun hle => if_neg (Nat.not_lt.mpr hle), fun hlt => if_pos hlt⟩

/-- ADV's new cursor: an immediate or a register, added in modes 0 and 1. -/
theorem Pass.doAdv_eq (p : Pass) (mode s imm : Nat) : p.doAdv mode s imm =
    if 255 < (if mode < 2 then p.cursor else 0) + (if mode % 2 = 0 then imm else p.reg s) then .depth PP_CNT_WINDOW
    else .go { p.next with cursor := (if mode < 2 then p.cursor else 0) + (if mode % 2 = 0 then imm else p.reg s) } := by
  by_cases hmode : mode < 2 <;> simp [Pass.doAdv, hmode]

theorem pAdv : Spec.pAdv := by
  intro s e n mode rs imm c p hi hc
  subst hc
  exact ⟨fun hle => next_of_issues hi ((Pass.doAdv_eq ..).trans (if_neg (Nat.not_lt.mpr hle))),
    fun hlt => next_of_result hi ((Pass.doAdv_eq ..).trans (if_pos hlt))⟩

theorem pMark : Spec.pMark := fun _ _ _ _ _ _ hi =>
  ⟨fun hlt => next_of_issues hi (if_neg (Nat.not_le.mpr hlt)), fun hle => next_of_result hi (if_pos hle)⟩

theorem Pass.doKey_of_le {p : Pass} {off len : Nat} (hle : p.cursor + off + (len + 1) ≤ 256) (koff : Nat) :
    p.doKey koff off len = .go { p.next with
      key := splice p.key koff ((List.range (len + 1)).map (fun k => p.byte (p.cursor + off + k)))
      fin := p.fin || decide (p.limit < p.wbase + (p.cursor + off) + (len + 1)) } := Pass.window_of_le hle _

theorem Pass.doKey_of_lt {p : Pass} {off len : Nat} (hlt : 256 < p.cursor + off + (len + 1)) (koff : Nat) :
    p.doKey koff off len = .depth PP_CNT_WINDOW := Pass.window_of_lt hlt _

theorem pKeys : Spec.pKeys := fun _ _ n koff _ _ _ _ p =>
  ⟨fun hi hle => next_of_issues hi (Pass.doKey_of_le (p := { p with budget := n }) hle koff),
    fun hi hlt => next_of_result hi (Pass.doKey_of_lt (p := { p with budget := n }) hlt koff), fun hi => next_of_issues hi rfl⟩

theorem pMeta : Spec.pMeta := fun _ _ _ _ _ _ _ _ =>
  ⟨fun hi => next_of_issues hi rfl, fun hi => next_of_issues hi rfl, fun hi => next_of_issues hi rfl⟩

theorem Hw.execP_bf (h : Hw) (p : Pass) (cond target : Nat) : h.execP p (.bf cond target) =
    .go { p with pc := if condHolds cond p.eq p.lt p.gt p.fin then target else p.pc + 1 } := by
  rw [Hw.execP]
  split <;> rfl

theorem pBf : Spec.pBf := fun _ _ _ _ _ _ hi => next_of_issues hi (Hw.execP_bf ..)

/-! ### LCHK (R249) -/

section
variable {p : Pass} {a mode b min lo : Nat} {hi : Int} (hlo : lo = if mode = 2 then p.reg b else min)
  (hhi : hi = if mode = 1 then ((p.reg b : Nat) : Int) else ((p.limit : Nat) : Int) - ((p.wbase + p.cursor : Nat) : Int))
include hlo

theorem Pass.doLchk_less (hlt : p.reg a < lo) : p.doLchk a mode b min = .verdict (some PP_CNT_LESS) (.lenConflict p.out) := by
  subst hlo
  exact if_pos hlt

include hhi

theorem Pass.doLchk_greater (hle : lo ≤ p.reg a) (hgt : hi < (p.reg a : Int)) : p.doLchk a mode b min =
    .verdict (some (if mode = 1 then PP_CNT_INNER else PP_CNT_GREATER)) (.lenConflict p.out) := by
  subst hlo hhi
  exact (if_neg (Nat.not_lt.mpr hle)).trans (if_pos hgt)

theorem Pass.doLchk_within (hle : lo ≤ p.reg a) (hge : (p.reg a : Int) ≤ hi) : p.doLchk a mode b min = .go p.next := by
  subst hlo hhi
  exact (if_neg (Nat.not_lt.mpr hle)).trans (if_neg (Int.not_lt.mpr hge))

end

theorem pLchk : Spec.pLchk := by
  intro s e n a mode b min lo hi p h hiss hh hlo hhi
  subst hh
  exact ⟨fun hlt => next_of_result hiss (Pass.doLchk_less (p := { p with budget := n }) hlo hlt),
    fun hle hgt => next_of_result hiss (Pass.doLchk_greater (p := { p with budget := n }) hlo hhi hle hgt),
    fun hle hge => next_of_issues hiss (Pass.doLchk_within (p := { p with budget := n }) hlo hhi hle hge)⟩

/-- Settles O26: each instruction that issues acts as its line of Table 9-3 says on the pass that it finds. -/
theorem parserInstructions : Obligations.ParserInstructions :=
  ⟨fun _ e w p hoff => Hw.sample_off hoff e w p, pNop, pLoads, pLd, pWindowByte, pAdv, pMark, pKeys, pMeta, pLchk, pBf⟩

/-! ### Verdicts (R247, R256) -/

section
variable {p : Pass} {q d : Nat} (hq : p.mdata.getD 0 0 = q) (hd : p.mdata.getD 1 0 = d)
include hq hd

theorem Pass.doFwd_noDest (hzero : d = 0) (hnone : q = 0xFFFF) :
    p.doFwd = .verdict (some PP_CNT_NO_DEST) (.except p.out 0 0) := by
  simp only [Pass.doFwd, hq, hd]
  exact if_pos ⟨hzero, hnone⟩

theorem Pass.doFwd_badDest (hbad : 2 ≤ d ∨ (d = 0 ∧ q ≠ 0xFFFF ∧ 1088 ≤ q % 4096) ∨
      (d = 1 ∧ (p.frame.src = 128 ∨ p.frame.src = 129)) ∨ (d = 1 ∧ p.mdata.getD 2 0 / 2 ^ 14 % 4 = 3)) :
    p.doFwd = .verdict (some PP_CNT_BAD_DEST) (.except p.out 0 1) := by
  simp only [Pass.doFwd, hq, hd, bits_eq_div]
  rw [if_neg (by omega), if_pos (by omega)]

theorem Pass.doFwd_forward (hgood : (d = 0 ∧ q % 4096 < 1088) ∨
      (d = 1 ∧ p.frame.src ≠ 128 ∧ p.frame.src ≠ 129 ∧ p.mdata.getD 2 0 / 2 ^ 14 % 4 ≠ 3)) :
    p.doFwd = .verdict none (.forward p.out) := by
  simp only [Pass.doFwd, hq, hd, bits_eq_div]
  rw [if_neg (by omega), if_neg (by omega)]

end

theorem pFwd : Spec.pFwd := by
  intro s e n q d p h hi hh hq hd
  subst hh
  exact ⟨fun hzero hnone => next_of_result hi (Pass.doFwd_noDest (p := { p with budget := n }) hq hd hzero hnone),
    fun hbad => next_of_result hi (Pass.doFwd_badDest (p := { p with budget := n }) hq hd hbad),
    fun hgood => next_of_result hi (Pass.doFwd_forward (p := { p with budget := n }) hq hd hgood)⟩

theorem pVerdicts : Spec.pVerdicts := fun _ _ _ _ _ => ⟨fun hi => next_of_result hi rfl, fun hi => next_of_result hi rfl⟩

/-! ### A second pass, and DEPTH (R242, R250, R248) -/

theorem Pass.doRecirc_first {p : Pass} (hfirst : p.second = false) (wadv entry : Nat) :
    p.doRecirc wadv entry = .recirc (wadv != 0) entry := if_neg (by simp [hfirst])

theorem Pass.doRecirc_second {p : Pass} (hsecond : p.second = true) (wadv entry : Nat) :
    p.doRecirc wadv entry = .depth PP_CNT_PASSES := if_pos hsecond

theorem pRecirc : Spec.pRecirc := fun _ _ n wadv entry p hi =>
  ⟨fun hfirst => next_of_result hi (Pass.doRecirc_first (p := { p with budget := n }) hfirst wadv entry),
    fun hsecond => next_of_result hi (Pass.doRecirc_second (p := { p with budget := n }) hsecond wadv entry)⟩

theorem Hw.rd_inc_of_reg_ne {f g : Fld} (hreg : f.reg ≠ g.reg) (h : Hw) (i j n i' j' : Nat) :
    (h.inc f i j n).rd g i' j' = h.rd g i' j' := by
  rw [Hw.rd_inc, if_neg (fun hkey => hreg (congrArg FKey.reg hkey))]

/-- The counters of DEPTH are no part of the configuration, so the handler's entry stays. -/
theorem Hw.entryOf_inc {c : Fld} (hcnt : c.reg = .PP_CNT) (h : Hw) (i j n epoch k : Nat) :
    (h.inc c i j n).entryOf epoch k = h.entryOf epoch k := by
  have hcur : (h.inc c i j n).rd HI_EPOCH_STATUS_CURRENT = h.rd HI_EPOCH_STATUS_CURRENT :=
    h.rd_inc_of_reg_ne (by rw [hcnt]; decide) ..
  simp only [Hw.entryOf, Hw.headOf, hcur, Hw.inc_ep]

theorem pDepth : Spec.pDepth := by
  intro h e p c hcnt
  constructor
  · intro hentry hidle
    simp [Hw.passDepth, Hw.entryOf_inc hcnt, hentry, hidle]
  · intro hnone
    simp only [Hw.passDepth, Hw.entryOf_inc hcnt]
    exact if_pos hnone

/-- Settles O29: each result acts on the block as it found it, but for the instruction's count. -/
theorem parserVerdicts : Obligations.ParserVerdicts := ⟨pFwd, pVerdicts, pRecirc, pDepth⟩

/-! ### A pass acts on itself alone (R246) -/

/-- Settles O30: with sampling off an instruction whose result is to go on sets its engine's pass and nothing else. -/
theorem parserPassIsPrivate : Obligations.ParserPassIsPrivate := by
  intro h e n i p q hat hexec hbud hoff hgo
  rw [Hw.parser_issue hat hexec hbud, Hw.sample_off hoff, hgo]
  rfl

end Sys2Proof.Machine
end

section
/-! Counters, rounding, byte orders and signed fields (R9, R11, R13, R344, R345, R349, R479). -/

namespace Sys2Proof.Machine

/-! ### Counting (R13, R344, R345, R349) -/

theorem Hw.inc_wraps (h : Hw) (f : Fld) (i j n : Nat) : (h.inc f i j n).wraps =
    if look h.pcnt (f.key i j) 0 + n < 2 ^ 48 then h.wraps else h.wraps ++ [f.key i j] := rfl

theorem Hw.inc_pcnt (h : Hw) (f : Fld) (i j n : Nat) : (h.inc f i j n).pcnt =
    store h.pcnt (f.key i j) ((look h.pcnt (f.key i j) 0 + n) % 2 ^ 48) := rfl

theorem counters : Spec.counters := by
  intro h f i j n _ _
  refine ⟨?field, ?mirror, ?wrap, ?within, (SameFields.refl _ h).inc f i j n (List.mem_singleton.mpr rfl)⟩
  case field => rw [Hw.rd_inc, if_pos rfl, satNat]
  case mirror => rw [Hw.inc_pcnt, look_store_same]
  case wrap =>
    intro hge
    rw [Hw.inc_wraps, if_neg (Nat.not_lt.mpr hge)]
    exact List.mem_append_right _ (List.mem_singleton.mpr rfl)
  case within => exact fun hlt => (h.inc_wraps f i j n).trans (if_pos hlt)

/-! ### Rounding (R479) -/

/-- A rounded quotient is the floor below the half step, the ceiling above it, and the even one of them at it. -/
theorem roundDiv_cases (x : Int) (d : Nat) :
    (2 * (x % d) < d ∧ roundDiv x d = x / d) ∨ (d < 2 * (x % d) ∧ roundDiv x d = x / d + 1) ∨
      (2 * (x % d) = d ∧ (roundDiv x d = x / d ∨ roundDiv x d = x / d + 1) ∧ roundDiv x d % 2 = 0) := by
  simp only [roundDiv]
  split
  · exact .inl ⟨‹_›, rfl⟩
  · split
    · exact .inr (.inl ⟨‹_›, rfl⟩)
    · split <;> exact .inr (.inr ⟨by omega, by simp, by omega⟩)

theorem roundDiv_exact (x : Int) {d : Nat} (hd : 0 < d) : roundDiv (x * d) d = x := by
  have hquot : x * d / (d : Int) = x := Int.mul_ediv_cancel x (by omega)
  have hrem : x * d % (d : Int) = 0 := Int.mul_emod_left x d
  rcases roundDiv_cases (x * d) d with ⟨_, he⟩ | ⟨hgt, _⟩ | ⟨heq, _⟩
  · rw [he, hquot]
  · omega
  · omega

theorem rounding : Spec.rounding := by
  intro x d hd
  have hsplit : x / d * d + x % d = x := Int.ediv_mul_add_emod x d
  have hlt : x % d < d := Int.emod_lt_of_pos x (by omega)
  have hge : 0 ≤ x % d := Int.emod_nonneg x (by omega)
  have hceil : (x / d + 1) * d = x / d * d + d := by ring
  have hround := roundDiv_cases x d
  refine ⟨?_, ?_, roundDiv_exact x hd⟩
  · rcases hround with ⟨_, he⟩ | ⟨_, he⟩ | ⟨_, he | he, _⟩ <;> rw [he] <;> omega
  · intro hhalf
    rcases hround with ⟨_, he⟩ | ⟨_, he⟩ | ⟨_, _, heven⟩
    · rw [he] at hhalf; omega
    · rw [he] at hhalf; omega
    · exact heven

/-! ### Byte orders (R11) -/

theorem leBytes_length (n v : Nat) : (leBytes n v).length = n := by
  induction n generalizing v with
  | zero => rfl
  | succ n ih => simp [leBytes, ih]

theorem leNat_leBytes {n v : Nat} (hv : v < 256 ^ n) : leNat (leBytes n v) = v := by
  induction n generalizing v with
  | zero => simp at hv; simp [leBytes, leNat, hv]
  | succ n ih =>
    have hdiv : v / 256 < 256 ^ n := by rw [pow_succ] at hv; omega
    rw [leBytes, leNat, ih hdiv, BitVec.toNat_ofNat]
    omega

theorem beNat_reverse (l : List Byte) : beNat l.reverse = leNat l := by
  induction l with
  | nil => rfl
  | cons b t ih =>
    rw [beNat] at ih
    rw [beNat, List.reverse_cons, List.foldl_append, ih]
    simp only [List.foldl_cons, List.foldl_nil, leNat]
    omega

theorem byteOrder : Spec.byteOrder := fun n v hv =>
  ⟨leNat_leBytes hv, (beNat_reverse _).trans (leNat_leBytes hv), leBytes_length n v, rfl⟩

/-! ### Signed fields (R9) -/

/-- Within the width, the pattern of a negative value stands 2^w above it. -/
theorem unsigned_cast {w : Nat} {x : Int} (hlo : -((2 ^ w : Nat) : Int) ≤ x) (hhi : x < ((2 ^ w : Nat) : Int)) :
    ((unsigned w x : Nat) : Int) = if 0 ≤ x then x else x + ((2 ^ w : Nat) : Int) := by
  rw [unsigned]
  generalize 2 ^ w = m at hlo hhi ⊢
  split
  · rw [Int.emod_eq_of_lt ‹_› hhi]; omega
  · rw [← Int.add_emod_right, Int.emod_eq_of_lt (by omega) (by omega)]; omega

theorem unsigned_lt (w : Nat) (x : Int) : unsigned w x < 2 ^ w := by
  have hpos := Nat.two_pow_pos w
  rw [unsigned]
  generalize 2 ^ w = m at hpos ⊢
  have hlt := Int.emod_lt_of_pos x (b := (m : Int)) (by omega)
  omega

/-- A two's complement pattern reads as the value that it stands for. -/
theorem signed_unsigned {w : Nat} {x : Int} (hw : 0 < w) (hlo : -((2 ^ (w - 1) : Nat) : Int) ≤ x)
    (hhi : x < ((2 ^ (w - 1) : Nat) : Int)) : signed w (unsigned w x) = x := by
  have hpow : 2 ^ w = 2 * 2 ^ (w - 1) := by rw [← pow_succ']; congr 1; omega
  have hcast := unsigned_cast (w := w) (x := x) (by rw [hpow]; omega) (by rw [hpow]; omega)
  rw [signed, Nat.mod_eq_of_lt (unsigned_lt w x), hcast]
  rw [hpow] at hcast ⊢
  generalize 2 ^ (w - 1) = m at hlo hhi hcast ⊢
  split <;> split at hcast <;> omega

theorem satSigned_bounds (w : Nat) (x : Int) :
    -((2 ^ (w - 1) : Nat) : Int) ≤ satSigned w x ∧ satSigned w x < ((2 ^ (w - 1) : Nat) : Int) := by
  have hpos : 0 < 2 ^ (w - 1) := Nat.two_pow_pos _
  simp only [satSigned]
  omega

theorem signedFields : Spec.signedFields := by
  intro h f x i j hw
  obtain ⟨hlo, hhi⟩ := satSigned_bounds f.width x
  rw [Hw.rdS, Hw.wrS, Hw.rd_wr_same, Nat.mod_eq_of_lt (unsigned_lt _ _), signed_unsigned hw hlo hhi, satSigned]

/-- Settles O7: counts by the stores' lookups, rounding by the three cases of the remainder, byte orders by induction on the
octets, and signed fields because saturation keeps the pattern within its width. -/
theorem countersAndNumbers : Obligations.CountersAndNumbers := ⟨counters, rounding, byteOrder, signedFields⟩

end Sys2Proof.Machine
end

section
/-! Boundaries of ticks and microticks (R23, R24, R27) and the source of the core clock (R20 to R22, R480, R132). -/

namespace Sys2Proof.Machine

/-! ### Boundaries -/

theorem exec_microtickBoundary (x : MicroIn) (s : State) :
    exec (.microtickBoundary x) s = .next (s.withHw (s.hw.microBoundary x)) := rfl

theorem exec_tickBoundary (x : TickIn) (s : State) : exec (.tickBoundary x) s = .next (s.withHw (s.hw.tickBoundary x)) := rfl

theorem Hw.microBoundary_inside {h : Hw} (x : MicroIn) (hsup : h.pw.vddFawn = true) (hawake : h.rd PW_STATUS_PSTATE ≠ 3)
    (hin : h.clk.micro + 1 < h.microCount) : h.microBoundary x = ({ h.advance 2430 with
      clk := { (h.advance 2430).clk with micro := (h.advance 2430).clk.micro + 1, ut := (h.advance 2430).clk.ut + 1 } }).microStep x := by
  rw [Hw.microBoundary, if_neg (by simp [hsup, hawake, hin])]

theorem microtickBoundary : Spec.microtickBoundary := fun s x hsup hawake hin => by
  rw [exec_microtickBoundary, Hw.microBoundary_inside x hsup hawake hin]

theorem Hw.tickBoundary_asleep {h : Hw} (x : TickIn) (hsup : h.pw.vddFawn = true) (hasleep : h.rd PW_STATUS_PSTATE = 3) :
    h.tickBoundary x = h.tickSleep := by
  rw [Hw.tickBoundary, if_neg (by simp [hsup]), if_pos hasleep]

theorem Hw.tickBoundary_awake {h : Hw} (x : TickIn) (hsup : h.pw.vddFawn = true) (hawake : h.rd PW_STATUS_PSTATE ≠ 3) :
    h.tickBoundary x = h.tickRun x := by
  rw [Hw.tickBoundary, if_neg (by simp [hsup]), if_neg hawake]

theorem tickBoundaryAsleep : Spec.tickBoundaryAsleep := fun s x hsup hasleep => by
  rw [exec_tickBoundary, Hw.tickBoundary_asleep x hsup hasleep]
  rfl

/-- The steps of a tick that ends do not ask for the herd job's overruns before the tick's end: they are those of the block
whose rest of the tick has passed. -/
theorem tickBoundaryRunning : Spec.tickBoundaryRunning := fun s x h hsup hawake hh => by
  rw [exec_tickBoundary, Hw.tickBoundary_awake x hsup hawake, hh]
  simp only [Hw.tickRun]

theorem Hw.tickFlip_tick (h : Hw) : h.tickFlip.tick = ((h.flipBoundary (h.tick + 1)).tick + 1) % 2 ^ 64 := by
  have hw (g : Hw) : (g.wr GL_TICK_NUM_TICK ((g.tick + 1) % 2 ^ 64)).tick = (g.tick + 1) % 2 ^ 64 := by
    rw [Hw.tick, Hw.rd_wr_same]
    exact Nat.mod_mod _ _
  simp only [Hw.tickFlip]
  split
  · exact hw _
  · exact hw _

/-- Settles O8: the guards of the boundaries' forms, and the write of GL_TICK_NUM. -/
theorem tickBoundaries : Obligations.TickBoundaries :=
  ⟨microtickBoundary, tickBoundaryAsleep, tickBoundaryRunning, Hw.tickFlip_tick⟩

/-! ### The source of the core PLL (R20 to R22) -/

theorem exec_corePllRefChange (s : State) :
    exec .corePllRefChange s = s.nextHw (s.hw.inRegion rgFawn (fun h => h.coreRefChange)) := rfl

theorem Hw.coreRefChange_moves {h : Hw} (hmove : h.srcUsable h.clk.src = false ∨ h.clk.src = .free) :
    h.coreRefChange = h.setSrc h.bestSrc := if_pos (by simpa using hmove)

theorem Hw.setSrc_chan {h : Hw} {a c : Nat} (hne : h.clk.src ≠ .chan a c) : h.setSrc (.chan a c) =
    (((((({ h with clk := { h.clk with src := .chan a c, pendD := none, needD := true, pllHold := false } }).wr
      GL_CLK_STATUS_SRC_FREE 0).wr GL_CLK_STATUS_SRC_ATT a).wr GL_CLK_STATUS_SRC_CH c).wr GL_CLK_STATUS_ALIGNED 0).wr
      GL_CLK_STATUS_PLL_LOCK 1) := if_neg hne

theorem Hw.setSrc_free {h : Hw} (hne : h.clk.src ≠ .free) : h.setSrc .free =
    (((({ h with clk := { h.clk with src := .free, pendD := none, needD := false, pllHold := !h.clk.refosc } }).wr
      GL_CLK_STATUS_SRC_FREE 1).wr GL_CLK_STATUS_ALIGNED 0).when (!h.clk.refosc) (fun h =>
        h.wr GL_CLK_STATUS_PLL_LOCK 0)).recordOther sevNotice 0 10 := if_neg hne

theorem corePllRefChange : Spec.corePllRefChange := fun s a c hlive hmove hbest hne => by
  rw [exec_corePllRefChange]
  exact next_of_live hlive (by rw [Hw.coreRefChange_moves hmove, hbest, Hw.setSrc_chan hne])

theorem corePllFreeRun : Spec.corePllFreeRun := fun s a c hlive hlost hsrc hbest => by
  rw [exec_corePllRefChange]
  exact next_of_live hlive (by rw [Hw.coreRefChange_moves (.inl hlost), hbest, Hw.setSrc_free (by simp [hsrc])])

theorem clkRevert : Spec.clkRevert := fun _ hlive hrev => next_of_live hlive (if_pos hrev)

/-! ### Writes of registers without staged fields -/

/-- R12: such a write changes the register store alone. -/
theorem Hw.writeWord_eq {r : RegName} (hws : r.fields.all (fun f => f.acc != .ws) = true) (h : Hw) (w v i j : Nat) :
    h.writeWord r w v i j = { h with regs := (h.writeWord r w v i j).regs } := by
  have hparts := (onlyFields_writeWord h r w v i j).parts
  rw [Hw.writeWord_stage _ _ _ _ _ _ hws] at hparts
  exact hparts

theorem glClkCtrlWrite : Spec.glClkCtrlWrite := by
  intro s v hopen
  have hrw (f : Fld) (hf : f ∈ RegName.fields .GL_CLK_CTRL) (ha : f.acc = .rw) (hw : 0 < f.width) (hu : f.lsb + f.width ≤ 32) :
      (s.hw.writeWord .GL_CLK_CTRL 0 v 0 0).rd f = bits v f.lsb f.width :=
    s.hw.rd_writeWord_rw .GL_CLK_CTRL 0 v 0 0 f hf ha hw (Nat.zero_le _) hu
  refine ⟨s.withHw (s.hw.clkCtrlWrite v), next_of_open hopen rfl, ?parts, ?revert, ?att, ?ch, ?frame⟩
  case parts =>
    have hparts := Hw.writeWord_eq (r := .GL_CLK_CTRL) rfl s.hw 0 v 0 0
    rw [State.withHw, Hw.clkCtrlWrite, hparts]
  case revert => exact hrw GL_CLK_CTRL_REVERT (by simp [RegName.fields]) rfl (by decide) (by decide)
  case att => exact hrw GL_CLK_CTRL_PREF_ATT (by simp [RegName.fields]) rfl (by decide) (by decide)
  case ch => exact hrw GL_CLK_CTRL_PREF_CH (by simp [RegName.fields]) rfl (by decide) (by decide)
  case frame => exact (onlyFields_writeWord s.hw .GL_CLK_CTRL 0 v 0 0).rd

/-! ### The reference oscillator (R480, R132) -/

theorem Hw.refoscStop_awake {h : Hw} (hawake : h.rd PW_STATUS_PSTATE ≠ 3) : h.refoscStop =
    if h.rd GL_CLK_STATUS_SRC_FREE ≠ 0 then
      (({ h with clk := { h.clk with refosc := false, pllHold := true } }).wr GL_CLK_STATUS_PLL_LOCK 0).detect 2 scopeGlobal 0
    else ({ h with clk := { h.clk with refosc := false } }).detect 2 scopeGlobal 0 := by
  refine (if_neg hawake).trans ?_
  by_cases hfree : h.rd GL_CLK_STATUS_SRC_FREE = 0
  · have hoff : ({ h with clk := { h.clk with refosc := false } } : Hw).on GL_CLK_STATUS_SRC_FREE = false := by
      simpa [Hw.rd] using hfree
    simp only [hoff, hfree]
    rfl
  · have hon : ({ h with clk := { h.clk with refosc := false } } : Hw).on GL_CLK_STATUS_SRC_FREE = true := by
      simpa [Hw.rd] using hfree
    simp only [hon, if_true, ne_eq, hfree, not_false_eq_true]

theorem refoscStop : Spec.refoscStop := fun _ hlive hawake => next_of_live hlive (Hw.refoscStop_awake hawake)

theorem Hw.rd_when {p : Hw → Hw} {f : Fld} {i j : Nat} (hp : ∀ g, (p g).rd f i j = g.rd f i j) (h : Hw) (b : Bool) :
    (h.when b p).rd f i j = h.rd f i j := by
  cases b
  · rfl
  · exact hp h

theorem Hw.refoscRestart_eq (h : Hw) : h.refoscRestart =
    (({ h with clk := { h.clk with refosc := true, pllHold := false } }).when h.clk.pllHold
      (fun h => h.wr GL_CLK_STATUS_PLL_LOCK 1)).when (h.rd TC_STATUS_CLK_SRC == 2) (fun h => h.wr TC_STATUS_CLK_SRC 1) := by
  have hsrc := Hw.rd_when (f := TC_STATUS_CLK_SRC) (i := 0) (j := 0) (fun g => Hw.rd_wr_of_reg_ne (by decide) g 1 0 0 0 0)
    ({ h with clk := { h.clk with refosc := true, pllHold := false } } : Hw) h.clk.pllHold (p := fun h => h.wr GL_CLK_STATUS_PLL_LOCK 1)
  simp only [Hw.refoscRestart, hsrc]
  by_cases hmon : h.rd TC_STATUS_CLK_SRC = 2
  · rw [hmon]; exact if_pos hmon
  · rw [beq_false_of_ne hmon]; exact if_neg hmon

theorem refoscRestart : Spec.refoscRestart := fun s hlive => next_of_live hlive s.hw.refoscRestart_eq

/-- Settles O9: each move is `setSrc` to the source that the list gives, and a write of GL_CLK_CTRL changes its fields alone. -/
theorem coreClockSource : Obligations.CoreClockSource :=
  ⟨corePllRefChange, corePllFreeRun, clkRevert, glClkCtrlWrite, refoscStop, refoscRestart⟩

end Sys2Proof.Machine
end

section
/-! Downstream frames: the scanner's slots, SYNC and its loss, codewords, maps and delivery (R44 to R48, R53, R54, R57, R59, R61,
R66, R317, R320). -/

namespace Sys2Proof.Machine

/-! ### Candidates (R44) -/

theorem Hw.candidate_hunt {h : Hw} {a c : Nat} (hhunt : h.rd LN_RX_STATUS_STATE a c = rxHunt) (pos sfc : Nat) :
    h.candidate a c pos sfc = if (h.rxAt (4 * a + c)).cands.length < 4 then
      h.rxSlots a c ((h.rxAt (4 * a + c)).cands ++ [{ pos := pos, sfc := sfc, tol := (h.rxAt (4 * a + c)).huntErr }])
    else h.inc LN_ALIGN_STAT_SLOT_FULL a c := if_pos hhunt

theorem Hw.rxSlots_append_one (h : Hw) (a c : Nat) (l : List Cand) (x : Cand) : h.rxSlots a c (l ++ [x]) =
    (h.setRx (4 * a + c) (fun r => { r with cands := l ++ [x] })).wr LN_RX_STATUS_SLOTS_BUSY (l.length + 1) a c := by
  rw [Hw.rxSlots, List.length_append, List.length_singleton]

theorem candidateFound : Spec.candidateFound := fun _ _ _ _ _ hlive hhunt =>
  next_of_live hlive ((Hw.candidate_hunt hhunt ..).trans (by rw [Hw.rxSlots_append_one]))

section
variable {h : Hw} {a c pos : Nat} {x : Cand} (hhunt : h.rd LN_RX_STATUS_STATE a c = rxHunt)
  (hslot : (h.rxAt (4 * a + c)).cands.find? (fun y => y.pos == pos) = some x)
include hhunt hslot

theorem Hw.confirm_rejects {diff : Nat} {hec : Bool} {f : FrameIn}
    (hno : ¬ (diff ≤ x.tol ∧ hec = true ∧ f.sfc % 2 ^ 51 = (x.sfc + 1) % 2 ^ 51)) : h.confirm a c pos diff hec f =
      (h.rxSlots a c ((h.rxAt (4 * a + c)).cands.filter (fun y => y.pos != pos))).inc LN_ALIGN_STAT_REJECT a c := by
  simp only [Hw.confirm, hslot]
  rw [if_pos hhunt, if_neg hno]

theorem Hw.confirm_syncs {diff : Nat} {f : FrameIn} (hdiff : diff ≤ x.tol) (hsfc : f.sfc % 2 ^ 51 = (x.sfc + 1) % 2 ^ 51) {g : Hw}
    (hg : g = ((((h.rxSlots a c []).rxMiss a c 0).wr LN_RX_STATUS_STATE rxSync a c).frameBoundary a c f)) :
    h.confirm a c pos diff true f = (if g.actChan a = c then g.actSync a f.ponId else g).headerExtract a c f := by
  subst hg
  simp only [Hw.confirm, hslot]
  rw [if_pos hhunt, if_pos ⟨hdiff, trivial, hsfc⟩]

end

theorem confirmationReject : Spec.confirmationReject := fun _ _ _ _ _ _ _ _ hlive hhunt hslot hno =>
  next_of_live hlive (Hw.confirm_rejects hhunt hslot hno)

theorem confirmationSync : Spec.confirmationSync := fun _ _ _ _ _ _ _ _ hlive hhunt hslot hdiff hsfc hh =>
  next_of_live hlive (Hw.confirm_syncs hhunt hslot hdiff hsfc hh)

/-! ### The expected position (R45, R46, R48) -/

theorem Hw.expected_hit {h : Hw} {a c diff : Nat} (hsync : h.inSync a c = true) (hle : diff ≤ (h.rxAt (4 * a + c)).syncErr)
    (f : FrameIn) : h.expected a c diff true f = ((h.rxMiss a c 0).frameBoundary a c f).headerExtract a c f :=
  (if_pos hsync).trans (if_pos ⟨hle, rfl⟩)

theorem Hw.expected_fourthMiss {h : Hw} {a c diff : Nat} {hec : Bool} (hsync : h.inSync a c = true)
    (hmiss : ¬ (diff ≤ (h.rxAt (4 * a + c)).syncErr ∧ hec = true)) (hthree : h.rd LN_RX_STATUS_MISS_CNT a c = 3) (f : FrameIn) :
    h.expected a c diff hec f = ((h.setRx (4 * a + c) (fun r => { r with errTick := true })).mapLost a c).lof a c := by
  exact (if_pos hsync).trans ((if_neg hmiss).trans (if_pos (congrArg (· + 1) hthree)))

theorem expectedHit : Spec.expectedHit := fun _ _ _ _ f hlive hsync hle => next_of_live hlive (Hw.expected_hit hsync hle f)

theorem expectedLof : Spec.expectedLof := fun _ _ _ _ _ f hlive hsync hmiss hthree =>
  next_of_live hlive (Hw.expected_fourthMiss hsync hmiss hthree f)

/-! ### Aligner parity errors (R46, R61) -/

theorem Hw.rxSlots_tick (h : Hw) (a c : Nat) (l : List Cand) : (h.rxSlots a c l).tick = h.tick :=
  Hw.rd_wr_of_reg_ne (by decide) ..

theorem Hw.rxSlots_inSecond (h : Hw) (a c : Nat) (l : List Cand) (ts : List Nat) :
    (h.rxSlots a c l).inSecond ts = h.inSecond ts := by rw [Hw.inSecond, Hw.rxSlots_tick, Hw.inSecond]

theorem Hw.alignerParity_hunting {h : Hw} {a c : Nat} (hon : h.rd LN_RX_STATUS_STATE a c ≠ rxOff) (hout : h.inSync a c = false)
    {g : Hw} (hg : g = (h.rxSlots a c []).setRx (4 * a + c) (fun r => { r with parTicks := h.inSecond r.parTicks ++ [h.tick] })) :
    h.alignerParity a c = if 3 ≤ (g.rxAt (4 * a + c)).parTicks.length then g.rxIsolate a c else g := by
  subst hg
  refine (if_neg hon).trans ?_
  simp only [hout, Hw.rxSlots_inSecond, Hw.rxSlots_tick, if_false, Bool.false_eq_true]

theorem alignerParity : Spec.alignerParity := fun _ _ _ _ hlive hon hout hh =>
  next_of_live hlive (Hw.alignerParity_hunting hon hout hh)

/-! ### Codewords (R53, R54) -/

theorem codewordDecoded : Spec.codewordDecoded := fun _ _ _ _ _ hlive hsync => next_of_live hlive (if_pos hsync)

/-! ### Register writes (R57, R66) -/

theorem lnMapCfgWrite : Spec.lnMapCfgWrite := by
  intro s a v hopen
  have hfields := onlyFields_writeWord s.hw .LN_MAP_CFG 0 v a 0
  exact ⟨s.withHw (s.hw.mapCfgWrite a v), next_of_open hopen rfl, congrArg s.withHw hfields.parts, hfields.rd⟩

theorem Hw.pmClear_clears {v : Nat} (hclear : bitOf v 17 = true) (h : Hw) (a c : Nat) : h.pmClear a c v =
    (h.writeWord .LN_PM_CFG 0 v a c).setRx (4 * a + c) (fun r => { r with clearReq := true }) := if_pos hclear

theorem pmClear : Spec.pmClear := by
  intro s a c v hopen hclear
  have hfields := onlyFields_writeWord s.hw .LN_PM_CFG 0 v a c
  have hrx : (s.hw.writeWord .LN_PM_CFG 0 v a c).rxAt (4 * a + c) = s.hw.rxAt (4 * a + c) := by
    rw [Hw.rxAt, Hw.writeWord_rx, Hw.rxAt]
  refine ⟨_, next_of_open hopen (Hw.pmClear_clears hclear ..), ?parts, ?asked, hfields.rd⟩
  case parts => exact congrArg (fun g : Hw => s.withHw (g.setRx (4 * a + c) (fun r => { r with clearReq := true }))) hfields.parts
  case asked => exact (Hw.setRx_rxAt ..).trans (by rw [hrx])

/-! ### Delivery (R54, R59, R317, R320) -/

theorem Hw.clearTaken_iff (h : Hw) (a port : Nat) :
    h.clearTaken a port = true ↔ port = h.mgmtPort a ∨ bitOf (h.cfg CX_PON_FLAGS a) 2 = true := by simp [Hw.clearTaken]

section
variable {h : Hw} {a c : Nat} (hchan : c < 4) (hsync : h.inSync a c = true) (port : Nat) (b : List Byte) (err : Bool)
include hchan hsync

theorem Hw.xgemRx_live (key : Nat) (errored : Bool) : h.xgemRx a c port key b errored err =
    if errored then h.setRx (4 * a + c) (fun r => { r with xgemLost := r.xgemLost + 1 })
    else if key = 0 then if h.clearTaken a port then h.xgemAdmit a port b err else h.inc CX_PON_CNT_DS_CLEAR_DROP a
    else h.ponWait a c port key b err := by
  have hne : c ≠ 4 := by omega
  simp only [Hw.xgemRx, hne, hsync, if_false, if_true]

theorem Hw.xgemRx_errored (key : Nat) : h.xgemRx a c port key b true err =
    h.setRx (4 * a + c) (fun r => { r with xgemLost := r.xgemLost + 1 }) := Hw.xgemRx_live hchan hsync port b err key true

theorem Hw.xgemRx_clear_taken (htaken : h.clearTaken a port = true) :
    h.xgemRx a c port 0 b false err = h.xgemAdmit a port b err := by
  rw [Hw.xgemRx_live hchan hsync, if_neg (by decide), if_pos rfl, if_pos htaken]

theorem Hw.xgemRx_clear_refused (hrefused : h.clearTaken a port = false) :
    h.xgemRx a c port 0 b false err = h.inc CX_PON_CNT_DS_CLEAR_DROP a := by
  rw [Hw.xgemRx_live hchan hsync, if_neg (by decide), if_pos rfl, if_neg (by simp [hrefused])]

theorem Hw.xgemRx_encrypted {key : Nat} (hkey : 0 < key) :
    h.xgemRx a c port key b false err = h.ponWait a c port key b err := by
  rw [Hw.xgemRx_live hchan hsync, if_neg (by decide), if_neg (by omega)]

end

/-- An encrypted frame of a receiver waits in its channel's stream, with the slot that its key index selects. -/
theorem Hw.ponWait_chan {c : Nat} (hchan : c < 4) (h : Hw) (a port key : Nat) (b : List Byte) (err : Bool) :
    h.ponWait a c port key b err = { h.nextItem with ks := { h.ks with waits := h.ks.waits ++
      [{ stream := 4 * a + c, slot := h.ponSlot a port key
         frame := { (h.newFrame b 0 (128 + a) err).1 with xgem := port } }] } } := by
  have hne : c ≠ 4 := by omega
  simp only [Hw.ponWait, hne, if_false]
  rfl

theorem xgemFrameRx : Spec.xgemFrameRx := by
  intro s a c port key b err hlive hchan hsync
  refine ⟨next_of_live hlive (Hw.xgemRx_errored hchan hsync ..), ?taken, ?refused, ?waits⟩
  case taken =>
    rintro rfl htaken
    exact next_of_live hlive (Hw.xgemRx_clear_taken hchan hsync _ _ _ ((Hw.clearTaken_iff ..).mpr htaken))
  case refused =>
    rintro rfl hport hflag
    have hrefused : s.hw.clearTaken a port = false :=
      Bool.eq_false_iff.mpr (fun ht => by simpa [hport, hflag] using (Hw.clearTaken_iff ..).mp ht)
    exact next_of_live hlive (Hw.xgemRx_clear_refused hchan hsync _ _ _ hrefused)
  case waits =>
    intro hkey
    exact ⟨_, _, next_of_live hlive ((Hw.xgemRx_encrypted hchan hsync _ _ _ hkey).trans (Hw.ponWait_chan hchan ..)),
      fun _ _ _ _ => rfl, rfl, rfl, rfl, rfl, rfl⟩

/-- Settles O11: each form of the receiver's operations under the state of its channel. -/
theorem frameAlignment : Obligations.FrameAlignment :=
  ⟨candidateFound, confirmationReject, confirmationSync, expectedHit, expectedLof, alignerParity, codewordDecoded,
    lnMapCfgWrite, pmClear, xgemFrameRx⟩

end Sys2Proof.Machine
end

section
/-! The emergency stop (R75), upstream bursts (R80, R83, R88, R91, R92) and OMCI messages (R97, R98). -/

namespace Sys2Proof.Machine

/-! ### PLOAM messages that are heard (R69, R78) -/

/-- A sound message on the activation channel acts on the block that has counted it. -/
theorem Hw.ploam_heard {s : State} {a : Nat} (hhears : Spec.Hears s a) (ranging : Bool) (f : Hw → Hw) :
    s.hw.ploam a (s.hw.actChan a) true ranging f = f (Spec.heard s a) := by
  obtain ⟨⟨-, hruns⟩, hsync⟩ := hhears
  simp [Hw.ploam, hruns, hsync, Spec.heard]

theorem next_of_heard {s : State} {a : Nat} {f : Hw → Hw} {h : Hw} (hhears : Spec.Hears s a) (ranging : Bool)
    (hf : f (Spec.heard s a) = h) :
    s.nextHw (s.hw.inRegion rgLine (fun h => h.ploam a (s.hw.actChan a) true ranging f)) = .next (s.withHw h) :=
  next_of_live hhears.1 ((Hw.ploam_heard hhears ranging f).trans hf)

/-- The count of a message is no other register's. -/
theorem heard_rd {f : Fld} (hstat : f.reg ≠ .LN_ATT_STAT) (s : State) (a i j : Nat) :
    (Spec.heard s a).rd f i j = s.hw.rd f i j := Hw.rd_inc_of_reg_ne hstat.symm ..

theorem heard_actState (s : State) (a b : Nat) : (Spec.heard s a).actState b = s.hw.actState b := heard_rd (by decide) ..

theorem heard_actLive (s : State) (a b : Nat) : (Spec.heard s a).actLive b = s.hw.actLive b := by
  simp only [Hw.actLive, heard_actState]

theorem heard_serial (s : State) (a b : Nat) : (Spec.heard s a).serial b = s.hw.serial b := by
  rw [Hw.serial, heard_rd (by decide), heard_rd (by decide), Hw.serial]

/-! ### The emergency stop (R75) -/

section
variable {h : Hw} {a : Nat} {sn : Option Nat} (hsn : sn = none ∨ sn = some (h.serial a))
include hsn

theorem Hw.disableSn_stops (hlive : h.actLive a = true) : h.disableSn a false sn =
    ((((h.burstsCut a).estopSet a true).actLose a).recordOther sevWarn (0x1030 + a) 5).actEnter a aO7 :=
  (if_pos hsn).trans (if_pos hlive)

theorem Hw.disableSn_releases (hstop : h.actState a = aO7) (hen : h.rd LN_ATT_CTRL_ACT_EN a ≠ 0) :
    h.disableSn a true sn = ((h.estopSet a false).recordOther sevNotice (0x1030 + a) 6).actRestart a := by
  have hkeep : ((h.estopSet a false).recordOther sevNotice (0x1030 + a) 6).rd LN_ATT_CTRL_ACT_EN a = h.rd LN_ATT_CTRL_ACT_EN a :=
    ((notes_recordOther ..).rd _ _ _ (by decide) (by decide)).trans (Hw.rd_wr_of_reg_ne (by decide) ..)
  refine (if_pos hsn).trans ((if_pos hstop).trans (if_pos ?_))
  simpa [hkeep] using hen

end

theorem emergencyStopped : Spec.emergencyStop := fun s a _ hhears hlive hsn =>
  next_of_heard hhears false (Hw.disableSn_stops (by rwa [heard_serial]) (by rwa [heard_actLive]))

theorem emergencyRelease : Spec.emergencyRelease := fun s a _ hhears hstop hsn hen =>
  next_of_heard hhears false (Hw.disableSn_releases (by rwa [heard_serial]) (by rwa [heard_actState])
    (by rw [heard_rd (by decide), hen]; decide))

/-- An event of a region that runs and changes the non-volatile memory answers what its operation gives. -/
theorem next_of_liveNv {s : State} {r : Nat} {f : Hw → Hw × NonVol} {h : Hw} {n : NonVol} (l : s.hw.Live r)
    (e : f s.hw = (h, n)) : s.nextNv (s.hw.inRegionNv s.nv r f) = .next { s with hw := h, nv := n } := by
  rw [Hw.inRegionNv_live l, e]
  rfl

theorem Hw.estopCopy_due {h : Hw} {a : Nat} (hdue : (h.actAt a).estopDue.isSome = true) (was : Nat) : h.estopCopy a was =
    (h.setAct a (fun s => { s with estopDue := none }), putBit was a (h.actAt a).estop) := if_pos hdue

theorem estopFlashCopy : Spec.estopFlashCopy := fun _ _ hlive hdue =>
  next_of_liveNv hlive (by rw [Hw.estopCopy_due hdue])

/-- Settles O14: a message that is heard acts on the block that has counted it, and neither the count nor a record moves the
state, the serial number or ACT_EN. -/
theorem emergencyStop : Obligations.EmergencyStop := ⟨emergencyStopped, emergencyRelease, estopFlashCopy⟩

/-! ### Upstream bursts -/

theorem Hw.burstStaging_single {h g : Hw} {k : Nat} {b b' : Burst} (hnext : h.nextUnstaged k = some b) (hkind : b.kind ≠ 3)
    (hstage : h.stageIn k b = (g, some b')) (len len1 : Nat) : h.burstStaging k len len1 =
      if g.overlaps k b' then (g.unplan k b).inc LN_TX_CNT_OVERLAP (k / 2) (k % 2) else g.stageCommit k b b' len := by
  simp only [Hw.burstStaging, hnext, hkind, if_false, hstage]

theorem burstStaging : Spec.burstStaging := fun _ _ len len1 _ _ _ hlive hnext hkind hstage =>
  next_of_live hlive (Hw.burstStaging_single hnext hkind hstage len len1)

theorem Hw.burstAssert_may {h : Hw} {k : Nat} {b : Burst} (hnext : h.nextStaged k = some b) (hmay : h.maySend k b.kind = true) :
    h.burstAssert k = h.burstEn k true := by
  simp only [Hw.burstAssert, hnext, hmay, if_true]

/-- R91: the ball changes its level, and BURSTING shows it. -/
theorem Hw.burstEn_changes {h : Hw} {k : Nat} {on : Bool} (hne : (h.upAt k).en ≠ on) : h.burstEn k on =
    ((h.setUp k (fun x => { x with en := on })).wr LN_TX_STATUS_BURSTING (b2n on) (k / 2) (k % 2)).emit
      (.burstEn k (on != (h.rd LN_TX_CTRL_EN_POL (k / 2) (k % 2) != 0))) := if_neg hne

theorem burstEnAssert : Spec.burstEnAssert := fun _ _ _ hlive hnext hmay hen =>
  next_of_live hlive ((Hw.burstAssert_may hnext hmay).trans (Hw.burstEn_changes (by simp [hen])))

theorem Hw.burstLaunch_may {h : Hw} {k : Nat} {b : Burst} (hnext : h.nextStaged k = some b)
    (hmay : (h.unplan k b).maySend k b.kind = true) : h.burstLaunch k =
      ((((h.unplan k b).setUp k (fun x => { x with cur := some b.stop, strobe := b.launch })).inc LN_TX_CNT_BURSTS (k / 2)
        (k % 2)).each (b.took.flatMap (fun t => t.2.1.map Prod.snd)) (fun h f => h.freed f)).emit (.burst k b) := by
  simp only [Hw.burstLaunch, hnext, hmay, if_true]

theorem burstLaunch : Spec.burstLaunch := fun _ _ _ hlive hnext hmay => next_of_live hlive (Hw.burstLaunch_may hnext hmay)

theorem Hw.burstDeassert_none {h : Hw} {k : Nat} (hnone : h.nextStaged k = none) :
    h.burstDeassert k = (h.setUp k (fun x => { x with cur := none })).burstEn k false := by
  simp only [Hw.burstDeassert, hnone, if_false, Bool.false_eq_true]

theorem burstEnDeassert : Spec.burstEnDeassert := fun _ _ hlive hnone => next_of_live hlive (Hw.burstDeassert_none hnone)

theorem Hw.maySend_rogue {h : Hw} {k : Nat} (hrogue : h.rd LN_TX_STATUS_ROGUE (k / 2) (k % 2) = 1) (kind : Nat) :
    h.maySend k kind = false := by
  simp [Hw.maySend, hrogue]

theorem burstWatchdogTrip : Spec.burstWatchdogTrip := fun _ _ hlive =>
  ⟨next_of_live hlive rfl, fun _ kind hrogue => Hw.maySend_rogue hrogue kind⟩

/-- Settles O15: each burst operation under the staged or planned burst that it finds. -/
theorem upstreamBursts : Obligations.UpstreamBursts :=
  ⟨burstStaging, burstEnAssert, burstLaunch, burstEnDeassert, burstWatchdogTrip⟩

/-! ### OMCI -/

section
variable {h : Hw} {a : Nat} (hruns : h.runs rgControl = true) (hid : h.hasId a = true) (kind action tci cls inst : Nat)
  (msg : List Byte)
include hruns hid

theorem Hw.omciRx_bad : h.omciRx a kind action tci cls inst false msg =
    h.setAct a (fun x => { x with omciBad := x.omciBad + 1 }) := by
  simp [Hw.omciRx, hruns, hid]

theorem Hw.omciRx_firmware {kind : Nat} (hmode : h.rd LN_ATT_CTRL_OMCI_MODE a = 0) (hkind : kind ≠ 2) :
    h.omciRx a kind action tci cls inst true msg = h.emit (.omci a tci (if kind = 1 then omciUnknown else omciDone)) := by
  simp [Hw.omciRx, hruns, hid, hmode, hkind]

end

theorem omciBad : Spec.omciBad := fun _ _ _ _ _ _ _ _ hlive hid => next_of_live hlive (Hw.omciRx_bad hlive.2 hid ..)

theorem omciAnswered : Spec.omciAnswered := fun _ _ _ _ _ _ _ _ hlive hid hmode hkind =>
  next_of_live hlive (Hw.omciRx_firmware hlive.2 hid _ _ _ _ _ hmode hkind)

theorem Hw.omciAnswer_held {h : Hw} {a tci : Nat} (hheld : (h.actAt a).omci.any (fun x => x.1 == tci) = true) (result : Nat) :
    h.omciAnswer a tci result =
      (h.setAct a (fun x => { x with omci := x.omci.filter (fun y => y.1 != tci) })).emit (.omci a tci result) := if_pos hheld

theorem omciCfgAnswer : Spec.omciCfgAnswer := fun _ _ _ hlive hheld => next_of_live hlive (Hw.omciAnswer_held hheld omciCommitted)

theorem Hw.omciExpiry_single {h : Hw} {a tci d : Nat} (hheld : (h.actAt a).omci = [(tci, d)]) (hpast : d < h.clk.ut) :
    h.omciExpiry a = (h.setAct a (fun x => { x with omci := [] })).emit (.omci a tci omciBusy) := by
  have hlist : (((h.actAt a).omci.filter (fun x => decide (x.2 < h.clk.ut))).map Prod.fst) = [tci] := by simp [hheld, hpast]
  rw [Hw.omciExpiry, hlist, Hw.each_cons, Hw.each_nil, Hw.omciAnswer_held (by simp [hheld])]
  simp [Hw.setAct, hheld]

theorem omciHoldExpiry : Spec.omciHoldExpiry := fun _ _ _ _ hlive hheld hpast =>
  next_of_live hlive (Hw.omciExpiry_single hheld hpast)

theorem omciRefuse : Spec.omciRefuse := fun s hd a tci hready =>
  ⟨next_of_done hready rfl, by rw [Hw.actAt, Hw.actAt, Hw.cmdTake_act]⟩

/-- Settles O16: the message's checks in order, and the held request that an answer finds. -/
theorem omciMessages : Obligations.OmciMessages := ⟨omciBad, omciAnswered, omciCfgAnswer, omciHoldExpiry, omciRefuse⟩

end Sys2Proof.Machine
end

section
/-! Wavelengths, the dispersion estimator and the asymmetry override (R102, R123, R126 to R128). -/

namespace Sys2Proof.Machine

/-! ### Register writes (R102, R126, R128) -/

theorem hdWavelengthWrite : Spec.hdWavelengthWrite := fun _ _ _ _ hopen _ => ⟨_, rfl, next_of_open hopen rfl⟩

theorem estimatorModeWrite : Spec.estimatorModeWrite := fun _ _ _ hopen => next_of_open hopen rfl

theorem Hw.overrideTake_eq (h : Hw) (a : Nat) : h.overrideTake a = h.setHerd a (fun e => { e with
    ovr := if h.rd HD_ASYM_OVR_EN a ≠ 0 then some (h.rdS HD_ASYM_OVR_ASYM a) else none }) := by
  simp only [Hw.overrideTake, Hw.on_eq, bne_iff_ne]

theorem asymOverrideWrite : Spec.asymOverrideWrite := fun _ _ _ _ hopen hh => by
  subst hh
  exact next_of_open hopen (Hw.overrideTake_eq ..)

/-! ### Fits (R123, R127)

Judging a fit publishes it and notes in the herd's state what is to be applied. -/

/-- `h'` keeps the clock, the time core, the activation and the upstream channels of `h`, and whether herd a has a closed block. -/
structure FitKeeps (a : Nat) (h h' : Hw) : Prop where
  blockDone : (h'.herdAt a).blockDone = (h.herdAt a).blockDone
  clk : h'.clk = h.clk
  time : h'.time = h.time
  act : h'.act = h.act
  up : h'.up = h.up

theorem FitKeeps.refl (a : Nat) (h : Hw) : FitKeeps a h h := ⟨rfl, rfl, rfl, rfl, rfl⟩

theorem FitKeeps.trans {a : Nat} {h g k : Hw} (x : FitKeeps a h g) (y : FitKeeps a g k) : FitKeeps a h k :=
  ⟨y.blockDone.trans x.blockDone, y.clk.trans x.clk, y.time.trans x.time, y.act.trans x.act, y.up.trans x.up⟩

theorem fitKeeps_publishFit (h : Hw) (a : Nat) (f : FitRes) (status : Nat) (applied : Int) :
    FitKeeps a h (h.publishFit a f status applied) := ⟨rfl, rfl, rfl, rfl, rfl⟩

theorem fitKeeps_setHerd (h : Hw) (a : Nat) {g : HerdSt → HerdSt} (hg : ∀ e, (g e).blockDone = e.blockDone) :
    FitKeeps a h (h.setHerd a g) := ⟨by rw [Hw.setHerd_herdAt, hg], rfl, rfl, rfl, rfl⟩

theorem fitKeeps_offer (h : Hw) (a : Nat) (f : FitRes) : FitKeeps a h (h.offer a f).1 := by
  unfold Hw.offer
  dsimp only
  generalize (decide (f.mode ≤ 1) || _ : Bool) = apply
  cases apply
  · exact fitKeeps_setHerd h a (g := fun e => { e with pendFit := some f, started := true }) (fun _ => rfl)
  · exact fitKeeps_setHerd h a (g := fun e => { e with applyNext := some f, pendFit := none }) (fun _ => rfl)

theorem fitKeeps_judgeFit (h : Hw) (a : Nat) (f : FitRes) (fb : Nat) : FitKeeps a h (h.judgeFit a f fb) := by
  have hoffer := fitKeeps_offer h a f
  simp only [Hw.judgeFit]
  split
  · exact fitKeeps_publishFit ..
  · split
    · split
      · rename_i heq
        rw [heq] at hoffer
        exact hoffer.trans (fitKeeps_publishFit ..)
      · rename_i heq
        rw [heq] at hoffer
        exact hoffer.trans (fitKeeps_publishFit ..)
    · exact fitKeeps_publishFit ..

/-- What follows a fit, or in fallback the fit of a lower mode. -/
theorem fitKeeps_outcome (a : Nat) (h : Hw) (fell : Bool) (low res : Option FitRes) (st : Nat) : FitKeeps a h
    (if fell then match low with
      | some f => h.judgeFit a f 32
      | none => h.wr HD_EST_RES_STATUS st a
    else match res with
      | some f => h.judgeFit a f 0
      | none => h) := by
  cases fell
  · cases res
    · exact .refl a h
    · exact fitKeeps_judgeFit ..
  · cases low
    · exact ⟨rfl, rfl, rfl, rfl, rfl⟩
    · exact fitKeeps_judgeFit ..

/-- FIT_COMPLETE consumes the closed block, and what follows keeps it consumed. -/
theorem Hw.fitComplete_consumes {h : Hw} {a : Nat} (hdone : (h.herdAt a).blockDone = true) (sig : List Nat) :
    FitKeeps a (h.setHerd a (fun e => { e with blockDone := false })) (h.fitComplete a sig) := by
  have hnote (g : Hw) (n : Nat) (fell : Bool) (v : Option Rat) :=
    fitKeeps_setHerd g a (g := fun e => { e with noFit := n, fellBack := fell, streak := v }) (fun _ => rfl)
  unfold Hw.fitComplete
  dsimp only
  rw [if_pos hdone]
  exact (hnote ..).trans (fitKeeps_outcome ..)

theorem fitComplete : Spec.fitComplete := by
  intro s a sig hlive
  refine ⟨fun hopen => next_of_live hlive (if_neg (by simp [hopen])), fun hdone => ⟨_, next_of_live hlive rfl, ?_⟩⟩
  obtain ⟨hblock, hclk, htime, hact, hup⟩ := Hw.fitComplete_consumes hdone sig
  exact ⟨hblock.trans (by rw [Hw.setHerd_herdAt]), hclk, htime, hact, hup, rfl, rfl⟩

theorem Hw.estimatorApply_waiting {h : Hw} {a : Nat} {f : FitRes} (hwait : (h.herdAt a).applyNext = some f) {g : Hw}
    (hg : g = h.setHerd a (fun e => { e with
      applyNext := none, applied := ps8 f.a, appMode := f.mode, dofs := f.dofs.map (fun p => (p.1, ps8 p.2)) })) :
    h.estimatorApply a = if h.rd HD_SWIDAN_CTRL_REPORT a ≠ 0 then g.swidanSend a 11 none (g.estBody a) else g := by
  subst hg
  simp only [Hw.estimatorApply, hwait, Hw.on_eq, Hw.setHerd_rd, bne_iff_ne]

theorem estimatorApply : Spec.estimatorApply := fun _ _ _ _ hlive hwait hh =>
  next_of_live hlive (Hw.estimatorApply_waiting hwait hh)

/-- Settles O18: the writes and the result that waits by their definitions, and FIT_COMPLETE because nothing that judges a fit
opens the block again. -/
theorem dispersionEstimate : Obligations.DispersionEstimate :=
  ⟨hdWavelengthWrite, estimatorModeWrite, asymOverrideWrite, fitComplete, estimatorApply⟩

end Sys2Proof.Machine
end

section
/-! The time counter and its shadow (R129 to R131, R135), time-of-day associations (R139), qualification of domains (R145) and the
quality ladder (R151, R152). -/

namespace Sys2Proof.Machine

/-! ### The counters (R129 to R131) -/

theorem counterAdvance : Spec.counterAdvance := fun _ _ => ⟨rfl, rfl, fun _ _ _ _ => rfl⟩

theorem lockstepMismatch : Spec.lockstepMismatch := fun _ _ hlive => next_of_live hlive rfl

theorem Hw.runResync_asked {h : Hw} (hasked : h.time.lsResync = true) : h.runResync =
    ({ h with time := { h.time with shadowOfs := 0, lsResync := false } } : Hw).wr TC_STATUS_LS_FAULT 0 := if_pos hasked

theorem lsResync : Spec.lsResync := by
  intro s v hopen
  refine ⟨next_of_open hopen rfl, fun hasked => ?_⟩
  rw [Hw.runResync_asked hasked]
  exact ⟨rfl, Hw.rd_wr_same .., rfl⟩

/-! ### Setting the time (R135) -/

/-- R12: SEL is no field of TC_SET. -/
theorem Hw.writeWord_tcSet_sel (h : Hw) (w v : Nat) : (h.writeWord .TC_SET w v 0 0).rd TC_STATUS_SEL = h.rd TC_STATUS_SEL :=
  (onlyFields_writeWord h .TC_SET w v 0 0).rd TC_STATUS_SEL 0 0 (by simp [RegName.fields, Fld.key])

theorem Hw.tcSetGo_selected {h : Hw} {v : Nat} (hgo : bitOf v 31 = true) (hsel : h.rd TC_STATUS_SEL ≠ 0) :
    h.tcSetGo v = (h.writeWord .TC_SET 3 v 0 0).wr TC_STATUS_SET_REJ 1 :=
  (if_pos hgo).trans (if_pos (by simpa [Hw.writeWord_tcSet_sel] using hsel))

theorem Hw.tcSetGo_free {h g : Hw} {v : Nat} (hgo : bitOf v 31 = true) (hsel : h.rd TC_STATUS_SEL = 0)
    (hg : g = h.writeWord .TC_SET 3 v 0 0) :
    h.tcSetGo v = { g with time := { g.time with setGo := some (g.rd TC_SET_SEC, g.rd TC_SET_NS) } } := by
  subst hg
  exact (if_pos hgo).trans (if_neg (by simpa [Hw.writeWord_tcSet_sel] using hsel))

theorem tcSetGo : Spec.tcSetGo := fun _ _ _ hopen hh hgo =>
  ⟨fun hsel => next_of_open hopen ((Hw.tcSetGo_selected hgo hsel).trans (by rw [hh])),
    fun hsel => next_of_open hopen (Hw.tcSetGo_free hgo hsel hh)⟩

/-- R154: a comparator either skips its edges up to a later one, and shows it, or stays. -/
theorem Hw.cmpPass_cases (h : Hw) (k : Nat) (t : Int) : ∃ n j,
    h.cmpPass k t = ((h.inc TC_CMP_CNT_SKIP k 0 n).setCmp k (fun c => { c with next := j })).cmpShow k ∨ h.cmpPass k t = h :=
  ⟨_, _, ite_eq_or_eq _ _ _⟩

theorem Hw.cmpPass_now (h : Hw) (k : Nat) (t : Int) : (h.cmpPass k t).time.now = h.time.now := by
  obtain ⟨n, j, he | he⟩ := h.cmpPass_cases k t
  · rw [he]; rfl
  · rw [he]

theorem Hw.cmpPass_sel (h : Hw) (k : Nat) (t : Int) : (h.cmpPass k t).rd TC_STATUS_SEL = h.rd TC_STATUS_SEL := by
  obtain ⟨n, j, he | he⟩ := h.cmpPass_cases k t
  · rw [he]
    exact (Hw.rd_wr_of_reg_ne (by decide) ..).trans (Hw.rd_inc_of_reg_ne (by decide) h k 0 n 0 0)
  · rw [he]

/-- R135: a step moves the counter and leaves SEL. -/
theorem Hw.stepCounter_keeps (h : Hw) (d : Int) : (h.stepCounter d).time.now = (((h.time.now : Nat) : Int) + d).toNat ∧
    (h.stepCounter d).rd TC_STATUS_SEL = h.rd TC_STATUS_SEL := by
  have hpass (g : Hw) (l : List Nat) : (g.each l (fun h k => h.cmpPass k h.now16)).time.now = g.time.now ∧
      (g.each l (fun h k => h.cmpPass k h.now16)).rd TC_STATUS_SEL = g.rd TC_STATUS_SEL :=
    ⟨Hw.each_keeps (fun h => h.time.now) (fun h k => h.cmpPass_now k _) l g,
      Hw.each_keeps (fun h => h.rd TC_STATUS_SEL) (fun h k => h.cmpPass_sel k _) l g⟩
  simp only [Hw.stepCounter]
  split
  · exact ⟨(hpass ..).1, (hpass ..).2.trans (Hw.rd_wr_of_reg_ne (by decide) ..)⟩
  · exact ⟨rfl, Hw.rd_wr_of_reg_ne (by decide) ..⟩

theorem Hw.rd_servo_set {h : Hw} {n : Nat} (hsel : h.rd TC_STATUS_SEL = n) :
    ((h.wr TC_STATUS_SET 1).wr TC_STATUS_SERVO (if h.rd TC_STATUS_SEL = 0 then 0 else 1)).rd TC_STATUS_SERVO =
      if n = 0 then 0 else 1 := by
  subst hsel
  rw [Hw.rd_wr_same]
  split <;> rfl

theorem tcSetRuns : Spec.tcSetRuns := by
  intro h sec ns hset
  have hstep := h.stepCounter_keeps (((((sec * 1000000000 + ns) * 2 ^ 44 : Nat) : Int)) - ((h.time.now : Nat) : Int))
  rw [add_sub_cancel, Int.toNat_natCast] at hstep
  obtain ⟨hnow, hsel⟩ := hstep
  simp only [Hw.runSet, hset]
  refine ⟨hnow, rfl, rfl, ?shown, ?servo⟩
  case shown => exact (Hw.rd_wr_ne _ _ _ _ _ _ _ _ (by decide)).trans (Hw.rd_wr_same ..)
  case servo => exact Hw.rd_servo_set hsel

/-- Settles O19: the register's bits decide what a write asks for, and the step of the counter leaves SEL. -/
theorem timeCounters : Obligations.TimeCounters := ⟨counterAdvance, lockstepMismatch, lsResync, tcSetGo, tcSetRuns⟩

/-! ### Time-of-day associations (R139) -/

theorem todaAttribute : Spec.todaAttribute := fun _ _ _ _ _ hlive => next_of_live hlive rfl

theorem tcTodaInGo : Spec.tcTodaInGo := fun _ _ _ _ hopen hh => by
  subst hh
  exact ⟨fun hgo => next_of_open hopen (if_pos hgo), fun hgo => next_of_open hopen (if_neg (by simp [hgo]))⟩

/-- R139: the association is adopted; a jump marks the domain besides. -/
theorem Hw.todaAdopt_cases (h g : Hw) (d : Nat) (x : Nat × Nat)
    (hg : g = h.setDom d (fun s => { s with adopt := some x, pend := none })) :
    h.todaAdopt d x = ((g.wr TC_DOM_STATUS_JUMP 1 d).wr TC_DOM_STATUS_QUAL 0 d).setDom d (fun s => { s with qualFor := 0 }) ∨
      h.todaAdopt d x = g := by
  subst hg
  exact ite_eq_or_eq _ _ _

theorem Hw.todaAdopt_dom (h : Hw) (d : Nat) (x : Nat × Nat) :
    ((h.todaAdopt d x).domAt d).adopt = some x ∧ ((h.todaAdopt d x).domAt d).pend = none := by
  have hset : (h.setDom d (fun s => { s with adopt := some x, pend := none })).domAt d = { h.domAt d with
      adopt := some x, pend := none } := Hw.setDom_domAt ..
  obtain he | he := h.todaAdopt_cases _ d x rfl
  · have hdom (g : Hw) : ((g.wr TC_DOM_STATUS_JUMP 1 d).wr TC_DOM_STATUS_QUAL 0 d).domAt d = g.domAt d := rfl
    rw [he, Hw.setDom_domAt, hdom, hset]
    exact ⟨rfl, rfl⟩
  · rw [he, hset]
    exact ⟨rfl, rfl⟩

section
variable {h : Hw} {d : Nat} {o x : Nat × Nat} (hadopt : (h.domAt d).adopt = none) (htoda : (h.domAt d).toda = some o)
include hadopt htoda

theorem Hw.todaCheck_agrees (hagree : todaAgree (h.cfg TC_TODA_TOL 0 d) o x = true) : h.todaCheck d x = h.todaAdopt d x := by
  simp only [Hw.todaCheck, hadopt, htoda, Option.or, hagree, if_true]

theorem Hw.todaCheck_disagrees (hno : todaAgree (h.cfg TC_TODA_TOL 0 d) o x = false) (hpend : (h.domAt d).pend = none) :
    h.todaCheck d x = h.setDom d (fun s => { s with pend := some x }) := by
  simp only [Hw.todaCheck, hadopt, htoda, Option.or, hno, hpend, Bool.false_eq_true, if_false]

end

theorem todaChecked : Spec.todaChecked := fun _ _ _ _ hadopt htoda =>
  ⟨fun hagree => by rw [Hw.todaCheck_agrees hadopt htoda hagree]; exact Hw.todaAdopt_dom ..,
    fun hno hpend => Hw.todaCheck_disagrees hadopt htoda hno hpend⟩

/-- Of a count and its neighbours one period away, the one nearest to `c` is taken; it lies within half a period of `c`. -/
theorem foldl_nearest (base c m M : Int) (hM : M = 2 * m) (hnear : (base - c).natAbs < M) : ∃ k : Int,
    [base - M, base, base + M].foldl (fun b x => if (x - c).natAbs < (b - c).natAbs then x else b) base =
      base + k * M ∧ ((base + k * M - c).natAbs : Int) ≤ m := by
  subst hM
  simp only [List.foldl_cons, List.foldl_nil]
  by_cases hlow : base - c < -m
  · exact ⟨1, by grind, by omega⟩
  · by_cases hhigh : m < base - c
    · exact ⟨-1, by grind, by omega⟩
    · exact ⟨0, by grind, by omega⟩

/-- The count with the low word of `lo` beside `cur` is less than its range away from it. -/
theorem lowWord_near (cur lo : Nat) :
    ((((cur / 2 ^ 32 * 2 ^ 32 + lo % 2 ^ 32 : Nat) : Int) - (cur : Nat)).natAbs : Int) < 2 ^ 32 := by
  omega

theorem nearest_lowWord {cur lo : Nat} {k : Int} (hlo : 2 ^ 32 ≤ cur) (hhi : cur < 2 ^ 51 - 2 ^ 32)
    (hhalf : ((((cur / 2 ^ 32 * 2 ^ 32 + lo % 2 ^ 32 : Nat) : Int) + k * 2 ^ 32 - (cur : Nat)).natAbs : Int) ≤ 2 ^ 31) :
    ((((cur / 2 ^ 32 * 2 ^ 32 + lo % 2 ^ 32 : Nat) : Int) + k * 2 ^ 32) % 2 ^ 51).toNat % 2 ^ 32 = lo % 2 ^ 32 ∧
      ((((((cur / 2 ^ 32 * 2 ^ 32 + lo % 2 ^ 32 : Nat) : Int) + k * 2 ^ 32) % 2 ^ 51).toNat : Int) - cur).natAbs ≤ 2 ^ 31 := by
  omega

theorem sfcExtended : Spec.sfcExtended := by
  intro cur lo hlo hhi
  obtain ⟨k, hfold, hhalf⟩ := foldl_nearest _ _ (2 ^ 31) (2 ^ 32) (by decide) (lowWord_near cur lo)
  have hext : extendSfc cur lo = _ := congrArg (fun best : Int => (best % 2 ^ 51).toNat) hfold
  rw [hext]
  exact nearest_lowWord hlo hhi hhalf

/-! ### Qualification and the quality ladder (R145, R151, R152) -/

theorem Hw.domCanQualify_iff (h : Hw) (d : Nat) : h.domCanQualify d = true ↔ h.rd TC_DOM_STATUS_STATE d ≠ 0 ∧
    80000 ≤ (h.domAt d).track ∧ h.rd TC_DOM_STATUS_JUMP d = 0 ∧ bitOf (h.rd SF_STATUS_DOM_FAULTY) d = false := by
  simp [Hw.domCanQualify, and_assoc]

theorem domainQualified : Spec.domainQualified := fun s d hlive =>
  next_of_live hlive (by simp only [Hw.domainQualified, Hw.domCanQualify_iff])

theorem holdoverExpiry : Spec.holdoverExpiry := fun _ hlive => next_of_live hlive rfl

theorem ladder : Spec.ladder := by
  intro h
  refine ⟨fun hdeg => ?degraded, fun hglobal hlevel => ⟨fun hservo => ?locked, fun hservo hlearn hspec => ?held, fun hservo => ?free⟩⟩
  case degraded =>
    simp only [Hw.rungNow, Hw.on_eq, bne_iff_ne]
    exact if_pos hdeg
  case locked => simp [Hw.rungNow, hglobal, hlevel, hservo, rungLocked]
  case held =>
    by_cases hmodel : h.rd SF_STATUS_MODEL_FAULTY = 0 <;>
      simp [Hw.rungNow, hglobal, hlevel, hservo, hlearn, hspec, hmodel, rungHoldIn, rungHoldOut]
  case free =>
    have h2 : h.rd TC_STATUS_SERVO ≠ 2 := by omega
    have h3 : h.rd TC_STATUS_SERVO ≠ 3 := by omega
    have h4 : h.rd TC_STATUS_SERVO ≠ 4 := by omega
    simp [Hw.rungNow, hglobal, hlevel, h2, h3, h4, rungHoldOut, rungFreerun]

/-- Settles O20: each decision under the association, the flags and the servo state that it reads. -/
theorem timeDomains : Obligations.TimeDomains :=
  ⟨todaAttribute, tcTodaInGo, todaChecked, sfcExtended, domainQualified, holdoverExpiry, ladder⟩

end Sys2Proof.Machine
end

section
/-! Requests to the station time service (R163, R164, R166, R176 to R180): what every request meets first, and the PTP requests. -/

namespace Sys2Proof.Machine

/-! ### What a request meets first (R163, R166) -/

theorem Hw.tsArrive_off {h : Hw} {i svc : Nat} (hoff : h.tsEn i svc = false) (f : Hw → Hw) : h.tsArrive i svc f = h :=
  if_neg (by simp [hoff])

theorem Hw.tsArrive_on {h : Hw} {i svc : Nat} (hlive : h.Live (tsRegion i)) (hserves : h.tsServes i = true)
    (hon : h.tsEn i svc = true) (f : Hw → Hw) :
    h.tsArrive i svc f = if h.tsLat i then f h else h.inc TS_CNT_NOLAT i := if_pos (by simp [hserves, hlive.2, hon])

theorem Hw.tsArrive_noLat {h : Hw} {i svc : Nat} (hlive : h.Live (tsRegion i)) (hserves : h.tsServes i = true)
    (hon : h.tsEn i svc = true) (hlat : h.tsLat i = false) (f : Hw → Hw) : h.tsArrive i svc f = h.inc TS_CNT_NOLAT i :=
  (Hw.tsArrive_on hlive hserves hon f).trans (if_neg (by simp [hlat]))

theorem Hw.tsArrive_lat {h : Hw} {i svc : Nat} (hlive : h.Live (tsRegion i)) (hserves : h.tsServes i = true)
    (hon : h.tsEn i svc = true) (hlat : h.tsLat i = true) (f : Hw → Hw) : h.tsArrive i svc f = f h :=
  (Hw.tsArrive_on hlive hserves hon f).trans (if_pos hlat)

theorem requestsNoLat : Spec.requestsNoLat := by
  intro s i m q v6 mac ip hlive hi hbase hvalid
  have hserves : s.hw.tsServes i = true := by simp [Hw.tsServes, hi, hbase]
  have hlat : s.hw.tsLat i = false := by simp [Hw.tsLat, hi, hvalid]
  exact ⟨fun hon => ⟨next_of_live hlive (Hw.tsArrive_noLat hlive hserves hon hlat _),
      next_of_live hlive (Hw.tsArrive_noLat hlive hserves hon hlat _)⟩,
    fun hon => next_of_live hlive (Hw.tsArrive_noLat hlive hserves hon hlat _),
    fun hon => next_of_live hlive (Hw.tsArrive_noLat hlive hserves hon hlat _)⟩

theorem requestsOff : Spec.requestsOff := fun _ _ _ _ _ _ _ =>
  ⟨fun hoff => ⟨Hw.inRegion_same (Hw.tsArrive_off hoff _), Hw.inRegion_same (Hw.tsArrive_off hoff _)⟩,
   fun hoff => Hw.inRegion_same (Hw.tsArrive_off hoff _), fun hoff => Hw.inRegion_same (Hw.tsArrive_off hoff _)⟩

/-! ### Sync and Announce (R176, R177) -/

theorem Hw.ptpLive_of_enabled {h : Hw} {i : Nat} (hlive : h.Live (tsRegion i)) (henabled : h.rd TS_PORT_STATUS_STATE i ≠ 0) :
    h.ptpLive i = true := by
  simp [Hw.ptpLive, hlive.2, Hw.tsState, tsDisabled, henabled]

theorem Hw.ptpLive_disabled {h : Hw} {i : Nat} (hdisabled : h.rd TS_PORT_STATUS_STATE i = 0) : h.ptpLive i = false := by
  simp [Hw.ptpLive, Hw.tsState, tsDisabled, hdisabled]

theorem syncRequest : Spec.syncRequest := fun _ _ hlive henabled =>
  next_of_live hlive (by simp only [Hw.syncRequest, Hw.ptpLive_of_enabled hlive henabled, Bool.true_and])

theorem announceRequest : Spec.announceRequest := fun _ _ hlive henabled =>
  next_of_live hlive (by simp only [Hw.announceRequest, Hw.ptpLive_of_enabled hlive henabled, Bool.true_and])

theorem ptpDisabled : Spec.ptpDisabled := fun _ _ hdisabled =>
  ⟨Hw.inRegion_same (by simp [Hw.syncRequest, Hw.ptpLive_disabled hdisabled]),
   Hw.inRegion_same (by simp [Hw.announceRequest, Hw.ptpLive_disabled hdisabled])⟩

/-! ### Delay requests (R178, R179) -/

section
variable {h : Hw} {i u : Nat} {p2p : Bool} {m : PtpIn}

theorem Hw.delayRequest_bad (hlive : h.Live (tsRegion i)) (hserves : h.tsServes i = true) (hon : h.tsEn i enPtp = true)
    (hlat : h.tsLat i = true) (hbad : h.ptpOk i p2p m = false) : h.delayRequest i p2p m = h.inc TS_CNT_PTP_DISC i :=
  (Hw.tsArrive_lat hlive hserves hon hlat _).trans (if_neg (by simp [hbad]))

theorem Hw.delayRequest_token (hlive : h.Live (tsRegion i)) (hserves : h.tsServes i = true) (hon : h.tsEn i enPtp = true)
    (hlat : h.tsLat i = true) (hok : h.ptpOk i p2p m = true)
    (hbucket : bucketLevel (h.tsAt i).dUsed 16 (h.cfg TS_PORT_DREQ_LIMIT i) m.cyc = (u, true)) :
    h.delayRequest i p2p m = (h.setTs i (fun e => { e with dUsed := u + tokenUnit })).tsQueueMax i 16
      { kind := 1, sub := b2n p2p, since := 0, t := m.t, corr := m.corr, ident := m.port, seq := m.seq, uni := m.uni
        mac := m.mac, ip := m.ip, udp := m.udp } :=
  (Hw.tsArrive_lat hlive hserves hon hlat _).trans (by simp only [hok, hbucket, if_true])

theorem Hw.delayRequest_noToken (hlive : h.Live (tsRegion i)) (hserves : h.tsServes i = true) (hon : h.tsEn i enPtp = true)
    (hlat : h.tsLat i = true) (hok : h.ptpOk i p2p m = true)
    (hbucket : bucketLevel (h.tsAt i).dUsed 16 (h.cfg TS_PORT_DREQ_LIMIT i) m.cyc = (u, false)) :
    h.delayRequest i p2p m = (h.setTs i (fun e => { e with dUsed := u })).inc TS_CNT_DREQ_LIMIT i :=
  (Hw.tsArrive_lat hlive hserves hon hlat _).trans
    (by simp only [hok, hbucket, if_true, Bool.false_eq_true, if_false])

theorem Hw.ptpOk_otherDomain (hdom : m.dom ≠ h.cfg TS_PORT_DOMAIN i) : h.ptpOk i p2p m = false := by
  simp [Hw.ptpOk, hdom]

theorem Hw.ptpOk_e2e (hmech : h.cfg TS_PORT_DELAY_MECH i = 0) : h.ptpOk i true m = false := by
  simp [Hw.ptpOk, hmech, b2n]
end

theorem delayReq : Spec.delayReq := fun _ _ _ hlive hserves hon hlat =>
  ⟨fun hdom => next_of_live hlive (Hw.delayRequest_bad hlive hserves hon hlat (Hw.ptpOk_otherDomain hdom)),
   fun hok => ⟨fun _ hbucket => next_of_live hlive (Hw.delayRequest_noToken hlive hserves hon hlat hok hbucket),
     fun _ hbucket => next_of_live hlive (Hw.delayRequest_token hlive hserves hon hlat hok hbucket)⟩⟩

theorem pdelayReq : Spec.pdelayReq := fun _ _ _ hlive hserves hon hlat =>
  ⟨fun hmech => next_of_live hlive (Hw.delayRequest_bad hlive hserves hon hlat (Hw.ptpOk_e2e hmech)),
   fun hok _ hbucket => next_of_live hlive (Hw.delayRequest_token hlive hserves hon hlat hok hbucket)⟩

/-- Settles O22: what every request meets first, and the place, the checks and the token of each kind. -/
theorem ptpRequests : Obligations.PtpRequests :=
  ⟨syncRequest, announceRequest, ptpDisabled, requestsNoLat, requestsOff, delayReq, pdelayReq⟩

end Sys2Proof.Machine
end

section
/-! Host flash operations (R454) and JTAG instructions (R494): what a write of GL_FLASH_CTRL starts, what its end gives, which
bytes a program and an erase change, and what an instruction captures. -/

namespace Sys2Proof.Machine

/-! ### A field put into the low bits of a word -/

theorem putBits_zero_shiftRight {w l : Nat} (v x : Nat) (hwl : w ≤ l) : putBits v 0 w x >>> l = v >>> l := by
  have hw : putBits v 0 w x >>> w = v >>> w := by
    rw [putBits, Nat.pow_zero, Nat.mod_one, Nat.zero_add, Nat.zero_add, Nat.mul_one, Nat.shiftRight_eq_div_pow,
      Nat.add_mul_div_right _ _ (Nat.two_pow_pos w), Nat.div_eq_of_lt (Nat.mod_lt _ (Nat.two_pow_pos w)), Nat.zero_add]
  obtain ⟨m, rfl⟩ := Nat.exists_eq_add_of_le hwl
  rw [Nat.shiftRight_add, hw, Nat.shiftRight_add]

theorem bits_putBits_above {w l : Nat} (v x n : Nat) (hwl : w ≤ l) : bits (putBits v 0 w x) l n = bits v l n := by
  rw [bits, putBits_zero_shiftRight v x hwl, bits]

theorem bitOf_putBits_above {w k : Nat} (v x : Nat) (hwk : w ≤ k) : bitOf (putBits v 0 w x) k = bitOf v k := by
  have h := congrArg (·.testBit 0) (putBits_zero_shiftRight v x hwk)
  simpa only [Nat.testBit_shiftRight, Nat.add_zero, bitOf] using h

theorem bits_putBits_same (v w x : Nat) : bits (putBits v 0 w x) 0 w = x % 2 ^ w := putBits_zero_mod v w x

/-! ### The start of an operation -/

/-- A write of GL_FLASH_CTRL, with its four operations apart: OP reads the operation that the write names. -/
theorem Hw.flashCtrl_op {h g : Hw} {v op : Nat} (hop : op ≤ 3) (hg : g = h.writeWord .GL_FLASH_CTRL 0 (putBits v 0 3 op) 0 0) :
    h.flashCtrl (putBits v 0 3 op) =
      if bitOf v 15 = false ∨ g.on GL_FLASH_CTRL_BUSY = true then g
      else if g.flashDenied op (bits v 16 16) (g.rd GL_FLASH_ADDR_ADDR) (g.rd GL_FLASH_CTRL_LEN + 1) then g.wr GL_FLASH_CTRL_DENIED 1
      else { (g.wr GL_FLASH_CTRL_BUSY 1) with pw := { g.pw with flashOp := some (op, g.rd GL_FLASH_ADDR_ADDR, g.rd GL_FLASH_CTRL_LEN + 1,
        (leBytes 256 (g.rd GL_FLASH_BUF_BUF)).take (g.rd GL_FLASH_CTRL_LEN + 1)) } } := by
  have hread : g.rd GL_FLASH_CTRL_OP = op := by
    rw [hg, h.rd_writeWord_rw .GL_FLASH_CTRL 0 _ 0 0 GL_FLASH_CTRL_OP (by simp [RegName.fields]) rfl (by decide) (by decide)
      (by decide)]
    exact (bits_putBits_same v 3 op).trans (Nat.mod_eq_of_lt (by omega))
  simp only [Hw.flashCtrl, ← hg, hread, if_pos hop, bitOf_putBits_above v op (w := 3) (k := 15) (by decide),
    bits_putBits_above v op 16 (w := 3) (l := 16) (by decide)]

theorem Hw.flashDenied_key {h : Hw} {op key : Nat} (hop : op ≠ 0) (hkey : key ≠ 0xF1A5) (a len : Nat) :
    h.flashDenied op key a len = true := by
  simp [Hw.flashDenied, hop, hkey]

section
variable {h g : Hw} {v op : Nat} (hop : op ≤ 3) (hg : g = h.writeWord .GL_FLASH_CTRL 0 (putBits v 0 3 op) 0 0)
include hop hg

theorem Hw.flashCtrl_noGo (hgo : bitOf v 15 = false) : h.flashCtrl (putBits v 0 3 op) = g :=
  (Hw.flashCtrl_op hop hg).trans (if_pos (.inl hgo))

theorem Hw.flashCtrl_go (hgo : bitOf v 15 = true) (hbusy : g.rd GL_FLASH_CTRL_BUSY = 0) :
    h.flashCtrl (putBits v 0 3 op) =
      if g.flashDenied op (bits v 16 16) (g.rd GL_FLASH_ADDR_ADDR) (g.rd GL_FLASH_CTRL_LEN + 1) then g.wr GL_FLASH_CTRL_DENIED 1
      else { (g.wr GL_FLASH_CTRL_BUSY 1) with pw := { g.pw with flashOp := some (op, g.rd GL_FLASH_ADDR_ADDR, g.rd GL_FLASH_CTRL_LEN + 1,
        (leBytes 256 (g.rd GL_FLASH_BUF_BUF)).take (g.rd GL_FLASH_CTRL_LEN + 1)) } } :=
  (Hw.flashCtrl_op hop hg).trans (if_neg (by simp [hgo, hbusy]))
end

/-- The four commands are one write, which differs in OP alone. -/
theorem exec_flashCtrl {op : Nat} {c : Instr} {v : Nat}
    (hc : (op, c) ∈ [(0, Instr.flashRead v), (1, .flashProgram v), (2, .erase4k v), (3, .erase64k v)]) (s : State) :
    op ≤ 3 ∧ exec c s = s.nextHw (s.hw.barGate (regBlock .GL_FLASH_CTRL 0 0) (fun h => h.flashCtrl (putBits v 0 3 op))) := by
  simp only [List.mem_cons, List.not_mem_nil, or_false, Prod.mk.injEq] at hc
  rcases hc with ⟨rfl, rfl⟩ | ⟨rfl, rfl⟩ | ⟨rfl, rfl⟩ | ⟨rfl, rfl⟩ <;> exact ⟨by decide, rfl⟩

theorem flashOperation : Spec.flashOperation := by
  intro s v h hopen hh op c hc
  obtain ⟨hop, hexec⟩ := exec_flashCtrl hc s
  rw [hexec]
  refine ⟨fun hgo => next_of_open hopen (Hw.flashCtrl_noGo hop (hh op) hgo), fun hgo hbusy hne hkey => ?denied,
    fun hgo hbusy hfree => ?starts⟩
  case denied =>
    exact next_of_open hopen ((Hw.flashCtrl_go hop (hh op) hgo hbusy).trans (if_pos (Hw.flashDenied_key hne hkey _ _)))
  case starts =>
    exact ⟨_, next_of_open hopen ((Hw.flashCtrl_go hop (hh op) hgo hbusy).trans (if_neg (by simp [hfree]))),
      Hw.rd_wr_same .., rfl⟩

/-! ### The end of an operation -/

/-- The block after the end of an operation, before a read fills the buffer. -/
def Hw.flashIdle (h : Hw) (slow : Bool) : Hw :=
  (({ h with pw := { h.pw with flashOp := none } } : Hw).wr GL_FLASH_CTRL_BUSY 0).when slow (fun h => h.wr GL_FLASH_CTRL_ERR 1)

theorem Hw.flashIdle_flashOp (h : Hw) (slow : Bool) : (h.flashIdle slow).pw.flashOp = none := by cases slow <;> rfl

theorem Hw.flashIdle_busy (h : Hw) (slow : Bool) : (h.flashIdle slow).rd GL_FLASH_CTRL_BUSY = 0 :=
  (Hw.rd_when (fun g => g.rd_wr_ne _ _ _ _ _ _ _ (by simp [Fld.key])) _ slow).trans (Hw.rd_wr_same ..)

theorem Hw.flashIdle_err {h : Hw} {slow : Bool} (hslow : slow = true) : (h.flashIdle slow).rd GL_FLASH_CTRL_ERR = 1 := by
  subst hslow
  exact Hw.rd_wr_same ..

theorem Hw.flashIdle_buf (h : Hw) (slow : Bool) : (h.flashIdle slow).rd GL_FLASH_BUF_BUF = h.rd GL_FLASH_BUF_BUF :=
  (Hw.rd_when (fun g => Hw.rd_wr_of_reg_ne (by decide) g ..) _ slow).trans (Hw.rd_wr_of_reg_ne (by decide) _ ..)

section
variable {h : Hw} {n : NonVol} {op a len : Nat} {d : List Byte}

theorem Hw.flashDone_eq (hop : h.pw.flashOp = some (op, a, len, d)) (hlog : h.logBusy = false) (slow : Bool) :
    h.flashDone n slow =
      if op = 0 then ((h.flashIdle slow).wr GL_FLASH_BUF_BUF
        (leNat (splice (leBytes 256 ((h.flashIdle slow).rd GL_FLASH_BUF_BUF)) 0 (flashRead n.flash a len))), n)
      else if op = 1 then (h.flashIdle slow, { n with flash := flashProg n.flash a d })
      else (h.flashIdle slow, { n with flash := flashErase n.flash a (eraseSize op) }) := by
  simp only [Hw.flashDone, hop, hlog, Bool.false_eq_true, if_false, Hw.flashIdle]

theorem Hw.flashDone_idle (hop : h.pw.flashOp = none) (slow : Bool) : h.flashDone n slow = (h, n) := by
  simp only [Hw.flashDone, hop]

theorem Hw.flashDone_waits (hlog : h.logBusy = true) (slow : Bool) : h.flashDone n slow = (h, n) := by
  unfold Hw.flashDone
  split
  · rfl
  · exact if_pos hlog
end

theorem flashDone : Spec.flashDone := by
  intro s slow hlive
  refine ⟨fun hnone => next_of_liveNv hlive (Hw.flashDone_idle hnone slow),
    fun hlog => next_of_liveNv hlive (Hw.flashDone_waits hlog slow), fun op a len d hop hlog => ?_⟩
  have hdone := Hw.flashDone_eq (n := s.nv) hop hlog slow
  by_cases h0 : op = 0
  · rw [if_pos h0] at hdone
    refine ⟨_, _, next_of_liveNv hlive hdone, ?_, Hw.flashIdle_flashOp _ slow, fun hslow => ?_, fun _ => ⟨rfl, ?_⟩, by omega, by omega⟩
    · exact (Hw.rd_wr_of_reg_ne (by decide) _ ..).trans (Hw.flashIdle_busy _ slow)
    · exact (Hw.rd_wr_of_reg_ne (by decide) _ ..).trans (Hw.flashIdle_err hslow)
    · rw [Hw.flashIdle_buf]
      exact Hw.rd_wr_same ..
  · rw [if_neg h0] at hdone
    by_cases h1 : op = 1
    · rw [if_pos h1] at hdone
      exact ⟨_, _, next_of_liveNv hlive hdone, Hw.flashIdle_busy _ slow, Hw.flashIdle_flashOp _ slow, Hw.flashIdle_err,
        fun h => absurd h h0, fun _ => rfl, by omega⟩
    · rw [if_neg h1] at hdone
      exact ⟨_, _, next_of_liveNv hlive hdone, Hw.flashIdle_busy _ slow, Hw.flashIdle_flashOp _ slow, Hw.flashIdle_err,
        fun h => absurd h h0, fun h => absurd h h1, fun _ => rfl⟩

/-! ### The bytes of a program and of an erase -/

theorem flashAt_prog {m : List Host.Cell} (hm : flashWf m = true) (a : Nat) (d : List Byte) (x : Nat) :
    flashAt (flashProg m a d) x = if a ≤ x ∧ x < a + d.length then flashAt m x &&& d.getD (x - a) 0 else flashAt m x := by
  induction d generalizing m a with
  | nil => simp [flashProg]
  | cons b t ih =>
    rw [flashProg, ih (flashSet_wf a _ hm), flashAt_set _ _ _ hm, List.length_cons]
    rcases Nat.lt_trichotomy x a with hlt | rfl | hgt
    · rw [if_neg (by omega), if_neg (by omega), if_neg (by omega)]
    · rw [if_neg (by omega), if_pos rfl, if_pos (by omega), Nat.sub_self, List.getD_cons_zero]
    · have hrest : x - a = x - (a + 1) + 1 := by omega
      rw [if_neg (by omega : ¬ x = a), hrest, List.getD_cons_succ]
      exact if_congr (by omega) rfl rfl

theorem flashAt_erase (m : List Host.Cell) (a n x : Nat) :
    flashAt (flashErase m a n) x = if a ≤ x ∧ x < a + n then 0xFF else flashAt m x := by
  split
  · next hin =>
    refine flashAt_absent (fun c hc hx => ?_)
    have hout := of_decide_eq_true (List.mem_filter.mp hc).2
    omega
  · next hout =>
    induction m with
    | nil => rfl
    | cons c t ih =>
      simp only [flashErase, List.filter_cons, flashAt] at ih ⊢
      by_cases hc : c.1 = x
      · rw [if_pos (decide_eq_true (by omega))]
        simp only [look, hc, if_true]
      · split <;> simp only [look, hc, if_false, ih]

theorem flashBytes : Spec.flashBytes := fun m hm => ⟨flashAt_prog hm, flashAt_erase m⟩

/-! ### JTAG -/

theorem Hw.jtagInstr_low {h : Hw} {i : Nat} (hi : i < 6) (n : NonVol) (o : Bool) : h.jtagInstr n i o =
    (({ h with pw := { h.pw with jtag := i } } : Hw).emit (.jtag i (if i = 1 then 0xA912856F else 0)), n) :=
  (if_neg (by omega)).trans (if_neg (by omega))

theorem Hw.jtagInstr_fuse (h : Hw) (n : NonVol) (o : Bool) : h.jtagInstr n 6 o =
    (({ h with pw := { h.pw with jtag := 6 } } : Hw).emit (.jtag 6 0), { n with owned := n.owned || o }) := rfl

theorem jtagInstruction : Spec.jtagInstruction := fun s i o hlive =>
  ⟨fun hi => next_of_liveNv hlive (Hw.jtagInstr_low hi s.nv o),
   fun hi => by subst hi; exact ⟨_, next_of_liveNv hlive (Hw.jtagInstr_fuse s.hw s.nv o), rfl⟩⟩

/-- Settles O60: the write that starts an operation, its end, the bytes that it changes, and the JTAG instructions. -/
theorem flashAndJtag : Obligations.FlashAndJtag := ⟨flashOperation, flashDone, flashBytes, jtagInstruction⟩

end Sys2Proof.Machine
end

section
/-! Command, completion and event rings (R357, R360 to R362, R368 to R370, R375). -/

namespace Sys2Proof.Machine

/-! ### A ring's indices -/

/-- R361: a new head index is written to the host and noted for the vector; no index of the ring moves with it. -/
theorem Hw.ringMoved_ringAt (h : Hw) (r v : Nat) : (h.ringMoved r v).ringAt r = { h.ringAt r with head := v } := by
  unfold Hw.ringMoved
  dsimp only
  split <;> exact h.setRing_ringAt r (fun s => { s with head := v })

theorem Hw.ringMoved_out (h : Hw) (r v : Nat) : (h.ringMoved r v).out = .head r v :: h.out := by
  unfold Hw.ringMoved
  dsimp only
  split <;> rfl

theorem Hw.ringMoved_regs (h : Hw) (r v : Nat) : (h.ringMoved r v).regs = h.regs := by
  unfold Hw.ringMoved
  dsimp only
  split <;> rfl

theorem sameFields_of_regs {h h' : Hw} (hregs : h'.regs = h.regs) (keys : List FKey) : SameFields keys h h' :=
  fun f i j _ => by simp only [Hw.rd, hregs]

theorem cmdConsumed : Spec.cmdConsumed := by
  intro h hd
  have hring : (h.cmdTake hd).ringAt (128 + hd.ring) =
      { h.ringAt (128 + hd.ring) with cons := (h.ringAt (128 + hd.ring)).cons + 1, head := (h.ringAt (128 + hd.ring)).cons + 1 } := by
    rw [Hw.cmdTake, Hw.ringMoved_ringAt, Hw.setRing_ringAt]
  rw [hring]
  exact ⟨rfl, rfl, sameFields_of_regs (Hw.ringMoved_regs ..) _, Hw.ringMoved_out ..⟩

theorem entryPushed : Spec.entryPushed := by
  intro h n e
  have hring : (h.pushEntry n e).ringAt (144 + n) =
      { h.ringAt (144 + n) with prod := (h.ringAt (144 + n)).prod + 1, head := (h.ringAt (144 + n)).prod + 1 } := by
    rw [Hw.pushEntry, Hw.ringMoved_ringAt, Hw.setRing_ringAt]
    rfl
  rw [hring]
  exact ⟨rfl, rfl, Hw.ringMoved_out .., sameFields_of_regs (Hw.ringMoved_regs ..) _⟩

/-! ### Errors, completions and commands -/

theorem Hw.ringError_stopped (h : Hw) (r e : Nat) : (h.ringError r e).rd HI_RING_STOPPED r = 1 := by
  rw [Hw.ringError, (notes_recordOther ..).rd _ _ _ (by decide) (by decide), Hw.rd_wr_ne _ _ _ _ _ _ _ _ (by simp [Fld.key])]
  exact Hw.rd_wr_same ..

theorem Hw.ringError_err (h : Hw) (r e : Nat) : (h.ringError r e).rd HI_RING_ERR r = e % 16 := by
  rw [Hw.ringError, (notes_recordOther ..).rd _ _ _ (by decide) (by decide)]
  exact Hw.rd_wr_same ..

theorem ringErrorFrame : Spec.ringErrorFrame := by
  intro h r e he
  refine ⟨h.ringError_stopped r e, (h.ringError_err r e).trans (Nat.mod_eq_of_lt (by omega)), fun f i j hkeys hev hdrop => ?_⟩
  simp only [List.mem_cons, List.not_mem_nil, or_false, not_or] at hkeys
  rw [Hw.ringError, (notes_recordOther ..).rd _ _ _ hev hdrop, Hw.rd_wr_ne _ _ _ _ _ _ _ _ (Ne.symm hkeys.2),
    Hw.rd_wr_ne _ _ _ _ _ _ _ _ (Ne.symm hkeys.1)]

theorem completionWritten : Spec.completionWritten := fun _ _ _ =>
  ⟨fun hroom => if_pos hroom, fun hfull => if_neg (by omega)⟩

theorem hostCmdForms : Spec.hostCmdForms := fun h hd op f =>
  ⟨fun hready => by simp [Hw.hostCmd, hready], fun hready hphase => by simp [Hw.hostCmd, hready, hphase],
   fun hready hphase hcompl => by simp [Hw.hostCmd, hready, hphase, hcompl], fun hready => Hw.hostCmd_ready hready op f⟩

theorem nopCmd : Spec.nopCmd := fun _ _ hready => next_of_done hready rfl

/-! ### Events (R375) -/

/-- An event of one entry finds a place where its ring has room. -/
theorem Hw.tryEvent_single (h : Hw) (n code : Nat) (a : List Byte) : h.tryEvent n code a [] =
    if 1 ≤ h.ringRoom (144 + n) then some (h.pushEntry n (.event code false a)) else none := rfl

theorem Hw.route_off {h : Hw} {c : Nat} (hoff : h.rd HI_EVT_ROUTE_ENABLE c = 0) (code : Nat) (a b : List Byte) :
    h.route c code a b = none := if_neg (by simp [hoff])

theorem Hw.route_single {h : Hw} {c : Nat} (hon : h.rd HI_EVT_ROUTE_ENABLE c ≠ 0) (code : Nat) (a : List Byte) :
    h.route c code a [] = if 1 ≤ h.ringRoom (144 + h.rd HI_EVT_ROUTE_RING c) then
      some (h.pushEntry (h.rd HI_EVT_ROUTE_RING c) (.event code false a)) else none :=
  (if_pos (by simp [hon])).trans (Hw.tryEvent_single ..)

theorem eventDropped : Spec.eventDropped := by
  intro h c code a
  refine ⟨fun hoff => ?_, fun hon hfull => ?_, fun hon hroom => ?_⟩
  · rw [Hw.eventDrop, Hw.route_off hoff]
  · rw [Hw.eventDrop, Hw.route_single hon, if_neg (by omega)]
  · rw [Hw.eventDrop, Hw.route_single hon, if_pos hroom]

/-- A cipher event stays behind those that wait. -/
theorem Hw.eventCipher_behind {h : Hw} (hwait : h.host.cipherQ ≠ []) (code : Nat) (a b : List Byte) : h.eventCipher code a b =
    if h.host.cipherQ.length < 64 then { h with host := { h.host with cipherQ := h.host.cipherQ ++ [(code, a, b)] } }
    else h.inc HI_EVT_DROP_DROPS 1 := by
  simp only [Hw.eventCipher, List.isEmpty_iff, hwait, if_false]

theorem cipherEvents : Spec.cipherEvents := fun h code a b hwait =>
  ⟨fun hroom => (h.eventCipher_behind hwait code a b).trans (if_pos hroom),
   fun hfull => (h.eventCipher_behind hwait code a b).trans (if_neg (by omega))⟩

/-- Settles O44: the forms of a command's start, the indices that it moves, and where its entries and events go. -/
theorem commandRings : Obligations.CommandRings :=
  ⟨hostCmdForms, cmdConsumed, ringErrorFrame, entryPushed, completionWritten, eventDropped, cipherEvents, nopCmd⟩

end Sys2Proof.Machine
end

section
/-! Rings of the host interface: their start and stop (R359), doorbells (R362, R364), descriptors (R366, R367) and MSI-X vectors
(R376). -/

namespace Sys2Proof.Machine

/-! ### Start and stop of a ring (R359) -/

theorem Hw.ringEnable_running {h : Hw} {r : Nat} (hon : h.rd HI_RING_ENABLE r ≠ 0) : h.ringEnable r true = h :=
  (if_pos rfl).trans (if_pos (by simp [hon]))

theorem Hw.ringEnable_start {h : Hw} {r : Nat} (hoff : h.rd HI_RING_ENABLE r = 0) :
    h.ringEnable r true = (h.setRing r (fun _ => {})).wr HI_RING_ENABLE 1 r :=
  (if_pos rfl).trans (if_neg (by simp [hoff]))

/-- A write of ENABLE 0 clears the error of the ring, and stops one that runs. -/
theorem Hw.ringEnable_stop (h : Hw) (r : Nat) : h.ringEnable r false =
    if h.rd HI_RING_ENABLE r ≠ 0 then
      ((((h.wr HI_RING_ERR 0 r).wr HI_RING_STOPPED 0 r).wr HI_RING_ENABLE 0 r).setRing r (fun s => { s with stopping := true }))
    else (h.wr HI_RING_ERR 0 r).wr HI_RING_STOPPED 0 r := by
  have hread : ((h.wr HI_RING_ERR 0 r).wr HI_RING_STOPPED 0 r).rd HI_RING_ENABLE r = h.rd HI_RING_ENABLE r := by
    rw [Hw.rd_wr_ne _ _ _ _ _ _ _ _ (by simp [Fld.key]), Hw.rd_wr_ne _ _ _ _ _ _ _ _ (by simp [Fld.key])]
  simp only [Hw.ringEnable, Bool.false_eq_true, if_false, Hw.on_eq, bne_iff_ne, hread]

/-- The fields of a ring that its start and its stop write. -/
def ringStateKeys (r : Nat) : List FKey := [HI_RING_ENABLE.key r 0, HI_RING_ERR.key r 0, HI_RING_STOPPED.key r 0]

theorem Hw.ringEnable_frame (h : Hw) (r : Nat) (on : Bool) : SameFields (ringStateKeys r) h (h.ringEnable r on) := by
  intro f i j hkeys
  simp only [ringStateKeys, List.mem_cons, List.not_mem_nil, or_false, not_or] at hkeys
  obtain ⟨hen, herr, hstop⟩ := hkeys
  have hclear : ((h.wr HI_RING_ERR 0 r).wr HI_RING_STOPPED 0 r).rd f i j = h.rd f i j := by
    rw [Hw.rd_wr_ne _ _ _ _ _ _ _ _ (Ne.symm hstop), Hw.rd_wr_ne _ _ _ _ _ _ _ _ (Ne.symm herr)]
  cases on
  · rw [Hw.ringEnable_stop]
    split
    · rw [Hw.setRing_rd, Hw.rd_wr_ne _ _ _ _ _ _ _ _ (Ne.symm hen), hclear]
    · exact hclear
  · by_cases hrun : h.rd HI_RING_ENABLE r = 0
    · rw [Hw.ringEnable_start hrun, Hw.rd_wr_ne _ _ _ _ _ _ _ _ (Ne.symm hen), Hw.setRing_rd]
    · rw [Hw.ringEnable_running hrun]

theorem Hw.ringEnable_stop_enable (h : Hw) (r : Nat) : (h.ringEnable r false).rd HI_RING_ENABLE r = 0 := by
  rw [Hw.ringEnable_stop]
  split
  · exact (Hw.setRing_rd ..).trans (Hw.rd_wr_same ..)
  · next hoff =>
    rw [Hw.rd_wr_ne _ _ _ _ _ _ _ _ (by simp [Fld.key]), Hw.rd_wr_ne _ _ _ _ _ _ _ _ (by simp [Fld.key])]
    exact not_not.mp hoff

theorem Hw.ringEnable_stop_ring {h : Hw} {r : Nat} (hon : h.rd HI_RING_ENABLE r ≠ 0) :
    (h.ringEnable r false).ringAt r = { h.ringAt r with stopping := true } := by
  rw [Hw.ringEnable_stop, if_pos hon, Hw.setRing_ringAt]
  rfl

theorem Hw.ringEnable_stop_status {h : Hw} {r : Nat} (hon : h.rd HI_RING_ENABLE r ≠ 0) :
    (h.ringEnable r false).rd HI_RING_ERR r = 0 ∧ (h.ringEnable r false).rd HI_RING_STOPPED r = 0 := by
  rw [Hw.ringEnable_stop, if_pos hon, Hw.setRing_rd, Hw.setRing_rd]
  constructor
  · rw [Hw.rd_wr_ne _ _ _ _ _ _ _ _ (by simp [Fld.key]), Hw.rd_wr_ne _ _ _ _ _ _ _ _ (by simp [Fld.key])]
    exact Hw.rd_wr_same ..
  · rw [Hw.rd_wr_ne _ _ _ _ _ _ _ _ (by simp [Fld.key])]
    exact Hw.rd_wr_same ..

/-! ### The write of a ring's control word -/

/-- The block after a write of a ring's control word has set its size, vector and group. -/
def Hw.ringSetUp (h : Hw) (r v : Nat) : Hw :=
  ((if h.on HI_RING_ENABLE r then h else h.wr HI_RING_SIZE_LOG2 (bits v 8 5) r).wr HI_RING_VECTOR (bits v 24 8) r).wr
    HI_RING_GROUP (bits v 16 3) r

theorem Hw.ringWrite_eq (h : Hw) (r v : Nat) : h.ringWrite r v = (h.ringSetUp r v).ringEnable r (bitOf v 0) := rfl

theorem Hw.ringSetUp_ringAt (h : Hw) (r v : Nat) : (h.ringSetUp r v).ringAt r = h.ringAt r := by
  unfold Hw.ringSetUp
  split <;> rfl

theorem Hw.ringSetUp_frame (h : Hw) (r v : Nat) :
    SameFields [HI_RING_SIZE_LOG2.key r 0, HI_RING_VECTOR.key r 0, HI_RING_GROUP.key r 0] h (h.ringSetUp r v) := by
  intro f i j hkeys
  simp only [List.mem_cons, List.not_mem_nil, or_false, not_or] at hkeys
  obtain ⟨hsize, hvec, hgroup⟩ := hkeys
  rw [Hw.ringSetUp, Hw.rd_wr_ne _ _ _ _ _ _ _ _ (Ne.symm hgroup), Hw.rd_wr_ne _ _ _ _ _ _ _ _ (Ne.symm hvec)]
  split
  · rfl
  · exact Hw.rd_wr_ne _ _ _ _ _ _ _ _ (Ne.symm hsize)

theorem Hw.ringSetUp_group (h : Hw) (r v : Nat) : (h.ringSetUp r v).rd HI_RING_GROUP r = bits v 16 3 :=
  (Hw.rd_wr_same ..).trans (bits_mod v 16 3)

theorem Hw.ringSetUp_vector (h : Hw) (r v : Nat) : (h.ringSetUp r v).rd HI_RING_VECTOR r = bits v 24 8 := by
  rw [Hw.ringSetUp, Hw.rd_wr_ne _ _ _ _ _ _ _ _ (by simp [Fld.key]), Hw.rd_wr_same]
  exact bits_mod v 24 8

theorem Hw.ringSetUp_size (h : Hw) (r v : Nat) :
    (h.ringSetUp r v).rd HI_RING_SIZE_LOG2 r = if h.rd HI_RING_ENABLE r ≠ 0 then h.rd HI_RING_SIZE_LOG2 r else bits v 8 5 := by
  rw [Hw.ringSetUp, Hw.rd_wr_ne _ _ _ _ _ _ _ _ (by simp [Fld.key]), Hw.rd_wr_ne _ _ _ _ _ _ _ _ (by simp [Fld.key])]
  by_cases hon : h.rd HI_RING_ENABLE r = 0
  · rw [if_neg (by simp [hon]), if_neg (by simp [hon]), Hw.rd_wr_same]
    exact bits_mod v 8 5
  · rw [if_pos (by simp [hon]), if_pos hon]

theorem ringEnableWrite : Spec.ringEnableWrite := by
  intro s r v hopen
  have hen : (s.hw.ringSetUp r v).rd HI_RING_ENABLE r = s.hw.rd HI_RING_ENABLE r :=
    s.hw.ringSetUp_frame r v _ _ _ (by simp [Fld.key])
  have hkept : ∀ {f : Fld}, f.key r 0 ∉ ringStateKeys r →
      ((s.hw.ringSetUp r v).ringEnable r (bitOf v 0)).rd f r = (s.hw.ringSetUp r v).rd f r :=
    fun hkeys => Hw.ringEnable_frame _ r _ _ _ _ hkeys
  have hsize := (hkept (f := HI_RING_SIZE_LOG2) (by simp [ringStateKeys, Fld.key])).trans (s.hw.ringSetUp_size r v)
  refine ⟨_, next_of_open hopen (s.hw.ringWrite_eq r v),
    (hkept (by simp [ringStateKeys, Fld.key])).trans (s.hw.ringSetUp_vector r v),
    (hkept (by simp [ringStateKeys, Fld.key])).trans (s.hw.ringSetUp_group r v),
    fun hoff hset => ⟨?_, hsize.trans (if_neg (by simp [hoff])), ?_⟩,
    fun hon hset => ⟨hsize.trans (if_pos hon), ?_⟩,
    fun hon hset => ⟨?_, ?_, ?_, hsize.trans (if_pos hon), ?_⟩, fun f i j hkeys => ?_⟩
  · rw [hset, Hw.ringEnable_start (hen.trans hoff)]
    exact Hw.rd_wr_same ..
  · rw [hset, Hw.ringEnable_start (hen.trans hoff)]
    exact Hw.setRing_ringAt _ r (fun _ => {})
  · rw [hset, Hw.ringEnable_running (hen.trans_ne hon), Hw.ringSetUp_ringAt]
  · rw [hset, Hw.ringEnable_stop_enable]
  · rw [hset]
    exact (Hw.ringEnable_stop_status (hen.trans_ne hon)).1
  · rw [hset]
    exact (Hw.ringEnable_stop_status (hen.trans_ne hon)).2
  · rw [hset, Hw.ringEnable_stop_ring (hen.trans_ne hon), Hw.ringSetUp_ringAt]
  · simp only [List.mem_cons, List.not_mem_nil, or_false, not_or] at hkeys
    obtain ⟨henk, hsizek, hveck, hgroupk, herrk, hstopk⟩ := hkeys
    rw [Hw.ringEnable_frame _ r _ f i j (by simp [ringStateKeys, henk, herrk, hstopk]),
      s.hw.ringSetUp_frame r v f i j (by simp [hsizek, hveck, hgroupk])]

/-! ### RING_STOP -/

/-- A property that each step keeps holds after the steps of a list. -/
theorem Hw.each_inv {α : Type} {P : Hw → Prop} {g : Hw → α → Hw} (hkeeps : ∀ h x, P h → P (g h x)) (l : List α) {h : Hw} (hp : P h) :
    P (h.each l g) := by
  induction l generalizing h with
  | nil => exact hp
  | cons x xs ih => exact ih (hkeeps h x hp)

/-- A property that each step keeps, and that the step of `x` gives, holds after the steps of a list with `x`. -/
theorem Hw.each_gives {α : Type} {P : Hw → Prop} {g : Hw → α → Hw} {x : α} (hkeeps : ∀ h y, P h → P (g h y)) (hgives : ∀ h, P (g h x))
    {l : List α} (hx : x ∈ l) (h : Hw) : P (h.each l g) := by
  induction l generalizing h with
  | nil => cases hx
  | cons y ys ih =>
    rcases List.mem_cons.mp hx with rfl | hys
    · exact Hw.each_inv hkeeps ys (hgives h)
    · exact ih hys _

theorem Hw.setRing_ringAt_ne {r q : Nat} (hne : r ≠ q) (h : Hw) (f : RingSt → RingSt) : (h.setRing q f).ringAt r = h.ringAt r :=
  look_store_ne _ _ _ (Ne.symm hne)

/-- The stop of another ring keeps a ring's state. -/
theorem Hw.ringStop_other {r q : Nat} (hne : r ≠ q) (h : Hw) :
    (h.ringEnable q false).rd HI_RING_ENABLE r = h.rd HI_RING_ENABLE r ∧ (h.ringEnable q false).ringAt r = h.ringAt r := by
  refine ⟨h.ringEnable_frame q false _ _ _ (by simp [ringStateKeys, Fld.key, hne]), ?_⟩
  rw [Hw.ringEnable_stop]
  split
  · exact Hw.setRing_ringAt_ne hne _ (fun s => { s with stopping := true })
  · rfl

theorem Hw.ringStop_keepsOff {r : Nat} (h : Hw) (q : Nat) (hoff : h.rd HI_RING_ENABLE r = 0) :
    (h.ringEnable q false).rd HI_RING_ENABLE r = 0 := by
  by_cases hq : r = q
  · subst hq
    exact h.ringEnable_stop_enable r
  · exact (h.ringStop_other hq).1.trans hoff

/-- A ring that ran is stopping as soon as its ENABLE is 0. -/
def Hw.StoppingOnceOff (r : Nat) (h : Hw) : Prop := h.rd HI_RING_ENABLE r = 0 → (h.ringAt r).stopping = true

theorem Hw.ringStop_stopping {r : Nat} (h : Hw) (q : Nat) (hold : h.StoppingOnceOff r) :
    (h.ringEnable q false).StoppingOnceOff r := by
  intro hoff
  by_cases hq : r = q
  · subst hq
    by_cases hon : h.rd HI_RING_ENABLE r = 0
    · rw [Hw.ringEnable_stop, if_neg (not_not.mpr hon)]
      exact hold hon
    · rw [Hw.ringEnable_stop_ring hon]
  · obtain ⟨hen, hring⟩ := h.ringStop_other hq
    rw [hring]
    exact hold (hen.symm.trans hoff)

theorem Hw.emergWrite_ringStop (h : Hw) : h.emergWrite 2 = h.ringStopAll := rfl

theorem Hw.ringStopAll_off (h : Hw) {r : Nat} (hr : r < 216) : h.ringStopAll.rd HI_RING_ENABLE r = 0 := by
  by_cases hon : h.rd HI_RING_ENABLE r = 0
  · exact Hw.each_inv (P := fun g => g.rd HI_RING_ENABLE r = 0) (fun g q hoff => g.ringStop_keepsOff q hoff) _ hon
  · exact Hw.each_gives (P := fun g => g.rd HI_RING_ENABLE r = 0) (fun g q hoff => g.ringStop_keepsOff q hoff)
      (fun g => g.ringEnable_stop_enable r) (List.mem_filter.mpr ⟨List.mem_range.mpr hr, by simp [hon]⟩) h

/-- The stop of the rings writes no register but theirs. -/
theorem Hw.ringStopAll_rd (h : Hw) {f : Fld} (hreg : f.reg ≠ .HI_RING) (i j : Nat) : h.ringStopAll.rd f i j = h.rd f i j := by
  have hkeys : ∀ r, f.key i j ∉ ringStateKeys r := fun r hmem => by
    simp only [ringStateKeys, List.mem_cons, List.not_mem_nil, or_false] at hmem
    rcases hmem with hkey | hkey | hkey <;> exact hreg (congrArg FKey.reg hkey)
  exact Hw.each_keeps (fun g => g.rd f i j) (fun g r => g.ringEnable_frame r false f i j (hkeys r)) _ h

theorem ringStop : Spec.ringStop := by
  intro s hopen
  refine ⟨_, next_of_open hopen s.hw.emergWrite_ringStop, fun r hr => s.hw.ringStopAll_off hr, fun r hr hon => ?_, fun f i j hreg => ?_⟩
  · exact Hw.each_inv (P := Hw.StoppingOnceOff r) (fun g q hold => g.ringStop_stopping q hold) _
      (fun hoff => absurd hoff hon) (s.hw.ringStopAll_off hr)
  · exact s.hw.ringStopAll_rd hreg i j

theorem pollNow : Spec.pollNow := fun _ hopen => next_of_open hopen rfl

/-! ### Doorbells (R362, R364) -/

theorem doorbellPoll : Spec.doorbellPoll := fun _ _ => ⟨rfl, fun hbad => by simp [Hw.dbPoll, hbad]⟩

section
variable {h : Hw} {r v : Nat} (hfwd : (h.ringAt r).slot ≤ v)
include hfwd

theorem Hw.takeSlot_host (hr : r < 144) : h.takeSlot r v =
    if (h.ringAt r).cons + h.ringSize r < v then h.ringError r 2 else h.setRing r (fun x => { x with prod := v, slot := v }) := by
  simp [Hw.takeSlot, hr, Nat.not_lt.mpr hfwd]

theorem Hw.takeSlot_terminal (hr : 144 ≤ r) : h.takeSlot r v =
    if (h.ringAt r).prod < v then h.ringError r 2 else h.setRing r (fun x => { x with cons := v, slot := v }) := by
  simp [Hw.takeSlot, Nat.not_lt.mpr hr, Nat.not_lt.mpr hfwd]
end

theorem doorbellSlot : Spec.doorbellSlot := fun _ _ _ =>
  ⟨fun hback => if_pos hback,
   fun hfwd hr hfar => (Hw.takeSlot_host hfwd hr).trans (if_pos hfar),
   fun hfwd hr hnear => (Hw.takeSlot_host hfwd hr).trans (if_neg (by omega)),
   fun hfwd hr hfar => (Hw.takeSlot_terminal hfwd hr).trans (if_pos hfar),
   fun hfwd hr hnear => (Hw.takeSlot_terminal hfwd hr).trans (if_neg (by omega))⟩

/-! ### Transmit descriptors (R366) -/

theorem Hw.txDescriptor_none {h : Hw} {r : Nat} (hnone : (h.ringAt r).prod ≤ (h.ringAt r).cons) (ok ph : Bool) (len fl q : Nat)
    (fr : List Byte) : h.txDescriptor r ok ph len fl q fr = h := if_neg (by simp [Nat.not_lt.mpr hnone])

theorem Hw.txDescriptor_posted {h : Hw} {r : Nat} (hruns : h.runs rgControl = true) (hon : h.ringOn r = true)
    (hposted : (h.ringAt r).cons < (h.ringAt r).prod) (hheld : h.sourceHeld (130 + r) = false) (hpacket : h.runs rgPacket = true)
    (ok ph : Bool) (len fl q : Nat) (fr : List Byte) : h.txDescriptor r ok ph len fl q fr =
      if !ok then h.ringError r 4
      else if ph != passPhase (h.ringSize r) (h.ringAt r).cons then h.ringError r 1
      else if 14 ≤ len ∧ len ≤ 9724 ∧ fr.length = len then
        ((h.setRing r (fun x => { x with cons := x.cons + 1 })).ringMoved r ((h.ringAt r).cons + 1)).txFrame r fl q fr
      else ((h.setRing r (fun x => { x with cons := x.cons + 1 })).ringMoved r ((h.ringAt r).cons + 1)).inc HI_RING_DROPS r :=
  if_pos (by simp [hruns, hon, hposted, hheld, hpacket])

theorem txDescriptor : Spec.txDescriptor := by
  intro s r len fl q fr ph hlive
  refine ⟨fun hnone ok => next_of_live hlive (Hw.txDescriptor_none hnone ..), fun hon hposted hheld hpacket => ?_⟩
  have hfetch := fun ok => Hw.txDescriptor_posted hlive.2 hon hposted hheld hpacket ok ph len fl q fr
  refine ⟨next_of_live hlive ((hfetch false).trans (if_pos rfl)), fun hphase => ?_, fun hphase h hh => ?_⟩
  · exact next_of_live hlive ((hfetch true).trans ((if_neg (by decide)).trans (if_pos (by simpa using hphase))))
  · have hgood := (hfetch true).trans ((if_neg (by decide)).trans (if_neg (by simpa using hphase)))
    subst hh
    exact ⟨fun hlen => next_of_live hlive (hgood.trans (if_neg (by omega))),
      fun hmin hmax hlen => next_of_live hlive (hgood.trans (if_pos ⟨hmin, hmax, hlen⟩))⟩

theorem txDropped : Spec.txDropped := fun h r fl q fr hplain =>
  ⟨fun hheld => by simp [Hw.txFrame, hplain, hheld],
   fun hheld hqueue hq => by simp [Hw.txFrame, hplain, hheld, hqueue, Nat.not_lt.mpr hq]⟩

/-! ### Receive descriptors (R367) -/

theorem Hw.rxWriteback_none {h : Hw} {r : Nat} (hnone : h.toHost.find? (fun x => x.1 == 64 + r) = none) (len : Nat) :
    h.rxWriteback r len = h := by
  simp only [Hw.rxWriteback, hnone]

theorem Hw.rxWriteback_posted {h g : Hw} {r : Nat} {x : Nat × Frame} (hfirst : h.toHost.find? (fun x => x.1 == 64 + r) = some x)
    (hruns : h.runs rgControl = true) (hon : h.ringOn (64 + r) = true) (hposted : (h.ringAt (64 + r)).cons < (h.ringAt (64 + r)).prod)
    (hg : g = ({ h with toHost := h.toHost.erase x } : Hw).freed x.2) (len : Nat) : h.rxWriteback r len =
      if len < x.2.bytes.length - x.2.fcs then g.inc HI_RING_DROPS (64 + r)
      else ((g.emit (.rxWrite (64 + r) (h.ringAt (64 + r)).cons (passPhase (g.ringSize (64 + r)) (h.ringAt (64 + r)).cons)
        (rxDesc x.2 (x.2.bytes.length - x.2.fcs)) (x.2.bytes.take (x.2.bytes.length - x.2.fcs)))).setRing (64 + r)
        (fun y => { y with cons := y.cons + 1 })).ringMoved (64 + r) ((h.ringAt (64 + r)).cons + 1) := by
  have hlen : (x.2.bytes.take (x.2.bytes.length - x.2.fcs)).length = x.2.bytes.length - x.2.fcs := by
    rw [List.length_take]
    omega
  simp only [Hw.rxWriteback, hfirst, hruns, hon, hposted, decide_true, Bool.and_self, if_true, ← hg, hlen]

theorem rxWriteback : Spec.rxWriteback := fun _ _ _ hlive =>
  ⟨fun hnone => next_of_live hlive (Hw.rxWriteback_none hnone _),
   fun _ _ hfirst hon hposted hh =>
    ⟨fun hsmall => next_of_live hlive ((Hw.rxWriteback_posted hfirst hlive.2 hon hposted hh _).trans (if_pos hsmall)),
     fun hfits => next_of_live hlive ((Hw.rxWriteback_posted hfirst hlive.2 hon hposted hh _).trans (if_neg (by omega)))⟩⟩

/-! ### Vectors (R376) -/

theorem Hw.vecSend_eq (h : Hw) (v : Nat) : h.vecSend v = if h.vecMasked v
    then { h with host := { h.host with pba := store h.host.pba v true } } else { h with out := .msix v :: h.out } := rfl

theorem msixSignal : Spec.msixSignal := fun _ _ hlive =>
  ⟨fun hnone => next_of_live hlive (if_neg (by omega)), fun hfew hearly => next_of_live hlive (if_neg (by omega)),
   fun hsome hdue => next_of_live hlive (if_pos ⟨hsome, hdue⟩)⟩

/-- Settles O45: a ring's start and stop, and what its doorbells, descriptors and vector do. -/
theorem descriptorRings : Obligations.DescriptorRings :=
  ⟨ringEnableWrite, ringStop, pollNow, doorbellPoll, doorbellSlot, txDescriptor, txDropped, rxWriteback, msixSignal⟩

end Sys2Proof.Machine
end

section
/-! Staging into the pending epoch (R384, R385, R264): which commands it refuses, the objects and table entries that they stage. -/

namespace Sys2Proof.Machine

/-! ### Which epoch a staging command names -/

theorem Hw.stageStop_stale {h : Hw} {hd : CmdHdr} (hstale : h.pstate = psNone ∨ hd.epoch ≠ h.pendNum) :
    h.stageStop hd = some (.fail stStale) := if_pos hstale

theorem Hw.stageStop_closed {h : Hw} {hd : CmdHdr} (hnamed : hd.epoch = h.pendNum) (hpending : h.pstate ≠ psNone)
    (hclosed : h.pstate ≠ psOpen) : h.stageStop hd = some (.fail stStale 0 10) :=
  (if_neg (by simp [hnamed, hpending])).trans (if_pos hclosed)

theorem Hw.stageStop_open {h : Hw} {hd : CmdHdr} (hopen : h.pstate = psOpen) (hnamed : hd.epoch = h.pendNum) : h.stageStop hd = none :=
  (if_neg (by rw [hopen]; simp [hnamed, psOpen, psNone])).trans (if_neg (by simp [hopen]))

/-- A command that the staging stops answers its status and changes nothing. -/
theorem next_of_stageStop {s : State} {hd : CmdHdr} {h : Hw} {st re rs : Nat} (hready : s.hw.Ready hd) (hh : h = s.hw.cmdTake hd)
    (hstop : h.stageStop hd = some (.done st re rs)) (len addr : Nat) (img : List Byte) (tb op n : Nat) :
    ∀ i ∈ [Instr.cfgLoad hd len addr img, .tblWrite hd tb op n addr img, .epochCommit hd len],
      exec i s = .next (s.withHw (h.complete hd.compl (cmdAnswer hd st re rs))) := by
  subst hh
  simp only [List.mem_cons, List.not_mem_nil, or_false, forall_eq_or_imp, forall_eq]
  exact ⟨next_of_done hready (by simp only [Hw.cfgLoad, hstop]), next_of_done hready (by simp only [Hw.tblWrite, hstop]),
    next_of_done hready (by simp only [Hw.epochCommit, hstop])⟩

theorem stagingStops : Spec.stagingStops := fun _ _ _ _ _ _ _ _ _ hready hh =>
  ⟨fun hstale => next_of_stageStop hready hh (Hw.stageStop_stale hstale) _ _ _ _ _ _,
   fun hnamed hpending hclosed => next_of_stageStop hready hh (Hw.stageStop_closed hnamed hpending hclosed) _ _ _ _ _ _⟩

/-! ### CFG_LOAD -/

section
variable {h : Hw} {hd : CmdHdr} {len addr : Nat} {img : List Byte} (hstop : h.stageStop hd = none)
include hstop

theorem Hw.cfgLoad_unaligned (haddr : addr % 8 ≠ 0) : h.cfgLoad hd len addr img = (h, .fail stAlign) := by
  simp only [Hw.cfgLoad, hstop, if_pos haddr]

theorem Hw.cfgLoad_bad (haddr : addr % 8 = 0) (hbad : img.length ≠ len ∨ imgParse img = none) :
    h.cfgLoad hd len addr img = (h, .fail stRange 0 1) := by
  have hnone : (if img.length = len then imgParse img else none) = none := by
    rcases hbad with hlen | hparse
    · exact if_neg hlen
    · rw [hparse, ite_self]
  simp only [Hw.cfgLoad, hstop, haddr, ne_eq, not_true_eq_false, if_false, hnone]

theorem Hw.cfgLoad_good {rs : List ImgRec} (haddr : addr % 8 = 0) (hlen : img.length = len) (hparse : imgParse img = some rs) :
    h.cfgLoad hd len addr img = (h.each rs Hw.stageRec, .ok) := by
  simp only [Hw.cfgLoad, hstop, haddr, ne_eq, not_true_eq_false, if_false, if_pos hlen, hparse]
end

theorem cfgLoad : Spec.cfgLoad := by
  intro s hd h len addr img hready hh hopen hnamed
  subst hh
  have hstop := Hw.stageStop_open hopen hnamed
  exact ⟨fun haddr => next_of_done hready (Hw.cfgLoad_unaligned hstop haddr),
    fun haddr hbad => next_of_done hready (Hw.cfgLoad_bad hstop haddr hbad),
    fun rs haddr hlen hparse => next_of_done hready (Hw.cfgLoad_good hstop haddr hlen hparse)⟩

/-! ### Objects -/

theorem find?_store {κ ν : Type} [DecidableEq κ] [BEq κ] [LawfulBEq κ] (m : List (κ × ν)) (k k' : κ) (v : ν) :
    (store m k v).find? (fun p => p.1 == k') = if k = k' then some (k, v) else m.find? (fun p => p.1 == k') := by
  induction m with
  | nil => by_cases hk : k = k' <;> simp [store, hk]
  | cons p t ih =>
    obtain ⟨q, w⟩ := p
    by_cases hq : q = k
    · subst hq
      by_cases hk : q = k' <;> simp [store, hk]
    · by_cases hq' : q = k'
      · subst hq'
        simp [store, hq, Ne.symm hq]
      · simp [store, hq, hq', ih]

theorem cfgOf_store_same (e : CfgStore) (f : OFld) (i k v : Nat) :
    cfgOf (store e (f.typ, i) v) f i k = bits v (f.lsb + f.stride * k) f.width := by
  rw [cfgOf, find?_store, if_pos rfl]

theorem cfgOf_store_ne {t : ObjType} {x : Nat} {g : OFld} {i : Nat} (hne : (g.typ, i) ≠ (t, x)) (e : CfgStore) (k v : Nat) :
    cfgOf (store e (t, x) v) g i k = cfgOf e g i k := by
  rw [cfgOf, cfgOf, find?_store, if_neg (Ne.symm hne)]

theorem Hw.stageRec_object {r : ImgRec} {t : ObjType} (hcode : ObjType.ofCode r.code = some t) (hidx : r.idx < t.count)
    (hprog : t ≠ .PARSER_PROG) (h : Hw) :
    h.stageRec r = h.setEp (fun e => { e with pend := store e.pend (t, r.idx) (leNat r.data) }) := by
  simp only [Hw.stageRec, hcode, Nat.not_le.mpr hidx, hprog, if_false]

theorem objectStaged : Spec.objectStaged := by
  intro h r t hcode hidx hprog
  rw [Hw.stageRec_object hcode hidx hprog]
  exact ⟨fun f k htyp => by subst htyp; exact cfgOf_store_same .., fun g i k hne => cfgOf_store_ne hne .., rfl, rfl⟩

/-! ### TBL_WRITE -/

section
variable {h : Hw} {hd : CmdHdr} {tb op n : Nat} (hstop : h.stageStop hd = none) (addr : Nat) (l : List Byte)
include hstop

theorem Hw.tblWrite_range (hbad : 3 < tb ∨ 1 < op ∨ n = 0 ∨ 65536 < n) : h.tblWrite hd tb op n addr l = (h, .fail stRange) := by
  simp only [Hw.tblWrite, hstop, if_pos hbad]

variable (hgood : ¬ (3 < tb ∨ 1 < op ∨ n = 0 ∨ 65536 < n))
include hgood

theorem Hw.tblWrite_gated (hpacket : h.runs rgPacket = false) : h.tblWrite hd tb op n addr l = (h, .fail stGatedCode) := by
  have hstate : h.regionState rgPacket ≠ stRun := by simpa [Hw.runs] using hpacket
  simp only [Hw.tblWrite, hstop, if_neg hgood, if_pos hstate]

theorem Hw.tblWrite_staged {g : Hw} {a : Ans} (hpacket : h.runs rgPacket = true) (hlist : h.stageList tb op addr l 0 n = (g, a)) :
    h.tblWrite hd tb op n addr l = (g.showTables, a) := by
  have hstate : h.regionState rgPacket = stRun := by simpa [Hw.runs] using hpacket
  simp only [Hw.tblWrite, hstop, if_neg hgood, hstate, ne_eq, not_true_eq_false, if_false, hlist]
end

theorem tblWrite : Spec.tblWrite := by
  intro s hd h tb op n addr l hready hh hopen hnamed
  subst hh
  have hstop := Hw.stageStop_open hopen hnamed
  exact ⟨fun hbad => next_of_done hready (Hw.tblWrite_range hstop addr l hbad),
    fun htb hop hn hmax hpacket => next_of_done hready (Hw.tblWrite_gated hstop addr l (by omega) hpacket),
    fun g st re rs htb hop hn hmax hpacket hlist =>
      next_of_done hready (Hw.tblWrite_staged hstop addr l (by omega) hpacket hlist)⟩

/-! ### Table entries -/

theorem entryRefused : Spec.entryRefused := by
  intro h tb addr k b
  constructor
  · intro t htwice
    simp only [Hw.stageEntry, Nat.zero_ne_one, if_false, htwice]
  · intro honce hfull
    simp only [Hw.stageEntry, Nat.zero_ne_one, if_false, honce, hfull]

/-- A slot that is given is free and lies in the range that was searched. -/
theorem Hw.freeSlot_some {h : Hw} {t b n x : Nat} (hfree : h.freeSlot t b n = some x) : h.slotUsed t x = false ∧ x < b + n := by
  obtain ⟨k, hk, rfl⟩ := List.mem_map.mp (List.mem_of_find?_eq_some hfree)
  have hunused := List.find?_some hfree
  exact ⟨by simpa using hunused, Nat.add_lt_add_left (List.mem_range.mp hk) b⟩

theorem entryPlaced : Spec.entryPlaced := by
  intro h e x htbl hplace
  simp only [Hw.placeEntry, htbl, Nat.zero_ne_one, if_false, if_true] at hplace
  split at hplace
  · next s hset =>
    cases hplace
    obtain ⟨hfree, hlt⟩ := Hw.freeSlot_some hset
    refine ⟨hfree, ?_⟩
    split at hlt <;> omega
  · exact Hw.freeSlot_some hplace

/-- Settles O47: the epoch that a staging command names, and the objects and entries that it stages. -/
theorem epochStaging : Obligations.EpochStaging := ⟨stagingStops, cfgLoad, objectStaged, tblWrite, entryRefused, entryPlaced⟩

end Sys2Proof.Machine
end

section
/-! The scheduler (R261, R265 to R269, R328): what a port's and a host's selection do, the stop of a shaper, and the windows of a
node's levels. -/

namespace Sys2Proof.Machine

/-! ### Selections -/

theorem Hw.schedulerSelect_none {h : Hw} {n : Nat} (hn : n ≤ 128) (hnone : h.nodeSelect n = none) : h.schedulerSelect n = h :=
  (if_neg (by omega)).trans (by simp only [hnone])

theorem Hw.schedulerSelect_some {h g : Hw} {n q : Nat} {f : Frame} (hn : n ≤ 128) (hsome : h.nodeSelect n = some (q, f, g)) :
    h.schedulerSelect n = if n < 128 then g.toEgress n f else { g with toHost := g.toHost ++ [(64 + (q - 1024), f)] } :=
  (if_neg (by omega)).trans (by simp only [hsome])

theorem Hw.toEgress_plain {f : Frame} (hplain : bitOf (f.md 7) 15 = false) (h : Hw) (n : Nat) :
    h.toEgress n f = h.setPort n (fun p => { p with tx := p.tx ++ [f] }) := if_pos (by simp [hplain])

theorem schedulerSelect : Spec.schedulerSelect := fun _ _ hlive hn =>
  ⟨fun hnone => next_of_live hlive (Hw.schedulerSelect_none hn hnone),
   fun _ _ _ hsome hport hplain => next_of_live hlive
    ((Hw.schedulerSelect_some hn hsome).trans ((if_pos hport).trans (Hw.toEgress_plain hplain ..))),
   fun _ _ _ hsome hhost => next_of_live hlive ((Hw.schedulerSelect_some hn hsome).trans (if_neg (by omega)))⟩

/-- The channel of a secured frame (R328). -/
theorem Hw.toEgress_secured {f : Frame} (hsecured : bitOf (f.md 7) 15 = true) (h : Hw) (n : Nat) : h.toEgress n f =
    if 2048 ≤ bits (f.md 7) 0 13 then (h.inc CX_SC_CNT_NOSA 0).freed f
    else if bitOf (h.cfgFor f.epoch CX_SC_FLAGS (bits (f.md 7) 0 13)) 0 && !bitOf (h.cfgFor f.epoch CX_SC_FLAGS (bits (f.md 7) 0 13)) 1 &&
        h.cfgFor f.epoch CX_SC_PORT (bits (f.md 7) 0 13) == n then
      { h with ks := { h.ks with waits := h.ks.waits ++ [{ stream := 32 + bits (f.md 7) 0 13, frame := f }] } }
    else (h.inc CX_SC_CNT_NOSA (bits (f.md 7) 0 13)).freed f := if_neg (by simp [hsecured])

theorem securedEgress : Spec.securedEgress := by
  intro h n f k hsecured hk
  have hform := Hw.toEgress_secured hsecured h n
  rw [← hk] at hform
  refine ⟨fun hmax => hform.trans (if_pos hmax), fun hlt hbad => ?_, fun hlt hen hrx hport => ?_⟩
  · exact hform.trans ((if_neg (by omega)).trans (if_neg (by rcases hbad with hbad | hbad | hbad <;> simp [hbad])))
  · exact hform.trans ((if_neg (by omega)).trans (if_pos (by simp [hen, hrx, hport])))

theorem nodeStopped : Spec.nodeStopped := by
  intro h n hn hshaper hcredit
  have hstopped : h.creditOk (h.nodeShaper n) = false := by
    simp [Hw.nodeShaper, if_pos hn, Hw.creditOk, hshaper, Int.not_le.mpr hcredit]
  exact if_neg (by simp [hstopped])

/-! ### The window of a node (R267) -/

/-- The counts of the window after a frame of a level: a full window starts again. -/
def Arb.taken (a : Arb) (c : Nat) : Arb :=
  let b : Arb := { n := a.n + 1, tc := a.tc + b2n (c == 0), urg := a.urg + b2n (c == 1), nor := a.nor + b2n (c == 2) }
  if 16 ≤ b.n then {} else b

theorem Arb.pick_eq (a : Arb) (tc urg nor : Bool) : a.pick tc urg nor =
    if nor && decide (16 - a.n ≤ 2 - a.nor) then some (2, a.taken 2)
    else if tc && decide (a.tc < 8) then some (0, a.taken 0)
    else if urg && (decide (a.urg < 6) || (!tc && decide (a.tc + a.urg < 14))) then some (1, a.taken 1)
    else if nor then some (2, a.taken 2)
    else if tc then some (0, a.taken 0)
    else if urg then some (1, a.taken 1)
    else none := rfl

/-- The window is not full, counts its frames by level, and has room for the share of the normal queues. -/
def Arb.Kept (a : Arb) : Prop := a.n < 16 ∧ a.n = a.tc + a.urg + a.nor ∧ 2 ≤ a.nor + (16 - a.n)

/-- A frame of a normal queue, or one of another level while the share is not due, keeps the window. -/
theorem Arb.Kept.taken {a : Arb} (hkept : a.Kept) {c : Nat} (hc : c ≤ 2) (hdue : c = 2 ∨ 2 - a.nor < 16 - a.n) : (a.taken c).Kept := by
  obtain ⟨hn, hsum, hshare⟩ := hkept
  unfold Arb.taken
  dsimp only
  split
  · exact ⟨by decide, rfl, by decide⟩
  · next hroom =>
    simp only [Arb.Kept]
    interval_cases c <;> simp only [b2n] <;> simp <;> omega

theorem windowShares : Spec.windowShares := by
  intro a b tc urg c hn hsum hshare hpick
  have hkept : a.Kept := ⟨hn, hsum, hshare⟩
  simp only [Arb.pick_eq, Bool.true_and, if_true] at hpick
  split at hpick
  · cases hpick
    exact ⟨by omega, by omega, hkept.taken (by omega) (.inl rfl)⟩
  · next hdue =>
    have hfree : 2 - a.nor < 16 - a.n  := by
      simp only [decide_eq_true_eq] at hdue
      omega
    split at hpick
    · next htc =>
      cases hpick
      exact ⟨fun _ => by simpa using htc, by omega, hkept.taken (by omega) (.inr hfree)⟩
    · split at hpick
      · next hurg =>
        cases hpick
        refine ⟨by omega, fun _ => ?_, hkept.taken (by omega) (.inr hfree)⟩
        simp only [Bool.and_eq_true, Bool.or_eq_true, decide_eq_true_eq, Bool.not_eq_true'] at hurg
        exact ⟨hurg.1, hurg.2.imp_right And.left⟩
      · cases hpick
        exact ⟨by omega, by omega, hkept.taken (by omega) (.inl rfl)⟩

theorem windowPassesOn : Spec.windowPassesOn := by
  intro a tc urg nor hsome
  rw [Arb.pick_eq]
  split
  · rfl
  · split
    · rfl
    · split
      · rfl
      · cases nor
        · cases tc
          · cases urg
            · cases hsome
            · rfl
          · rfl
        · rfl

/-- Settles O33: what a selection does with its frame, the credit that stops a node, and the counts of its window. -/
theorem scheduling : Obligations.Scheduling := ⟨schedulerSelect, securedEgress, nodeStopped, windowShares, windowPassesOn⟩

end Sys2Proof.Machine
end

section
/-! Commit, validation, abort and rollback of epochs (R385, R386, R391, R392), their arming and flip (R387, R394), and the drain
(R388). -/

namespace Sys2Proof.Machine

/-- A host command that stays open answers the state with its entry among the open commands. -/
theorem next_of_later {s : State} {hd : CmdHdr} {op : Nat} {f : Hw → Hw × Ans} {h : Hw} (l : s.hw.Ready hd)
    (e : f (s.hw.cmdTake hd) = (h, .later)) : s.nextHw (s.hw.hostCmd hd op f) = .next (s.withHw { h with host := { h.host with
      opens := h.host.opens ++
        [{ ring := hd.ring, cmdId := hd.cmdId, compl := hd.compl, opcode := op, epoch := hd.epoch, since := h.clk.ut }] } }) := by
  rw [Hw.hostCmd_ready l, Hw.cmdRun, e]
  rfl

/-! ### Discarding the pending epoch -/

theorem Hw.showTables_ep (h : Hw) : h.showTables.ep = h.ep := Hw.each_keeps Hw.ep (fun h _ => h.wr_ep ..) _ h

theorem Hw.showTables_pk (h : Hw) : h.showTables.pk = h.pk := Hw.each_keeps Hw.pk (fun h _ => h.wr_pk ..) _ h

theorem Hw.epochDiscard_pending (h : Hw) : h.epochDiscard.rd HI_EPOCH_STATUS_PENDING = noEpoch := by
  simp only [Hw.epochDiscard]
  rw [Hw.showTables_rd (by decide), Hw.rd_wr_ne _ _ _ _ _ _ _ _ (by simp [Fld.key])]
  exact Hw.rd_wr_same ..

theorem Hw.epochDiscard_pstate (h : Hw) : h.epochDiscard.rd HI_EPOCH_STATUS_PSTATE = psNone := by
  simp only [Hw.epochDiscard]
  rw [Hw.showTables_rd (by decide)]
  exact Hw.rd_wr_same ..

/-- The fields of HI_EPOCH_STATUS that a discard writes. -/
theorem Hw.epochDiscard_rd_other {f : Fld} {i j : Nat} (htbl : f.reg ≠ .PP_TBL_STAT) (hpend : HI_EPOCH_STATUS_PENDING.key 0 0 ≠ f.key i j)
    (hpstate : HI_EPOCH_STATUS_PSTATE.key 0 0 ≠ f.key i j) (h : Hw) : h.epochDiscard.rd f i j = h.rd f i j := by
  simp only [Hw.epochDiscard]
  rw [Hw.showTables_rd htbl, Hw.rd_wr_ne _ _ _ _ _ _ _ _ hpstate, Hw.rd_wr_ne _ _ _ _ _ _ _ _ hpend, Hw.setPk_rd, Hw.setEp_rd]

theorem Hw.epochDiscard_ep (h : Hw) : h.epochDiscard.ep.pend = [] ∧ h.epochDiscard.ep.cur = h.ep.cur := by
  simp only [Hw.epochDiscard]
  rw [Hw.showTables_ep]
  exact ⟨rfl, rfl⟩

theorem Hw.epochDiscard_tables (h : Hw) : ∀ t ∈ h.epochDiscard.pk.tables, t.vis < 4 := by
  simp only [Hw.epochDiscard]
  rw [Hw.showTables_pk]
  intro t ht
  obtain ⟨e, -, rfl⟩ := List.mem_map.mp (List.mem_filter.mp ht).1
  exact bits_lt e.vis 0 2

theorem epochDiscarded : Spec.epochDiscarded := fun h =>
  ⟨h.epochDiscard_pending, h.epochDiscard_pstate, h.epochDiscard_ep.1, h.epochDiscard_ep.2,
   Hw.epochDiscard_rd_other (by decide) (by simp [Fld.key]) (by simp [Fld.key]) h, h.epochDiscard_tables⟩

theorem Hw.epochDrop_pending {h : Hw} (hpending : h.pstate ≠ psNone) (st re rs : Nat) :
    h.epochDrop st re rs = h.epochDiscard.completeOpen (fun o => o.opcode == 0x13 && o.epoch == h.pendNum) st re rs := if_neg hpending

theorem Hw.epochDrop_none {h : Hw} (hnone : h.pstate = psNone) (st re rs : Nat) : h.epochDrop st re rs = h := if_pos hnone

/-! ### Commit and validation -/

theorem Hw.epochCommit_near {h : Hw} {hd : CmdHdr} {ft : Nat} (hstop : h.stageStop hd = none) (hnear : ft ≤ h.tick + 8000000) :
    h.epochCommit hd ft =
      ((h.setEp (fun e => { e with flipTick := ft, valid := false })).wr HI_EPOCH_STATUS_PSTATE psValidating, .later) := by
  simp only [Hw.epochCommit, hstop, if_neg (Nat.not_lt.mpr hnear)]

theorem epochCommit : Spec.epochCommit := by
  intro s hd ft h hready hh hopen hnamed
  subst hh
  have hstop := Hw.stageStop_open hopen hnamed
  refine ⟨fun hfar => next_of_done hready (by simp only [Hw.epochCommit, hstop, if_pos hfar, Ans.fail]), fun hnear => ?_⟩
  refine ⟨_, next_of_later hready (Hw.epochCommit_near hstop hnear), Hw.rd_wr_same .., rfl,
    List.length_append, rfl, fun f i j hkey => ?_⟩
  exact Hw.rd_wr_ne _ _ _ _ _ _ _ _ (by simpa [eq_comm] using hkey)

theorem validationDone : Spec.validationDone := by
  intro s hlive
  refine ⟨fun hstate => next_of_live hlive (if_neg (by simp [hstate])), fun hstate hnew hsound => ?_,
    fun st r hstate hnew hfault => ?_⟩
  · exact next_of_live hlive ((if_pos ⟨hstate, hnew⟩).trans (by simp only [hsound]; rfl))
  · exact next_of_live hlive ((if_pos ⟨hstate, hnew⟩).trans
      (by simp only [hfault, Hw.epochDrop_pending (by rw [hstate]; decide : s.hw.pstate ≠ psNone)]))

/-! ### Abort and rollback -/

theorem epochAbort : Spec.epochAbort := by
  intro s hd h hready hh
  subst hh
  exact ⟨fun hstale => next_of_done hready (if_pos hstale),
    fun hpending hnamed hunarmed => next_of_done hready
      ((if_neg (by simp [hpending, hnamed, hunarmed])).trans (by rw [Hw.epochDrop_pending hpending]; rfl))⟩

theorem epochRollback : Spec.epochRollback := by
  intro s hd h hready hh
  subst hh
  refine ⟨fun hbusy => next_of_done hready (if_pos hbusy), fun hnone hfree hother => ?_, fun hnone hfree hnamed hfirst => ?_,
    fun hnone hfree hnamed hprev => ?_⟩
  all_goals have hidle := not_or.mpr ⟨not_not.mpr hnone, ne_true_of_eq_false hfree⟩
  · exact next_of_done hready ((if_neg hidle).trans (if_pos hother))
  · exact next_of_done hready ((if_neg hidle).trans ((if_neg (not_not.mpr hnamed)).trans (if_pos hfirst)))
  · exact ⟨_, next_of_later hready ((if_neg hidle).trans ((if_neg (not_not.mpr hnamed)).trans (if_neg hprev))), rfl, rfl,
      List.length_append, fun _ _ _ _ => rfl⟩

/-- Discarding an epoch keeps the epochs in force: the completion of its commit moves no field of HI_EPOCH_STATUS. -/
theorem Hw.epochDrop_keeps (h : Hw) (st re rs : Nat) : (h.epochDrop st re rs).ep.cur = h.ep.cur ∧
    (h.epochDrop st re rs).rd HI_EPOCH_STATUS_CURRENT = h.rd HI_EPOCH_STATUS_CURRENT ∧
    (h.epochDrop st re rs).rd HI_EPOCH_STATUS_PREVIOUS = h.rd HI_EPOCH_STATUS_PREVIOUS := by
  by_cases hnone : h.pstate = psNone
  · rw [Hw.epochDrop_none hnone]
    exact ⟨rfl, rfl, rfl⟩
  · rw [Hw.epochDrop_pending hnone]
    have hnotes := notes_completeOpen h.epochDiscard (fun o => o.opcode == 0x13 && o.epoch == h.pendNum) st re rs
    refine ⟨(congrArg EpochSt.cur hnotes.ep).trans h.epochDiscard_ep.2, ?_, ?_⟩ <;>
      exact (hnotes.rd _ _ _ (by decide) (by decide)).trans (Hw.epochDiscard_rd_other (by decide) (by simp [Fld.key]) (by simp [Fld.key]) h)

theorem Hw.epochDrop_drops {h : Hw} (hpending : h.pstate ≠ psNone) (st re rs : Nat) :
    (h.epochDrop st re rs).rd HI_EPOCH_STATUS_PSTATE = psNone ∧ (h.epochDrop st re rs).ep.pend = [] := by
  rw [Hw.epochDrop_pending hpending]
  have hnotes := notes_completeOpen h.epochDiscard (fun o => o.opcode == 0x13 && o.epoch == h.pendNum) st re rs
  exact ⟨(hnotes.rd _ _ _ (by decide) (by decide)).trans h.epochDiscard_pstate, (congrArg EpochSt.pend hnotes.ep).trans h.epochDiscard_ep.1⟩

/-- ROLLBACK_NOW is the discard, and the request for a rollback where there is a previous epoch. -/
theorem Hw.rollbackNow_eq (h : Hw) : h.rollbackNow = if h.rd HI_EPOCH_STATUS_PREVIOUS = noEpoch then h.epochDrop stStale 0 0
    else (h.epochDrop stStale 0 0).setEp (fun e => { e with
      rollback := true, rbArmed := (h.epochDrop stStale 0 0).ep.rbArmed && (h.epochDrop stStale 0 0).ep.rollback }) := by
  simp only [Hw.rollbackNow, (h.epochDrop_keeps stStale 0 0).2.2]

theorem Hw.emergWrite_rollbackNow (h : Hw) : h.emergWrite 4 = h.rollbackNow := rfl

theorem rollbackNow : Spec.rollbackNow := by
  intro s hopen
  obtain ⟨hcur, hcurrent, -⟩ := s.hw.epochDrop_keeps stStale 0 0
  refine ⟨_, next_of_open hopen (s.hw.emergWrite_rollbackNow.trans s.hw.rollbackNow_eq), ?_⟩
  split
  · next hfirst => exact ⟨fun hpending => Hw.epochDrop_drops hpending .., fun hprev => absurd hfirst hprev, hcur, hcurrent⟩
  · exact ⟨fun hpending => Hw.epochDrop_drops hpending .., fun _ => rfl, hcur, hcurrent⟩

/-! ### Arming and flip -/

/-- The regions that EPOCH_ARM asks. -/
def armRegions : List Nat := [rgLine, rgFawn, rgPortW, rgPortE, rgPacket, rgMemory, rgControl]

theorem Hw.epochArm_running {h : Hw} (hrun : ∀ r ∈ armRegions, h.regionState r ≠ stStopped ∧ h.regionState r ≠ stReloading) (no : List Nat) :
    h.epochArm no = if !armRegions.all (h.regionReady no) then h
      else if h.ep.rollback then h.setEp (fun e => { e with rbArmed := true })
      else if h.pstate = psValidating ∧ h.ep.valid = true ∧ h.drains = false ∧ h.ep.flipTick ≤ h.tick + 1 then
        h.wr HI_EPOCH_STATUS_PSTATE psArmed
      else h := by
  have hnone : armRegions.any (fun r => h.regionState r == stStopped || h.regionState r == stReloading) = false :=
    List.any_eq_false.mpr (fun r hr => by simp [hrun r hr])
  exact if_neg (by rw [← armRegions, hnone]; decide)

theorem Hw.epochArm_ready {h : Hw} {no : List Nat} (hrun : ∀ r ∈ armRegions, h.regionState r ≠ stStopped ∧ h.regionState r ≠ stReloading)
    (hready : ∀ r ∈ armRegions, h.regionReady no r = true) (hrollback : h.ep.rollback = false) :
    h.epochArm no = if h.pstate = psValidating ∧ h.ep.valid = true ∧ h.drains = false ∧ h.ep.flipTick ≤ h.tick + 1 then
      h.wr HI_EPOCH_STATUS_PSTATE psArmed else h :=
  (Hw.epochArm_running hrun no).trans ((if_neg (by simp [List.all_eq_true.mpr hready])).trans (if_neg (by simp [hrollback])))

theorem epochArm : Spec.epochArm := by
  intro h no hrun
  refine ⟨fun ⟨r, hr, hbusy⟩ => (Hw.epochArm_running hrun no).trans (if_pos ?busy), fun hready hrollback => ?_⟩
  case busy =>
    have hall : armRegions.all (h.regionReady no) = false := List.all_eq_false.mpr ⟨r, hr, by simp [hbusy]⟩
    rw [hall]
    rfl
  · have harm := Hw.epochArm_ready hrun hready hrollback
    exact ⟨fun hstate hvalid hdrain htick => harm.trans (if_pos ⟨hstate, hvalid, by simp [Hw.drains, hdrain], htick⟩),
      fun hearly => harm.trans (if_neg (by omega)), fun hdrain => harm.trans (if_neg (by simp [Hw.drains, hdrain]))⟩

theorem noFlip : Spec.noFlip := fun _ _ hroll hstate => (if_neg (by simp [hroll])).trans (if_neg hstate)

/-! ### The drain -/

theorem notes_drainAnswer (h : Hw) (reason : Nat) : OnlyNotes h (h.drainAnswer reason) := by
  unfold Hw.drainAnswer
  split
  · exact notes_completeOpen ..
  · exact .refl h

/-- What the end of a drain leaves of a register: DRAINING reads 0, and the completion moves none of HI_EPOCH_STATUS. -/
theorem Hw.drainOver_rd {f : Fld} (htbl : f.reg ≠ .PP_TBL_STAT) (hev : f.reg ≠ .EV_STATUS) (hdrop : f.reg ≠ .HI_EVT_DROP) (h : Hw) (reason i j : Nat) :
    (h.drainOver reason).rd f i j = if HI_EPOCH_STATUS_DRAINING.key 0 0 = f.key i j then 0 else h.rd f i j := by
  have hwr : ((h.drainAnswer reason).wr HI_EPOCH_STATUS_DRAINING 0).rd f i j =
      if HI_EPOCH_STATUS_DRAINING.key 0 0 = f.key i j then 0 else h.rd f i j := by
    rw [Hw.rd_wr, (notes_drainAnswer h reason).rd _ _ _ hev hdrop, Nat.zero_mod]
  unfold Hw.drainOver
  dsimp only
  split
  · rw [Hw.showTables_rd htbl]
    exact hwr
  · exact hwr

theorem Hw.drainOver_ep (h : Hw) (reason : Nat) : (h.drainOver reason).ep.drainOf = none ∧ (h.drainOver reason).ep.cur = h.ep.cur := by
  have hcur : (h.drainAnswer reason).ep.cur = h.ep.cur := congrArg EpochSt.cur (notes_drainAnswer h reason).ep
  unfold Hw.drainOver
  dsimp only
  split
  · rw [Hw.showTables_ep]
    exact ⟨rfl, hcur⟩
  · exact ⟨rfl, hcur⟩

theorem Hw.drainOver_draining (h : Hw) (reason : Nat) : (h.drainOver reason).rd HI_EPOCH_STATUS_DRAINING = 0 :=
  (Hw.drainOver_rd (by decide) (by decide) (by decide) h reason 0 0).trans (if_pos rfl)

theorem drainEnd : Spec.drainEnd := fun s hlive =>
  ⟨fun hnone => next_of_live hlive (if_neg (by simp [Hw.drains, hnone])),
   fun hframes => next_of_live hlive (if_neg (by simp [hframes])),
   fun hdrain hframes => ⟨_, next_of_live hlive (if_pos (by simp [Hw.drains, hdrain, hframes])), s.hw.drainOver_draining 0,
    (s.hw.drainOver_ep 0).1, (s.hw.drainOver_ep 0).2,
    (Hw.drainOver_rd (by decide) (by decide) (by decide) s.hw 0 0 0).trans (if_neg (by simp [Fld.key]))⟩⟩

theorem drainTimeout : Spec.drainTimeout := fun _ hlive =>
  ⟨fun hwithin => next_of_live hlive (if_neg (by omega)),
   fun hdrain hbeyond _ _ hdropped => ⟨next_of_live hlive
    ((if_pos ⟨(Hw.drains_iff _).mpr hdrain, hbeyond⟩).trans (by simp only [hdropped])), Hw.drainOver_draining ..⟩⟩

/-- Settles O48: what each command and event of an epoch's life does, from the discard of the pending epoch and the end of the
drain. -/
theorem epochCommitAndRollback : Obligations.EpochCommitAndRollback :=
  ⟨epochCommit, epochDiscarded, validationDone, epochAbort, epochRollback, rollbackNow, epochArm, noFlip, drainEnd, drainTimeout⟩

end Sys2Proof.Machine
end

section
/-! Zeroisation of the key store (R305, R314), its alarm, and the health of the random number generator (R312). -/

namespace Sys2Proof.Machine

/-! ### What a zeroisation leaves -/

theorem look_filter_key {κ ν : Type} [DecidableEq κ] (p : κ → Bool) (m : List (κ × ν)) (k : κ) (d : ν) :
    look (m.filter (fun e => p e.1)) k d = if p k then look m k d else d := by
  induction m with
  | nil => simp [look]
  | cons e t ih =>
    obtain ⟨q, v⟩ := e
    by_cases hq : q = k
    · subst hq
      by_cases hp : p q = true
      · simp [hp, look]
      · simp only [List.filter_cons, hp, Bool.false_eq_true, if_false]
        simpa [hp] using ih
    · by_cases hp : p q = true <;> simp [hp, look, hq, ih]

/-- Every slot loses its key, its shadows and its attributes but the generation, and the DKEK is erased. -/
def Hw.ksWiped (h : Hw) : Hw :=
  { h with
    regs := h.regs.filter (fun e => decide (¬(e.1.reg = RegName.CX_SLOT_ATTR ∧ e.1.lsb ≠ 48)))
    ks := { h.ks with works := [], keys := [], shadows := [], held := [], erasing := [], dkek := 0 } }

theorem Hw.ksWiped_rd (h : Hw) (f : Fld) (i j : Nat) :
    h.ksWiped.rd f i j = if f.reg = .CX_SLOT_ATTR ∧ f.lsb ≠ 48 then f.reset else h.rd f i j := by
  refine (look_filter_key (fun k : FKey => decide (¬(k.reg = RegName.CX_SLOT_ATTR ∧ k.lsb ≠ 48))) h.regs (f.key i j) f.reset).trans ?_
  by_cases hattr : f.reg = .CX_SLOT_ATTR ∧ f.lsb ≠ 48
  · rw [if_pos hattr, if_neg (by simpa [Fld.key] using hattr)]
  · rw [if_neg hattr]
    exact if_pos (decide_eq_true hattr)

/-- The block in which work was abandoned and counted, before the keys are wiped. -/
def Hw.worksAbandoned (h : Hw) : Hw := (h.each h.ks.works Hw.workDrop).inc CX_LANE_CNT_KEY_ABSENT 0 0 h.ks.works.length

theorem Hw.zeroise_eq (h : Hw) (c : Nat) : h.zeroise c =
    (((((h.worksAbandoned.ksWiped.wr CX_KS_STATUS_DKEK_VALID 0).wr CX_KS_STATUS_SLOTS_USED 0).finishErases.wr CX_KS_STATUS_ALARM 1).wr
      CX_KS_STATUS_CAUSE c).recordOther sevCritical 0x5040 2 (leBytes 1 c)) := rfl

/-- The end of KEY_ERASE commands takes them off the list of open erases and completes them. -/
structure Hw.ErasesEnded (h h' : Hw) : Prop where
  ks : h'.ks = { h.ks with erases := h'.ks.erases }
  rd : ∀ (f : Fld) (i j : Nat), f.reg ≠ .EV_STATUS → f.reg ≠ .HI_EVT_DROP → h'.rd f i j = h.rd f i j

theorem Hw.finishErases_ended (h : Hw) : h.ErasesEnded h.finishErases := by
  refine List.foldlRecOn (motive := h.ErasesEnded) _ _ ⟨rfl, fun _ _ _ _ _ => rfl⟩ (fun g hg e he => ?_)
  obtain ⟨r, c, first, n⟩ := e
  dsimp only
  split
  · exact hg
  · have hnotes := notes_completeOpen { g with ks := { g.ks with erases := g.ks.erases.erase (r, c, first, n) } }
      (fun o => o.ring == r && o.cmdId == c) stOk 0 (g.genResult first)
    refine ⟨?_, fun f i j hev hdrop => (hnotes.rd f i j hev hdrop).trans (hg.rd f i j hev hdrop)⟩
    rw [hnotes.ks, hg.ks]

theorem Hw.zeroise_rd_status {f : Fld} {i j : Nat} (hreg : f.reg = .CX_KS_STATUS) (h : Hw) (c : Nat) :
    (h.zeroise c).rd f i j = ((((h.worksAbandoned.ksWiped.wr CX_KS_STATUS_DKEK_VALID 0).wr CX_KS_STATUS_SLOTS_USED 0).finishErases.wr
      CX_KS_STATUS_ALARM 1).wr CX_KS_STATUS_CAUSE c).rd f i j :=
  (notes_recordOther ..).rd f i j (by rw [hreg]; decide) (by rw [hreg]; decide)

theorem Hw.zeroise_dkekValid (h : Hw) (c : Nat) : (h.zeroise c).rd CX_KS_STATUS_DKEK_VALID = 0 := by
  rw [Hw.zeroise_rd_status rfl, Hw.rd_wr_ne _ _ _ _ _ _ _ _ (by simp [Fld.key]), Hw.rd_wr_ne _ _ _ _ _ _ _ _ (by simp [Fld.key]),
    (Hw.finishErases_ended _).rd _ _ _ (by decide) (by decide), Hw.rd_wr_ne _ _ _ _ _ _ _ _ (by simp [Fld.key])]
  exact Hw.rd_wr_same ..

theorem Hw.zeroise_alarm (h : Hw) (c : Nat) : (h.zeroise c).rd CX_KS_STATUS_ALARM = 1 := by
  rw [Hw.zeroise_rd_status rfl, Hw.rd_wr_ne _ _ _ _ _ _ _ _ (by simp [Fld.key])]
  exact Hw.rd_wr_same ..

theorem Hw.zeroise_cause (h : Hw) (c : Nat) : (h.zeroise c).rd CX_KS_STATUS_CAUSE = c % 2 ^ CX_KS_STATUS_CAUSE.width := by
  rw [Hw.zeroise_rd_status rfl]
  exact Hw.rd_wr_same ..

theorem Hw.zeroise_rd_slot {f : Fld} (hreg : f.reg = .CX_SLOT_ATTR) (h : Hw) (c i j : Nat) :
    (h.zeroise c).rd f i j = if f.lsb ≠ 48 then f.reset else h.rd f i j := by
  have hstatus : ∀ {g : Fld}, g.reg = .CX_KS_STATUS → ∀ (h : Hw) (v : Nat), (h.wr g v).rd f i j = h.rd f i j :=
    fun hg h v => Hw.rd_wr_of_reg_ne (by rw [hg, hreg]; decide) h ..
  have hworks : h.worksAbandoned.rd f i j = h.rd f i j := by
    rw [Hw.worksAbandoned, Hw.rd_inc, if_neg (fun hkey => absurd ((congrArg FKey.reg hkey).trans hreg) (by decide))]
    exact (workDrops_keep _ h).2 f i j (by simp [Fld.calm, hreg])
  rw [Hw.zeroise_eq, (notes_recordOther ..).rd f i j (by rw [hreg]; decide) (by rw [hreg]; decide), hstatus (g := CX_KS_STATUS_CAUSE) rfl,
    hstatus (g := CX_KS_STATUS_ALARM) rfl, (Hw.finishErases_ended _).rd f i j (by rw [hreg]; decide) (by rw [hreg]; decide),
    hstatus (g := CX_KS_STATUS_SLOTS_USED) rfl, hstatus (g := CX_KS_STATUS_DKEK_VALID) rfl, Hw.ksWiped_rd, hworks]
  simp only [hreg, true_and]

theorem Hw.zeroise_ks (h : Hw) (c : Nat) : (h.zeroise c).ks.keys = [] ∧ (h.zeroise c).ks.shadows = [] ∧ (h.zeroise c).ks.works = [] ∧
    (h.zeroise c).ks.dkek = 0 := by
  have hended := (Hw.finishErases_ended ((h.worksAbandoned.ksWiped.wr CX_KS_STATUS_DKEK_VALID 0).wr CX_KS_STATUS_SLOTS_USED 0)).ks
  have hks : (h.zeroise c).ks =
      ((h.worksAbandoned.ksWiped.wr CX_KS_STATUS_DKEK_VALID 0).wr CX_KS_STATUS_SLOTS_USED 0).finishErases.ks :=
    (notes_recordOther ..).ks
  rw [hks, hended]
  exact ⟨rfl, rfl, rfl, rfl⟩

theorem zeroised : Spec.zeroised := fun h c hc =>
  have ⟨hkeys, hshadows, hworks, hdkek⟩ := h.zeroise_ks c
  ⟨hkeys, hshadows, hworks, hdkek, h.zeroise_alarm c, (h.zeroise_cause c).trans (Nat.mod_eq_of_lt hc), h.zeroise_dkekValid c, fun x =>
    ⟨(Hw.zeroise_rd_slot rfl h c x 0).trans (if_pos (by decide)), (Hw.zeroise_rd_slot rfl h c x 0).trans (if_pos (by decide)),
     (Hw.zeroise_rd_slot rfl h c x 0).trans (if_neg (by decide))⟩⟩

/-! ### What zeroises -/

theorem keyZeroise : Spec.keyZeroise := fun _ _ hready halarm =>
  next_of_done hready (if_neg (by simp [Hw.ksLocked, halarm]))

theorem ksZeroise : Spec.ksZeroise := fun _ _ hopen => next_of_open hopen rfl

theorem zeroiseSensor : Spec.zeroiseSensor := fun _ _ hlive hlow hhigh => next_of_live hlive (if_pos ⟨hlow, hhigh⟩)

theorem scanAccess : Spec.scanAccess := fun _ hlive => ⟨_, next_of_live hlive rfl, rfl, rfl⟩

theorem trngHealth : Spec.trngHealth := fun _ hlive => ⟨next_of_live hlive rfl, next_of_live hlive rfl⟩

/-! ### The end of the alarm -/

theorem Hw.alarmClr_lasts {h : Hw} (hlow : 2 ≤ h.rd CX_KS_STATUS_CAUSE) (hhigh : h.rd CX_KS_STATUS_CAUSE ≤ 4) (v : Nat) :
    h.alarmClr v false = h := by
  simp [Hw.alarmClr, hlow, hhigh]

theorem Hw.alarmClr_ended {h : Hw} {v : Nat} (hclr : bitOf v 0 = true) (halarm : h.rd CX_KS_STATUS_ALARM ≠ 0)
    (hcause : h.rd CX_KS_STATUS_CAUSE ≠ 6) : h.alarmClr v true =
      match h.ks.imageDkek with
      | some k => ({ (h.wr CX_KS_STATUS_ALARM 0).wr CX_KS_STATUS_CAUSE 0 with ks := { h.ks with dkek := k } } : Hw).wr CX_KS_STATUS_DKEK_VALID 1
      | none => (h.wr CX_KS_STATUS_ALARM 0).wr CX_KS_STATUS_CAUSE 0 :=
  if_pos (by simp [hclr, Hw.ksLocked, halarm, hcause])

theorem alarmClr : Spec.alarmClr := by
  intro s v hopen hclr halarm
  refine ⟨fun hlow hhigh => next_of_open hopen (Hw.alarmClr_lasts hlow hhigh v), fun hcause hnone => ?_, fun k hcause hsome => ?_⟩
  · exact next_of_open hopen ((Hw.alarmClr_ended hclr halarm hcause).trans (by rw [hnone]))
  · refine ⟨_, next_of_open hopen ((Hw.alarmClr_ended hclr halarm hcause).trans (by rw [hsome])), rfl, Hw.rd_wr_same .., ?_⟩
    rw [Hw.rd_wr_ne _ _ _ _ _ _ _ _ (by simp [Fld.key])]
    exact (Hw.rd_wr_ne _ _ _ _ _ _ _ _ (by simp [Fld.key])).trans (Hw.rd_wr_same ..)

/-- Settles O38: what a zeroisation leaves of the key store, what zeroises, and what ends the alarm. -/
theorem zeroisation : Obligations.Zeroisation :=
  ⟨zeroised, keyZeroise, ksZeroise, zeroiseSensor, alarmClr, trngHealth, scanAccess⟩

end Sys2Proof.Machine
end

section
/-! Cipher work (R302, R303, R307 to R309, R317 to R320, R324): its issue for the streams, the home cluster of a path, the packet
number of a transmit frame, the end of work, and work on an old key. -/

namespace Sys2Proof.Machine

/-! ### Issue of the oldest waiting frame -/

theorem CipherWait.stream_of_find {l : List CipherWait} {st : Nat} {x : CipherWait} (hfirst : l.find? (fun y => y.stream == st) = some x) :
    x.stream = st := by simpa using List.find?_some hfirst

theorem Hw.workIssue_down {h : Hw} {st : Nat} {x : CipherWait} (hruns : h.runs rgPacket = true) (hst : st < 10)
    (hfirst : h.ks.waits.find? (fun y => y.stream == st) = some x) (wid port key fid : Nat) :
    h.workIssue wid st port key fid = h.issueDown wid x :=
  (if_pos hruns).trans ((if_neg (by omega)).trans (by simp only [hfirst, if_pos hst]))

theorem cipherOut_length (fn n : Nat) (args : List Nat) : (cipherOut fn n args).length = n := by simp [cipherOut]

theorem Hw.issueDown_noKey {h : Hw} {x : CipherWait} (hkey : h.rd CX_SLOT_ATTR_STATE x.slot ≠ 1) (wid : Nat) : h.issueDown wid x =
    ((h.unwait x).inc CX_LANE_CNT_KEY_ABSENT).inc CX_PON_CNT_DS_KEY_ABSENT (x.frame.src - 128) := if_pos hkey

theorem Hw.issueDown_noLane {h : Hw} {x : CipherWait} (hkey : h.rd CX_SLOT_ATTR_STATE x.slot = 1) (hlane : h.pickLane (h.streamPath x.stream) = none)
    (wid : Nat) : h.issueDown wid x = h := (if_neg (not_not.mpr hkey)).trans (by simp only [hlane])

/-- The frame of downstream work as it leaves its lane. -/
def Hw.decrypted (h : Hw) (x : CipherWait) : Frame :=
  let args := look h.ks.keys x.slot 0 :: x.stream :: x.frame.id :: x.frame.bytes.map (fun b => b.toNat)
  { x.frame with bytes := cipherOut fnPonCtr x.frame.bytes.length args }

theorem Hw.issueDown_lane {h : Hw} {x : CipherWait} {l : Nat} (hkey : h.rd CX_SLOT_ATTR_STATE x.slot = 1)
    (hlane : h.pickLane (h.streamPath x.stream) = some l) (wid : Nat) :
    h.issueDown wid x = (h.unwait x).addWork { h.newWork wid x.stream x.slot l with frame := some (h.decrypted x) } :=
  (if_neg (not_not.mpr hkey)).trans (by simp only [hlane, Hw.decrypted])

theorem downWork : Spec.downWork := by
  intro s wid st port key fid x hlive hst hfirst
  have hissue := Hw.workIssue_down hlive.2 hst hfirst wid port key fid
  have hstream := CipherWait.stream_of_find hfirst
  subst hstream
  refine ⟨fun hkey => next_of_live hlive (hissue.trans (Hw.issueDown_noKey hkey wid)),
    fun hkey hlane => next_of_live hlive (hissue.trans (Hw.issueDown_noLane hkey hlane wid)), fun l hkey hlane => ?_⟩
  exact ⟨_, s.hw.decrypted x, next_of_live hlive (hissue.trans (Hw.issueDown_lane hkey hlane wid)), fun _ _ _ _ => rfl, rfl,
    cipherOut_length .., rfl⟩

/-! ### Upstream frames, which stay staged -/

theorem Hw.workIssue_up {h : Hw} {u : Nat} (hruns : h.runs rgPacket = true) (hu : u < 4) (wid port key fid : Nat) :
    h.workIssue wid (16 + u) port key fid = h.issueUp wid (16 + u) port key fid :=
  (if_pos hruns).trans (if_pos (by omega))

theorem Hw.issueUp_clear {h : Hw} {u port : Nat} (hclear : h.upEnc (u / 2) port = false) (wid key fid : Nat) :
    h.issueUp wid (16 + u) port key fid = h := by
  simp only [Hw.issueUp, Nat.add_sub_cancel_left, hclear, Bool.false_eq_true, if_false]

section
variable {h : Hw} {u port key fid k : Nat} {x : StageSt} (henc : h.upEnc (u / 2) port = true)
  (hstaged : h.pk.stages.find? (fun y => y.1 / 64 == u / 2 && y.2.frames.any (fun z => z.2.id == fid)) = some (k, x))
include henc hstaged

theorem Hw.issueUp_noKey (wid : Nat) : h.issueUp wid (16 + u) port 0 fid =
    (((h.setStage k (x.without fid)).showStage k).inc CX_PON_CNT_US_KEY_ABSENT (u / 2)).each
      ((x.frames.filter (fun y => y.2.id == fid)).map Prod.snd) Hw.freed := by
  simp only [Hw.issueUp, Nat.add_sub_cancel_left, henc, if_true, hstaged, true_or]
  rfl

theorem Hw.issueUp_lane {l : Nat} (hkey : 0 < key) (hvalid : h.rd CX_SLOT_ATTR_STATE (8 * h.rd LN_ATT_CTRL_KEY_BASE (u / 2) + (key - 1)) = 1)
    (hlane : h.pickLane 2 = some l) (wid : Nat) : h.issueUp wid (16 + u) port key fid =
      h.addWork (h.newWork wid (16 + u) (8 * h.rd LN_ATT_CTRL_KEY_BASE (u / 2) + (key - 1)) l) := by
  have husable : ¬ (key = 0 ∨ h.slotState (h.keyBase (u / 2) + (key - 1)) ≠ slValid) :=
    fun hbad => hbad.elim (Nat.pos_iff_ne_zero.mp hkey) (fun hempty => hempty hvalid)
  simp only [Hw.issueUp, Nat.add_sub_cancel_left, henc, if_true, hstaged, if_neg husable, hlane]
  rfl
end

/-- Frames whose copies are freed leave the staging areas and the registers outside the pools as they are. -/
theorem freedAll_keep (l : List Frame) (h : Hw) : (h.each l Hw.freed).pk.stages = h.pk.stages ∧
    ∀ (f : Fld) (i j : Nat), f.calm → (h.each l Hw.freed).rd f i j = h.rd f i j := by
  refine ⟨Hw.each_keeps (fun g => g.pk.stages) (fun g f => ?_) l h, fun f i j hcalm => ?_⟩
  · exact (congrArg PkSt.stages (freed_keeps g f).2.2 :)
  · exact Hw.each_keeps (fun g => g.rd f i j) (fun g x => (freed_keeps g x).2.1 f i j hcalm) l h

theorem upWork : Spec.upWork := by
  intro s wid u port key fid k x hlive hu
  have hissue := fun key => Hw.workIssue_up hlive.2 hu wid port key fid
  refine ⟨fun hclear => next_of_live hlive ((hissue key).trans (Hw.issueUp_clear hclear ..)), fun henc hstaged => ⟨fun hkey => ?_, fun l hkey hvalid hlane => ?_⟩⟩
  · subst hkey
    obtain ⟨hstages, hregs⟩ := freedAll_keep ((x.frames.filter (fun y => y.2.id == fid)).map Prod.snd)
      (((s.hw.setStage k (x.without fid)).showStage k).inc CX_PON_CNT_US_KEY_ABSENT (u / 2))
    refine ⟨_, next_of_live hlive ((hissue 0).trans (Hw.issueUp_noKey henc hstaged wid)), ?_, ?_⟩
    · rw [Hw.stageAt, hstages]
      exact congrArg StageSt.frames (look_store_same s.hw.pk.stages k (x.without fid) {})
    · rw [hregs _ _ _ (by simp [Fld.calm]), Hw.rd_inc, if_pos rfl, Hw.showStage, Hw.rd_wr_of_reg_ne (by decide)]
      rfl
  · exact ⟨_, _, next_of_live hlive ((hissue key).trans (Hw.issueUp_lane henc hstaged hkey hvalid hlane wid)), fun _ _ _ _ => rfl, rfl,
      rfl, rfl, rfl⟩

/-! ### The home cluster (Table 12-2) -/

theorem homeFirst : Spec.homeFirst := by
  intro h path l n hpick hn hfree
  have hhome : homeCluster path ≤ 7 := Nat.min_le_right ..
  rw [Hw.pickLane, List.find?_map, Option.map_eq_some_iff] at hpick
  obtain ⟨m, hm, rfl⟩ := hpick
  obtain ⟨-, -, hbefore⟩ := List.find?_range_eq_some.mp hm
  have hfirst : m ≤ n := by
    by_contra hlater
    have hbusy := hbefore n (by omega)
    rw [Function.comp_apply, Nat.mod_eq_of_lt (by omega), hfree] at hbusy
    cases hbusy
  omega

/-! ### Packet numbers (R324) -/

theorem beBytes_length (n v : Nat) : (beBytes n v).length = n := by rw [beBytes, List.length_reverse, leBytes_length]

/-- The octets of SecTAG of channel k for `n` octets of user data. -/
def Hw.secTagBytes (h : Hw) (k an : Nat) (s : SaSt) (n : Nat) : List Byte :=
  beBytes 2 0x88E5 ++ beBytes 1 ((if h.scFlag k 3 then 0x20 else 0) + (if h.scFlag k 2 then 0x0C else 0) + an) ++
    beBytes 1 (if n < 48 then n else 0) ++ beBytes 4 (s.pn % 2 ^ 32) ++ (if h.scFlag k 3 then beBytes 8 (h.scSci k) else [])

theorem Hw.secTagBytes_length (h : Hw) (k an : Nat) (s : SaSt) (n : Nat) : (h.secTagBytes k an s n).length = if h.scFlag k 3 then 16 else 8 := by
  unfold Hw.secTagBytes
  split <;> simp [beBytes_length]

/-- A sealed frame is its addresses, its SecTAG, its user data and its ICV. -/
theorem Hw.seal_bytes (h : Hw) (k an : Nat) (s : SaSt) (f : Frame) : ∃ data icv : List Byte,
    (h.seal k an s f).bytes = f.edited.take 12 ++ (h.secTagBytes k an s (f.edited.drop 12).length ++ (data ++ icv)) ∧
    data.length = (f.edited.drop 12).length ∧ icv.length = 16 ∧ (h.scFlag k 2 = false → data = f.edited.drop 12) := by
  refine ⟨_, _, by simp only [Hw.seal, List.append_assoc, Hw.secTagBytes]; rfl, ?_, ?_, fun hclear => if_neg (by simp [hclear])⟩
  · split
    · rw [List.length_take, cipherOut_length]
      omega
    · rfl
  · rw [List.length_drop, cipherOut_length]
    omega

theorem slice_append {a b c : List Byte} {o n : Nat} (ho : a.length = o) (hn : b.length = n) : slice (a ++ (b ++ c)) o n = b := by
  subst ho hn
  refine List.ext_getElem (by simp [slice]) (fun i hi hib => ?_)
  simp [slice, List.getD_eq_getElem?_getD, List.getElem?_append_right, List.getElem?_append_left hib, hib]

/-- The length and the user data of a frame that a channel seals. -/
theorem Hw.seal_shape (h : Hw) (k an : Nat) (s : SaSt) {f : Frame} (hlen : 12 ≤ f.edited.length) :
    (h.seal k an s f).bytes.length = f.edited.length + h.secExpand k ∧ (h.seal k an s f).bytes.take 12 = f.edited.take 12 ∧
    (h.scFlag k 2 = false → slice (h.seal k an s f).bytes (h.secExpand k - 4) (f.edited.length - 12) = f.edited.drop 12) := by
  obtain ⟨data, icv, hbytes, hdata, hicv, hclear⟩ := h.seal_bytes k an s f
  have haddr : (f.edited.take 12).length = 12 := by rw [List.length_take]; omega
  have htag := h.secTagBytes_length k an s (f.edited.drop 12).length
  have hexpand : h.secExpand k = (if h.scFlag k 3 then 16 else 8) + 16 := rfl
  rw [List.length_drop] at hdata
  refine ⟨?_, ?_, fun henc => ?_⟩
  · rw [hbytes, List.length_append, List.length_append, List.length_append, haddr, htag, hdata, hicv, hexpand]
    omega
  · rw [hbytes, List.take_append_of_le_length (Nat.le_of_eq haddr.symm), List.take_of_length_le (Nat.le_of_eq haddr)]
  · rw [hbytes, ← List.append_assoc]
    refine (slice_append ?_ hdata).trans (hclear henc)
    rw [List.length_append, haddr, htag, hexpand]
    omega

/-- The block after the work of a transmit frame took its number. -/
def Hw.numbered (h : Hw) (wid k an l : Nat) (a : SaSt) (x : CipherWait) : Hw :=
  ((h.unwait x).addWork { h.newWork wid x.stream a.slot l with sa := some (k, an, a.pn), frame := some (h.seal k an a x.frame) }).setSc k
    (fun c => { c with sas := store c.sas an { a with pn := a.pn + 1 } })

section
variable {h : Hw} {k an l : Nat} {x : CipherWait} {a : SaSt}

/-- A transmit frame takes the number of its channel's association where it is short enough, the association has numbers left
and a key, and a lane is free. -/
theorem Hw.issueTx_numbered (hstream : x.stream = 32 + k)
    (hlen : x.frame.edited.length + 4 + h.secExpand k ≤ min (h.cfg PF_PORT_MAX_FRAME (h.cfg CX_SC_PORT k)) 9728)
    (hcur : (h.scAt k).cur = some an) (hsa : (h.scAt k).sa an = some a) (hpn : a.pn ≤ h.pnLast k) (hkey : h.rd CX_SLOT_ATTR_STATE a.slot = 1)
    (hlane : h.pickLane (h.streamPath (32 + k)) = some l) (hthr : a.pn ≠ h.cfg CX_SC_PN_THR k) (hswitch : h.scFlag k 6 = false) (wid : Nat) :
    h.issueTx wid x = h.numbered wid k an l a x := by
  have hvalid : ¬ h.slotState a.slot ≠ slValid := not_not.mpr hkey
  have hhit : (a.pn == h.cfg CX_SC_PN_THR k) = false := beq_eq_false_iff_ne.mpr hthr
  simp only [Hw.issueTx, hstream, Nat.add_sub_cancel_left, if_neg (Nat.not_lt.mpr hlen), hcur, Option.bind_some, hsa, Option.map_some,
    if_neg (Nat.not_lt.mpr hpn), if_neg hvalid, hlane, hhit, Bool.false_and, Bool.or_false, Hw.when, Bool.false_eq_true, if_false]
  rw [← hstream]
  exact if_neg (fun hauto => absurd (hauto.1.symm.trans hswitch) (by decide))
end

theorem ScSt.sa_store_same (c : ScSt) (an : Nat) (a : SaSt) : ScSt.sa { c with sas := store c.sas an a } an = some a := by
  rw [ScSt.sa, find?_store, if_pos rfl]
  rfl

theorem Hw.numbered_sa (h : Hw) (wid k an l : Nat) (a : SaSt) (x : CipherWait) :
    ((h.numbered wid k an l a x).scAt k).sa an = some { a with pn := a.pn + 1 } := by
  have hsc : (h.numbered wid k an l a x).scAt k = { h.scAt k with sas := store (h.scAt k).sas an { a with pn := a.pn + 1 } } :=
    look_store_same ..
  rw [hsc, ScSt.sa_store_same]

theorem Hw.workIssue_tx {h : Hw} {k : Nat} {x : CipherWait} (hruns : h.runs rgPacket = true)
    (hfirst : h.ks.waits.find? (fun y => y.stream == 32 + k) = some x) (htx : h.scFlag k 1 = false) (wid port key fid : Nat) :
    h.workIssue wid (32 + k) port key fid = h.issueTx wid x := by
  refine (if_pos hruns).trans ((if_neg (by omega)).trans ?_)
  simp only [hfirst, if_neg (show ¬ 32 + k < 10 by omega), Nat.add_sub_cancel_left, htx, Bool.false_eq_true, if_false]

theorem macsecNumber : Spec.macsecNumber := by
  intro s wid port key fid k an l x a hlive hk hfirst htx haddr hlen hcur hsa hpn hkey hlane hthr hswitch
  have hstream := CipherWait.stream_of_find hfirst
  have hissue := (Hw.workIssue_tx hlive.2 hfirst htx wid port key fid).trans
    (Hw.issueTx_numbered hstream hlen hcur hsa hpn hkey hlane hthr hswitch wid)
  refine ⟨_, s.hw.seal k an a x.frame, next_of_live hlive hissue, fun _ _ _ _ => rfl, Hw.numbered_sa .., rfl, ?_,
    s.hw.seal_shape k an a haddr⟩
  rw [← hstream]
  rfl

/-! ### The end of work (R302, R303) -/

theorem Hw.frameDone_unknown {h : Hw} {wid : Nat} (hnone : h.ks.works.find? (fun w => w.wid == wid && !w.done) = none) (ok : Bool) :
    h.frameDone wid ok = h := by
  simp only [Hw.frameDone, hnone]

theorem Hw.frameDone_passed {h : Hw} {wid : Nat} {w : CipherWork} (hwork : h.ks.works.find? (fun w => w.wid == wid && !w.done) = some w) :
    h.frameDone wid true =
      ((({ h with ks := { h.ks with works := h.ks.works.map (fun x => if x = w then { w with done := true } else x) } } : Hw).releaseStream
        w.stream (h.ks.works.map (fun x => if x = w then { w with done := true } else x)).length).ksSettle) := by
  simp only [Hw.frameDone, hwork, if_true]

theorem frameDone : Spec.frameDone := fun _ _ hlive =>
  ⟨fun hnone ok => next_of_live hlive (Hw.frameDone_unknown hnone ok),
   fun _ hwork => ⟨_, rfl, next_of_live hlive (Hw.frameDone_passed hwork)⟩⟩

/-- A word with a bit put into it: the bits above, that bit, and the bits below. -/
theorem putBit_eq (v k : Nat) (b : Bool) : putBit v k b = 2 ^ k * (2 * (v >>> (k + 1)) + b.toNat) + v % 2 ^ k := by
  have hb : b.toNat % 2 ^ 1 = b.toNat := by cases b <;> rfl
  rw [putBit, putBits, hb, Nat.pow_succ]
  ring

theorem bitOf_putBit_same (v k : Nat) (b : Bool) : bitOf (putBit v k b) k = b := by
  rw [bitOf, putBit_eq, Nat.testBit_two_pow_mul_add _ (Nat.mod_lt _ (Nat.two_pow_pos k)), if_neg (Nat.lt_irrefl k), Nat.sub_self,
    Nat.testBit_zero]
  cases b <;> simp

/-- The isolation of a cluster writes other registers than the lanes' status. -/
theorem Hw.clusterCheck_lanes (h : Hw) (k : Nat) : (h.clusterCheck k).rd CX_LANE_STATUS_IN_SERVICE = h.rd CX_LANE_STATUS_IN_SERVICE := by
  unfold Hw.clusterCheck
  dsimp only
  split
  · rw [Hw.isolate, (notes_recordOf ..).rd _ _ _ (by decide) (by decide), Hw.setRegion_rd, Hw.rd_inc_of_reg_ne (by decide),
      Hw.rd_wr_of_reg_ne (by decide)]
  · rfl

theorem laneMismatched : Spec.laneMismatched := by
  intro h l hl
  have hread : (h.laneMismatch l).rd CX_LANE_STATUS_IN_SERVICE =
      putBit ((h.inc CX_LANE_CNT_MISMATCH).rd CX_LANE_STATUS_IN_SERVICE) l false % 2 ^ 128 := by
    refine (Hw.clusterCheck_lanes ..).trans ?_
    rw [(notes_recordOf ..).rd _ _ _ (by decide) (by decide), Hw.setRegion_rd]
    exact Hw.rd_wr_same ..
  rw [hread, bitOf, Nat.testBit_mod_two_pow, ← bitOf, bitOf_putBit_same, Bool.and_false]

/-! ### Work on an old key (R308) -/

/-- The key store has nothing to finish when no shadow has work and no erase, held write or command waits. -/
theorem Hw.ksSettle_idle {h : Hw} (herasing : h.ks.erasing = []) (hheld : h.ks.held = []) (herases : h.ks.erases = []) :
    h.ksSettle = { h with ks := { h.ks with shadows := h.ks.shadows.filter (fun x => h.workOn x.slot x.gen) } } := by
  obtain ⟨⟩ := h
  simp_all [Hw.ksSettle, Hw.retryHeld, Hw.finishErases]

/-- Work that still runs on the key that a shadow keeps. -/
def staleWork (x : Shadow) (w : CipherWork) : Bool := w.slot == x.slot && !w.done && x.gen == w.gen

/-- The block after stale work was abandoned and counted. -/
def Hw.staleDropped (h : Hw) (x : Shadow) : Hw :=
  (({ h with ks := { h.ks with works := h.ks.works.filter (fun w => !staleWork x w) } } : Hw).each (h.ks.works.filter (staleWork x))
    Hw.workDrop).inc CX_LANE_CNT_STALE_GEN 0 0 (h.ks.works.filter (staleWork x)).length

theorem Hw.staleDropped_ks (h : Hw) (x : Shadow) :
    (h.staleDropped x).ks = { h.ks with works := h.ks.works.filter (fun w => !staleWork x w) } := (workDrops_keep _ _).1

/-- After the drop no work runs on the old key. -/
theorem Hw.staleDropped_workOn (h : Hw) (x : Shadow) : (h.staleDropped x).workOn x.slot x.gen = false := by
  rw [Hw.workOn, Hw.staleDropped_ks, List.any_eq_false]
  intro w hw hon
  have hkept := (List.mem_filter.mp hw).2
  simp only [staleWork, Bool.and_eq_true, beq_iff_eq, Bool.not_eq_true', Bool.and_eq_false_iff, Bool.not_eq_false', beq_eq_false_iff_ne] at hkept hon
  grind

theorem Hw.staleGen_due {h : Hw} {x : Shadow} (hshadow : h.ks.shadows = [x]) (hdue : x.since + 80 ≤ h.clk.ut) (herasing : h.ks.erasing = []) :
    h.staleGen x.slot = (h.staleDropped x).ksSettle := by
  have hshadows : h.ks.shadows.filter (fun y => y.slot == x.slot && decide (y.since + 80 ≤ h.clk.ut)) = [x] := by simp [hshadow, hdue]
  have herases : h.ks.erasing.filter (fun e => e.1 == x.slot && decide (e.2 + 80 ≤ h.clk.ut)) = [] := by simp [herasing]
  unfold Hw.staleGen
  dsimp only
  rw [hshadows, herases]
  simp only [List.any_cons, List.any_nil, Bool.or_false, List.isEmpty_nil, Bool.not_true, Bool.false_and]
  rfl

theorem Hw.staleDropped_count (h : Hw) (x : Shadow) : (h.staleDropped x).rd CX_LANE_CNT_STALE_GEN =
    satNat CX_LANE_CNT_STALE_GEN.width (h.rd CX_LANE_CNT_STALE_GEN + (h.ks.works.filter (staleWork x)).length) := by
  rw [Hw.staleDropped, Hw.rd_inc, if_pos rfl, (workDrops_keep _ _).2 _ _ _ (by simp [Fld.calm])]
  rfl

theorem staleGen : Spec.staleGen := by
  intro s x hlive hshadow hdue herasing hheld herases
  have hks := s.hw.staleDropped_ks x
  have hsettle := Hw.ksSettle_idle (h := s.hw.staleDropped x) (by rw [hks]; exact herasing) (by rw [hks]; exact hheld) (by rw [hks]; exact herases)
  have hworks : (s.hw.staleDropped x).ks.works = s.hw.ks.works.filter (fun w => !staleWork x w) := by rw [hks]
  have hshadows : (s.hw.staleDropped x).ks.shadows = [x] := by rw [hks]; exact hshadow
  refine ⟨_, next_of_live hlive ((Hw.staleGen_due hshadow hdue herasing).trans hsettle), ?_, fun w hw hslot hgen => ?_, fun w hw hother => ?_,
    s.hw.staleDropped_count x⟩
  · rw [hshadows, List.filter_cons, Hw.staleDropped_workOn]
    rfl
  · rw [hworks] at hw
    simpa [staleWork, hslot, hgen] using (List.mem_filter.mp hw).2
  · rw [hworks]
    refine List.mem_filter.mpr ⟨hw, ?_⟩
    rcases hother with hslot | hgen
    · simp [staleWork, hslot]
    · simp [staleWork, Ne.symm hgen]

/-- Settles O39: the work of each kind of stream, the lane that takes it, and how work ends. -/
theorem cipherLanes : Obligations.CipherLanes := ⟨downWork, upWork, homeFirst, macsecNumber, frameDone, laneMismatched, staleGen⟩

end Sys2Proof.Machine
end

section
/-! The dispatcher's ready lists (R328, R336), their back-pressure, dispatch (R329) and the order of releases (R332). -/

namespace Sys2Proof.Machine

/-! ### Lists and their status -/

theorem Hw.setStat_statAt (h : Hw) (l : Nat) (f : ListStat → ListStat) : (h.setStat l f).statAt l = f (h.statAt l) := look_store_same ..

theorem Hw.setStat_listAt (h : Hw) (l k : Nat) (f : ListStat → ListStat) : (h.setStat l f).listAt k = h.listAt k := rfl

theorem Hw.setList_listAt (h : Hw) (l : Nat) (x : List Item) : (h.setList l x).listAt l = x := look_store_same ..

theorem Hw.setList_bp (h : Hw) (l : Nat) (x : List Item) : ((h.setList l x).statAt l).bp =
    if h.cfg SV_DISPATCH_BP_ON 0 l < x.length then true
    else if x.length ≤ h.cfg SV_DISPATCH_BP_OFF 0 l then false else (h.statAt l).bp :=
  congrArg ListStat.bp (Hw.setStat_statAt ..)

theorem Hw.enqueue_room {h : Hw} {l : Nat} {it : Item} (hroom : (h.listAt l).length < h.listRoom l it.work) :
    h.enqueue l it = (h.setList l (h.listAt l ++ [it]), true) := if_pos hroom

theorem Hw.enqueue_full {h : Hw} {l : Nat} {it : Item} (hfull : h.listRoom l it.work ≤ (h.listAt l).length) :
    h.enqueue l it = (h.setStat l (fun s => { s with drops := s.drops + 1 }), false) := if_neg (Nat.not_lt.mpr hfull)

theorem listTakesItem : Spec.listTakesItem := by
  intro h l it
  refine ⟨fun hroom => ?_, fun hfull => ?_⟩
  · rw [Hw.enqueue_room hroom]
    exact ⟨rfl, Hw.setList_listAt ..⟩
  · rw [Hw.enqueue_full hfull]
    exact ⟨rfl, Hw.setStat_listAt .., congrArg ListStat.drops (Hw.setStat_statAt ..)⟩

theorem listPressure : Spec.listPressure := by
  intro h l x hlevels
  refine ⟨fun habove => ?_, fun hbelow => ?_, fun hoff hon => ?_, Hw.setList_listAt ..⟩
  · rw [Hw.setList_bp, if_pos habove]
  · rw [Hw.setList_bp, if_neg (by omega), if_pos hbelow]
  · rw [Hw.setList_bp, if_neg (by omega), if_neg (by omega)]

/-! ### Dispatch -/

theorem Hw.dispatchSelect_busy {h : Hw} {u : Nat} (hbusy : h.unitFree u = false) (w : Nat) : h.dispatchSelect u w = h :=
  if_neg (by simp [hbusy])

theorem Hw.dispatchSelect_free {h : Hw} {u : Nat} (hruns : h.runs rgControl = true) (hfree : h.unitFree u = true) (w : Nat) :
    h.dispatchSelect u w =
      if h.releaseRoom (if u < 48 then 0 else 1) then
        match h.takeItem u w with
        | none => h
        | some (i, h) => if u < 48 then h.beginPass u i else h.workMove i.work (tagCore (u - 48))
      else h.inc SV_DISP_CNT_RELEASE_FULL := if_pos (by rw [hruns, hfree]; rfl)

theorem Hw.takeItem_none {h : Hw} {u : Nat} (hnone : h.pickItem (if u < 48 then 0 else 1) u = none) (w : Nat) : h.takeItem u w = none := by
  simp only [Hw.takeItem, hnone]

/-- The item that a unit takes has left its list, is in the unit's service and begins its wait there. -/
theorem Hw.takeItem_some {h g : Hw} {u w : Nat} {i : Item} (htake : h.takeItem u w = some (i, g)) :
    (∀ x ∈ g.listAt i.list, x.id ≠ i.id) ∧ (u, i) ∈ g.pk.svc ∧ i.since = h.clk.ut := by
  unfold Hw.takeItem at htake
  dsimp only at htake
  split at htake
  · cases htake
  · next j a hpick =>
    cases htake
    refine ⟨fun x hx => ?_, List.mem_append_right _ (List.mem_singleton.mpr rfl), rfl⟩
    have hlist : x ∈ (h.listAt j.list).filter (fun x => x.id != j.id) := by
      rw [← Hw.setList_listAt h j.list ((h.listAt j.list).filter (fun x => x.id != j.id))]
      exact hx
    simpa using (List.mem_filter.mp hlist).2

theorem exec_dispatchSelect (u w : Nat) (s : State) : exec (.dispatchSelect u w) s = .next (s.withHw (s.hw.dispatchSelect u w)) := rfl

theorem dispatchNothing : Spec.dispatchNothing := by
  intro s u w hruns
  refine ⟨fun hbusy => ?_, fun hfree hfull => ?_, fun hfree hroom hnone => ?_⟩
  · rw [exec_dispatchSelect, Hw.dispatchSelect_busy hbusy]
    rfl
  · rw [exec_dispatchSelect, Hw.dispatchSelect_free hruns hfree, hfull]
    rfl
  · rw [exec_dispatchSelect, Hw.dispatchSelect_free hruns hfree, if_pos hroom, Hw.takeItem_none hnone]
    rfl

theorem dispatchSelect : Spec.dispatchSelect := by
  intro s u w i h hruns hfree hroom htake
  refine ⟨?_, Hw.takeItem_some htake⟩
  rw [exec_dispatchSelect, Hw.dispatchSelect_free hruns hfree, if_pos hroom, htake]

theorem atomicTag : Spec.atomicTag := by
  intro h u v i j hatomic hserved htag
  have hany : h.pk.svc.any (fun x => x.2.tag == i.tag) = true := List.any_eq_true.mpr ⟨(v, j), hserved, beq_iff_eq.mpr htag⟩
  simp [Hw.itemOk, hatomic, hany]

/-! ### Releases in the order of a tag -/

/-- Releases of a tag stop at an item that has not finished. -/
theorem Hw.runReleases_waits {h : Hw} {t id : Nat} {r : List Nat} (horder : h.orderOf t = id :: r)
    (hwaits : h.pk.waits.find? (fun w => w.1 == id) = none) (n : Nat) : h.runReleases t n = h := by
  cases n with
  | zero => rfl
  | succ n => simp only [Hw.runReleases, horder, hwaits]

theorem releaseOrder : Spec.releaseOrder := by
  intro h g id it v r horder hne hwaits
  refine Hw.runReleases_waits (h := h.setPk (fun p => { p with waits := p.waits ++ [(it.id, g, v)] })) horder (List.find?_eq_none.mpr (fun w hw => ?_)) _
  rcases List.mem_append.mp hw with hold | hnew
  · exact List.any_eq_false.mp hwaits w hold
  · rw [List.mem_singleton.mp hnew]
    simpa using Ne.symm hne

/-- Settles O41: what a list takes, what a unit takes from it, and the order in which items leave. -/
theorem dispatcherLists : Obligations.DispatcherLists :=
  ⟨listTakesItem, listPressure, dispatchNothing, dispatchSelect, atomicTag, releaseOrder⟩

end Sys2Proof.Machine
end

section
/-! Safety detections (chapter 15): errors of cells (R404), the onset of a detection and its reaction (R408, R409), ACK (R410), the
cross-check of the sources (R413), the self-check (R414) and injections (R415). -/

namespace Sys2Proof.Machine

/-! ### Errors of cells -/

section
variable {h : Hw} {cell arg row : Nat}

theorem Hw.cellError_fawn (hruns : h.runs rgFawn = true) (kind : Nat) :
    h.cellError 0x2000 cell kind arg row = if kind = 1 then h.detect 7 scopeGlobal 0 else h := by
  have hrun : h.runs (0x2000 / 0x1000) = true := hruns
  simp [Hw.cellError, hrun]

theorem Hw.cellError_keyStore (hruns : h.runs rgPacket = true) (kind : Nat) :
    h.cellError 0x5040 cell kind arg row = if kind = 1 then h.slotError (cell % 8192) else h := by
  have hrun : h.runs (0x5040 / 0x1000) = true := hruns
  simp [Hw.cellError, hrun]

theorem Hw.cellError_lane (hruns : h.runs rgPacket = true) {k : Nat} (hk : k < 8) :
    h.cellError (0x5030 + k) cell 0 arg row = h.laneError (16 * k + cell % 16) := by
  have hregion : (0x5030 + k) / 0x1000 = rgPacket := by rw [rgPacket]; omega
  simp only [Hw.cellError, hregion, hruns, Bool.not_true, Bool.false_eq_true, if_false]
  rw [if_neg (by omega), if_neg (by omega), if_neg (by omega), if_neg (by omega), if_neg (by omega), if_neg (by omega), if_pos (by omega),
    if_pos trivial, Nat.add_sub_cancel_left]

theorem Hw.cellError_core (hruns : h.runs rgControl = true) {k : Nat} (hk : k < 16) (kind : Nat) :
    h.cellError (0x7010 + k) cell kind arg row =
      if kind = 1 then (if k < 2 then h.detect 11 scopeGlobal 0 else (h.againItem (48 + k)).coreFail k) else h := by
  have hregion : (0x7010 + k) / 0x1000 = rgControl := by rw [rgControl]; omega
  simp only [Hw.cellError, hregion, hruns, Bool.not_true, Bool.false_eq_true, if_false]
  rw [if_neg (by omega), if_neg (by omega), if_neg (by omega), if_neg (by omega), if_neg (by omega), if_neg (by omega), if_neg (by omega),
    if_neg (by omega), if_neg (by omega), if_neg (by omega), if_neg (by omega), if_pos (by omega), Nat.add_sub_cancel_left]
end

theorem exec_cellError (blk cell kind arg row : Nat) (s : State) : exec (.cellError blk cell kind arg row) s =
    s.nextHw (s.hw.inRegion (blk / 0x1000) (fun h => h.cellError blk cell kind arg row)) := rfl

theorem cellError : Spec.cellError := by
  intro s cell arg row
  refine ⟨fun blk kind hstopped => ?_, fun hlive => ⟨?_, ?_⟩, fun hlive => ⟨?_, ?_, fun k hk => ?_⟩, fun hlive k hk => ?_⟩
  · rw [exec_cellError, Hw.inRegion_stopped hstopped]
    rfl
  · exact next_of_live hlive (Hw.cellError_fawn hlive.2 1)
  · exact next_of_live hlive (Hw.cellError_fawn hlive.2 0)
  · exact next_of_live hlive (Hw.cellError_keyStore hlive.2 1)
  · exact next_of_live hlive (Hw.cellError_keyStore hlive.2 0)
  · have hregion : (0x5030 + k) / 0x1000 = rgPacket := by rw [rgPacket]; omega
    rw [exec_cellError, hregion]
    exact next_of_live hlive (Hw.cellError_lane hlive.2 hk)
  · have hregion : (0x7010 + k) / 0x1000 = rgControl := by rw [rgControl]; omega
    rw [exec_cellError, exec_cellError, hregion]
    exact ⟨next_of_live hlive (Hw.cellError_core hlive.2 hk 0),
      fun hsup => next_of_live hlive ((Hw.cellError_core hlive.2 hk 1).trans ((if_pos rfl).trans (if_pos hsup))),
      fun hserv => next_of_live hlive ((Hw.cellError_core hlive.2 hk 1).trans ((if_pos rfl).trans (if_neg (Nat.not_lt.mpr hserv))))⟩

/-! ### Detections and their reaction -/

theorem Hw.detect_again {h : Hw} {c i : Nat} (hnow : (h.detAt c i).now = true) (scope : Nat) : h.detect c scope i = h := if_pos hnow

theorem Hw.detect_goesOn {h : Hw} {c i : Nat} (hnow : (h.detAt c i).now = false) (hlast : (h.detAt c i).last = true) (scope : Nat) :
    h.detect c scope i = h.setDet c i { h.detAt c i with now := true, absent := 0 } :=
  (if_neg (by simp [hnow])).trans (if_pos hlast)

theorem Hw.detect_onset {h : Hw} {c i : Nat} (hnow : (h.detAt c i).now = false) (hlast : (h.detAt c i).last = false) (scope : Nat) :
    h.detect c scope i = (((h.setDet c i { h.detAt c i with now := true, absent := 0 }).inc SF_CNT_CNT c).sfRecord c scope i false).askReaction
      c scope i := (if_neg (by simp [hnow])).trans (if_neg (by simp [hlast]))

theorem Hw.askReaction_rd (h : Hw) (c scope i : Nat) (f : Fld) (x y : Nat) : (h.askReaction c scope i).rd f x y = h.rd f x y := by
  unfold Hw.askReaction
  split
  · rfl
  · split <;> rfl

/-- A detection writes no register but its class's counter and those that note its record. -/
theorem Hw.detect_rd {f : Fld} (hcnt : f.reg ≠ .SF_CNT) (hev : f.reg ≠ .EV_STATUS) (hdrop : f.reg ≠ .HI_EVT_DROP) (h : Hw) (c scope i x y : Nat) :
    (h.detect c scope i).rd f x y = h.rd f x y := by
  unfold Hw.detect
  dsimp only
  split
  · rfl
  · split
    · rfl
    · rw [Hw.askReaction_rd, Hw.sfRecord, (notes_record ..).rd f x y hev hdrop, Hw.rd_inc_of_reg_ne hcnt.symm]
      rfl

theorem detectionOnset : Spec.detectionOnset := by
  intro h c i hc
  refine ⟨fun hnow => Hw.detect_again hnow _, fun hnow hlast => ?_, fun hnow hlast => ?_⟩
  · rw [Hw.detect_goesOn hnow hlast]
    exact ⟨fun _ _ _ _ => rfl, rfl, rfl⟩
  · rw [Hw.detect_onset hnow hlast]
    refine ⟨?_, bitOf_putBit_same _ c true, fun f x y hkey hev hdrop => ?_⟩
    · rw [Hw.askReaction_rd, Hw.sfRecord, (notes_record ..).rd _ _ _ (by decide) (by decide), Hw.rd_inc, if_pos rfl]
      rfl
    · rw [Hw.askReaction_rd, Hw.sfRecord, (notes_record ..).rd f x y hev hdrop, Hw.rd_inc, if_neg (by simpa [eq_comm] using hkey)]
      rfl

theorem Hw.reactions_global {h : Hw} (hask : h.sf.reactReq ≠ 0) (hports : h.sf.reactPorts = []) (hpins : h.sf.reactPins = []) :
    h.reactions = ((h.setSf (fun s => { s with reactReq := 0, reactPorts := [], reactPins := [] })).wr SF_STATUS_GLOBAL 1).wr SF_STATUS_CLASS
      (h.rd SF_STATUS_CLASS ||| (h.sf.reactReq / 2)) := by
  have hne : (h.sf.reactReq != 0) = true := by simpa using hask
  unfold Hw.reactions
  dsimp only
  rw [hports, hpins, hne]
  rfl

theorem reactionLatched : Spec.reactionLatched := by
  intro h hask hports hpins
  rw [Hw.reactions_global hask hports hpins]
  exact ⟨(Hw.rd_wr_ne _ _ _ _ _ _ _ _ (by simp [Fld.key])).trans (Hw.rd_wr_same ..), Hw.rd_wr_same .., rfl⟩

/-! ### ACK -/

theorem Hw.sfAck_rejected {h : Hw} (hpresent : ∃ k ∈ h.latched, h.classAbsent k = false) : h.sfAck = h.wr SF_STATUS_ACK_REJ 1 :=
  if_pos (List.any_eq_true.mpr (hpresent.imp (fun _ ⟨hmem, hhere⟩ => ⟨hmem, by simp [hhere]⟩)))

theorem Hw.sfAck_taken {h : Hw} (habsent : ∀ k ∈ h.latched, h.classAbsent k = true) (hglobal : h.rd SF_STATUS_GLOBAL ≠ 0) :
    h.sfAck = { h with sf := { h.sf with acked := true } } :=
  (if_neg (by simpa using habsent)).trans (if_pos (by simp [hglobal]))

theorem Hw.reactionEnd_acked {h : Hw} (hacked : h.sf.acked = true) : h.reactionEnd =
    (((h.setSf (fun s => { s with acked := false, hostSafe := false })).wr SF_STATUS_CLASS 0).wr SF_STATUS_GLOBAL 0).record sevNotice 0x2003 0x8003
      (leBytes 2 (2 * h.rd SF_STATUS_CLASS)) := if_pos hacked

theorem sfAck : Spec.sfAck := by
  intro s hopen
  refine ⟨fun hpresent => next_of_open hopen (Hw.sfAck_rejected hpresent), fun habsent hglobal => next_of_open hopen (Hw.sfAck_taken habsent hglobal),
    fun hacked => ?_, fun hidle => if_neg (by simp [hidle])⟩
  rw [Hw.reactionEnd_acked hacked]
  have hnotes := notes_record (((s.hw.setSf (fun s => { s with acked := false, hostSafe := false })).wr SF_STATUS_CLASS 0).wr SF_STATUS_GLOBAL 0)
    sevNotice 0x2003 0x8003 (leBytes 2 (2 * s.hw.rd SF_STATUS_CLASS))
  refine ⟨(hnotes.rd _ _ _ (by decide) (by decide)).trans (Hw.rd_wr_same ..),
    (hnotes.rd _ _ _ (by decide) (by decide)).trans ((Hw.rd_wr_ne _ _ _ _ _ _ _ _ (by simp [Fld.key])).trans (Hw.rd_wr_same ..)), ?_, ?_⟩
  · rw [hnotes.sf]
    rfl
  · rw [hnotes.sf]
    rfl

/-! ### The cross-check -/

theorem Hw.markFaulty_srcFaulty (h : Hw) (k : Nat) (b : Bool) : (h.markFaulty k b).srcFaulty k = b := by
  by_cases hdom : k < 2
  · have hread : (h.markFaulty k b).rd SF_STATUS_DOM_FAULTY = putBit (h.rd SF_STATUS_DOM_FAULTY) k b % 2 ^ 2 := by
      simp only [Hw.markFaulty, if_pos hdom, Hw.domCause]
      cases b
      · exact (Hw.rd_wr_of_reg_ne (by decide) _ ..).trans (Hw.rd_wr_same ..)
      · exact (Hw.rd_wr_of_reg_ne (by decide) _ ..).trans ((Hw.rd_wr_of_reg_ne (by decide) _ ..).trans (Hw.rd_wr_same ..))
    rw [Hw.srcFaulty, if_pos hdom, hread, bitOf, Nat.testBit_mod_two_pow, ← bitOf, bitOf_putBit_same, decide_eq_true hdom, Bool.true_and]
  · by_cases hpps : k = 2
    · simp only [Hw.srcFaulty, Hw.markFaulty, if_neg hdom, if_pos hpps, Hw.wrB_eq, Hw.on_eq, Hw.rd_wr_same]
      cases b <;> rfl
    · simp only [Hw.srcFaulty, Hw.markFaulty, if_neg hdom, if_neg hpps, Hw.wrB_eq, Hw.on_eq, Hw.rd_wr_same]
      cases b <;> rfl

section
variable {h : Hw} {all : List (Nat × Int)} {k : Nat} {p : Nat × Int} (hfind : all.find? (fun q => q.1 == k) = some p)
include hfind

/-- A source that is not marked counts its suspect ticks, and is marked after XCHK_N of them. -/
theorem Hw.xchkSource_good {n : Nat} (hgood : h.srcFaulty k = false) (hn : n = if h.suspects all p then look h.sf.suspect k 0 + 1 else 0) :
    h.xchkSource all k = if h.cfg TC_XCHK_N ≤ n then (h.setSf (fun s => { s with suspect := store s.suspect k n })).markFaulty k true
      else h.setSf (fun s => { s with suspect := store s.suspect k n }) := by
  subst hn
  simp only [Hw.xchkSource, hfind]
  exact if_neg (fun hfaulty => absurd (hfaulty.symm.trans hgood) (by decide))

/-- A marked source that disagrees with none for long enough is good again. -/
theorem Hw.xchkSource_agreed (hfaulty : h.srcFaulty k = true) (hnone : all.any (fun q => q.1 != k && h.disagree p q) = false)
    (hlong : 79999 ≤ look h.sf.agree k 0) : ∃ n, h.xchkSource all k = (h.setSf (fun s => { s with suspect := store s.suspect k n })).markFaulty k false := by
  refine ⟨if h.suspects all p then look h.sf.suspect k 0 + 1 else 0, ?_⟩
  simp only [Hw.xchkSource, hfind, hnone, Bool.false_eq_true, if_false]
  exact (if_pos hfaulty).trans (if_pos (Nat.succ_le_succ hlong))
end

theorem crossCheck : Spec.crossCheck := by
  intro h all k p _ hfind
  refine ⟨fun hgood hsus hn => ?_, fun hgood hsus hn => ?_, fun hfaulty hnone hlong => ?_⟩
  · rw [Hw.xchkSource_good hfind hgood (if_pos hsus).symm, if_pos hn, Hw.markFaulty_srcFaulty]
  · rw [Hw.xchkSource_good (n := 0) hfind hgood (by simp [hsus]), if_neg (by omega)]
    exact ⟨hgood, look_store_same ..⟩
  · obtain ⟨n, hagreed⟩ := Hw.xchkSource_agreed hfind hfaulty hnone hlong
    rw [hagreed, Hw.markFaulty_srcFaulty]

/-! ### The self-check -/

/-- The classes whose checkers did not fire. -/
def failedClasses (fails : Nat) : List Nat := ((List.range 13).drop 1).filter (bitOf fails)

theorem failedClasses_zero : failedClasses 0 = [] := List.filter_eq_nil_iff.mpr (fun k _ => by simp [bitOf])

/-- The block after a self-check has shown its result, before what did not fire is detected. -/
def Hw.checkShown (h : Hw) (fails : Nat) : Hw :=
  (h.wr SF_DIAG_SELFCHK_RES ((failedClasses fails).foldl (fun v k => putBit v k true) 0)).when (failedClasses fails).isEmpty
    (fun h => (h.wr SF_DIAG_SELFCHK_AGE 0).setSf (fun s => { s with passTicks := 0 }))

theorem Hw.selfCheck_runs {h : Hw} (hruns : h.runs rgControl = true) (fails : Nat) :
    h.selfCheck fails = (h.checkShown fails).each (failedClasses fails) (fun h k => h.detect k scopeGlobal 0) := if_pos hruns

theorem Hw.selfCheck_sound {h : Hw} (hruns : h.runs rgControl = true) :
    h.selfCheck 0 = ((h.wr SF_DIAG_SELFCHK_RES 0).wr SF_DIAG_SELFCHK_AGE 0).setSf (fun s => { s with passTicks := 0 }) := by
  rw [Hw.selfCheck_runs hruns, Hw.checkShown, failedClasses_zero]
  rfl

theorem Hw.selfCheck_result {h : Hw} (hruns : h.runs rgControl = true) (fails : Nat) : (h.selfCheck fails).rd SF_DIAG_SELFCHK_RES =
    (failedClasses fails).foldl (fun v k => putBit v k true) 0 % 2 ^ SF_DIAG_SELFCHK_RES.width := by
  rw [Hw.selfCheck_runs hruns]
  refine (Hw.each_keeps (fun g => g.rd SF_DIAG_SELFCHK_RES)
    (fun g k => Hw.detect_rd (by decide) (by decide) (by decide) g k scopeGlobal 0 0 0) _ _).trans ?_
  refine (Hw.rd_when (fun g => ?_) _ _).trans (Hw.rd_wr_same ..)
  exact Hw.rd_wr_ne _ _ _ _ _ _ _ _ (by simp [Fld.key])

theorem selfCheck : Spec.selfCheck := by
  intro s hruns
  refine ⟨fun hopen => ⟨next_of_open hopen rfl, ?_⟩, fun x => Hw.selfCheck_result hruns x, fun hlive => ⟨fun hearly x => ?_, fun hdue x => ?_⟩⟩
  · rw [Hw.selfCheck_sound hruns]
    refine ⟨?_, Hw.rd_wr_same .., fun f i j hkeys => ?_⟩
    · exact (Hw.rd_wr_ne _ _ _ _ _ _ _ _ (by simp [Fld.key])).trans (Hw.rd_wr_same ..)
    · simp only [List.mem_cons, List.not_mem_nil, or_false, not_or] at hkeys
      exact (Hw.rd_wr_ne _ _ _ _ _ _ _ _ (Ne.symm hkeys.2)).trans (Hw.rd_wr_ne _ _ _ _ _ _ _ _ (Ne.symm hkeys.1))
  · exact next_of_live hlive (if_neg (by omega))
  · exact next_of_live hlive (if_pos ⟨hdue, hruns⟩)

/-! ### Injections -/

section
variable {h : Hw} {v : Nat} (hkey : bits v 16 16 = 0x5AFE) (hold : (h.sf.inject.getD (0, 0)).1 ≠ 6)
include hkey hold

theorem Hw.inject_cleared (hcode : bits v 4 4 = 0 ∨ 11 < bits v 4 4) : h.inject v =
    ({ h with sf := { h.sf with inject := none } } : Hw).wr SF_STATUS_INJ_ACTIVE 0 := by
  have hprev : ((h.sf.inject.getD (0, 0)).1 == 6) = false := beq_eq_false_iff_ne.mpr hold
  have hnone : ¬ (1 ≤ bits v 4 4 ∧ bits v 4 4 ≤ 11) := by omega
  simp only [Hw.inject, if_pos hkey, hprev, Hw.when, Bool.false_eq_true, if_false, if_neg hnone]
  rfl

/-- The codes of an injection that only sets and records it. -/
theorem Hw.inject_set (hmin : 1 ≤ bits v 4 4) (hmax : bits v 4 4 ≤ 11) (hlock : bits v 4 4 ≠ 1) (hcrc : bits v 4 4 ≠ 6) : h.inject v =
    ((h.setSf (fun s => { s with inject := some (bits v 4 4, bits v 8 8) })).wr SF_STATUS_INJ_ACTIVE 1).record sevNotice 0x2003 0x8004
      (leBytes 1 (bits v 4 4) ++ leBytes 1 (bits v 8 8)) := by
  have hprev : ((h.sf.inject.getD (0, 0)).1 == 6) = false := beq_eq_false_iff_ne.mpr hold
  simp only [Hw.inject, if_pos hkey, hprev, Hw.when, Bool.false_eq_true, if_false, if_pos (And.intro hmin hmax), if_neg hlock, if_neg hcrc]
end

theorem injection : Spec.injection := by
  intro s v hopen
  refine ⟨fun hkey => next_of_open hopen (if_neg hkey), fun hkey hold =>
    ⟨fun hcode => next_of_open hopen (Hw.inject_cleared hkey hold hcode), fun hcode => ?_⟩⟩
  have hrange : 1 ≤ bits v 4 4 ∧ bits v 4 4 ≤ 11 ∧ bits v 4 4 ≠ 1 ∧ bits v 4 4 ≠ 6 := by
    simp only [List.mem_cons, List.not_mem_nil, or_false] at hcode
    omega
  obtain ⟨hmin, hmax, hlock, hcrc⟩ := hrange
  have hnotes := notes_record ((s.hw.setSf (fun x => { x with inject := some (bits v 4 4, bits v 8 8) })).wr SF_STATUS_INJ_ACTIVE 1) sevNotice 0x2003
    0x8004 (leBytes 1 (bits v 4 4) ++ leBytes 1 (bits v 8 8))
  refine ⟨_, next_of_open hopen (Hw.inject_set hkey hold hmin hmax hlock hcrc), ?_,
    (hnotes.rd _ _ _ (by decide) (by decide)).trans (Hw.rd_wr_same ..), fun f i j hfield hev hdrop => ?_⟩
  · rw [hnotes.sf]
    rfl
  · exact (hnotes.rd f i j hev hdrop).trans (Hw.rd_wr_ne _ _ _ _ _ _ _ _ (by simpa [eq_comm] using hfield))

/-- Settles O52: errors of cells, the onset of a detection and the reaction to it, and the checks that find one. -/
theorem safetyDetections : Obligations.SafetyDetections :=
  ⟨cellError, detectionOnset, reactionLatched, sfAck, crossCheck, selfCheck, injection⟩

end Sys2Proof.Machine
end

section
/-! Supplies and power states (R426, R428, R380, R434), resets of the chip domain (R429), the two reset inputs in P3 (R435), and the
start of a region (R448). -/

namespace Sys2Proof.Machine

/-! ### VDD_FAWN (R426) -/

/-- A region of the chip domain without power does not run. -/
theorem Hw.runs_unpowered {h : Hw} {r : Nat} (hr : r ∈ chipRegions) (hoff : (h.regionAt r).powered = false) : h.runs r = false := by
  have hchip : ¬ (r = 0 ∨ r = rgFawn) := by
    clear hoff
    revert r
    decide
  by_cases hrun : h.rd SF_REGION_STATE r = stRun
  · simp [Hw.runs, Hw.regionState, hchip, hrun, hoff, stGated, stRun]
  · simp [Hw.runs, Hw.regionState, hchip, hrun]

/-- The regions of the chip domain, each without power. -/
def regionsUnpowered : List (Nat × RegionSt) := chipRegions.map (fun r => (r, { powered := false : RegionSt }))

theorem regionsUnpowered_powered : ∀ r ∈ chipRegions, (look regionsUnpowered r {}).powered = false := by decide

theorem vddFawnRise : Spec.vddFawnRise := by
  intro s
  have hnotes := notes_record s.hw.fawnReset sevInfo 0x0001 0x8000 (leBytes 1 rstPower)
  refine ⟨s.hw.vddRise, rfl, ?_, fun f i j hev hdrop => hnotes.rd f i j hev hdrop, ?_, ?_, fun r hr => Hw.runs_unpowered hr ?_⟩
  · exact congrArg PowerSt.vddFawn hnotes.pw
  · exact congrArg EpochSt.cur hnotes.ep
  · exact congrArg CipherSt.keys hnotes.ks
  · have hregions : s.hw.vddRise.sf.regions = regionsUnpowered := congrArg SafetySt.regions hnotes.sf
    rw [Hw.regionAt, hregions]
    exact regionsUnpowered_powered r hr

theorem vddFawnLoss : Spec.vddFawnLoss := fun _ =>
  ⟨_, rfl, rfl, rfl, rfl, fun _ hlive => Bool.false_ne_true hlive.1, by simp [Hw.barOn, Hw.vddLoss, Hw.setPw]⟩

theorem Hw.vddLow_rd_low (h : Hw) (mv : Nat) : (h.vddLow mv).rd PW_STATUS_FAWN_LOW = if mv < 1800 then 1 else 0 := by
  have hlow : (h.wrB PW_STATUS_FAWN_LOW (decide (mv < 1800))).rd PW_STATUS_FAWN_LOW = if mv < 1800 then 1 else 0 := by
    rw [Hw.wrB_eq, Hw.rd_wr_same]
    by_cases hlow : mv < 1800 <;> simp [hlow]
  unfold Hw.vddLow
  dsimp only
  split
  · exact (Hw.rd_wr_of_reg_ne (by decide) _ ..).trans hlow
  · exact hlow

theorem vddFawnLow : Spec.vddFawnLow := by
  intro s mv hlive
  refine ⟨_, next_of_live hlive rfl, s.hw.vddLow_rd_low mv, ?_, fun f i j hkeys => ?_⟩
  · unfold Hw.vddLow
    dsimp only
    split
    · exact Hw.rd_wr_same ..
    · exact Hw.rd_wr_of_reg_ne (by decide) s.hw ..
  · simp only [List.mem_cons, List.not_mem_nil, or_false, not_or] at hkeys
    have hlow : (s.hw.wrB PW_STATUS_FAWN_LOW (decide (mv < 1800))).rd f i j = s.hw.rd f i j := Hw.rd_wr_ne _ _ _ _ _ _ _ _ (Ne.symm hkeys.1)
    unfold Hw.vddLow
    dsimp only
    split
    · exact (Hw.rd_wr_ne _ _ _ _ _ _ _ _ (Ne.symm hkeys.2)).trans hlow
    · exact hlow

/-! ### P3 (R428, R434) -/

/-- A region that has power stops and loses it. -/
def Hw.regionGated (h : Hw) (r : Nat) : Hw :=
  if (h.regionAt r).powered then
    let h := h.regionStop r
    (h.setState r stGated).setRegion r (fun s => { s with powered := false, offPend := false, wake := none })
  else h

/-- The clocks, the time and the power state at the entry into P3, after the regions lost their power. -/
def Hw.p3Entered (h : Hw) (err : Int) : Hw :=
  let h := h.signBanks (List.range 14)
  let h := { h with sf := { h.sf with wantReload := [] } }
  let e := max (-(h.rd TC_INCR_INC : Int)) (min (h.rd TC_INCR_INC : Int) err)
  let now := (h.time.now : Int) + e
  let sv := h.rd TC_STATUS_SERVO
  { h with
    clk := { h.clk with jobs := [] }
    time := { h.time with now := now.toNat, step := none }
    pw := { h.pw with
      standby := false, link := false, wakeFrom := none, blks := []
      padOff := chipRegions.foldl (fun v r => putBit v r true) h.pw.padOff
      fellAt := if (sv = svLocking ∨ sv = svLocked) ∧ h.pw.fellAt = none then some h.nowSec else h.pw.fellAt } }

/-- What shows P3: the source of the time, the power state and its count. -/
def Hw.p3Shown (h : Hw) : Hw :=
  ((if h.clk.refosc then h.wr TC_STATUS_CLK_SRC 1 else (h.wr TC_STATUS_CLK_SRC 2).wr TC_STATUS_SET 0).wr PW_STATUS_PSTATE 3).countEntry 11

theorem Hw.enterP3_eq (h : Hw) (err : Int) : h.enterP3 err = ((h.each startOrder.reverse Hw.regionGated).p3Entered err).p3Shown := by
  have hgated : (fun (h : Hw) r =>
      if (h.regionAt r).powered then
        let h := h.regionStop r
        (h.setState r stGated).setRegion r (fun s => { s with powered := false, offPend := false, wake := none })
      else h) = Hw.regionGated := rfl
  unfold Hw.enterP3
  rw [hgated]
  generalize h.each startOrder.reverse Hw.regionGated = g
  rfl

/-- The stop of a region keeps the clocks and the time. -/
theorem Hw.burstEn_clk_time (h : Hw) (k : Nat) (on : Bool) : (h.burstEn k on).clk = h.clk ∧ (h.burstEn k on).time = h.time ∧
    (h.burstEn k on).rd TC_INCR_INC = h.rd TC_INCR_INC := by
  unfold Hw.burstEn
  dsimp only
  split
  · exact ⟨rfl, rfl, rfl⟩
  · exact ⟨rfl, rfl, Hw.rd_wr_of_reg_ne (by decide) _ ..⟩

theorem Hw.padLatch_clk_time (h : Hw) : h.padLatch.clk = h.clk ∧ h.padLatch.time = h.time ∧ h.padLatch.rd TC_INCR_INC = h.rd TC_INCR_INC := by
  unfold Hw.padLatch
  split <;> exact ⟨rfl, rfl, rfl⟩

/-- The clocks, the time and the increment of two blocks agree. -/
def Hw.SameTime (h g : Hw) : Prop :=
  g.clk = h.clk ∧ g.time = h.time ∧ g.rd TC_INCR_INC = h.rd TC_INCR_INC

theorem Hw.SameTime.trans {h g t : Hw} (hg : h.SameTime g) (ht : g.SameTime t) : h.SameTime t :=
  ⟨ht.1.trans hg.1, ht.2.1.trans hg.2.1, ht.2.2.trans hg.2.2⟩

theorem Hw.each_sameTime {α : Type} {g : Hw → α → Hw} (hg : ∀ (h : Hw) (x : α), h.SameTime (g h x)) (l : List α) (h : Hw) : h.SameTime (h.each l g) :=
  ⟨Hw.each_keeps Hw.clk (fun h x => (hg h x).1) l h, Hw.each_keeps Hw.time (fun h x => (hg h x).2.1) l h,
   Hw.each_keeps (fun h => h.rd TC_INCR_INC) (fun h x => (hg h x).2.2) l h⟩

theorem Hw.wr_sameTime {f : Fld} (hreg : f.reg ≠ .TC_INCR) (h : Hw) (v i j : Nat) : h.SameTime (h.wr f v i j) :=
  ⟨rfl, rfl, Hw.rd_wr_of_reg_ne hreg h ..⟩

theorem Hw.regionStop_sameTime (h : Hw) (r : Nat) : h.SameTime (h.regionStop r) := by
  have hlatch : h.SameTime (h.when (r == rgControl) Hw.padLatch) := by
    cases r == rgControl
    · exact ⟨rfl, rfl, rfl⟩
    · exact h.padLatch_clk_time
  have hstop : h.SameTime ((((h.when (r == rgControl) Hw.padLatch).setState r stStopped).setReady r false).wr PW_PAD_CFG_HELD 1 r) :=
    ((hlatch.trans (Hw.wr_sameTime (by decide) ..)).trans (Hw.wr_sameTime (by decide) ..)).trans (Hw.wr_sameTime (by decide) ..)
  unfold Hw.regionStop
  dsimp only
  split
  · exact hstop.trans (Hw.each_sameTime (fun h k => h.burstEn_clk_time k false) _ _)
  · exact hstop

theorem Hw.regionGated_sameTime (h : Hw) (r : Nat) : h.SameTime (h.regionGated r) := by
  unfold Hw.regionGated
  split
  · exact (h.regionStop_sameTime r).trans (Hw.wr_sameTime (f := SF_REGION_STATE) (by decide) (h.regionStop r) stGated r 0 :)
  · exact ⟨rfl, rfl, rfl⟩

theorem bitOf_putBit_ne {k b : Nat} (hne : b ≠ k) (v : Nat) (x : Bool) : bitOf (putBit v k x) b = bitOf v b := by
  rw [bitOf, putBit_eq, Nat.testBit_two_pow_mul_add _ (Nat.mod_lt _ (Nat.two_pow_pos k))]
  split
  · next hlt => rw [Nat.testBit_mod_two_pow, decide_eq_true hlt, Bool.true_and, bitOf]
  · next hge =>
    obtain ⟨m, rfl⟩ : ∃ m, b = k + 1 + m := ⟨b - k - 1, by omega⟩
    have hhigh : (2 * (v >>> (k + 1)) + x.toNat) / 2 = v >>> (k + 1) := by cases x <;> simp; omega
    rw [show k + 1 + m - k = m + 1 by omega, Nat.testBit_succ, hhigh, Nat.testBit_shiftRight, bitOf]

/-- Banks that are signed stay so, and each bank of the list is. -/
theorem bitOf_signed {b : Nat} (l : List Nat) (v : Nat) (hb : b ∈ l ∨ bitOf v b = true) :
    bitOf (l.foldl (fun v b => putBit v b true) v) b = true := by
  induction l generalizing v with
  | nil => simpa using hb
  | cons k ks ih =>
    refine ih _ ?_
    by_cases hk : b = k
    · exact .inr (hk ▸ bitOf_putBit_same v b true)
    · rw [bitOf_putBit_ne hk]
      simpa [hk] using hb

theorem Hw.p3Shown_pstate (h : Hw) : h.p3Shown.rd PW_STATUS_PSTATE = 3 :=
  (Hw.rd_inc_of_reg_ne (by decide) ..).trans (Hw.rd_wr_same ..)

theorem Hw.p3Shown_source (h : Hw) (f : Fld) (hreg : f.reg = .TC_STATUS) : h.p3Shown.rd f =
    (if h.clk.refosc then h.wr TC_STATUS_CLK_SRC 1 else (h.wr TC_STATUS_CLK_SRC 2).wr TC_STATUS_SET 0).rd f := by
  rw [Hw.p3Shown, Hw.countEntry, Hw.rd_inc_of_reg_ne (by rw [hreg]; decide), Hw.rd_wr_of_reg_ne (by rw [hreg]; decide)]

/-- What showing P3 leaves of the block. -/
theorem Hw.p3Shown_parts (h : Hw) : h.p3Shown.clk = h.clk ∧ h.p3Shown.pw = h.pw ∧ h.p3Shown.time = h.time := by
  unfold Hw.p3Shown
  split <;> exact ⟨rfl, rfl, rfl⟩

theorem pwrOkFall : Spec.pwrOkFall := by
  intro s e hlive hstate
  obtain ⟨hclk, -, -⟩ := Hw.each_sameTime (fun h r => h.regionGated_sameTime r) startOrder.reverse s.hw
  generalize hg : (s.hw.each startOrder.reverse Hw.regionGated) = g at hclk
  obtain ⟨hshownClk, hshownPw, -⟩ := (g.p3Entered e).p3Shown_parts
  have hfall : s.hw.pwrOkFall e = ((g.p3Entered e).p3Shown.wr PW_STATUS_PWR_OK 0).setPw (fun p => { p with vreqs := [] }) := by
    rw [Hw.pwrOkFall, if_neg hstate, Hw.enterP3_eq, hg]
  have hrefosc : (g.p3Entered e).clk.refosc = s.hw.clk.refosc :=
    (congrArg ClkSt.refosc hclk : g.clk.refosc = s.hw.clk.refosc)
  have hother : ∀ f : Fld, f.reg = .TC_STATUS →
      ((((g.p3Entered e).p3Shown.wr PW_STATUS_PWR_OK 0).setPw (fun p => { p with vreqs := [] })).rd f) = (g.p3Entered e).p3Shown.rd f :=
    fun f hreg => Hw.rd_wr_of_reg_ne (by rw [hreg]; decide) _ ..
  refine ⟨_, next_of_live hlive hfall, Hw.rd_wr_same .., ?_, ?_, rfl, ?_, fun b hb => ?_, fun hrun => ?_, fun hstopped => ?_⟩
  · exact (Hw.rd_wr_ne _ _ _ _ _ _ _ _ (by simp [Fld.key])).trans (Hw.p3Shown_pstate _)
  · exact congrArg ClkSt.jobs hshownClk
  · exact congrArg PowerSt.link hshownPw
  · have hsigned := congrArg PowerSt.signed hshownPw
    exact (congrArg (bitOf · b) hsigned).trans (bitOf_signed _ _ (.inl (List.mem_range.mpr hb)))
  · rw [hother _ rfl, Hw.p3Shown_source _ _ rfl, hrefosc, if_pos hrun]
    exact Hw.rd_wr_same ..
  · rw [hother _ rfl, Hw.p3Shown_source _ _ rfl, hrefosc, if_neg (by simp [hstopped])]
    exact Hw.rd_wr_same ..

theorem pwrOkFallCounter : Spec.pwrOkFallCounter := by
  intro h e hnow
  obtain ⟨-, htime, hinc⟩ := Hw.each_sameTime (fun h r => h.regionGated_sameTime r) startOrder.reverse h
  generalize hg : (h.each startOrder.reverse Hw.regionGated) = g at htime hinc
  have hcounter : (h.enterP3 e).time.now =
      ((h.time.now : Int) + max (-(h.rd TC_INCR_INC : Int)) (min (h.rd TC_INCR_INC : Int) e)).toNat := by
    rw [Hw.enterP3_eq, hg, (g.p3Entered e).p3Shown_parts.2.2, ← htime, ← hinc]
    rfl
  rw [hcounter]
  omega

end Sys2Proof.Machine
end

section
/-! Resets of the chip domain (R429), the reset inputs (R429, R435), the rise of PWR_OK (R428), boot (R430 to R433), start-up (R380)
and the start of a region (R448). -/

namespace Sys2Proof.Machine

/-! ### A reset of the chip domain -/

/-- The block of a chip reset after the regions and the registers of the chip domain were lost. -/
def Hw.chipLost (h : Hw) (cause : Nat) : Hw :=
  let h := h.when (cause != rstPower) Hw.padLatch
  let h := h.each chipRegions (fun h r => h.regionLose r (r == rgLine && bitOf h.pw.signed 3))
  let h := h.clearRegs (fun k => (k.dom == .chip || k.dom == .region) && !(k.reg == .HD_EST_RES && bitOf h.pw.signed (3 + k.i)))
  h.epochReset false

/-- What of the block's other state a chip reset starts afresh. -/
def Hw.chipIdle (h : Hw) : Hw :=
  { h with
    host := {}, pcnt := [], wraps := []
    clk := { h.clk with src := .free, pendD := none, needD := false, stretch := 0, micro := 0, prefPend := false, prefA := 0
                        prefC := 0, revert := false, usable := [], jobs := [] }
    sf := { h.sf with wantReload := [], ctlFrom := none, toCauses := [], toCause := 0, retReq := false, hostSafe := false
                      hotRun := 0, coolFrom := none, memLost := false, errLog := []
                      regions := (chipRegions.map (fun r => (r, { powered := false : RegionSt }))) }
    rcd := { h.rcd with stopped := false, tries := 0, job := none, erasing := none, readWait := false }
    pw := { h.pw with blks := [], flashOp := none, product := false, recovery := false, link := false, overRun := 0, underRun := 0 } }

/-- The registers that show a chip reset. -/
def Hw.chipShown (h : Hw) (cause : Nat) : Hw :=
  let h := h.each (List.range 50) (fun h k => (h.wr PW_BLK_STATE_STATE 0 k).wr PW_BLK_STATE_TARGET 0 k)
  let h := (h.wr PW_STATUS_READY 0).when (cause != rstPower) (fun h => h.each chipRegions (fun h r => h.wr PW_PAD_CFG_HELD 1 r))
  h.wr GL_RST_STATUS_CAUSE cause

theorem Hw.chipReset_eq (h : Hw) (cause : Nat) : h.chipReset cause =
    ((h.chipLost cause).chipIdle.chipShown cause).record sevInfo 0x0001 0x8000 (leBytes 1 cause) := by
  unfold Hw.chipReset Hw.chipShown
  dsimp only
  rfl

theorem Hw.when_keeps {β : Type} (p : Hw → β) {f : Hw → Hw} (hf : ∀ h, p (f h) = p h) (h : Hw) (b : Bool) : p (h.when b f) = p h := by
  cases b
  · rfl
  · exact hf h

theorem Hw.chipShown_keeps {β : Type} (p : Hw → β) (hwr : ∀ h f v i j, p (Hw.wr h f v i j) = p h) (h : Hw) (cause : Nat) :
    p (h.chipShown cause) = p h := by
  unfold Hw.chipShown
  refine (hwr _ _ _ _ _).trans ((Hw.when_keeps p (fun g => Hw.each_keeps p (fun g r => hwr g _ _ _ _) _ g) _ _).trans ((hwr _ _ _ _ _).trans ?_))
  exact Hw.each_keeps p (fun g k => (hwr _ _ _ _ _).trans (hwr g _ _ _ _)) _ h

theorem Hw.chipShown_ready (h : Hw) (cause : Nat) : (h.chipShown cause).rd PW_STATUS_READY = 0 := by
  unfold Hw.chipShown
  refine (Hw.rd_wr_of_reg_ne (by decide) ..).trans ((Hw.rd_when (fun g => ?_) _ _).trans (Hw.rd_wr_same ..))
  exact Hw.each_keeps (fun g => g.rd PW_STATUS_READY) (fun g r => Hw.rd_wr_of_reg_ne (by decide) g ..) _ g

theorem chipReset : Spec.chipReset := by
  intro h c hc
  have hnotes := notes_record ((h.chipLost c).chipIdle.chipShown c) sevInfo 0x0001 0x8000 (leBytes 1 c)
  rw [← Hw.chipReset_eq] at hnotes
  have hpw : (h.chipReset c).pw = (h.chipLost c).chipIdle.pw := hnotes.pw.trans (Hw.chipShown_keeps Hw.pw (fun h f v i j => h.wr_pw f v i j) _ c)
  have hsf : (h.chipReset c).sf = (h.chipLost c).chipIdle.sf := hnotes.sf.trans (Hw.chipShown_keeps Hw.sf (fun h f v i j => h.wr_sf f v i j) _ c)
  refine ⟨?_, (hnotes.rd _ _ _ (by decide) (by decide)).trans (Hw.chipShown_ready ..), congrArg PowerSt.product hpw, congrArg PowerSt.link hpw,
    fun r hr => ?_⟩
  · refine (hnotes.rd _ _ _ (by decide) (by decide)).trans ((Hw.rd_wr_same ..).trans (Nat.mod_eq_of_lt (Nat.lt_of_lt_of_le hc (by decide))))
  · have hregions : (h.chipReset c).sf.regions = regionsUnpowered := congrArg SafetySt.regions hsf
    rw [Hw.regionAt, hregions]
    exact regionsUnpowered_powered r hr

/-! ### The reset inputs -/

theorem Hw.sysRst_awake {h : Hw} (hawake : h.rd PW_STATUS_PSTATE ≠ 3) : h.sysRst = h.chipReset 3 := if_neg hawake

theorem Hw.sysRst_asleep {h : Hw} (hasleep : h.rd PW_STATUS_PSTATE = 3) : h.sysRst = h.standbyWake := if_pos hasleep

theorem Hw.perst_awake {h : Hw} (hawake : h.rd PW_STATUS_PSTATE ≠ 3) : h.perst =
    if h.rd PW_CTRL_PERST_SCOPE ≠ 0 then h.chipReset 2 else (h.ringStopAll).setPw (fun p => { p with link := false }) := by
  simp only [Hw.perst, if_neg hawake, Hw.on_eq, bne_iff_ne]
  rfl

theorem Hw.perst_asleep {h : Hw} (hasleep : h.rd PW_STATUS_PSTATE = 3) : h.perst = h.standbyWake := if_pos hasleep

theorem Hw.standbyWake_none {h : Hw} (hnone : h.pw.inStandby = false) : h.standbyWake = h := if_pos (by simp [hnone])

theorem sysRstN : Spec.sysRstN := fun _ hlive hawake => next_of_live hlive (Hw.sysRst_awake hawake)

theorem perstN : Spec.perstN := fun s hlive hawake =>
  ⟨fun hscope => next_of_live hlive ((Hw.perst_awake hawake).trans (if_pos hscope)),
   fun hscope => ⟨_, next_of_live hlive ((Hw.perst_awake hawake).trans (if_neg (not_not.mpr hscope))), rfl,
    fun _ hr => s.hw.ringStopAll_off hr, fun _ i j hreg => s.hw.ringStopAll_rd hreg i j⟩⟩

theorem wakeInputs : Spec.wakeInputs := by
  intro s hlive hasleep
  have hinputs : ∀ i ∈ [Instr.sysRstN, .perstN], exec i s = .next (s.withHw s.hw.standbyWake) := by
    simp only [List.mem_cons, List.not_mem_nil, or_false, forall_eq_or_imp, forall_eq]
    exact ⟨next_of_live hlive (Hw.sysRst_asleep hasleep), next_of_live hlive (Hw.perst_asleep hasleep)⟩
  refine ⟨hinputs, fun hnone i hi => (hinputs i hi).trans ?_⟩
  rw [Hw.standbyWake_none hnone]
  rfl

/-! ### The rise of PWR_OK (R428) -/

/-- The time that the block carried through P3. -/
def Hw.timeCarried (h : Hw) (err : Int) : Hw :=
  let e := max (-(h.rd TC_INCR_INC : Int)) (min (h.rd TC_INCR_INC : Int) err)
  let e := if h.rd TC_STATUS_CLK_SRC = 0 then 0 else e
  { h with time := { h.time with now := ((h.time.now : Int) + e).toNat, half := 0 } }

/-- The power cycle is counted, or held until the flash has restored the count. -/
def Hw.cycleCounted (h : Hw) : Hw :=
  if h.rcd.restored then h.wr EV_HOURS_PWR_CYCLES (h.rd EV_HOURS_PWR_CYCLES + 1)
  else h.setRcd (fun r => { r with heldRise := r.heldRise + 1 })

/-- The block after PWR_OK rose, before the chip domain is reset. -/
def Hw.powerBack (h : Hw) (err : Int) : Hw :=
  ((((h.timeCarried err).wr PW_STATUS_PWR_OK 1).wr TC_STATUS_CLK_SRC 0).cycleCounted.wr PW_STATUS_PSTATE 0).setPw
    (fun p => { p with wakeFrom := none, inStandby := false })

theorem Hw.pwrOkRise_off {h : Hw} (hoff : h.rd PW_STATUS_PWR_OK = 0) (e : Int) : h.pwrOkRise e = (h.powerBack e).chipReset 1 :=
  if_neg (by simp [hoff])

theorem Hw.cycleCounted_rd {f : Fld} (hreg : f.reg ≠ .EV_HOURS) (h : Hw) (i j : Nat) : h.cycleCounted.rd f i j = h.rd f i j := by
  unfold Hw.cycleCounted
  split
  · exact Hw.rd_wr_of_reg_ne hreg.symm ..
  · rfl

theorem Hw.powerBack_ok (h : Hw) (e : Int) : (h.powerBack e).rd PW_STATUS_PWR_OK = 1 := by
  rw [Hw.powerBack, Hw.setPw_rd, Hw.rd_wr_ne _ _ _ _ _ _ _ _ (by simp [Fld.key]), Hw.cycleCounted_rd (by decide), Hw.rd_wr_of_reg_ne (by decide)]
  exact Hw.rd_wr_same ..

theorem Hw.powerBack_source (h : Hw) (e : Int) : (h.powerBack e).rd TC_STATUS_CLK_SRC = 0 := by
  rw [Hw.powerBack, Hw.setPw_rd, Hw.rd_wr_of_reg_ne (by decide), Hw.cycleCounted_rd (by decide)]
  exact Hw.rd_wr_same ..

theorem Hw.cycleCounted_restored {h : Hw} (hrestored : h.rcd.restored = true) :
    h.cycleCounted.rd EV_HOURS_PWR_CYCLES = (h.rd EV_HOURS_PWR_CYCLES + 1) % 2 ^ EV_HOURS_PWR_CYCLES.width := by
  rw [Hw.cycleCounted, if_pos hrestored, Hw.rd_wr_same]

theorem Hw.cycleCounted_held {h : Hw} (hnew : h.rcd.restored = false) : h.cycleCounted.rcd.heldRise = h.rcd.heldRise + 1 := by
  rw [Hw.cycleCounted, if_neg (ne_true_of_eq_false hnew)]
  rfl

theorem Hw.powerBack_counted {h : Hw} (hrestored : h.rcd.restored = true) (e : Int) : (h.powerBack e).rd EV_HOURS_PWR_CYCLES =
    (h.rd EV_HOURS_PWR_CYCLES + 1) % 2 ^ EV_HOURS_PWR_CYCLES.width := by
  rw [Hw.powerBack, Hw.setPw_rd, Hw.rd_wr_of_reg_ne (by decide),
    Hw.cycleCounted_restored (h := ((h.timeCarried e).wr PW_STATUS_PWR_OK 1).wr TC_STATUS_CLK_SRC 0) hrestored, Hw.rd_wr_of_reg_ne (by decide),
    Hw.rd_wr_of_reg_ne (by decide)]
  rfl

theorem Hw.powerBack_held {h : Hw} (hnew : h.rcd.restored = false) (e : Int) : (h.powerBack e).rcd.heldRise = h.rcd.heldRise + 1 :=
  Hw.cycleCounted_held (h := ((h.timeCarried e).wr PW_STATUS_PWR_OK 1).wr TC_STATUS_CLK_SRC 0) hnew

theorem pwrOkRise : Spec.pwrOkRise := fun s e hlive =>
  ⟨fun hon => next_of_live hlive (if_pos (by simp [hon])),
   fun hoff => ⟨s.hw.powerBack e, next_of_live hlive (Hw.pwrOkRise_off hoff e), s.hw.powerBack_ok e, Hw.rd_wr_same .., s.hw.powerBack_source e,
    fun hrestored => Hw.powerBack_counted hrestored e, fun hnew => Hw.powerBack_held hnew e⟩⟩

/-! ### Start-up and the start of a region (R380, R448) -/

theorem Hw.bankCheck_unsigned {h : Hw} (hsigned : h.pw.signed = 0) (n : NonVol) (l : List Nat) (bad : Nat) : h.bankCheck n l bad = (h, n) := by
  have hnone : l.filter (fun b => bitOf h.pw.signed b) = [] := List.filter_eq_nil_iff.mpr (fun b _ => by simp [hsigned, bitOf])
  simp only [Hw.bankCheck, hnone]
  rfl

theorem Hw.startUp_waits {h : Hw} (hwaits : h.pw.product = false ∨ h.pw.recovery = true ∨ h.rd PW_STATUS_PSTATE = 3) (n : NonVol) (bad banks : Nat) :
    h.startUp n bad banks = (h, n) := if_pos (by rcases hwaits with hw | hw | hw <;> simp [hw])

theorem Hw.startUp_starts {h : Hw} (hproduct : h.pw.product = true) (hrecovery : h.pw.recovery = false) (hawake : h.rd PW_STATUS_PSTATE ≠ 3)
    (hsigned : h.pw.signed = 0) (n : NonVol) (bad banks : Nat) :
    h.startUp n bad banks = (h.showCrc.each startOrder (fun h r => h.startRegion r bad false), n) := by
  have hkeep : ∀ r, (r == rgLine && (bitOf 0 3 && bitOf 0 4)) = false := fun r => by simp [bitOf]
  refine (if_neg (by simp [hproduct, hrecovery, hawake])).trans ?_
  dsimp only
  rw [Hw.bankCheck_unsigned hsigned, hsigned]
  simp only [hkeep]

theorem startUp : Spec.startUp := fun s bad banks hlive =>
  ⟨fun hwaits => next_of_liveNv hlive (Hw.startUp_waits hwaits s.nv bad banks),
   fun hproduct hrecovery hawake hsigned => next_of_liveNv hlive (Hw.startUp_starts hproduct hrecovery hawake hsigned s.nv bad banks)⟩

/-- A region is powered and its start is noted. -/
def Hw.startNoted (h : Hw) (r : Nat) : Hw := h.setRegion r (fun s => { s with began := h.tick, cause := 0, powered := true, wake := none })

theorem Hw.startNoted_powered (h : Hw) (r : Nat) : ((h.startNoted r).regionAt r).powered = true := by
  rw [Hw.startNoted, Hw.setRegion_regionAt]

/-- A region other than MEMORY begins its start, which is no reload. -/
theorem Hw.regionBegin_start {r : Nat} (hmem : r ≠ rgMemory) (h : Hw) (bad : Nat) (k : Bool) :
    h.regionBegin r 0 bad k = ((h.regionLose r k).startNoted r).setState r stReloading := by
  simp only [Hw.regionBegin, if_neg hmem]
  rfl

theorem Hw.startRegion_starts {h : Hw} {r : Nat} (hmem : r ≠ rgMemory) (hen : h.regionEnabled r = true) (hoff : (h.regionAt r).powered = false)
    (hstate : h.rd SF_REGION_STATE r ≠ stFailed) (bad : Nat) (k : Bool) :
    h.startRegion r bad k = ((h.regionLose r k).startNoted r).setState r stReloading :=
  (if_pos (by simp [hen, hoff, hstate])).trans (Hw.regionBegin_start hmem h bad k)

theorem regionStarts : Spec.regionStarts := by
  intro h r bad k
  refine ⟨fun hstays => if_neg (by rcases hstays with hs | hs | hs <;> simp [hs]), fun hr hen hoff hstate => ?_⟩
  have hmem : r ≠ rgMemory := by
    clear hen hoff hstate
    revert r
    decide
  rw [Hw.startRegion_starts hmem hen hoff hstate]
  refine ⟨Hw.rd_wr_same .., ?_, ?_⟩
  · exact (h.regionLose r k).startNoted_powered r
  · exact Hw.rd_wr_ne _ _ _ _ _ _ _ _ (by simp [Fld.key])

end Sys2Proof.Machine
end

section
/-! Boot (R430 to R433): recovery, and a boot whose checks of the header and the identity pass. -/

namespace Sys2Proof.Machine

/-! ### Recovery boot -/

theorem Hw.boot_waits {h : Hw} (hwaits : h.pw.product = true ∨ h.pw.recovery = true ∨ h.rd PW_STATUS_PSTATE = 3) (n : NonVol) (x : BootIn) :
    h.boot n x = (h, n) := if_pos (by rcases hwaits with hw | hw | hw <;> simp [hw])

section
variable {h : Hw} {x : BootIn} (hproduct : h.pw.product = false) (hrecovery : h.pw.recovery = false) (hawake : h.rd PW_STATUS_PSTATE ≠ 3)
  (hvdd : h.pw.vddFawn = true)
include hproduct hrecovery hawake hvdd

theorem Hw.boot_runs : ¬ (h.pw.product || h.pw.recovery || h.rd PW_STATUS_PSTATE == 3 || !h.pw.vddFawn) = true := by
  simp [hproduct, hrecovery, hawake, hvdd]

theorem Hw.boot_small (hsize : x.size < 2 ^ 24) (n : NonVol) : h.boot n x = (h.bootRecovery 1, n) :=
  (if_neg (Hw.boot_runs hproduct hrecovery hawake hvdd)).trans (if_pos hsize)

theorem Hw.boot_badHeader {n : NonVol} (hsize : 2 ^ 24 ≤ x.size) (hheader : bootHeaderOk n x.size = false) :
    h.boot n x = (h.bootRecovery 2, n) :=
  (if_neg (Hw.boot_runs hproduct hrecovery hawake hvdd)).trans ((if_neg (Nat.not_lt.mpr hsize)).trans (if_pos (by simp [hheader])))
end

/-- The first failure is shown. -/
theorem Hw.bootRecovery_first {h : Hw} (hnone : h.rd PW_BOOT_STATUS_FAIL_CODE = 0) (c : Nat) : h.bootRecovery c =
    ((h.wr PW_BOOT_STATUS_FAIL_CODE c).wr PW_BOOT_STATUS_RECOVERY 1).setPw (fun p => { p with recovery := true }) := by
  have hfail : h.bootFail c = h.wr PW_BOOT_STATUS_FAIL_CODE c := if_neg (by simp [hnone])
  rw [Hw.bootRecovery, hfail]

theorem bootRecovery : Spec.bootRecovery := by
  intro s x hlive
  refine ⟨fun hwaits => next_of_liveNv hlive (Hw.boot_waits hwaits s.nv x), fun hproduct hrecovery hawake hfirst c hc => ?_⟩
  have hboot : s.hw.boot s.nv x = (s.hw.bootRecovery c, s.nv) := by
    rcases hc with ⟨hsize, rfl⟩ | ⟨hsize, hheader, rfl⟩
    · exact Hw.boot_small hproduct hrecovery hawake hlive.1 hsize s.nv
    · exact Hw.boot_badHeader hproduct hrecovery hawake hlive.1 hsize hheader
  have hwidth : c < 2 ^ PW_BOOT_STATUS_FAIL_CODE.width := by
    rcases hc with ⟨-, rfl⟩ | ⟨-, -, rfl⟩ <;> decide
  rw [Hw.bootRecovery_first hfirst] at hboot
  refine ⟨_, next_of_liveNv hlive hboot, ?_, Hw.rd_wr_same .., rfl, hproduct, fun f i j hkeys => ?_⟩
  · exact (Hw.rd_wr_ne _ _ _ _ _ _ _ _ (by simp [Fld.key])).trans ((Hw.rd_wr_same ..).trans (Nat.mod_eq_of_lt hwidth))
  · simp only [List.mem_cons, List.not_mem_nil, or_false, not_or] at hkeys
    exact (Hw.rd_wr_ne _ _ _ _ _ _ _ _ (Ne.symm hkeys.2)).trans (Hw.rd_wr_ne _ _ _ _ _ _ _ _ (Ne.symm hkeys.1))

/-! ### The header after the recorder resumed

A rewrite that a loss of power cut erases a sector of the log again. Where the log lies on the header, the header reads as erased
and names no section of presets. -/

theorem flashRead_erase_above {a n l : Nat} (m : List Host.Cell) (hl : l ≤ a) : flashRead (flashErase m a n) 0 l = flashRead m 0 l := by
  refine List.map_congr_left (fun k hk => ?_)
  have hlt := List.mem_range.mp hk
  rw [flashAt_erase, if_neg (by omega)]

theorem flashRead_erased {n l : Nat} (m : List Host.Cell) (hl : l ≤ n) : flashRead (flashErase m 0 n) 0 l = List.replicate l 0xFF := by
  refine List.eq_replicate_iff.mpr ⟨by simp [flashRead], fun b hb => ?_⟩
  obtain ⟨k, hk, rfl⟩ := List.mem_map.mp hb
  have hlt := List.mem_range.mp hk
  rw [flashAt_erase, if_pos (by omega)]

theorem u16_erased {l o : Nat} (ho : o + 2 ≤ l) : u16 (List.replicate l 0xFF) o = 0xFFFF := by
  have hslice : slice (List.replicate l (0xFF : Byte)) o 2 = [0xFF, 0xFF] := by
    refine List.map_congr_left (l := List.range 2) (g := fun _ => (0xFF : Byte)) (fun k hk => ?_)
    have hlt := List.mem_range.mp hk
    rw [List.getD_eq_getElem _ _ (by rw [List.length_replicate]; omega), List.getElem_replicate]
  rw [u16, hslice]
  decide

/-- Flashes with one header name the same sections. -/
theorem sectionOf_congr {n n' : NonVol} (hheader : bootHeader n' = bootHeader n) (typ copy : Nat) : sectionOf n' typ copy = sectionOf n typ copy := by
  rw [sectionOf, sectionOf, bootSections, bootSections, hheader]

theorem sectionOf_erased {n : NonVol} (hheader : bootHeader n = List.replicate 320 0xFF) {typ : Nat} (htyp : typ ≠ 0xFFFF) (copy : Nat) :
    sectionOf n typ copy = none := by
  refine List.find?_eq_none.mpr (fun s hs => ?_)
  obtain ⟨i, hi, rfl⟩ := List.mem_map.mp hs
  have hlt := List.mem_range.mp hi
  have htype : u16 (bootHeader n) (64 + 16 * i) = 0xFFFF := by
    rw [hheader]
    exact u16_erased (by omega)
  simp [htype, Ne.symm htyp]

/-- The erase of a sector leaves a type of section that the header does not name unnamed. -/
theorem sectionOf_eraseSector {n : NonVol} {a typ copy : Nat} (ha : a % 4096 = 0) (hnone : sectionOf n typ copy = none) (htyp : typ ≠ 0xFFFF) :
    sectionOf { n with flash := flashErase n.flash a 4096 } typ copy = none := by
  by_cases h0 : a = 0
  · subst h0
    have hread : bootHeader { n with flash := flashErase n.flash 0 4096 } = List.replicate 320 0xFF :=
      flashRead_erased (n := 4096) (l := 320) n.flash (by decide)
    exact sectionOf_erased hread htyp copy
  · have hread : bootHeader { n with flash := flashErase n.flash a 4096 } = bootHeader n :=
      flashRead_erase_above (a := a) (n := 4096) (l := 320) n.flash (by omega)
    rw [sectionOf_congr hread, hnone]

/-! ### A boot that passes -/

/-- The block and the non-volatile memory after the header has passed: the places of the log and the operating data, the counts, and
the rewrite that a loss of power cut. -/
def Hw.bootLocated (h : Hw) (n : NonVol) : Hw × NonVol :=
  let h := h.setPw (fun p => { p with logOfs := u32 (bootHeader n) 8, opOfs := u32 (bootHeader n) 12 })
  (h.bootCounts n).1.rewriteResume (h.bootCounts n).2

/-- FACTORY's latency of a transmit channel. -/
def Hw.bootTxLat (h : Hw) (y : Nat × Nat) : Hw := h.wr LN_TX_LAT_LAT y.1 (y.2 / 2) (y.2 % 2)

/-- PRODUCT's serial number of an attachment. -/
def Hw.bootSn (h : Hw) (y : Nat × Nat) : Hw := (h.wr LN_ATT_SN_VENDOR (y.1 / 2 ^ 32) y.2).wr LN_ATT_SN_VSSN (y.1 % 2 ^ 32) y.2

/-- The block after FACTORY and PRODUCT have passed. -/
def Hw.bootIdentity (h : Hw) (n : NonVol) (x : BootIn) : Hw :=
  let h := h.wrB PW_BOOT_STATUS_UNOWNED (!n.owned)
  let h := h.setPw (fun p => { p with factory := x.lat })
  let h := h.each x.txLat.zipIdx Hw.bootTxLat
  let h := h.setPw (fun p => { p with product := true, baseMac := x.baseMac, attMac := x.attMac.zipIdx.map (fun y => (y.2, y.1)) })
  h.each x.sn.zipIdx Hw.bootSn

/-- R431's DKEK. -/
def Hw.bootKeys (h : Hw) (n : NonVol) (x : BootIn) : Hw :=
  match sectionOf n 6 0, x.dkek with
  | some _, some k => ({ h with ks := { h.ks with dkek := k, imageDkek := some k } }).wr CX_KS_STATUS_DKEK_VALID 1
  | some _, none => h.bootFail 7
  | none, _ => h

/-- Checks 8 and 9, the images of supervisor and service. -/
def Hw.bootImages (h : Hw) (n : NonVol) (x : BootIn) : Hw :=
  match h.bootImage n 7 x.sup with
  | none => (h.bootFail 8).setState rgControl stFailed
  | some (c, _) =>
    match (h.wr PW_BOOT_STATUS_SUP_COPY c).bootImage n 8 x.svc with
    | none => ((h.wr PW_BOOT_STATUS_SUP_COPY c).bootFail 9).setState rgControl stFailed
    | some (c', b) =>
      ((((h.wr PW_BOOT_STATUS_SUP_COPY c).wr PW_BOOT_STATUS_SVC_COPY c').wr SV_FW_STATUS_FW_VERSION (leNat (slice b 8 4))).wr
        SV_FW_STATUS_MIN_SEC_VER x.minSec).setPk (fun p => { p with fwSec := leNat (slice b 12 4) })

theorem Hw.bootRest_eq (h : Hw) (n : NonVol) (x : BootIn) : h.bootRest n x = ((h.bootPresets n x.presetOk).bootKeys n x).bootImages n x := rfl

theorem Hw.boot_passed {h : Hw} {n : NonVol} {x : BootIn} (hproduct : h.pw.product = false) (hrecovery : h.pw.recovery = false)
    (hawake : h.rd PW_STATUS_PSTATE ≠ 3) (hvdd : h.pw.vddFawn = true) (hsize : 2 ^ 24 ≤ x.size) (hheader : bootHeaderOk n x.size = true)
    (hkeys : x.keysOk = true) (hfactory : x.factoryOk = true) (hidentity : x.productOk = true) : h.boot n x =
      (((h.bootLocated n).1.bootIdentity (h.bootLocated n).2 x).bootRest (h.bootLocated n).2 x, (h.bootLocated n).2) := by
  refine (if_neg (Hw.boot_runs hproduct hrecovery hawake hvdd)).trans ((if_neg (Nat.not_lt.mpr hsize)).trans ((if_neg (by simp [hheader])).trans ?_))
  simp only [hkeys, hfactory, hidentity, Bool.not_true, Bool.false_eq_true, if_false]
  rfl

theorem Hw.bootCounts_pw (h : Hw) (n : NonVol) : (h.bootCounts n).1.pw = h.pw := by
  unfold Hw.bootCounts
  dsimp only
  split
  · rfl
  · exact Hw.each_keeps Hw.pw (g := fun (h : Hw) a => (h.setAct a (fun s => { s with estop := bitOf n.estop a })).wrB LN_ATT_STATUS_ESTOP
      (bitOf n.estop a) a) (fun _ _ => rfl) [0, 1] _

theorem Hw.rewriteResume_pw (h : Hw) (n : NonVol) : (h.rewriteResume n).1.pw = h.pw := by
  unfold Hw.rewriteResume
  split <;> rfl

theorem Hw.bootLocated_pw (h : Hw) (n : NonVol) : (h.bootLocated n).1.pw =
    { h.pw with logOfs := u32 (bootHeader n) 8, opOfs := u32 (bootHeader n) 12 } := (Hw.rewriteResume_pw ..).trans (Hw.bootCounts_pw ..)

/-- The resumed rewrite erases a sector at a multiple of its size from the log's place. -/
theorem Hw.rewriteResume_nv (h : Hw) (n : NonVol) : (h.rewriteResume n).2 = n ∨
    ∃ k, (h.rewriteResume n).2 = { n with flash := flashErase n.flash (h.pw.logOfs + 4096 * k) 4096 } := by
  unfold Hw.rewriteResume
  split
  · unfold Hw.rewriteErase
    split
    · exact .inr ⟨_, rfl⟩
    · exact .inl rfl
  · exact .inl rfl

theorem Hw.bootLocated_noPresets {h : Hw} {n : NonVol} (halign : u32 (bootHeader n) 8 % 4096 = 0) (hnone : sectionOf n 5 0 = none) :
    sectionOf (h.bootLocated n).2 5 0 = none := by
  have hcounts : sectionOf ((h.setPw (fun p => { p with logOfs := u32 (bootHeader n) 8, opOfs := u32 (bootHeader n) 12 })).bootCounts n).2 5 0 = none :=
    hnone
  rcases Hw.rewriteResume_nv _ _ with hsame | ⟨k, herased⟩
  · exact (congrArg (sectionOf · 5 0) hsame).trans hcounts
  · rw [Hw.bootCounts_pw] at herased
    refine (congrArg (sectionOf · 5 0) herased).trans (sectionOf_eraseSector ?_ hcounts (by decide))
    show (u32 (bootHeader n) 8 + 4096 * k) % 4096 = 0
    rw [Nat.add_mul_mod_self_left, halign]

theorem Hw.bootIdentity_pw (h : Hw) (n : NonVol) (x : BootIn) : (h.bootIdentity n x).pw =
    { h.pw with factory := x.lat, product := true, baseMac := x.baseMac, attMac := x.attMac.zipIdx.map (fun y => (y.2, y.1)) } := by
  have hlat (h' : Hw) : (h'.each x.txLat.zipIdx Hw.bootTxLat).pw = h'.pw :=
    Hw.each_keeps Hw.pw (g := Hw.bootTxLat) (fun _ _ => rfl) _ h'
  refine (Hw.each_keeps Hw.pw (g := Hw.bootSn) (fun _ _ => rfl) _ _).trans ?_
  exact congrArg (fun p : PowerSt =>
    { p with product := true, baseMac := x.baseMac, attMac := x.attMac.zipIdx.map (fun y : Nat × Nat => (y.2, y.1)) }) (hlat _)

theorem Hw.bootFail_pw (h : Hw) (c : Nat) : (h.bootFail c).pw = h.pw := by
  unfold Hw.bootFail
  split <;> rfl

theorem Hw.bootKeys_pw (h : Hw) (n : NonVol) (x : BootIn) : (h.bootKeys n x).pw = h.pw := by
  unfold Hw.bootKeys
  split
  · rfl
  · exact Hw.bootFail_pw h 7
  · rfl

theorem Hw.bootImages_pw (h : Hw) (n : NonVol) (x : BootIn) : (h.bootImages n x).pw = h.pw := by
  unfold Hw.bootImages
  split
  · exact Hw.bootFail_pw h 8
  · split
    · exact Hw.bootFail_pw (h.wr PW_BOOT_STATUS_SUP_COPY _) 9
    · rfl

/-- Without a section of presets the rest of a boot leaves the power state. -/
theorem Hw.bootRest_pw {h : Hw} {n : NonVol} (hnone : sectionOf n 5 0 = none) (x : BootIn) : (h.bootRest n x).pw = h.pw := by
  have hpresets : h.bootPresets n x.presetOk = h := by rw [Hw.bootPresets, hnone]
  rw [Hw.bootRest_eq, Hw.bootImages_pw, Hw.bootKeys_pw, hpresets]

theorem bootHeaderOk_align {n : NonVol} {size : Nat} (hheader : bootHeaderOk n size = true) : u32 (bootHeader n) 8 % 4096 = 0 := by
  simp only [bootHeaderOk, Bool.and_eq_true, beq_iff_eq] at hheader
  obtain ⟨⟨⟨⟨-, halign⟩, -⟩, -⟩, -⟩ := hheader
  exact halign

theorem bootPasses : Spec.bootPasses := by
  intro s x hlive hproduct hrecovery hawake hsize hheader hkeys hfactory hidentity hnone
  have hboot := Hw.boot_passed hproduct hrecovery hawake hlive.1 hsize hheader hkeys hfactory hidentity
  have hpw := (Hw.bootRest_pw (h := (s.hw.bootLocated s.nv).1.bootIdentity (s.hw.bootLocated s.nv).2 x)
    (Hw.bootLocated_noPresets (h := s.hw) (bootHeaderOk_align hheader) hnone) x).trans (Hw.bootIdentity_pw ..)
  rw [Hw.bootLocated_pw] at hpw
  refine ⟨_, _, next_of_liveNv hlive hboot, ?_⟩
  rw [hpw]
  exact ⟨rfl, hrecovery, rfl, rfl, rfl⟩

/-! ### The obligation -/

/-- Settles O57: supplies and resets by the fields that each writes; boot by following what stands in the power state, with a flash
that the recorder may have erased a sector of. -/
theorem powerAndReset : Obligations.PowerAndReset :=
  ⟨vddFawnRise, vddFawnLoss, vddFawnLow, pwrOkFall, pwrOkFallCounter, chipReset, sysRstN, perstN, wakeInputs, pwrOkRise, bootRecovery,
    bootPasses, startUp, regionStarts⟩

end Sys2Proof.Machine
end
